-- ==== Sys2Proof/Word.lean ====
section
/-!
DEFINITION. Words of the BZG-4032: every register is 32 bits wide (01_architecture_tick.md R26), memories are
addressed in bytes, and multi-byte values are little-endian (00_scope.md R13).
-/

namespace Sys2Proof

/-- A register's contents, or a value on a 32-bit access. -/
abbrev Word := BitVec 32

/-- A byte of one of the device's memories, or of a packet. -/
abbrev Byte := BitVec 8

/-- An IEEE 754 binary32 pattern as registers and models hold it (04_cupola_control.md R110). -/
abbrev F32 := BitVec 32

end Sys2Proof
end

