-- ==== Sys2Proof/Machine/Bits.lean ====
section
/-!
DEFINITION. Bit fields, byte order, sign extension and saturation, as the register tables and packet formats use
them (00_scope.md R11, R13, R14).
-/

namespace Sys2Proof.Machine

/-- The mask of bits [hi:lo] of a 32-bit word. -/
def fieldMask (hi lo : Nat) : Word := BitVec.ofNat 32 ((2 ^ (hi + 1 - lo) - 1) * 2 ^ lo)

/-- Field [hi:lo] of a word, as a number. -/
def field (hi lo : Nat) (w : Word) : Nat := w.toNat / 2 ^ lo % 2 ^ (hi + 1 - lo)

/-- A word with field [hi:lo] replaced by `v` (taken modulo the field's width). -/
def setField (hi lo : Nat) (v : Nat) (w : Word) : Word :=
  (w &&& ~~~ fieldMask hi lo) ||| BitVec.ofNat 32 ((v % 2 ^ (hi + 1 - lo)) * 2 ^ lo)

/-- Bit `i` of a word. -/
def bit (i : Nat) (w : Word) : Bool := w.getLsbD i

/-- A word with bit `i` set to `b`. -/
def setBit (i : Nat) (b : Bool) (w : Word) : Word :=
  if b then w ||| BitVec.ofNat 32 (2 ^ i) else w &&& ~~~ BitVec.ofNat 32 (2 ^ i)

/-- Bit `i` of a number (an axis mask, a set of input pairs). -/
def nbit (i : Nat) (n : Nat) : Bool := n.testBit i

/-- A number with bit `i` set. -/
def nset (i : Nat) (n : Nat) : Nat := n ||| 2 ^ i

/-- A number with bit `i` cleared. -/
def nclr (i : Nat) (n : Nat) : Nat := if n.testBit i then n - 2 ^ i else n

/-- The bits of `b` cleared in `a`. -/
def nminus (a b : Nat) : Nat := a ^^^ (a &&& b)

/-- A Bool as a bit. -/
def b2n (b : Bool) : Nat := if b then 1 else 0

/-- `n` as a signed value of `w` bits. -/
def toSigned (w n : Nat) : Int := if n % 2 ^ w < 2 ^ (w - 1) then (n % 2 ^ w : Nat) else ((n % 2 ^ w : Nat) : Int) - 2 ^ w

/-- A signed value as a two's complement number of `w` bits. -/
def ofSigned (w : Nat) (i : Int) : Nat := (i % 2 ^ w).toNat

/-- The smaller of a count and its saturation limit. -/
def sat (limit n : Nat) : Nat := if n ≤ limit then n else limit

/-- A signed value held within two bounds. -/
def clampI (lo hi x : Int) : Int := if x < lo then lo else if hi < x then hi else x

/-- A natural number held within two bounds. -/
def clampN (lo hi x : Nat) : Nat := if x < lo then lo else if hi < x then hi else x

/-- The little-endian bytes of `n`, `k` of them. -/
def leBytes : Nat → Nat → List Byte
  | 0, _ => []
  | k + 1, n => BitVec.ofNat 8 n :: leBytes k (n / 256)

/-- The number whose little-endian bytes these are. -/
def ofLe : List Byte → Nat
  | [] => 0
  | b :: bs => b.toNat + 256 * ofLe bs

/-- The big-endian bytes of `n`, `k` of them (contents of standard frames, R13). -/
def beBytes (k n : Nat) : List Byte := (leBytes k n).reverse

/-- The number whose big-endian bytes these are. -/
def ofBe (bs : List Byte) : Nat := ofLe bs.reverse

/-- Bytes [a:a+n-1] of a packet, 0 where the packet ends before. -/
def bytesAt (bs : List Byte) (a n : Nat) : List Byte := (List.range n).map (fun i => bs.getD (a + i) 0)

/-- The little-endian number at bytes [a:a+n-1] of a packet. -/
def leAt (bs : List Byte) (a n : Nat) : Nat := ofLe (bytesAt bs a n)

/-- The byte at offset `a` of a packet, as a number. -/
def byteAt (bs : List Byte) (a : Nat) : Nat := (bs.getD a 0).toNat

/-- Whether every byte [a:a+n-1] of a packet is 0. -/
def zeroAt (bs : List Byte) (a n : Nat) : Bool := (List.range n).all (fun i => (bs.getD (a + i) 0) == 0)

/-- One byte into a reflected CRC of polynomial `poly`. -/
def crcByte (poly : Nat) (crc : Nat) (b : Byte) : Nat :=
  (List.range 8).foldl (fun c _ => if c % 2 = 1 then (c / 2) ^^^ poly else c / 2) (crc ^^^ b.toNat)

/-- CRC-32C (04 R117). -/
def crc32c (bs : List Byte) : Nat := (bs.foldl (crcByte 0x82F63B78) 0xFFFFFFFF) ^^^ 0xFFFFFFFF

/-- Ceiling division. -/
def ceilDiv (a b : Nat) : Nat := (a + b - 1) / b

/-- The numbers of the bits set in a mask, ascending, below `n`. -/
def maskList (n mask : Nat) : List Nat := (List.range n).filter (fun i => mask.testBit i)

/-- The mask with these bits set. -/
def maskOf (l : List Nat) : Nat := l.foldl (fun m i => m ||| 2 ^ i) 0

/-- How many bits of a mask below `n` are set. -/
def popCount (n mask : Nat) : Nat := (maskList n mask).length

end Sys2Proof.Machine
end

