-- ==== Sys2Proof/Machine/Maps.lean ====
section
/-!
DEFINITION. Sparse data by key, as plain lists.

`SMap` is the canonical form of the register map and of the addressed memories: keys strictly rising, and no entry
equal to what an unlisted key reads as.  `AList` holds the engines that come in numbers (axes, channels, rings): the
entry of a key that is not listed is the one the caller names, the value at reset.
-/

namespace Sys2Proof.Machine

/-- Keys and values in canonical form, `dflt` giving what an unlisted key reads as. -/
abbrev SMap (β : Type) := List (Nat × β)

/-- What key `a` reads as: its first entry, or the default. -/
def SMap.get {β : Type} (dflt : Nat → β) : SMap β → Nat → β
  | [], a => dflt a
  | (k, v) :: m, a => if k = a then v else SMap.get dflt m a

/-- Write `v` at `a` into a map in canonical form: the entry moves to its place, or goes when `v` is the default. -/
def SMap.put {β : Type} [DecidableEq β] (dflt : Nat → β) : SMap β → Nat → β → SMap β
  | [], a, v => if v = dflt a then [] else [(a, v)]
  | (k, w) :: m, a, v =>
    if a < k then (if v = dflt a then (k, w) :: m else (a, v) :: (k, w) :: m)
    else if a = k then (if v = dflt a then m else (a, v) :: m)
    else (k, w) :: SMap.put dflt m a v

/-- The canonical form of any list of entries, the first entry of a key winning; a canonical map is its own. -/
def SMap.canon {β : Type} [DecidableEq β] (dflt : Nat → β) : SMap β → SMap β
  | [] => []
  | (k, v) :: m => SMap.put dflt (SMap.canon dflt m) k v

/-- The canonical form: keys strictly rising and no default listed. -/
def SMap.wf {β : Type} [DecidableEq β] (dflt : Nat → β) : SMap β → Bool
  | [] => true
  | [(k, v)] => !(decide (v = dflt k))
  | (k, v) :: (k', v') :: m => decide (k < k') && !(decide (v = dflt k)) && SMap.wf dflt ((k', v') :: m)

/-- Engines held by number. -/
abbrev AList (β : Type) := List (Nat × β)

/-- The entry of number `i`, or the value at reset. -/
def AList.get {β : Type} (dflt : β) : AList β → Nat → β
  | [], _ => dflt
  | (k, v) :: m, i => if k = i then v else AList.get dflt m i

/-- Set the entry of number `i`, in rising order of the numbers. -/
def AList.put {β : Type} : AList β → Nat → β → AList β
  | [], i, v => [(i, v)]
  | (k, w) :: m, i, v => if i < k then (i, v) :: (k, w) :: m else if i = k then (i, v) :: m else (k, w) :: AList.put m i v

/-- Take the entry of number `i` away. -/
def AList.del {β : Type} (m : AList β) (i : Nat) : AList β := m.filter (fun p => p.1 != i)

/-- Whether number `i` has an entry. -/
def AList.has {β : Type} (m : AList β) (i : Nat) : Bool := m.any (fun p => p.1 == i)

/-- The entry of number `i`, if there is one. -/
def AList.find {β : Type} : AList β → Nat → Option β
  | [], _ => none
  | (k, v) :: m, i => if k = i then some v else AList.find m i

end Sys2Proof.Machine
end

