-- ==== Sys2Proof/Machine/Types.lean ====
section
/-!
DEFINITION. The names and operand records the commands and the state are written with: ports and requesters, major modes,
axis states, the header of a command packet, and what reaches the device at a tick.
-/

namespace Sys2Proof.Machine

/-- The port an access enters by (01_architecture_tick.md R30). -/
inductive Port where
  | pcie | spi | ring | debug
  deriving DecidableEq, Repr

/-- The port code of SYS_ACC_SRC (01 R30). -/
def Port.code : Port → Nat
  | .pcie => 0 | .spi => 1 | .ring => 2 | .debug => 3

/-- A requester: its client context, or its fabric node at the ring port; a DMA channel when the access is one of a
channel's local accesses (13 R380). -/
structure Req where
  cc : Nat
  port : Port
  dma : Option Nat := none
  deriving DecidableEq, Repr

/-- The manager client through PCIe. -/
def Req.manager : Req := { cc := 0, port := .pcie }

/-- The major modes (00_scope.md R7). -/
inductive Mode where
  | bypass | backup | vigil | rest | recovery | configure | ready | run | inspection | degraded | safeHold | prodTest | booting
  deriving DecidableEq, Repr

/-- The mode code reported in SYS_MODE (00_scope.md R7). -/
def Mode.code : Mode → Nat
  | .bypass => 0x0 | .backup => 0x1 | .vigil => 0x2 | .rest => 0x3 | .recovery => 0x4 | .configure => 0x5 | .ready => 0x6
  | .run => 0x7 | .inspection => 0x8 | .degraded => 0x9 | .safeHold => 0xA | .prodTest => 0xB | .booting => 0xF

/-- The mode of a code, none for the reserved codes (00_scope.md R7). -/
def Mode.ofCode : Nat → Option Mode
  | 0x0 => some .bypass | 0x1 => some .backup | 0x2 => some .vigil | 0x3 => some .rest | 0x4 => some .recovery
  | 0x5 => some .configure | 0x6 => some .ready | 0x7 => some .run | 0x8 => some .inspection | 0x9 => some .degraded
  | 0xA => some .safeHold | 0xB => some .prodTest | 0xF => some .booting | _ => none

/-- The axis states (00_scope.md R9). -/
inductive AxState where
  | off | parked | opened | hold | move | stopping | fault
  deriving DecidableEq, Repr

/-- The axis-state code of AX_STATE (00_scope.md R9). -/
def AxState.code : AxState → Nat
  | .off => 0 | .parked => 1 | .opened => 2 | .hold => 3 | .move => 4 | .stopping => 5 | .fault => 6

/-- The major class of a command (12_host_commands.md R350). -/
inductive CmdClass where
  | none | motion | stop
  deriving DecidableEq, Repr

/-- The header of a command, as its submission entry and the ring it came by give it (12_host_commands.md R348). -/
structure Hdr where
  /-- the sender's client context -/
  cc : Nat := 0
  /-- the port it entered by -/
  port : Port := .pcie
  /-- submission ring, tag -/
  sq : Nat := 0
  tag : Nat := 0
  /-- target node -/
  node : Nat := 0
  /-- axis mask -/
  mask : Nat := 0
  /-- flags -/
  fence : Bool := false
  notify : Bool := false
  atTime : Bool := false
  /-- the stated fabric time, ns -/
  time : Nat := 0
  /-- class bits of the entry -/
  cls : Nat := 0
  /-- whether the command waits in a host-port device for a forwarded completion: the host-port node it came from -/
  origin : Option Nat := none
  /-- an order of the inspection pendant (11_safety.md R324): nobody waits for its completion -/
  pendant : Bool := false
  deriving DecidableEq, Repr

/-- The data of a write: its first word and the words after it, for an access wider than 32 bits (01_architecture_tick.md R27). -/
structure WrData where
  v : Word
  more : List Word := []
  deriving DecidableEq, Repr

/-- A place in the register space and the width of an access to it, in bytes. -/
structure RegPlace where
  addr : Nat
  width : Nat
  deriving DecidableEq, Repr

/-- A write of SYS_TICK_CFG: its value and, where it is the root's, the fabric time of its acceptance there, ns (01 R34, R35). -/
structure TickWrite where
  v : Word
  root : Option Nat := none
  deriving DecidableEq, Repr

/-- The level of a ball and for how long it has been held, in the unit of the row that carries it. -/
structure HeldLevel where
  level : Bool
  held : Nat
  deriving DecidableEq, Repr

/-- A level held for so many clocks, seen at this fabric time, ns. -/
structure HeldAt where
  held : Nat
  at_ : Nat
  deriving DecidableEq, Repr

/-- The sample of a trip ball (07_pwm.md R209): its number, the 500 MHz cycles to let pass first, and its level with the clocks of its
filter for which it has been held. -/
structure TripIn where
  n : Nat
  after : Nat
  clocks : Nat
  level : Bool
  deriving DecidableEq, Repr

/-- A transition of a sense input (07_pwm.md R205): whether it came in the window of the leg's fall edge or of its rise edge, and whether
it rises. -/
structure SenseEdge where
  fall : Bool
  rising : Bool
  deriving DecidableEq, Repr

/-- The bits of a modulator sampled since the last tick, oldest first: its axis and channel (05_current_position.md R142, R144). -/
structure SdSample where
  axis : Nat
  chan : Nat
  bits : List Bool
  deriving DecidableEq, Repr

/-- The bits of the DC-bus modulator of a group sampled since the last tick, oldest first. -/
structure BusSample where
  grp : Nat
  bits : List Bool
  deriving DecidableEq, Repr

/-- What reaches the device at a loop tick: the bitstreams of the modulators, the S0 time taken in ns (01 R37) and the
memory wait of each model in cycles (04 R122). -/
structure TickIn where
  sd : List SdSample := []
  bus : List BusSample := []
  s0 : Nat := 520
  waits : List (Nat × Nat) := []
  deriving DecidableEq, Repr

/-- The speed that Turret measures on the speed channel of STO group `grp`, in counts/s (11_safety.md R311). -/
structure SpeedIn where
  grp : Nat
  v : F32
  deriving DecidableEq, Repr

/-- What reaches a safety cycle (11 R303, R305): its fabric time in ns, the speed channels, a driver whose readback is wrong, and
the self-tests each channel has passed since the last cycle. -/
structure SafIn where
  at_ : Nat
  speeds : List SpeedIn := []
  readback : Bool := false
  turretPass : Bool := false
  keepPass : Bool := false
  deriving DecidableEq, Repr

/-- A start marker as a port received it (14_spire_ring_time.md R397, R418): its 32 bytes, whether a code error was seen, the
timestamp of its first bit in counts of 2⁻⁸ ns of the local clock, and the device's residence time in 2⁻⁸ ns. -/
structure MarkerIn where
  port : Nat
  bytes : List Byte
  codeErr : Bool := false
  stamp : Nat
  residence : Nat := 0
  deriving DecidableEq, Repr

/-- A cyclic slot copy (14 R398): a publication of a node, or a load-share record to a home or to a member. -/
inductive SlotIn where
  | publication (node : Nat) (b : List Byte)
  | share (toHome : Bool) (node g i n : Nat) (b : List Byte)
  deriving DecidableEq, Repr

/-- An entry of the map-mirror packet (14 R402). -/
structure MirrorEnt where
  id : Nat
  uid : List Byte
  state : Nat
  pos : Nat
  deriving DecidableEq, Repr

/-- A PTP message with its hardware timestamp in ns (14 R425). -/
inductive PtpIn where
  /-- Announce: how the sender compares, lower is better -/
  | announce (rank : Nat)
  /-- Sync, with the origin time of a one-step master -/
  | sync (origin : Option Int) (stamp : Int)
  | followUp (origin : Int)
  /-- the time at which the device's own delay request left -/
  | delayReqSent (stamp : Int)
  | delayResp (received : Int)
  /-- a request to a master instance: requester's identity bytes -/
  | delayReq (stamp : Int) (who : List Byte)
  deriving DecidableEq, Repr

/-- A CAN frame as it is received (15 R442): identifier, IDE, DLC, the flags FDF, BRS, ESI, RTR in bits 0 to 3, its data, and the
fabric time of its SOF in ns. -/
structure CanFrame where
  id : Nat
  ide : Bool := false
  dlc : Nat
  flags : Nat := 0
  data : List Byte
  sof : Nat
  deriving DecidableEq, Repr

/-- A condition of a field channel (15 R435). -/
inductive FieldCond where
  | overload | thermal | readback | wire
  deriving DecidableEq, Repr

end Sys2Proof.Machine
end

