-- ==== Sys2Proof/Machine/StFb.lean ====
section
/-!
DEFINITION. The state of the feedback units, the serial encoder ports and the synchronous strobe (08_feedback.md).
-/

namespace Sys2Proof.Machine

/-- A counted edge: the count after it, its timestamp in ns, and its direction (up true). -/
structure Edge where
  count : Int
  t : Int
  up : Bool
  deriving DecidableEq, Repr

/-- An open check window of a compare unit (R233): its base, whether an event has matched it, and the clock in which the count ran past
it without a match: an event in that clock still matches. -/
structure CmpWin where
  base : Int
  matched : Bool := false
  due : Option Nat := none
  deriving DecidableEq, Repr

/-- A valid serial frame (R230): the count after it and its t_latch in ns. -/
structure SerMark where
  count : Int
  t : Nat
  deriving DecidableEq, Repr

/-- One axis's feedback (R220 to R231): filtered levels, the count, the last counted edge, the last one at the previous tick,
whether the direction changed since, the tick count and speed of the last tick, errored updates, and the serial frames. -/
structure AxFb where
  a : Bool := false
  b : Bool := false
  z : Bool := false
  count : Int := 0
  /-- the 5 ns clock of the latest edge, event or tick -/
  clock : Nat := 0
  last : Option Edge := none
  prev : Option Edge := none
  turned : Bool := false
  edges : Nat := 0
  tickCount : Int := 0
  tickAt : Nat := 0
  speed : Rat := 0
  lastUp : Bool := true
  illNow : Bool := false
  /-- serial: the previous data word, and the last two valid frames -/
  pPrev : Option Nat := none
  ser1 : Option SerMark := none
  ser0 : Option SerMark := none
  /-- FB_REF_VAL has been written since reset (R227) -/
  refSet : Bool := false
  /-- open windows of compare units 0 and 1 -/
  win0 : List CmpWin := []
  win1 : List CmpWin := []
  deriving DecidableEq, Repr

/-- A serial port (R226): t_latch of the frame in progress, whether the data line was low at its start, and the tick whose frame has
ended. -/
structure SerPort where
  latch : Option Nat := none
  busy : Bool := false
  served : Nat := 0
  deriving DecidableEq, Repr

/-- A serial frame as the device reads it from the line (R225, R226): the line delay in 5 ns units, whether a start bit came, the data
word, the status bits, whether the check passed, nE and nW, and the frame time in ns. -/
structure SerFrame where
  ld : Nat := 0
  start : Bool := true
  data : Nat := 0
  status : Nat := 0
  crcOk : Bool := true
  nE : Bool := false
  nW : Bool := false
  time : Nat := 0
  deriving DecidableEq, Repr

/-- The synchronous strobe (R236): its time in ns, its command, and the units armed. -/
structure Strobe where
  t : Nat
  cmd : Hdr
  deriving DecidableEq, Repr

/-- Feedback of the device: ports, the strobe, and the low words of 48-bit pairs staged until their high words are written
(R219). -/
structure FbDev where
  ports : AList SerPort := []
  /-- the device-level registers in force since the last frame tick, by their address (R218); one not listed is as at reset -/
  cfg : AList Word := []
  /-- the last loop tick that fired -/
  lastTick : Nat := 0
  strobe : Option Strobe := none
  staged : AList Word := []
  deriving DecidableEq, Repr

end Sys2Proof.Machine
end

