-- ==== Sys2Proof/Syntax.lean ====
section
/-!
DEFINITION. The commands of the block: one constructor per row of the table of operations and events
(95_what_each_step_holds.md).  A command of the host carries the header of its submission entry and its parameters
(12_host_commands.md R348); a register row carries its requester; an event carries what the device sees of it.
-/

namespace Sys2Proof

open Sys2Proof.Machine

/-- The commands of the device and the events it sees. -/
inductive Instr where
  /-- FRAME_TICK (R31): Fabric time reaches a multiple of the frame period; frame-tick evaluation of commands, ring frames and limits begins -/
  | frameTick
  /-- LOOP_TICK (R37): A loop tick fires and runs the sample, compute and commit phases for the axes due in it -/
  | loopTick (i : TickIn)
  /-- OCU_SEQ_TIMEOUT (R283): tmo samples pass in a sequencer state without a match and the sequencer moves to tnext -/
  | ocuSeqTimeout
  /-- TICK_CFG_APPLIED (R35): An accepted change of frame period or loop multiplier takes effect at its scheduled fabric time -/
  | tickCfgApplied (root : Option Nat)
  /-- PWM_PERIOD_START (R200): A PWM period starts and each leg commands its high side on, loading shadow duties at a tick -/
  | pwmPeriodStart (n : Nat)
  /-- TRIP_ASSERT (R211): A filtered axis or group trip becomes active and ends the on-time of the present period -/
  | tripAssert (group : Bool) (x : TripIn)
  /-- TRIP_LATCH_OFF (R212): win_count reaches latch_n and the axis is latched off into FAULT -/
  | tripLatchOff (n : Nat)
  /-- TRIP_WINDOW_CLOSE (R212): The trip counting window ends at its W-th period and win_count returns to 0 -/
  | tripWindowClose (n : Nat)
  /-- TRIP_RELEASE (R209): The filtered trip input returns to inactive -/
  | tripRelease (group : Bool) (x : TripIn)
  /-- SENSE_TRANSITION (R206): A switching-node transition is seen in the dead-time window and the dead time of that direction is updated -/
  | senseTransition (n leg : Nat) (e : SenseEdge) (tm : Nat)
  /-- DT_FALLBACK (R206): A leg reaches 64 consecutive edges without a seen transition and enters dead-time fallback -/
  | dtFallback (n leg : Nat)
  /-- CLUSTER_FAILURE (R128): A Cupola cluster fails a parity, ECC, known-answer or hang check and is declared failed -/
  | clusterFailure (c code : Nat) (undone : List Nat)
  /-- ADMISSION_SEARCH_DONE (R126): The cluster-assignment search for AX_ADMIT with released clusters ends and the admission takes effect -/
  | admissionSearchDone
  /-- SUBMISSION_FETCH (R351): A submission entry is fetched and checked, and accepted or rejected with a completion -/
  | submissionFetch (sq : Nat) (entry : List Byte) (readOk cqOk : Bool) (data : Option (List Byte)) (keepSame : Bool)
  /-- HELD_COMPLETION_RELEASE (R346): A completion held for a full or stopped CQ is written once the host frees space -/
  | heldCompletionRelease (cq : Nat)
  /-- MOTION_TAKEOVER (R254): A motion command takes over at frame tick F + 1 from the generator state there and is judged again -/
  | motionTakeover
  /-- FORWARD_TIMEOUT (R400): A forwarded command gets no completion within 16 frame periods and completes with NODE_LOST -/
  | forwardTimeout
  /-- HOST_SQ_TAIL (R343): The host writes a new tail of a submission ring, making its entries fetchable -/
  | hostSqTail (r : Req) (cc i : Nat) (v : Word)
  /-- HOST_CQ_HEAD (R344): The host writes a new head of a completion ring, consuming entries -/
  | hostCqHead (r : Req) (cc i : Nat) (v : Word)
  /-- HOST_ADM_CFG (R341): A write of the admin ring configuration enables or disables CC0's admin rings -/
  | hostAdmCfg (r : Req) (v : Word)
  /-- HOST_EVQ_CFG (R373): A write of the event queue configuration enables the queue empty with phase 1 -/
  | hostEvqCfg (r : Req) (cc : Nat) (v : Word)
  /-- HOST_EVQ_HEAD (R373): The client writes a new head of its event queue -/
  | hostEvqHead (r : Req) (cc : Nat) (v : Word)
  /-- VECTOR_HOLDOFF_EXPIRY (R374): The moderation hold-off of a vector expires and the vector is signalled if a cause is unconsumed -/
  | vectorHoldoffExpiry (cc v : Nat)
  /-- REGISTER_WRITE (R26): A write to a register without behaviour of its own is judged for width, mode and owner and applied -/
  | registerWrite (r : Req) (addr width : Nat) (x : WrData)
  /-- COUNTER_LOW_READ (R28): A read of the low word of a 64-bit counter captures the high word into the requester's snapshot holder -/
  | counterLowRead (r : Req) (x : RegPlace)
  /-- POP_REGISTER_READ (R355): A read of a pop register returns its head entry and removes it -/
  | popRegisterRead (r : Req) (addr width : Nat)
  /-- DIE_LINK_FAILURE (R18): The die-to-die link fails its CRC three times on a transfer and a safety reaction is requested -/
  | dieLinkFailure (r : Req) (addr : Nat) (write : Bool)
  /-- SYS_TICK_CFG (R35): A write of SYS_TICK_CFG is accepted as a pending change or refused -/
  | sysTickCfg (r : Req) (x : TickWrite)
  /-- SYS_OVERRUN_CLR (R44): Writing clr sets late_total to 0 -/
  | sysOverrunClr (r : Req) (v : Word)
  /-- SYS_S1_PEAK_CLR (R45): Writing clr sets s1_peak to 0 -/
  | sysS1PeakClr (r : Req) (v : Word)
  /-- SYS_DIP_LAST_CLR (R81): Writing clr sets dip_count to 0 -/
  | sysDipLastClr (r : Req) (v : Word)
  /-- SYS_WAKE_BUDGET (R64): A client writes its availability claim, and the rest choice is re-run if resting -/
  | sysWakeBudget (r : Req) (cc : Nat) (v : Word)
  /-- SYS_MODE_SET (R55): CC0 requests a listed major-mode transition, judged at the next frame tick -/
  | sysModeSet (h : Hdr) (mode : Nat)
  /-- SYS_RESET (R59): CC0 orders a device reset 10 us after its completion is accepted -/
  | sysReset (h : Hdr)
  /-- RING_CREATE (R357): CC0 creates a submission or completion ring for a client -/
  | ringCreate (h : Hdr) (b : List Byte)
  /-- RING_DELETE (R357): CC0 deletes a ring -/
  | ringDelete (h : Hdr) (kind id : Nat)
  /-- REG_READ (R357): A client reads up to 4 registers of a target node -/
  | regRead (h : Hdr) (offset words : Nat)
  /-- REG_WRITE (R357): A client writes up to 4 registers of a target node -/
  | regWrite (h : Hdr) (offset words : Nat) (data : List Byte)
  /-- SYS_IDENTIFY (R357): Returns the identification, revision, node, mode and build of the target -/
  | sysIdentify (h : Hdr)
  /-- SYS_NOP (R357): Returns the fabric time of execution at the target -/
  | sysNop (h : Hdr)
  /-- CLIENT_RESET (R379): A client reset of a client context is triggered by command -/
  | clientReset (h : Hdr) (cc : Nat)
  /-- CLIENT_CFG (R362): CC0 sets the weight and tick-critical rate of a client -/
  | clientCfg (h : Hdr) (cc weight tcRate : Nat)
  /-- EVENT_ROUTE (R369): CC0 writes a route word to a range of event sources -/
  | eventRoute (h : Hdr) (first count : Nat) (route : Word)
  /-- EVT_ROUTE (R369): A direct write of the route of one event source, effective at once -/
  | evtRoute (r : Req) (source : Nat) (v : Word)
  /-- CLIENT_RESET_CUT (R376): At cut tick C, later commands of the client are discarded and orphan reactions and releases take effect -/
  | clientResetCut (cc : Nat)
  /-- CLIENT_RESET_COMPLETE (R376): Tags and rings of the client are freed, reset_busy clears and CLIENT_RESET_DONE is raised -/
  | clientResetComplete (cc : Nat)
  /-- FLR (R337): A function-level reset of a function acts as a client reset of its client context or contexts -/
  | flr (cc : Nat)
  /-- HOT_RESET (R337): A PCIe hot reset acts as a client reset of every existing client context -/
  | hotReset
  /-- PCIE_LINK_DOWN (R337): A PCIe link-down state lasting more than 10 ms acts as a client reset of every client -/
  | pcieLinkDown
  /-- VF_DISABLE (R337): Clearing VF Enable or lowering NumVFs resets and removes the client contexts that cease to exist -/
  | vfDisable (enable : Bool) (numVfs : Nat)
  /-- FABRIC_WINDOW_ACCESS (R336): An access through the PF fabric window is carried to the addressed node as CC0 -/
  | fabricWindowAccess (addr : Nat) (write : Bool) (v : Word)
  /-- SPI_WRITE_FRAME (R338): A complete SPI write frame is CRC-checked and its words written in ascending order -/
  | spiWriteFrame (frame : List Byte)
  /-- SPI_READ_FRAME (R339): An SPI read frame returns a token and the words read back to back with a CRC -/
  | spiReadFrame (frame : List Byte) (tokenSeen : Bool)
  /-- SPI_FRAME_VOID (R338): CS_N rises before a frame is complete and the frame is void -/
  | spiFrameVoid
  /-- UDP_DATAGRAM (R426): A UDP command datagram is checked against its binding and its entries submitted -/
  | udpDatagram (port src : Nat) (srcPort : Nat) (data : List Byte) (reads : List (Option (List Byte) × Bool))
  /-- AX_ADMIT (R140): Admits axes or a coupled group to Cupola against the budget -/
  | axAdmit (h : Hdr) (bank slot : Nat)
  /-- AX_RELEASE (R140): Releases the reservation of admitted axes and returns them to OFF -/
  | axRelease (h : Hdr)
  /-- AX_ENABLE (R187): Takes an axis from PARKED towards OPEN or HOLD through the start-up sequence -/
  | axEnable (h : Hdr) (target : Nat)
  /-- AX_ENABLE_TIMEOUT (R140): enable_to_ms expires without three valid outputs and AX_ENABLE completes leaving the axis in OPEN -/
  | axEnableTimeout (n : Nat)
  /-- AX_OPEN (R140): Opens the loop of an axis in HOLD -/
  | axOpen (h : Hdr)
  /-- AX_DISABLE (R190): Parks an axis by brake or de-flux -/
  | axDisable (h : Hdr) (mode : Nat)
  /-- AX_FAULT_CLEAR (R140): Clears the fault causes of an axis and returns it to PARKED -/
  | axFaultClear (h : Hdr)
  /-- AX_BANK_SWAP (R136): Checks the inactive coefficient bank and makes it active at the next frame tick -/
  | axBankSwap (h : Hdr) (init : Nat)
  /-- AX_QUERY (R140): Returns the state, fault cause, bank status and admission of the lowest axis -/
  | axQuery (h : Hdr)
  /-- AX_SNAP_CTRL (R138): Setting req requests a snapshot capture at the next commit -/
  | axSnapCtrl (r : Req) (n : Nat) (v : Word)
  /-- AX_REVERSE (R183): Changes the direction sign of an axis if its speed is below AX_REV_THR -/
  | axReverse (h : Hdr) (how : Nat)
  /-- AX_SHORT_BRAKE (R185): Starts or ends winding-short braking of an axis -/
  | axShortBrake (h : Hdr) (start : Bool)
  /-- SHORT_END (R186): A winding short ends on its speed count, short_max_ms or a mode change, and the axis goes to PARKED -/
  | shortEnd (n : Nat)
  /-- AX_RECOVER (R191): Runs the recovery sequence of catch, short, second catch and start-up to HOLD -/
  | axRecover (h : Hdr) (allowShort : Bool)
  /-- RECOVERY_FAILED (R192): A recovery step exceeds its time or a condition fails and the recovery ends -/
  | recoveryFailed (n : Nat)
  /-- CATCH_END (R166): A catch of a spinning motor ends as spinning, standstill or slow and the state is initialised -/
  | catchEnd (n : Nat)
  /-- CATCH_TIMEOUT (R166): catch_max_ms elapses and the catch ends as slow from the present fit -/
  | catchTimeout (n : Nat)
  /-- INIT_ANGLE_STEP_END (R160): A step of the initial-angle and polarity sequence reaches its tick count -/
  | initAngleStepEnd (n : Nat)
  /-- FLUX_STEP_END (R187): reflux_ms since leaving PARKED elapses and the flux factor reaches 1 -/
  | fluxStepEnd (n : Nat)
  /-- BRAKE_LIFT_END (R187): brake_lift_ms elapses after the brake output is energised and the valid count begins -/
  | brakeLiftEnd (n : Nat)
  /-- PARK_TIMER_END (R190): brake_set_ms or deflux_ms elapses in a park from HOLD and the PWM goes off -/
  | parkTimerEnd (n : Nat)
  /-- IM_LOW_EXPIRY (R163): An induction motor stays below 3 Hz for im_low_ms and the axis faults -/
  | imLowExpiry (n : Nat)
  /-- ENCODER_EDGE (R221): A filtered encoder or step edge is accepted and counts with a timestamp -/
  | encoderEdge (n : Nat) (a b : HeldLevel) (at_ : Nat)
  /-- INDEX_LOAD (R224): A filtered Z edge loads FB_REF_VAL into the count as a re-reference -/
  | indexLoad (n : Nat) (x : HeldAt)
  /-- SERIAL_FRAME (R227): A serial encoder frame completes and updates the count or is errored -/
  | serialFrame (c : Nat) (line : List (Nat × Bool))
  /-- LATCH_CAPTURE (R235): An armed latch unit captures time and count at an event of its source -/
  | latchCapture (src : Nat) (rising : Bool) (x : HeldAt)
  /-- FB_LAT_CTRL_ARM (R235): Writing arm arms a latch unit -/
  | fbLatCtrlArm (r : Req) (n u : Nat) (v : Word)
  /-- FB_PAIR_COMMIT (R219): A write of the high word commits a staged 48-bit register pair -/
  | fbPairCommit (r : Req) (addr : Nat) (v : Word)
  /-- SYNC_STROBE (R236): Fabric time reaches the strobe time T and the synchronous strobe fires -/
  | syncStrobe
  /-- FB_SET (R224): Sets or adds to the feedback count as a re-reference -/
  | fbSet (h : Hdr) (add : Bool) (value : Int)
  /-- FB_CMP_ARM (R238): Arms or disarms a compare unit with base, step and window -/
  | fbCmpArm (h : Hdr) (b : List Byte)
  /-- FB_LATCH_ARM (R238): Arms a latch unit on a source and edge -/
  | fbLatchArm (h : Hdr) (unit src bits : Nat)
  /-- FB_SYNC_LATCH (R236): Arms the synchronous strobe at a stated fabric time -/
  | fbSyncLatch (h : Hdr) (t units : Nat)
  /-- FB_QUERY (R238): Returns the count, speed and status of the lowest axis -/
  | fbQuery (h : Hdr)
  /-- AX_OWN (R365): CC0 assigns a new owner and orphan reaction to axes -/
  | axOwn (h : Hdr) (owner orphan : Nat)
  /-- AX_OBSERVE (R365): CC0 adds or removes an observer of axes -/
  | axObserve (h : Hdr) (cc add : Nat)
  /-- PROF_LOAD (R250): Validates a knot range of the profile table -/
  | profLoad (h : Hdr) (b : List Byte)
  /-- PROF_RUN (R250): Runs a validated table or a stream from HOLD -/
  | profRun (h : Hdr) (b : List Byte)
  /-- PROF_STREAM_WP (R251): A write of the stream write pointer publishes knots -/
  | profStreamWp (r : Req) (n : Nat) (v : Word)
  /-- PROF_MOVE (R253): Plans a time-optimal move to a position target -/
  | profMove (h : Hdr) (b : List Byte)
  /-- PROF_VEL (R253): Plans a time-optimal change to a target velocity -/
  | profVel (h : Hdr) (b : List Byte)
  /-- PROF_STOP (R244): Starts the stop ramp of an axis in MOVE -/
  | profStop (h : Hdr)
  /-- PROF_QUERY (R274): Returns the reference and profile status of the lowest axis -/
  | profQuery (h : Hdr)
  /-- GEAR_ENGAGE (R262): Engages a gear or cam law on a master with a blend -/
  | gearEngage (h : Hdr) (b : List Byte)
  /-- GEAR_RATIO (R262): Changes the gear ratio with a velocity blend -/
  | gearRatio (h : Hdr) (b : List Byte)
  /-- GEAR_PHASE (R262): Changes the gear phase with a blend -/
  | gearPhase (h : Hdr) (b : List Byte)
  /-- GEAR_DISENGAGE (R263): Hands a geared axis over to the stop ramp or a velocity plan -/
  | gearDisengage (h : Hdr) (b : List Byte)
  /-- GEAR_BLEND_END (R262): A gear blend reaches x = 1, the engage points are set and the gear command completes -/
  | gearBlendEnd (n : Nat)
  /-- MASTER_RECORD_ARRIVAL (R266): A remote master publication record arrives and is put into use at the next frame tick -/
  | masterRecordArrival (node : Nat) (b : List Byte)
  /-- MASTER_LOST (R267): A ninth missed record loses the master and the stop ramp starts -/
  | masterLost (n : Nat)
  /-- SYNC_LOSS_SUSPEND (R268): A loss of synchronisation stops geared axes and removes remote load-share members -/
  | syncLossSuspend
  /-- LS_JOIN (R270): Joins an axis to a load-share group with a weight -/
  | lsJoin (h : Hdr) (b : List Byte)
  /-- LS_SHARE (R273): Changes the weight of a load-share member -/
  | lsShare (h : Hdr) (b : List Byte)
  /-- LS_LEAVE (R273): Removes a member from its load-share group with a fade -/
  | lsLeave (h : Hdr)
  /-- LS_RECORD_ARRIVAL (R272): A load-share record arrives between member and home -/
  | lsRecordArrival (toHome : Bool) (node g i n : Nat) (b : List Byte)
  /-- LS_MEMBER_LOST (R273): A ninth missed load-share record makes the member leave by loss -/
  | lsMemberLost (home : Bool) (g i n : Nat)
  /-- LS_FADE_END (R273): fade_ms elapses after a member leaves and the axis is parked by de-flux -/
  | lsFadeEnd (n : Nat)
  /-- VM_MOTION (R269): CC0 plans a move or velocity for a virtual master -/
  | vmMotion (h : Hdr) (b : List Byte)
  /-- VM_STOP (R269): CC0 stops a virtual master on a stop ramp -/
  | vmStop (h : Hdr) (b : List Byte)
  /-- GEAR_QUERY (R274): Returns gear, master and load-share status of the lowest axis -/
  | gearQuery (h : Hdr)
  /-- GEAR_PUB_CFG (R399): Writing en of a publication requests or releases a cyclic slot -/
  | gearPubCfg (r : Req) (i : Nat) (v : Word) (granted : Bool)
  /-- LS_GRP_CFG (R399): Writing en of a load-share group requests or releases its remote slots -/
  | lsGrpCfg (r : Req) (g : Nat) (v : Word) (granted : Nat)
  /-- CAP_CLAIM (R276): Claims or releases the Oculus engine -/
  | capClaim (h : Hdr) (claim named : Nat)
  /-- CAP_ARM (R301): Arms Oculus for recording after checking channels and memory -/
  | capArm (h : Hdr) (clear : Bool)
  /-- CAP_FORCE (R286): Forces the trigger at the first allowed sample -/
  | capForce (h : Hdr)
  /-- CAP_STOP (R294): Stops the engine and publishes a truncated record -/
  | capStop (h : Hdr)
  /-- CAP_QUERY (R301): Returns Oculus status, record generation, write pointer and ignored count -/
  | capQuery (h : Hdr)
  /-- OCU_RING_RP (R290): The consumer advances the stream read pointer, freeing slots -/
  | ocuRingRp (r : Req) (v : Word)
  /-- OCU_SLOT_RESERVED (R290): A stream slot becomes free and the next record is reserved with its rate code -/
  | ocuSlotReserved
  /-- OCU_RECORD_DONE (R293): Measurements finish and a record is published with its header and trailer -/
  | ocuRecordDone
  /-- LAN_START (R297): Starts a Lantern generator on a target axis -/
  | lanStart (h : Hdr) (g : Nat)
  /-- LAN_GENERATOR_START (R299): The generator starts with n = 0 at the first due tick of the target at or after F -/
  | lanGeneratorStart (g : Nat)
  /-- LAN_DONE (R299): The generator passes sample LAN_LEN - 1 or ends its fade and LAN_START completes -/
  | lanDone (g : Nat)
  /-- LAN_STOP (R299): Fades or stops a running generator -/
  | lanStop (h : Hdr) (g : Nat) (immediate : Bool)
  /-- LAN_QUERY (R301): Returns the status, index and output of a generator -/
  | lanQuery (h : Hdr) (g : Nat)
  /-- SAFETY_CYCLE (R303): Turret's safety cycle evaluates functions and exchanges states with Keep over the safety link -/
  | safetyCycle (i : SafIn)
  /-- CROSS_COMPARE_FAIL (R305): Disagreement in 4 consecutive exchanges causes a device reaction -/
  | crossCompareFail
  /-- HEARTBEAT_LOSS (R305): A channel's heartbeat is missing for 2 safety cycles and the channel is failed -/
  | heartbeatLoss (turret : Bool)
  /-- SELF_TEST_FAIL (R305): A channel fails its self-test and is failed -/
  | selfTestFail (turret : Bool)
  /-- SELF_TEST_AGE_EXPIRY (R305): A channel's self-test age exceeds T_ST and the channel is failed -/
  | selfTestAgeExpiry (turret : Bool)
  /-- SBC_LEAD_EXPIRY (R312): sbc_lead_ms after brake release, the group STO is asserted -/
  | sbcLeadExpiry (g : Nat)
  /-- SS1_MAX_EXPIRY (R312): ss1_max expires before standstill and STO and SBC follow at once -/
  | ss1MaxExpiry (g : Nat)
  /-- SAFETY_INPUT_CHANGE (R307): A safety input pair channel changes level and the pair state and functions are re-evaluated -/
  | safetyInputChange (i : Nat) (chB : Bool) (x : HeldLevel) (at_ : Nat)
  /-- DISCREPANCY_EXPIRY (R307): A pair stays in discrepancy longer than its discrepancy time and is faulted -/
  | discrepancyExpiry (i : Nat)
  /-- TEST_PULSE (R311): A TP output emits its periodic test pulse -/
  | testPulse (k : Nat)
  /-- TEST_PULSE_TIMEOUT (R307): A test pulse does not appear at its input within its window and the pair is faulted -/
  | testPulseTimeout (i : Nat) (chB : Bool)
  /-- KEEP_GATE_END (R316): A Keep overspeed gate window ends and its count is compared with the limit -/
  | keepGateEnd (g at_ : Nat)
  /-- BRAKE_TIMING_EXPIRY (R314): Brake feedback does not follow within t_set or t_lift and the group reacts -/
  | brakeTimingExpiry (j : Nat)
  /-- HANDRAIL_TIME_EXPIRY (R314): Handrail deviation persists for its set time and group SS1 starts -/
  | handrailTimeExpiry (g k : Nat)
  /-- DARK_TEST (R311): An energised output pair switch is opened for 300 us and read back -/
  | darkTest (j : Nat) (ok : Bool)
  /-- DEG_WARN (R321): Ten seconds of DEG_MAX remain and SAF_DEG_WARN is raised -/
  | degWarn
  /-- DEG_MAX_EXPIRY (R321): DEG_MAX elapses and DEGRADED ends in SAFE_HOLD -/
  | degMaxExpiry
  /-- DEG_VOTE_TIMER_EXPIRY (R319): The Drum-die timer of DEG_MAX + 1 s returns the failed channel's vote -/
  | degVoteTimerExpiry
  /-- SAF_CFG_LOAD (R311): Loads and checks a safety configuration image in both channels -/
  | safCfgLoad (h : Hdr) (image : Option (List Byte)) (keepSame : Bool)
  /-- SAF_RESET (R313): CC0 resets SAFE_HOLD and latched groups when conditions allow -/
  | safReset (h : Hdr)
  /-- SAF_GRP_RESET (R313): CC0 resets latched reactions of named groups -/
  | safGrpReset (h : Hdr) (mask : Nat)
  /-- SAF_STO (R314): CC0 demands or withdraws STO of named groups -/
  | safSto (h : Hdr) (mask on : Nat)
  /-- SAF_SDI (R331): CC0 sets the permitted direction of a group -/
  | safSdi (h : Hdr) (g dir : Nat)
  /-- SAF_RESCUE_DONE (R321): CC0 ends DEGRADED in SAFE_HOLD -/
  | safRescueDone (h : Hdr)
  /-- SAF_INSP_TEST (R325): CC0 runs one legal inspection test on a group -/
  | safInspTest (h : Hdr) (block : Option (List Byte)) (dest : Nat)
  /-- INSP_TEST_END (R326): An inspection test reaches its verdict or abort and its signed record is issued -/
  | inspTestEnd (metrics : List F32) (finished commitOk : Bool)
  /-- SAF_KEY_SIGN (R328): Signs a 32-byte challenge with the unit key -/
  | safKeySign (h : Hdr) (challenge : List Byte) (dest : Nat)
  /-- SAF_QUERY (R331): Returns the safety status, cause, DEGRADED state and channel ages -/
  | safQuery (h : Hdr)
  /-- SAF_UNLOCK (R330): A write of the unlock register advances or voids the two-write unlock sequence -/
  | safUnlock (r : Req) (v : Word) (within : Bool)
  /-- UNLOCK_WINDOW_EXPIRY (R330): The 10 s unlock window closes -/
  | unlockWindowExpiry (test : Bool)
  /-- TURRET_HALT_REQUEST (R329): A debug request to halt Turret causes a device reaction and halts it -/
  | turretHaltRequest
  /-- TURRET_RESUME (R329): Turret resumes from a debug halt and reruns its self-test -/
  | turretResume (pass : Bool)
  /-- RESET_N_LOW (R54): RESET_N is held low and the device goes to BYPASS -/
  | resetNLow
  /-- RESET_N_RELEASE (R54): RESET_N rises and boot may begin -/
  | resetNRelease (spi : Bool)
  /-- BOOT (R60): Boot runs from regulator start through slot choice, self-tests and insertion -/
  | boot (recoveryN turretPass keepPass : Bool)
  /-- BOOT_COMPLETE (R54): Boot ends in CONFIGURE, SAFE_HOLD or RECOVERY -/
  | bootComplete
  /-- DEVICE_RESET (R58): A device reset ends commands, asserts STO, closes the bypass and re-initialises registers -/
  | deviceReset (cause : Nat)
  /-- WATCHDOG_EXPIRY (R57): The command-processor watchdog expires after 100 ms without service -/
  | watchdogExpiry
  /-- VBAT_APPLIED (R54): VBAT is applied with VSYS absent and the device enters BACKUP -/
  | vbatApplied
  /-- VSYS_WARN (R79): VSYS falls below 2.62 V, a dip begins and Belfry takes a snapshot -/
  | vsysWarn
  /-- DIP_END (R79): VSYS stays above 2.70 V for 1 ms and the dip ends -/
  | dipEnd (rise : Nat)
  /-- DIP_STOP (R80): A dip lasts dip_stop_ms and a rank-3 ramp stop is issued to moving axes -/
  | dipStop
  /-- VSYS_LOW (R78): VSYS falls below 2.40 V and the device resets into BACKUP -/
  | vsysLow
  /-- VSYS_RELEASE (R78): VSYS rises through 2.50 V; boot may begin and Belfry resumes from a snapshot -/
  | vsysRelease (por : Bool)
  /-- VCORE_WARN (R481): VCORE falls below its warning threshold -/
  | vcoreWarn
  /-- VCORE_RESET (R481): VCORE falls below its reset threshold and the device resets -/
  | vcoreReset
  /-- VCORE_RELEASE (R481): VCORE rises through its release threshold -/
  | vcoreRelease
  /-- VBAT_LOW (R78): VBAT falls below 2.0 V for 1 ms -/
  | vbatLow (vsysAbsent : Bool)
  /-- ALARM_INPUT (R83): A backup alarm input becomes active after debounce and logs, flags and may assert BELL_N -/
  | alarmInput (i : Nat)
  /-- BELFRY_BKP_CTRL_RTC_LOAD (R85): Setting rtc_load loads the staged RTC value at the next 32.768 kHz edge -/
  | belfryBkpCtrlRtcLoad (r : Req) (v : Word)
  /-- REST_ENTRY (R69): The idle time expires and the device chooses REST or VIGIL and axis rest states -/
  | restEntry
  /-- WAKE (R73): A wake cause takes the device from REST or VIGIL towards READY -/
  | wake (cause : Nat)
  /-- WAKE_DONE (R75): The wake completes with the device in READY -/
  | wakeDone
  /-- REST_RECHOICE (R71): A claim or Tj band change while resting re-runs the rest choice and may wake partially -/
  | restRechoice
  /-- RING_WAKE_PATTERN (R73): The Drum-die squelch detector recognises the wake pattern in VIGIL -/
  | ringWakePattern
  /-- PWR_CLAIM (R77): Holds or releases the sender's availability claim -/
  | pwrClaim (h : Hdr) (budget axes claim : Nat)
  /-- PWR_REST (R77): Requests rest entry at once, skipping the idle time -/
  | pwrRest (h : Hdr) (deepest : Nat)
  /-- PWR_WAKE (R77): Wakes the device, and with the pattern flag every VIGIL device -/
  | pwrWake (h : Hdr) (pattern : Nat)
  /-- PWR_QUERY (R77): Returns the wake state, rest states and last wake -/
  | pwrQuery (h : Hdr)
  /-- TJ_SAMPLE (R496): The on-die temperature sensors update and TJ_HIGH may be raised -/
  | tjSample (logic drum : Int)
  /-- BELFRY_SAMPLE (R96): Belfry filters its enabled slots and evaluates its rules in order -/
  | belfrySample (ana0 ana1 : Nat)
  /-- BELFRY_RULE_WRITE (R96): A write of a rule's condition or action resets its previous state -/
  | belfryRuleWrite (r : Req) (rule : Nat) (act : Bool) (v : Word)
  /-- BELFRY_LOG_SW (R101): A write appends a software entry to the retention log -/
  | belfryLogSw (r : Req) (v : Word)
  /-- START_MARKER (R421): A valid start marker is received and the fabric-time servo updates -/
  | startMarker (m : MarkerIn)
  /-- MARKER_MISSING (R420): No valid marker arrives at a frame tick and the time unit goes to HOLDOVER -/
  | markerMissing
  /-- TIME_LOST (R420): lost_frames frames pass without a valid marker, or the error is large, and the state becomes LOST -/
  | timeLost
  /-- TIME_STEP_WAIT (R422): Re-acquisition needs a step and the device waits for the hold signal -/
  | timeStepWait
  /-- FABRIC_STEP (R422): Fabric time steps at a frame tick and the tick grid moves -/
  | fabricStep
  /-- CYCLIC_SLOT (R398): A cyclic slot copy is received from a ring frame -/
  | cyclicSlot (c : SlotIn)
  /-- STATUS_SLOT (R398): A node's status slot is received by the root -/
  | statusSlot (node : Nat) (b : List Byte)
  /-- NODE_LOST_DETECT (R405): A node's status slot misses on both rings for 3 frames and it is marked lost -/
  | nodeLostDetect (node : Nat)
  /-- COMMAND_PACKET (R400): A forwarded command packet arrives at its target -/
  | commandPacket (src : Nat) (b : List Byte) (data : Option (List Byte)) (keepSame : Bool)
  /-- COMPLETION_PACKET (R400): A completion packet returns to the host-port device -/
  | completionPacket (node : Nat) (b : List Byte)
  /-- EVENT_PACKET (R371): An event message from a peer device arrives for delivery -/
  | eventPacket (node : Nat) (b : List Byte)
  /-- READ_REQUEST (R400): A remote register read request arrives at its node -/
  | readRequest (src : Nat) (addr : Nat)
  /-- READ_RESPONSE (R400): A remote register read response returns -/
  | readResponse (node addr : Nat) (v : Word)
  /-- WRITE_PACKET (R400): A remote register write arrives at its node -/
  | writePacket (src addr width : Nat) (v : Word)
  /-- DISCOVER (R402): A discover packet collects UIDs and link states around ring A -/
  | discover (b : List Byte)
  /-- ASSIGN (R402): An assign packet gives a device its node ID -/
  | assign (id : Nat) (uid : List Byte)
  /-- JOIN_REQUEST (R409): A ready device's join request reaches the root in a join-poll gap -/
  | joinRequest (uid : List Byte) (hops : Nat)
  /-- JOIN_RETRY (R409): An unanswered joiner retries after a random 1 to 8 polls -/
  | joinRetry
  /-- INSERT_ORDER (R410): The root orders a joiner inserted at frame F_i -/
  | insertOrder (id fi : Nat)
  /-- INSERTION (R410): At frame F_i the joiner's switches open in the insertion gap and it forwards cut-through -/
  | insertion
  /-- REMOVE_ORDER (R411): A remove order takes a device out to BYPASS -/
  | removeOrder (t : Nat)
  /-- PEER_DELAY (R419): A peer-delay exchange updates the measured link delay -/
  | peerDelay (p t1 t2 t3 t4 : Nat)
  /-- BYPASS_REQUEST (R70): A bypass request or grant is exchanged with the root for VIGIL entry -/
  | bypassRequest (node answer : Nat)
  /-- MAP_MIRROR (R402): The root mirrors its UID-to-ID map to the standby root -/
  | mapMirror (m : List MirrorEnt) (delay : Nat)
  /-- LINK_LOSS_OF_SIGNAL (R406): A receiver loses signal for 1 us and the link goes down -/
  | linkLossOfSignal (p : Nat)
  /-- LINK_LOCK (R406): Training locks the CDR and delay calibration begins -/
  | linkLock (p : Nat)
  /-- LINK_UP (R406): Calibration completes and the link carries traffic -/
  | linkUp (p : Nat)
  /-- LINK_RECALIBRATE (R406): 16 code errors in one frame start recalibration -/
  | linkRecalibrate (p : Nat)
  /-- LINK_LOCK_TIMEOUT (R406): A link does not reach up within 16 frame periods and goes down, failing queued requests -/
  | linkLockTimeout (p : Nat)
  /-- ISOLATION (R413): No valid marker for iso_frames makes the device isolated and stops its moving axes -/
  | isolation
  /-- ROOT_LOSS (R414): The standby root sees no marker for 3 frames and takes over as root -/
  | rootLoss
  /-- PTP_MESSAGE (R425): A PTP message is received with a hardware timestamp and processed -/
  | ptpMessage (p : Nat) (m : PtpIn)
  /-- FAB_DISCOVER (R402): Starts a discovery, optionally renumbering -/
  | fabDiscover (h : Hdr) (renumber : Nat)
  /-- FAB_INSERT (R410): Inserts joining nodes -/
  | fabInsert (h : Hdr) (id : Nat)
  /-- FAB_REMOVE (R411): Orders a node out of the ring -/
  | fabRemove (h : Hdr) (id : Nat)
  /-- FAB_STANDBY (R415): Sets the standby root or hands the root role over -/
  | fabStandby (h : Hdr) (id handover : Nat)
  /-- FAB_SLOT_ALLOC (R399): Queries, retries or compacts the cyclic slot table -/
  | fabSlotAlloc (h : Hdr) (action : Nat)
  /-- FAB_QUERY (R428): Returns fabric status, link states and slot use -/
  | fabQuery (h : Hdr)
  /-- TIME_QUERY (R428): Returns fabric time, time status and error -/
  | timeQuery (h : Hdr)
  /-- TIME_SRC (R424): Selects the root's time source -/
  | timeSrc (h : Hdr) (src : Nat)
  /-- TIME_PTP_CFG (R428): Configures the PTP instance of an Ethernet port -/
  | timePtpCfg (h : Hdr) (b : List Byte)
  /-- DMA_CH_TAIL (R381): The owner writes a new descriptor ring tail -/
  | dmaChTail (r : Req) (c : Nat) (v : Word)
  /-- DMA_CH_OWN (R384): CC0 assigns owner, share and reservation of a channel -/
  | dmaChOwn (r : Req) (c : Nat) (v : Word)
  /-- DMA_START (R386): Writing start takes a channel from IDLE or ERROR to RUN -/
  | dmaStart (r : Req) (c : Nat)
  /-- DMA_STOP (R386): Writing stop ends a channel after its current burst -/
  | dmaStop (r : Req) (c : Nat)
  /-- DMA_PROBE (R390): CC0 starts a probe of a halted candidate channel -/
  | dmaProbe (r : Req) (c : Nat)
  /-- DMA_PROBE_END (R390): A probe ends with the channel cleared or put in ERROR -/
  | dmaProbeEnd (ok : Bool) (errKind : Nat)
  /-- DMA_RESUME (R389): CC0 restarts halted non-candidate channels from their resume points -/
  | dmaResume (r : Req) (v : Word)
  /-- DMA_DESCRIPTOR_END (R381): A descriptor's last data write completes, its write-back is made and the head advances -/
  | dmaDescriptorEnd (c : Nat) (desc data : List Byte)
  /-- DMA_READ_FAILURE (R387): A failed DMA read halts the whole engine and records candidates -/
  | dmaReadFailure (errKind outstanding : Nat)
  /-- FIELD_INPUT_EDGE (R431): The filtered level of a field input changes and may raise FIO_EDGE -/
  | fieldInputEdge (c : Nat) (raw : Bool) (held : Nat)
  /-- FIELD_OUT_SET (R438): A write sets bits of FIELD_OUT -/
  | fieldOutSet (r : Req) (v : Word)
  /-- FIELD_OUT_CLR (R438): A write clears bits of FIELD_OUT -/
  | fieldOutClr (r : Req) (v : Word)
  /-- FIELD_CH_CFG (R432): A write of a channel configuration changes its mode, opening the switch when leaving output mode -/
  | fieldChCfg (r : Req) (c : Nat) (v : Word)
  /-- WIRE_BREAK (R434): Input current stays below 0.25 mA, or recovers, for wb_ms -/
  | wireBreak (c : Nat) (x : HeldLevel)
  /-- DIO_FAULT (R435): An overload, thermal, readback or wire-break condition appears and dio_fault rises -/
  | dioFault (c : Nat) (k : FieldCond)
  /-- THERMAL_SHUTDOWN (R435): A channel exceeds its shutdown temperature and its switch opens until cooled -/
  | thermalShutdown (c : Nat)
  /-- VFIELD_CHANGE (R437): VFIELD crosses a low, undervoltage or overvoltage threshold -/
  | vfieldChange (mv held : Nat)
  /-- FIO_WRITE (R439): Writes field outputs at the effective frame tick -/
  | fioWrite (h : Hdr) (mask v : Nat)
  /-- FIO_QUERY (R439): Returns field levels, outputs, status and VFIELD -/
  | fioQuery (h : Hdr)
  /-- CAN_RX (R443): A received CAN frame passing the filters is stored in the receive queue -/
  | canRx (k : Nat) (f : CanFrame)
  /-- CAN_TX_DONE (R443): A transmit entry completes as sent, aborted or refused -/
  | canTxDone (k : Nat) (ok : Bool) (sof : Nat)
  /-- CAN_TX_PUT (R443): Software advances the transmit put index -/
  | canTxPut (r : Req) (k : Nat) (v : Word)
  /-- CAN_RX_ACK (R443): Software advances the receive acknowledge index -/
  | canRxAck (r : Req) (k : Nat) (v : Word)
  /-- CAN_ABORT (R444): Writing abort completes pending transmit entries as aborted -/
  | canAbort (r : Req) (k : Nat)
  /-- CAN_BUS_OFF (R445): TEC exceeds 255 and the controller enters bus-off -/
  | canBusOff (k : Nat)
  /-- CAN_BUS_OFF_RECOVERY (R445): 128 occurrences of 11 recessive bits return the controller to error active -/
  | canBusOffRecovery (k n : Nat)
  /-- CAN_REFERENCE (R447): Fabric time reaches a multiple of period_ms and a reference message is sent or skipped -/
  | canReference (k : Nat)
  /-- CAN_TIME_MASTER (R449): Configures the time-master reference messages of a controller -/
  | canTimeMaster (h : Hdr) (b : List Byte)
  /-- CAN_QUERY (R449): Returns the status and indices of a controller -/
  | canQuery (h : Hdr) (k : Nat)
  /-- UART_RX_BYTE (R451): A UART frame is received into the receive FIFO -/
  | uartRxByte (n : Nat) (bits : Nat) (parity stop : Bool)
  /-- UART_DATA_WRITE (R452): A write of UART_DATA queues a byte for transmission -/
  | uartDataWrite (r : Req) (n : Nat) (v : Word)
  /-- UART_TX_BYTE_SENT (R452): A byte's last stop bit is sent and DE is released when the FIFO empties -/
  | uartTxByteSent (n : Nat)
  /-- UPD_BEGIN (R460): Opens an update session and erases the inactive slot -/
  | updBegin (h : Hdr) (length : Nat)
  /-- UPD_ERASED (R460): The erase of the session slot completes -/
  | updErased
  /-- UPD_BLOCK (R461): Delivers and checks one 4 KiB image block -/
  | updBlock (h : Hdr) (index crc : Nat) (block : Option (List Byte))
  /-- UPD_BLOCK_PROGRAMMED (R461): A block's last page program completes -/
  | updBlockProgrammed (index : Nat)
  /-- UPD_ACTIVATE (R462): Verifies a complete slot and makes it pending -/
  | updActivate (h : Hdr)
  /-- UPD_VERIFIED (R462): Verification of the slot completes and it becomes verified and pending -/
  | updVerified
  /-- UPD_COMMIT (R462): Advances the anti-rollback counter and makes the trial slot active -/
  | updCommit (h : Hdr)
  /-- UPD_CANCEL (R462): Clears the pending slot -/
  | updCancel (h : Hdr)
  /-- UPD_QUERY (R464): Returns update status, slot states and OTP state -/
  | updQuery (h : Hdr)
  /-- FLASH_OPERATION_TIMEOUT (R458): A flash erase or page program does not finish in time and fails -/
  | flashOperationTimeout (erase : Bool) (index : Nat)
  /-- FINIAL_SUBMISSION_FRAME (R466): A complete submission frame is received by Finial on UART 0 -/
  | finialSubmissionFrame (rest : List Byte)
  /-- FINIAL_BLOCK_FRAME (R466): A complete block frame is received by Finial on UART 0 -/
  | finialBlockFrame (rest : List Byte)
  /-- FINIAL_FRAME_TIMEOUT (R466): A Finial frame does not complete within 100 ms and is discarded -/
  | finialFrameTimeout
  /-- TAP_INSTRUCTION_LOAD (R470): A TAP loads an instruction; a scan-control instruction causes a device reaction -/
  | tapInstructionLoad (drum : Bool) (op : Nat)
  /-- SCAN_CONTROL_EXIT (R470): No TAP holds a scan-control instruction any longer and the device resets -/
  | scanControlExit (drum : Bool) (op : Nat)
  /-- DBG_AUTH (R475): A debug token is checked against the challenge to open the debug port -/
  | dbgAuth (token : List Byte)
  /-- CP_HALT (R477): The debug port halts or resumes a command processor -/
  | cpHalt (cp : Nat) (halt : Bool)
  /-- TEST_UNLOCK (R474): A write of the test unlock register advances or voids the production-test unlock -/
  | testUnlock (r : Req) (v : Word) (within : Bool)
  /-- PERTURBATION_WRITE (R471): A write of a perturbation register is accepted or refused by mode -/
  | perturbationWrite (r : Req) (addr width : Nat) (x : WrData)
  /-- DMA_HOLD_EXPIRY (R472): hold_us elapses and held DMA channels are granted again -/
  | dmaHoldExpiry
  /-- CAN_BUS_ERROR (R445): A bus error (stuff, form, acknowledge, bit or CRC) is detected, lec and the error counters change, and the controller may pass between error active and error passive -/
  | canBusError (k lec : Nat) (tx : Bool)
  /-- CAN_ACK_DELAY_EXPIRY (R472): delay_us after a write of CAN_RX_ACK or CAN_TX_ACK of a masked controller, the delayed write takes effect -/
  | canAckDelayExpiry (k : Nat)
  /-- UPD_COMMITTED (R462): The OTP steps and the boot-record write of a commit finish, UPD_ACTIVATE completes with DONE and UPD_COMMITTED is raised -/
  | updCommitted
  /-- THERMAL_RESTART (R435): A field channel in thermal shutdown cools by 15 K and its switch closes again -/
  | thermalRestart (c : Nat)
  /-- DIO_FAULT_END (R435): The last unmasked overload, thermal, readback or wire-break condition ends and dio_fault falls to 0 -/
  | dioFaultEnd (c : Nat) (k : FieldCond)
  /-- VBAT_RESTORED (R78): VBAT rises back above 2.0 V while VSYS is present and vbat_low clears -/
  | vbatRestored
  /-- LINK_SIGNAL_DETECTED (R406): Signal appears at the receiver of a down link and the link enters training -/
  | linkSignalDetected (p : Nat)
  /-- PCIE_LINK_CHANGE (R360): The PCIe link trains up or changes state, speed or width, which updates HOST_PORT_STATUS and raises HOST_LINK_CHANGE -/
  | pcieLinkChange (up : Bool) (speed width : Nat)
  /-- VF_ENABLE (R335): Setting VF Enable, or raising NumVFs, brings client contexts into existence -/
  | vfEnable (numVfs : Nat)
  /-- PTP_SOURCE_LOSS (R424): The acting root loses its PTP source and holds r -/
  | ptpSourceLoss (p : Nat)
  /-- ARP_REQUEST (R425): An ARP request for the device's IPv4 address arrives on an Ethernet port and the device answers it -/
  | arpRequest (p target : Nat) (sender : List Byte)
  /-- SERIAL_FRAME_START (R226): lead × 10 ns before a frame tick of the port, the device starts a serial encoder frame, records t_latch and checks busy -/
  | serialFrameStart (c : Nat) (busy : Bool)
  /-- MSIX_UNMASK (R374): A masked MSI-X vector with its PBA bit set is unmasked and the pending message is sent -/
  | msixUnmask (cc v : Nat)
  deriving DecidableEq, Repr

end Sys2Proof
end

