-- ==== Sys2Proof/Decode.lean ====
section
/-!
DEFINITION. The command a word spells.  The table of the device's operations (95_what_each_step_holds.md) gives no row any bits:
a command is an entry with its opcode and its parameter block (Machine/Operands.lean), so no word spells one.
-/

namespace Sys2Proof

/-- The command that a word of `nbits` bits spells by the table's bits: the table gives no row any. -/
def decodeTableWord (_nbits _w : Nat) : Option Instr := none

end Sys2Proof
end

