-- ==== Sys2Proof/Config.lean ====
section
/-!
DEFINITION. What an implementation fixes and the spec leaves open: the free values (opaque constants, nothing in Lean can
evaluate them) and the real functions whose rounding the spec does not give (notes/assumptions/1.md, 15.md).
-/

namespace Sys2Proof.Config

/-- A free value of `n` kinds, drawn once each time the state's counter advances (notes/assumptions/1.md). -/
opaque free : Nat → Nat

/-- π as the device's angle arithmetic holds it (notes/assumptions/15.md). -/
opaque pi : Rat
/-- sine of an angle in rad. -/
opaque sin : Rat → Rat
/-- cosine of an angle in rad. -/
opaque cos : Rat → Rat
/-- the angle of the vector (second argument, first argument), in (−π, π]. -/
opaque atan2 : Rat → Rat → Rat
/-- arcsine of a value from −1 to 1. -/
opaque asin : Rat → Rat
/-- square root of a value not below 0. -/
opaque sqrt : Rat → Rat
/-- natural logarithm of a value above 0. -/
opaque log : Rat → Rat
/-- e to the power of its argument. -/
opaque exp : Rat → Rat

/-- what a quotient by zero gives where the spec states none, by its numerator (notes/assumptions/1.md). -/
opaque divZero : Rat → Rat

/-- byte `i` of the signature r, s that the unit's private key gives over a message (11 R327, R328; notes/assumptions/8.md). -/
opaque signByte : List (BitVec 8) → Nat → BitVec 8
/-- byte `i` of the unit's public key (11 R328). -/
opaque pubKey : Nat → BitVec 8

/-- the fixed transfer delay of a field channel's level from the Drum die, ns (08 R234). -/
opaque drumDelay : Nat

/-- the rate the proportional-integral servo of fabric time asks for, before its limits (14 R421; notes/assumptions/25.md): of the
error in 2⁻⁴⁰ ns, the sum of the errors and the present rate. -/
opaque servo : Int → Int → Int → Int
/-- byte `i` of the Ethernet address of port `p`, which the spec does not give (notes/assumptions/26.md). -/
opaque mac : Nat → Nat → BitVec 8

/-- the image-verification key gives an image's signature: of the key's 64 bytes and the whole image (16 R458;
notes/assumptions/31.md). -/
opaque imageSigned : List (BitVec 8) → List (BitVec 8) → Bool
/-- a debug token is the debug authority's signature over the UID and the challenge (16 R475; notes/assumptions/31.md). -/
opaque tokenSigned : List (BitVec 8) → List (BitVec 8) → List (BitVec 8) → Bool

end Sys2Proof.Config
end

