-- ==== Sys2Proof/Machine/Float.lean ====
section
/-!
DEFINITION. IEEE 754 binary32 as Cupola uses it (04_cupola_control.md R110), evaluated exactly over the rationals and rounded
once to nearest even; binary64 for the limiting step of R114.  Values the spec gives over real numbers elsewhere are
computed exactly and rounded the same way (notes/assumptions/15.md).
-/

namespace Sys2Proof.Machine

/-- The exponent field of a binary32 pattern. -/
def f32Exp (w : F32) : Nat := w.toNat / 2 ^ 23 % 256

/-- The fraction field of a binary32 pattern. -/
def f32Frac (w : F32) : Nat := w.toNat % 2 ^ 23

/-- The sign of a binary32 pattern. -/
def f32Neg (w : F32) : Bool := w.getLsbD 31

/-- Not a number. -/
def f32Nan (w : F32) : Bool := f32Exp w == 255 && f32Frac w != 0

/-- An infinity. -/
def f32Inf (w : F32) : Bool := f32Exp w == 255 && f32Frac w == 0

/-- A finite value. -/
def f32Finite (w : F32) : Bool := f32Exp w != 255

/-- 2 to the power of an integer. -/
def pow2 (e : Int) : Rat := if 0 ≤ e then ((2 ^ e.toNat : Nat) : Rat) else mkRat 1 (2 ^ (-e).toNat)

/-- Subnormal operands are flushed to zero with the sign kept (R110). -/
def f32Flush (w : F32) : F32 := if f32Exp w == 0 then w &&& 0x80000000 else w

/-- The value of a finite pattern, subnormals as they stand. -/
def f32Rat (w : F32) : Rat :=
  let m : Nat := if f32Exp w == 0 then f32Frac w else f32Frac w + 2 ^ 23
  let e : Int := if f32Exp w == 0 then -149 else (f32Exp w : Int) - 150
  let v := (m : Rat) * pow2 e
  if f32Neg w then -v else v

/-- The larger integer power of two exponent not above a positive rational: ⌊log₂ q⌋. -/
def ratLog2 (q : Rat) : Int :=
  let e : Int := (Nat.log2 q.num.natAbs : Int) - (Nat.log2 q.den : Int)
  if pow2 e ≤ q then e else e - 1

/-- A rational not below 0 rounded to an integer, ties to even. -/
def roundEven (q : Rat) : Nat :=
  let n := q.num.natAbs
  let f := n / q.den
  let r := 2 * (n % q.den)
  if r < q.den then f else if q.den < r then f + 1 else if f % 2 = 0 then f else f + 1

/-- A rational rounded once to binary32, round to nearest even, subnormal range included; an exact zero takes the sign
given. -/
def f32Round (zeroNeg : Bool) (q : Rat) : F32 :=
  if q = 0 then (if zeroNeg then 0x80000000 else 0)
  else
    let neg := decide (q < 0)
    let a : Rat := if neg then -q else q
    let k : Int := max (ratLog2 a - 23) (-149)
    let m := roundEven (a / pow2 k)
    let mag := (k + 149).toNat * 2 ^ 23 + m
    let mag := if mag ≥ 0x7F800000 then 0x7F800000 else mag
    BitVec.ofNat 32 (if neg then mag + 2 ^ 31 else mag)

/-- A rational as a register holds it: rounded, subnormal results replaced by zero of the same sign (R110). -/
def f32Of (q : Rat) : F32 := f32Flush (f32Round false q)

/-- The quiet pattern of an operation without a numeric result. -/
def f32NanPattern : F32 := 0x7FC00000

/-- An infinity of the sign given. -/
def f32InfPattern (neg : Bool) : F32 := if neg then 0xFF800000 else 0x7F800000

/-- The fused multiply-accumulate a × b + c of R110: operands flushed, one rounding, a subnormal result replaced by zero. -/
def f32Fma (a b c : F32) : F32 :=
  let a := f32Flush a; let b := f32Flush b; let c := f32Flush c
  let pneg := f32Neg a != f32Neg b
  if f32Nan a || f32Nan b || f32Nan c then f32NanPattern
  else if f32Inf a || f32Inf b then
    if f32Rat a = 0 && f32Finite a || f32Rat b = 0 && f32Finite b then f32NanPattern
    else if f32Inf c && f32Neg c != pneg then f32NanPattern
    else f32InfPattern pneg
  else if f32Inf c then c
  else
    let p := f32Rat a * f32Rat b
    let s := p + f32Rat c
    f32Flush (f32Round (if p = 0 && f32Rat c = 0 then pneg && f32Neg c else false) s)

/-- The product a × b, rounded once. -/
def f32Mul (a b : F32) : F32 :=
  let a := f32Flush a; let b := f32Flush b
  let pneg := f32Neg a != f32Neg b
  if f32Nan a || f32Nan b then f32NanPattern
  else if f32Inf a || f32Inf b then
    if (f32Finite a && f32Rat a = 0) || (f32Finite b && f32Rat b = 0) then f32NanPattern else f32InfPattern pneg
  else f32Flush (f32Round pneg (f32Rat a * f32Rat b))

/-- The negated value. -/
def f32NegOf (w : F32) : F32 := w ^^^ 0x80000000

/-- Order of two patterns that are not NaN: a < b, the zeros equal. -/
def f32Lt (a b : F32) : Bool :=
  if f32Nan a || f32Nan b then false
  else if f32Inf a then f32Neg a && !(f32Inf b && f32Neg b)
  else if f32Inf b then !f32Neg b
  else decide (f32Rat a < f32Rat b)

/-- a ≤ b for patterns that are not NaN. -/
def f32Le (a b : F32) : Bool := !(f32Nan a || f32Nan b) && !f32Lt b a

/-- Clamping to [lo, hi] (R114, first stage), operands flushed (R110). -/
def f32Clamp (lo hi x : F32) : F32 :=
  let lo := f32Flush lo; let hi := f32Flush hi; let x := f32Flush x
  if f32Lt x lo then lo else if f32Lt hi x then hi else x

/-- The value of a pattern: an infinity as ±2^1000, beyond every finite one so that comparisons come out right, and NaN as 0
(notes/assumptions/156.md). -/
def f32Val (w : F32) : Rat := if f32Finite w then f32Rat w else if f32Inf w then (if f32Neg w then -(2 ^ 1000) else 2 ^ 1000) else 0

/-- The integer square root: the largest r with r² ≤ n, found bit by bit. -/
def isqrtBits : Nat → Nat → Nat → Nat
  | 0, _, r => r
  | b + 1, n, r => if (r + 2 ^ b) * (r + 2 ^ b) ≤ n then isqrtBits b n (r + 2 ^ b) else isqrtBits b n r

/-- The largest r with r² ≤ n. -/
def isqrt (n : Nat) : Nat := isqrtBits (Nat.log2 n / 2 + 1) n 0

/-- A positive rational rounded to 53 significant bits, ties to even: binary64 within its normal range. -/
def d64Round (q : Rat) : Rat :=
  if q = 0 then 0
  else
    let neg := decide (q < 0)
    let a : Rat := if neg then -q else q
    let k := ratLog2 a - 52
    let v := (roundEven (a / pow2 k) : Rat) * pow2 k
    if neg then -v else v

/-- The correctly rounded binary64 square root of a rational not below 0: enough bits of the root are taken for the
rounding to be that of the exact root. -/
def d64Sqrt (q : Rat) : Rat :=
  if q ≤ 0 then 0
  else
    -- q = s × 4^(-k) with s large: the root of ⌊s⌋ carries at least 60 bits, a sticky bit marks what is cut
    let k : Int := 70 - ratLog2 q / 2
    let s := q * pow2 (2 * k)
    let n := s.num.natAbs / s.den
    let r := isqrt n
    let sticky : Nat := if (r * r : Rat) = s then 0 else 1
    d64Round ((2 * r + sticky : Rat) * pow2 (-k - 1))

/-- √3 in binary64. -/
def d64Sqrt3 : Rat := d64Sqrt 3

/-- The limiting of a member's voltage pair in binary64 (R114): unchanged while |v| ≤ vec_lim × V_dc / √3, scaled
otherwise, each component rounded once to binary32. -/
def limitPair (vecLim vdc v1 v2 : F32) : F32 × F32 :=
  if !(f32Finite v1 && f32Finite v2 && f32Finite vecLim && f32Finite vdc) then (v1, v2)
  else
    let a := f32Rat (f32Flush v1); let b := f32Rat (f32Flush v2)
    let mag := d64Sqrt (d64Round (d64Round (a * a) + d64Round (b * b)))
    let lim := d64Round (d64Round (f32Rat (f32Flush vecLim) * f32Rat (f32Flush vdc)) / d64Sqrt3)
    if mag ≤ lim then (v1, v2)
    else
      let f := d64Round (lim / mag)
      (f32Flush (f32Round (f32Neg v1 != decide (f < 0)) (d64Round (a * f))),
       f32Flush (f32Round (f32Neg v2 != decide (f < 0)) (d64Round (b * f))))

/-- A rational rounded to an integer toward minus infinity. -/
def ratFloor (q : Rat) : Int := q.floor

/-- A rational rounded to the nearest integer, ties away from zero. -/
def ratRound (q : Rat) : Int := if q < 0 then -((-q + mkRat 1 2).floor) else (q + mkRat 1 2).floor

/-- The absolute value of a rational. -/
def ratAbs (q : Rat) : Rat := if q < 0 then -q else q

end Sys2Proof.Machine
end

