-- ==== Sys2Proof/Machine/RegAddr.lean ====
section
/-!
DEFINITION. The offsets of the registers in the register space, under the spec's own names (00_scope.md R11); an array
takes its indices as arguments.  Client pages are keyed as in Machine/RegTable.lean.
-/

namespace Sys2Proof.Machine.A

/-- R19 -/
def SYS_DEV_ID : Nat := 0x0
/-- R20 -/
def SYS_REV : Nat := 0x4
/-- R53 -/
def SYS_MODE : Nat := 0x8
/-- R57 -/
def SYS_RST_CAUSE : Nat := 0xc
/-- R30 -/
def SYS_ACC_FAULT : Nat := 0x20
/-- R30 -/
def SYS_ACC_SRC : Nat := 0x24
/-- R35 -/
def SYS_TICK_CFG : Nat := 0x100
/-- R35 -/
def SYS_TICK_STATUS : Nat := 0x104
/-- R36 -/
def SYS_TICK_COUNT_LO : Nat := 0x108
/-- R36 -/
def SYS_TICK_COUNT_HI : Nat := 0x10c
/-- R44 -/
def SYS_OVERRUN : Nat := 0x110
/-- R45 -/
def SYS_S1_PEAK : Nat := 0x114
/-- R81 -/
def SYS_SUPPLY_STATUS : Nat := 0x200
/-- R81 -/
def SYS_DIP_CFG : Nat := 0x204
/-- R81 -/
def SYS_DIP_LAST : Nat := 0x208
/-- R72 -/
def SYS_WAKE_CFG : Nat := 0x300
/-- R76 -/
def SYS_WAKE_STATE : Nat := 0x304
/-- R76 -/
def SYS_AX_REST_LO : Nat := 0x308
/-- R76 -/
def SYS_AX_REST_HI : Nat := 0x30c
/-- R76 -/
def SYS_WAKE_LAST : Nat := 0x310
/-- R66 -/
def SYS_AX_REST_CFG (n : Nat) : Nat := 0x400 + 0x4 * n
/-- R496 -/
def SYS_TJ : Nat := 0x500
/-- R64 -/
def SYS_WAKE_BUDGET (n : Nat) : Nat := 0x1000 + 0x8 * n
/-- R64 -/
def SYS_WAKE_AXES (n : Nat) : Nat := 0x1004 + 0x8 * n
/-- R427 -/
def TIME_NOW_LO : Nat := 0x10000
/-- R427 -/
def TIME_NOW_HI : Nat := 0x10004
/-- R427 -/
def TIME_NOW_FRAC : Nat := 0x10008
/-- R427 -/
def TIME_CNT_LO : Nat := 0x10010
/-- R427 -/
def TIME_CNT_HI : Nat := 0x10014
/-- R427 -/
def TIME_RATE : Nat := 0x10018
/-- R427 -/
def TIME_STATUS : Nat := 0x10020
/-- R427 -/
def TIME_ERR : Nat := 0x10024
/-- R427 -/
def TIME_CFG : Nat := 0x10030
/-- R427 -/
def TIME_PTP_STATUS : Nat := 0x10040
/-- R90 -/
def BELFRY_CFG : Nat := 0x30000
/-- R93 -/
def BELFRY_IN_CFG (n : Nat) : Nat := 0x30040 + 0x4 * n
/-- R93 -/
def BELFRY_IN_VAL : Nat := 0x30090
/-- R93 -/
def BELFRY_ANA_VAL : Nat := 0x30094
/-- R98 -/
def BELFRY_FLAGS : Nat := 0x30098
/-- R102 -/
def BELFRY_BELL : Nat := 0x3009c
/-- R98 -/
def BELFRY_RULE_STATE : Nat := 0x300a0
/-- R101 -/
def BELFRY_LOG_WP : Nat := 0x300b0
/-- R101 -/
def BELFRY_LOG_RP : Nat := 0x300b4
/-- R101 -/
def BELFRY_LOG_SEQ : Nat := 0x300b8
/-- R101 -/
def BELFRY_LOG_SW : Nat := 0x300bc
/-- R104 -/
def BELFRY_RET_VALID : Nat := 0x300c0
/-- R104 -/
def BELFRY_RET_LOST : Nat := 0x300c4
/-- R105 -/
def BELFRY_SNAP_STATUS : Nat := 0x300c8
/-- R94 -/
def BELFRY_RULE_COND (n : Nat) : Nat := 0x30100 + 0x8 * n
/-- R95 -/
def BELFRY_RULE_ACT (n : Nat) : Nat := 0x30104 + 0x8 * n
/-- R85 -/
def BELFRY_BKP_STATUS : Nat := 0x3f000
/-- R85 -/
def BELFRY_BKP_ALM_CFG : Nat := 0x3f004
/-- R85 -/
def BELFRY_RTC_LO : Nat := 0x3f010
/-- R85 -/
def BELFRY_RTC_HI : Nat := 0x3f014
/-- R85 -/
def BELFRY_RTC_SET_LO : Nat := 0x3f018
/-- R85 -/
def BELFRY_RTC_SET_HI : Nat := 0x3f01c
/-- R85 -/
def BELFRY_BKP_CTRL : Nat := 0x3f020
/-- R369 -/
def EVT_ROUTE (n : Nat) : Nat := 0x40000 + 0x4 * n
/-- R386 -/
def DMA_STATUS : Nat := 0x80000
/-- R386 -/
def DMA_CAND : Nat := 0x80004
/-- R386 -/
def DMA_RESUME : Nat := 0x80008
/-- R386 -/
def DMA_HALT_T_LO : Nat := 0x80010
/-- R386 -/
def DMA_HALT_T_HI : Nat := 0x80014
/-- R386 -/
def DMA_CH_OWN (n : Nat) : Nat := 0x81000 + 0x40 * n
/-- R386 -/
def DMA_CH_CFG (n : Nat) : Nat := 0x81004 + 0x40 * n
/-- R386 -/
def DMA_CH_STATUS (n : Nat) : Nat := 0x81018 + 0x40 * n
/-- R386 -/
def DMA_CH_CTRL (n : Nat) : Nat := 0x8101c + 0x40 * n
/-- R386 -/
def DMA_CH_TRIG (n : Nat) : Nat := 0x81024 + 0x40 * n
/-- R386 -/
def DMA_CH_RING_LO (n : Nat) : Nat := 0x81008 + 0x40 * n
/-- R386 -/
def DMA_CH_RING_HI (n : Nat) : Nat := 0x8100c + 0x40 * n
/-- R386 -/
def DMA_CH_TAIL (n : Nat) : Nat := 0x81010 + 0x40 * n
/-- R386 -/
def DMA_CH_HEAD (n : Nat) : Nat := 0x81014 + 0x40 * n
/-- R386 -/
def DMA_CH_POS (n : Nat) : Nat := 0x81020 + 0x40 * n
/-- R359 -/
def HOST_PORT_STATUS : Nat := 0xd0000
/-- R359 -/
def HOST_INFLIGHT_DEV : Nat := 0xd0004
/-- R359 -/
def HOST_INFLIGHT_FAB : Nat := 0xd0008
/-- R359 -/
def HOST_RINGS : Nat := 0xd000c
/-- R359 -/
def HOST_FAB_ERR : Nat := 0xd0010
/-- R359 -/
def HOST_FAB_ERR_INFO : Nat := 0xd0014
/-- R359 -/
def HOST_SPI_STATUS : Nat := 0xd0020
/-- R359 -/
def HOST_SPI_IRQ : Nat := 0xd0024
/-- R359 -/
def HOST_SPI_IRQ_MASK : Nat := 0xd0028
/-- R362 -/
def HOST_CLIENT (n : Nat) : Nat := 0xd1000 + 0x4 * n
/-- R426 -/
def HOST_UDP_CFG : Nat := 0xd2000
/-- R426 -/
def HOST_UDP_DROPS : Nat := 0xd2004
/-- R426 -/
def HOST_ETH_IP (n : Nat) : Nat := 0xd2008 + 0x4 * n
/-- R426 -/
def HOST_UDP_BIND (n : Nat) : Nat := 0xd2020 + 0x8 * n
/-- R426 -/
def HOST_UDP_ADDR (n : Nat) : Nat := 0xd2024 + 0x8 * n
/-- R341 -/
def HOST_CC_ID (n : Nat) : Nat := 0x1000000 + 0x10000 * n
/-- R341 -/
def HOST_CC_STATUS (n : Nat) : Nat := 0x1000004 + 0x10000 * n
/-- R341 -/
def HOST_ADM_SQ_LO : Nat := 0x1000010
/-- R341 -/
def HOST_ADM_SQ_HI : Nat := 0x1000014
/-- R341 -/
def HOST_ADM_CQ_LO : Nat := 0x1000018
/-- R341 -/
def HOST_ADM_CQ_HI : Nat := 0x100001c
/-- R341 -/
def HOST_ADM_CFG : Nat := 0x1000020
/-- R373 -/
def HOST_EVQ_LO (n : Nat) : Nat := 0x1000030 + 0x10000 * n
/-- R373 -/
def HOST_EVQ_HI (n : Nat) : Nat := 0x1000034 + 0x10000 * n
/-- R373 -/
def HOST_EVQ_CFG (n : Nat) : Nat := 0x1000038 + 0x10000 * n
/-- R373 -/
def HOST_EVQ_HEAD (n : Nat) : Nat := 0x100003c + 0x10000 * n
/-- R373 -/
def HOST_EVQ_STATUS (n : Nat) : Nat := 0x1000040 + 0x10000 * n
/-- R374 -/
def HOST_VEC_MOD (n : Nat) (i : Nat) : Nat := 0x1000100 + 0x10000 * n + 0x4 * i
/-- R341 -/
def HOST_SQ_TAIL (n : Nat) (i : Nat) : Nat := 0x1001000 + 0x10000 * n + 0x8 * i
/-- R341 -/
def HOST_CQ_HEAD (n : Nat) (i : Nat) : Nat := 0x1001004 + 0x10000 * n + 0x8 * i
/-- R341 -/
def HOST_SQ_HEAD (n : Nat) (i : Nat) : Nat := 0x1001800 + 0x10000 * n + 0x4 * i
/-- R416 -/
def FAB_CFG : Nat := 0x100000
/-- R416 -/
def FAB_STATUS : Nat := 0x100004
/-- R416 -/
def FAB_SLOT : Nat := 0x100008
/-- R416 -/
def FAB_LINK_STATUS (n : Nat) : Nat := 0x100010 + 0x4 * n
/-- R416 -/
def FAB_LINK_DELAY (n : Nat) : Nat := 0x100020 + 0x4 * n
/-- R416 -/
def FAB_NODE (n : Nat) : Nat := 0x100100 + 0x4 * n
/-- R416 -/
def FAB_NODE_UID (n : Nat) (i : Nat) : Nat := 0x100200 + 0x10 * n + 0x4 * i
/-- R330 -/
def SAF_STATUS : Nat := 0x140000
/-- R330 -/
def SAF_CAUSE : Nat := 0x140004
/-- R330 -/
def SAF_CH_STATUS : Nat := 0x140008
/-- R330 -/
def SAF_IN_STATE : Nat := 0x140010
/-- R330 -/
def SAF_OUT_STATE : Nat := 0x140014
/-- R330 -/
def SAF_DEG : Nat := 0x140020
/-- R330 -/
def SAF_UNLOCK : Nat := 0x140040
/-- R330 -/
def SAF_UNLOCK_STATUS : Nat := 0x140044
/-- R330 -/
def SAF_REC_SEQ_LO : Nat := 0x140050
/-- R330 -/
def SAF_REC_SEQ_HI : Nat := 0x140054
/-- R330 -/
def SAF_REC_GEN : Nat := 0x140058
/-- R311 -/
def SAF_CFG_GEN : Nat := 0x141000
/-- R311 -/
def SAF_IN_CFG (n : Nat) : Nat := 0x141040 + 0x4 * n
/-- R311 -/
def SAF_TP_CFG : Nat := 0x141080
/-- R311 -/
def SAF_OUT_CFG (n : Nat) : Nat := 0x1410a0 + 0x4 * n
/-- R311 -/
def SAF_OUT_TIME (n : Nat) : Nat := 0x1410c0 + 0x4 * n
/-- R311 -/
def SAF_GRP_CFG (n : Nat) : Nat := 0x141100 + 0x4 * n
/-- R311 -/
def SAF_SPD_CFG (n : Nat) : Nat := 0x141120 + 0x8 * n
/-- R311 -/
def SAF_SPD_SCALE (n : Nat) : Nat := 0x141124 + 0x8 * n
/-- R311 -/
def SAF_KEEP_OS (n : Nat) : Nat := 0x141160 + 0x8 * n
/-- R311 -/
def SAF_KEEP_RSC (n : Nat) : Nat := 0x141164 + 0x8 * n
/-- R311 -/
def SAF_FN_EN (n : Nat) : Nat := 0x141180 + 0x4 * n
/-- R311 -/
def SAF_V_ZERO (n : Nat) : Nat := 0x141200 + 0x40 * n
/-- R311 -/
def SAF_V_OS (n : Nat) : Nat := 0x141204 + 0x40 * n
/-- R311 -/
def SAF_V_SLS (n : Nat) (i : Nat) : Nat := 0x141208 + 0x40 * n + 0x4 * i
/-- R311 -/
def SAF_V_RESCUE (n : Nat) : Nat := 0x141218 + 0x40 * n
/-- R311 -/
def SAF_V_INSP (n : Nat) : Nat := 0x14121c + 0x40 * n
/-- R311 -/
def SAF_A_MON (n : Nat) : Nat := 0x141220 + 0x40 * n
/-- R311 -/
def SAF_V_TOL (n : Nat) : Nat := 0x141224 + 0x40 * n
/-- R311 -/
def SAF_POS_TOL (n : Nat) : Nat := 0x141228 + 0x40 * n
/-- R311 -/
def SAF_UCM_DIST (n : Nat) : Nat := 0x14122c + 0x40 * n
/-- R311 -/
def SAF_MS_CFG (n : Nat) : Nat := 0x141230 + 0x40 * n
/-- R311 -/
def SAF_HR_RATIO (n : Nat) : Nat := 0x141234 + 0x40 * n
/-- R311 -/
def SAF_HR_CFG (n : Nat) : Nat := 0x141238 + 0x40 * n
/-- R311 -/
def SAF_RESCUE_DIST (n : Nat) : Nat := 0x14123c + 0x40 * n
/-- R311 -/
def SAF_AX_CFG (n : Nat) : Nat := 0x141300 + 0x4 * n
/-- R311 -/
def SAF_AX_SCALE (n : Nat) : Nat := 0x141380 + 0x4 * n
/-- R311 -/
def SAF_CFG_CRC : Nat := 0x141ffc
/-- R438 -/
def FIELD_CH_CFG (n : Nat) : Nat := 0x180000 + 0x4 * n
/-- R438 -/
def FIELD_OUT : Nat := 0x180080
/-- R438 -/
def FIELD_OUT_SET : Nat := 0x180084
/-- R438 -/
def FIELD_OUT_CLR : Nat := 0x180088
/-- R438 -/
def FIELD_OUT_EFF : Nat := 0x18008c
/-- R438 -/
def FIELD_LEVEL : Nat := 0x180090
/-- R438 -/
def FIELD_RAW : Nat := 0x180094
/-- R438 -/
def FIELD_FAULT_MASK : Nat := 0x180098
/-- R438 -/
def FIELD_STATUS : Nat := 0x1800a0
/-- R438 -/
def FIELD_VFIELD : Nat := 0x1800a4
/-- R448 -/
def CAN_CTRL (n : Nat) : Nat := 0x1a0000 + 0x8000 * n
/-- R448 -/
def CAN_NBT (n : Nat) : Nat := 0x1a0004 + 0x8000 * n
/-- R448 -/
def CAN_DBT (n : Nat) : Nat := 0x1a0008 + 0x8000 * n
/-- R448 -/
def CAN_TDC (n : Nat) : Nat := 0x1a000c + 0x8000 * n
/-- R448 -/
def CAN_STATUS (n : Nat) : Nat := 0x1a0010 + 0x8000 * n
/-- R448 -/
def CAN_COUNT (n : Nat) : Nat := 0x1a0014 + 0x8000 * n
/-- R448 -/
def CAN_RX_WP (n : Nat) : Nat := 0x1a0020 + 0x8000 * n
/-- R448 -/
def CAN_RX_ACK (n : Nat) : Nat := 0x1a0024 + 0x8000 * n
/-- R448 -/
def CAN_TX_PUT (n : Nat) : Nat := 0x1a0028 + 0x8000 * n
/-- R448 -/
def CAN_TX_DONE (n : Nat) : Nat := 0x1a002c + 0x8000 * n
/-- R448 -/
def CAN_TX_ACK (n : Nat) : Nat := 0x1a0030 + 0x8000 * n
/-- R448 -/
def CAN_TM_CFG (n : Nat) : Nat := 0x1a0040 + 0x8000 * n
/-- R448 -/
def CAN_TM_ID (n : Nat) : Nat := 0x1a0044 + 0x8000 * n
/-- R448 -/
def CAN_TM_STATUS (n : Nat) : Nat := 0x1a0048 + 0x8000 * n
/-- R448 -/
def CAN_FLT_ID (n : Nat) (i : Nat) : Nat := 0x1a0080 + 0x8000 * n + 0x8 * i
/-- R448 -/
def CAN_FLT_MASK (n : Nat) (i : Nat) : Nat := 0x1a0084 + 0x8000 * n + 0x8 * i
/-- R453 -/
def UART_CFG (n : Nat) : Nat := 0x1c0000 + 0x1000 * n
/-- R453 -/
def UART_DIV (n : Nat) : Nat := 0x1c0004 + 0x1000 * n
/-- R453 -/
def UART_DATA (n : Nat) : Nat := 0x1c0008 + 0x1000 * n
/-- R453 -/
def UART_STATUS (n : Nat) : Nat := 0x1c000c + 0x1000 * n
/-- R453 -/
def UART_RX_THR (n : Nat) : Nat := 0x1c0010 + 0x1000 * n
/-- R137 -/
def AX_CFG (n : Nat) : Nat := 0x200000 + 0x10000 * n
/-- R137 -/
def AX_STATE (n : Nat) : Nat := 0x200004 + 0x10000 * n
/-- R137 -/
def AX_FAULT_CAUSE (n : Nat) : Nat := 0x200008 + 0x10000 * n
/-- R137 -/
def AX_ADMIT_INFO (n : Nat) : Nat := 0x20000c + 0x10000 * n
/-- R137 -/
def AX_BANK_STATUS (n : Nat) : Nat := 0x200010 + 0x10000 * n
/-- R137 -/
def AX_OPEN_U (n : Nat) (i : Nat) : Nat := 0x200020 + 0x10000 * n + 0x4 * i
/-- R364 -/
def AX_OWNER (n : Nat) : Nat := 0x200040 + 0x10000 * n
/-- R364 -/
def AX_OBS (n : Nat) (i : Nat) : Nat := 0x200044 + 0x10000 * n + 0x4 * i
/-- R138 -/
def AX_SNAP_CTRL (n : Nat) : Nat := 0x200080 + 0x10000 * n
/-- R138 -/
def AX_SNAP_X (n : Nat) (i : Nat) : Nat := 0x200100 + 0x10000 * n + 0x4 * i
/-- R138 -/
def AX_SNAP_Y (n : Nat) (i : Nat) : Nat := 0x200200 + 0x10000 * n + 0x4 * i
/-- R138 -/
def AX_SNAP_W (n : Nat) (i : Nat) : Nat := 0x200280 + 0x10000 * n + 0x4 * i
/-- R138 -/
def AX_SNAP_U (n : Nat) (i : Nat) : Nat := 0x200300 + 0x10000 * n + 0x4 * i
/-- R138 -/
def AX_SNAP_TICK_LO (n : Nat) : Nat := 0x200340 + 0x10000 * n
/-- R138 -/
def AX_SNAP_TICK_HI (n : Nat) : Nat := 0x200344 + 0x10000 * n
/-- R150 -/
def AX_SD_CFG (n : Nat) : Nat := 0x201000 + 0x10000 * n
/-- R150 -/
def AX_SD_GAIN (n : Nat) (i : Nat) : Nat := 0x201010 + 0x10000 * n + 0x4 * i
/-- R150 -/
def AX_SD_OFS (n : Nat) (i : Nat) : Nat := 0x201020 + 0x10000 * n + 0x4 * i
/-- R151 -/
def AX_CV_ILIM (n : Nat) : Nat := 0x201030 + 0x10000 * n
/-- R151 -/
def AX_CV_STATUS (n : Nat) : Nat := 0x201034 + 0x10000 * n
/-- R145 -/
def AX_SDCLK_CFG (n : Nat) : Nat := 0x201040 + 0x40000 * n
/-- R145 -/
def AX_SDCLK_STATUS (n : Nat) : Nat := 0x201044 + 0x40000 * n
/-- R153 -/
def AX_BUS_CFG (n : Nat) : Nat := 0x201048 + 0x40000 * n
/-- R153 -/
def AX_BUS_GAIN (n : Nat) : Nat := 0x20104c + 0x40000 * n
/-- R153 -/
def AX_BUS_OFS (n : Nat) : Nat := 0x201050 + 0x40000 * n
/-- R153 -/
def AX_BUS_NOM (n : Nat) : Nat := 0x201054 + 0x40000 * n
/-- R152 -/
def AX_PRED_CFG (n : Nat) (i : Nat) : Nat := 0x201100 + 0x10000 * n + 0x8 * i
/-- R152 -/
def AX_PRED_GAIN (n : Nat) (i : Nat) : Nat := 0x201104 + 0x10000 * n + 0x8 * i
/-- R154 -/
def AX_POS_CFG (n : Nat) : Nat := 0x202000 + 0x10000 * n
/-- R157 -/
def AX_POS_ADV (n : Nat) : Nat := 0x202004 + 0x10000 * n
/-- R157 -/
def AX_POS_WSCALE (n : Nat) : Nat := 0x202008 + 0x10000 * n
/-- R157 -/
def AX_W_RATED (n : Nat) : Nat := 0x20200c + 0x10000 * n
/-- R159 -/
def AX_INJ_CFG (n : Nat) : Nat := 0x202010 + 0x10000 * n
/-- R159 -/
def AX_INJ_AMP (n : Nat) : Nat := 0x202014 + 0x10000 * n
/-- R159 -/
def AX_INJ_GAIN (n : Nat) : Nat := 0x202018 + 0x10000 * n
/-- R159 -/
def AX_POL_AMP (n : Nat) : Nat := 0x20201c + 0x10000 * n
/-- R162 -/
def AX_BLEND_CFG (n : Nat) : Nat := 0x202020 + 0x10000 * n
/-- R161 -/
def AX_EMF_R (n : Nat) : Nat := 0x202024 + 0x10000 * n
/-- R161 -/
def AX_EMF_LQ (n : Nat) : Nat := 0x202028 + 0x10000 * n
/-- R161 -/
def AX_EMF_PSI (n : Nat) : Nat := 0x20202c + 0x10000 * n
/-- R163 -/
def AX_IM_CFG (n : Nat) : Nat := 0x202030 + 0x10000 * n
/-- R164 -/
def AX_ENC_ANGLE_CFG (n : Nat) : Nat := 0x202040 + 0x10000 * n
/-- R164 -/
def AX_ENC_CPR (n : Nat) : Nat := 0x202044 + 0x10000 * n
/-- R164 -/
def AX_ENC_OFS (n : Nat) : Nat := 0x202048 + 0x10000 * n
/-- R168 -/
def AX_CATCH_CFG (n : Nat) : Nat := 0x202050 + 0x10000 * n
/-- R168 -/
def AX_CATCH_VTHR (n : Nat) : Nat := 0x202054 + 0x10000 * n
/-- R168 -/
def AX_CATCH_ANGLE (n : Nat) : Nat := 0x202058 + 0x10000 * n
/-- R168 -/
def AX_CATCH_SPEED (n : Nat) : Nat := 0x20205c + 0x10000 * n
/-- R168 -/
def AX_CATCH_AMPL (n : Nat) : Nat := 0x202060 + 0x10000 * n
/-- R168 -/
def AX_CATCH_GEN (n : Nat) : Nat := 0x202064 + 0x10000 * n
/-- R168 -/
def AX_POS_STATUS (n : Nat) : Nat := 0x202070 + 0x10000 * n
/-- R172 -/
def AX_WAVE_CFG (n : Nat) : Nat := 0x203800 + 0x10000 * n
/-- R181 -/
def AX_ADV_SPAN (n : Nat) : Nat := 0x203804 + 0x10000 * n
/-- R184 -/
def AX_REV_THR (n : Nat) : Nat := 0x203808 + 0x10000 * n
/-- R184 -/
def AX_DIR (n : Nat) : Nat := 0x20380c + 0x10000 * n
/-- R186 -/
def AX_SHORT_CFG (n : Nat) : Nat := 0x203810 + 0x10000 * n
/-- R186 -/
def AX_SHORT_ILIM (n : Nat) : Nat := 0x203814 + 0x10000 * n
/-- R186 -/
def AX_SHORT_WEND (n : Nat) : Nat := 0x203818 + 0x10000 * n
/-- R188 -/
def AX_START_U (n : Nat) (i : Nat) : Nat := 0x203820 + 0x10000 * n + 0x4 * i
/-- R190 -/
def AX_FLUX_NOM (n : Nat) : Nat := 0x203830 + 0x10000 * n
/-- R190 -/
def AX_SEQ_CFG (n : Nat) : Nat := 0x203834 + 0x10000 * n
/-- R193 -/
def AX_DRIVE_STATUS (n : Nat) : Nat := 0x203840 + 0x10000 * n
/-- R181 -/
def AX_ADV_TAB (n : Nat) (i : Nat) : Nat := 0x203880 + 0x10000 * n + 0x4 * i
/-- R197 -/
def PWM_CTRL (n : Nat) : Nat := 0x203000 + 0x10000 * n
/-- R203 -/
def PWM_STATUS (n : Nat) : Nat := 0x203008 + 0x10000 * n
/-- R203 -/
def PWM_PERIOD (n : Nat) : Nat := 0x20300c + 0x10000 * n
/-- R203 -/
def PWM_ACT (n : Nat) (i : Nat) : Nat := 0x203010 + 0x10000 * n + 0x4 * i
/-- R206 -/
def PWM_DT_LIM (n : Nat) : Nat := 0x203020 + 0x10000 * n
/-- R207 -/
def PWM_DT_CFG (n : Nat) : Nat := 0x203024 + 0x10000 * n
/-- R207 -/
def PWM_DT_ACT (n : Nat) (i : Nat) : Nat := 0x203030 + 0x10000 * n + 0x4 * i
/-- R212 -/
def PWM_TRIP_CFG (n : Nat) : Nat := 0x203040 + 0x10000 * n
/-- R212 -/
def PWM_TRIP_WIN (n : Nat) : Nat := 0x203044 + 0x10000 * n
/-- R212 -/
def PWM_TRIP_STATUS (n : Nat) : Nat := 0x203048 + 0x10000 * n
/-- R214 -/
def PWM_GTRIP_CFG (n : Nat) : Nat := 0x203100 + 0x80000 * n
/-- R214 -/
def PWM_GTRIP_MASK (n : Nat) : Nat := 0x203104 + 0x80000 * n
/-- R214 -/
def PWM_GTRIP_STATUS (n : Nat) : Nat := 0x203108 + 0x80000 * n
/-- R231 -/
def FB_CFG (n : Nat) : Nat := 0x204000 + 0x10000 * n
/-- R231 -/
def FB_STATUS (n : Nat) : Nat := 0x204004 + 0x10000 * n
/-- R231 -/
def FB_COUNT_LO (n : Nat) : Nat := 0x204008 + 0x10000 * n
/-- R231 -/
def FB_COUNT_HI (n : Nat) : Nat := 0x20400c + 0x10000 * n
/-- R231 -/
def FB_LIM_LO_LO (n : Nat) : Nat := 0x204010 + 0x10000 * n
/-- R231 -/
def FB_LIM_LO_HI (n : Nat) : Nat := 0x204014 + 0x10000 * n
/-- R231 -/
def FB_LIM_HI_LO (n : Nat) : Nat := 0x204018 + 0x10000 * n
/-- R231 -/
def FB_LIM_HI_HI (n : Nat) : Nat := 0x20401c + 0x10000 * n
/-- R231 -/
def FB_ORIGIN_LO (n : Nat) : Nat := 0x204020 + 0x10000 * n
/-- R231 -/
def FB_ORIGIN_HI (n : Nat) : Nat := 0x204024 + 0x10000 * n
/-- R231 -/
def FB_REF_VAL_LO (n : Nat) : Nat := 0x204028 + 0x10000 * n
/-- R231 -/
def FB_REF_VAL_HI (n : Nat) : Nat := 0x20402c + 0x10000 * n
/-- R231 -/
def FB_SPEED (n : Nat) : Nat := 0x204030 + 0x10000 * n
/-- R231 -/
def FB_REF_DELTA_LO (n : Nat) : Nat := 0x204034 + 0x10000 * n
/-- R231 -/
def FB_REF_DELTA_HI (n : Nat) : Nat := 0x204038 + 0x10000 * n
/-- R231 -/
def FB_ERR_COUNT (n : Nat) : Nat := 0x20403c + 0x10000 * n
/-- R233 -/
def FB_CMP_CTRL (n : Nat) (i : Nat) : Nat := 0x204100 + 0x10000 * n + 0x40 * i
/-- R233 -/
def FB_CMP_BASE_LO (n : Nat) (i : Nat) : Nat := 0x204104 + 0x10000 * n + 0x40 * i
/-- R233 -/
def FB_CMP_BASE_HI (n : Nat) (i : Nat) : Nat := 0x204108 + 0x10000 * n + 0x40 * i
/-- R233 -/
def FB_CMP_STEP (n : Nat) (i : Nat) : Nat := 0x20410c + 0x10000 * n + 0x40 * i
/-- R233 -/
def FB_CMP_WIN (n : Nat) (i : Nat) : Nat := 0x204110 + 0x10000 * n + 0x40 * i
/-- R233 -/
def FB_CMP_STATUS (n : Nat) (i : Nat) : Nat := 0x204114 + 0x10000 * n + 0x40 * i
/-- R233 -/
def FB_CMP_HIT_T_LO (n : Nat) (i : Nat) : Nat := 0x204118 + 0x10000 * n + 0x40 * i
/-- R233 -/
def FB_CMP_HIT_T_HI (n : Nat) (i : Nat) : Nat := 0x20411c + 0x10000 * n + 0x40 * i
/-- R233 -/
def FB_CMP_HIT_GEN (n : Nat) (i : Nat) : Nat := 0x204120 + 0x10000 * n + 0x40 * i
/-- R233 -/
def FB_CMP_MISS_BASE_LO (n : Nat) (i : Nat) : Nat := 0x204124 + 0x10000 * n + 0x40 * i
/-- R233 -/
def FB_CMP_MISS_BASE_HI (n : Nat) (i : Nat) : Nat := 0x204128 + 0x10000 * n + 0x40 * i
/-- R235 -/
def FB_LAT_CTRL (n : Nat) (i : Nat) : Nat := 0x204200 + 0x10000 * n + 0x20 * i
/-- R235 -/
def FB_LAT_GEN (n : Nat) (i : Nat) : Nat := 0x204204 + 0x10000 * n + 0x20 * i
/-- R235 -/
def FB_LAT_T_LO (n : Nat) (i : Nat) : Nat := 0x204208 + 0x10000 * n + 0x20 * i
/-- R235 -/
def FB_LAT_T_HI (n : Nat) (i : Nat) : Nat := 0x20420c + 0x10000 * n + 0x20 * i
/-- R235 -/
def FB_LAT_CNT_LO (n : Nat) (i : Nat) : Nat := 0x204210 + 0x10000 * n + 0x20 * i
/-- R235 -/
def FB_LAT_CNT_HI (n : Nat) (i : Nat) : Nat := 0x204214 + 0x10000 * n + 0x20 * i
/-- R231 -/
def FB_SER_CFG (n : Nat) : Nat := 0x204800 + 0x10000 * n
/-- R231 -/
def FB_SER_TIMING (n : Nat) : Nat := 0x204804 + 0x10000 * n
/-- R231 -/
def FB_SER_LEAD (n : Nat) : Nat := 0x204808 + 0x10000 * n
/-- R231 -/
def FB_SER_STATUS (n : Nat) : Nat := 0x20480c + 0x10000 * n
/-- R231 -/
def FB_SER_RAW_LO (n : Nat) : Nat := 0x204810 + 0x10000 * n
/-- R231 -/
def FB_SER_RAW_HI (n : Nat) : Nat := 0x204814 + 0x10000 * n
/-- R235 -/
def FB_LTCH_CFG (n : Nat) : Nat := 0x204840 + 0x10000 * n
/-- R236 -/
def FB_SYNC_STATUS : Nat := 0x204880
/-- R236 -/
def FB_SYNC_T_LO : Nat := 0x204884
/-- R236 -/
def FB_SYNC_T_HI : Nat := 0x204888
/-- R237 -/
def FB_REP_CFG (n : Nat) : Nat := 0x204900 + 0x10000 * n
/-- R246 -/
def PROF_CFG (n : Nat) : Nat := 0x205000 + 0x10000 * n
/-- R243 -/
def PROF_V_MAX (n : Nat) : Nat := 0x205004 + 0x10000 * n
/-- R243 -/
def PROF_A_MAX (n : Nat) : Nat := 0x205008 + 0x10000 * n
/-- R243 -/
def PROF_J_MAX (n : Nat) : Nat := 0x20500c + 0x10000 * n
/-- R243 -/
def PROF_STOP_A (n : Nat) : Nat := 0x205010 + 0x10000 * n
/-- R243 -/
def PROF_STOP_J (n : Nat) : Nat := 0x205014 + 0x10000 * n
/-- R246 -/
def VLIM_LO_LO (n : Nat) : Nat := 0x205018 + 0x10000 * n
/-- R246 -/
def VLIM_LO_HI (n : Nat) : Nat := 0x20501c + 0x10000 * n
/-- R246 -/
def VLIM_HI_LO (n : Nat) : Nat := 0x205020 + 0x10000 * n
/-- R246 -/
def VLIM_HI_HI (n : Nat) : Nat := 0x205024 + 0x10000 * n
/-- R246 -/
def PROF_STATUS (n : Nat) : Nat := 0x205040 + 0x10000 * n
/-- R246 -/
def PROF_REF_P_LO (n : Nat) : Nat := 0x205048 + 0x10000 * n
/-- R246 -/
def PROF_REF_P_HI (n : Nat) : Nat := 0x20504c + 0x10000 * n
/-- R246 -/
def PROF_REF_V (n : Nat) : Nat := 0x205050 + 0x10000 * n
/-- R246 -/
def PROF_REF_A (n : Nat) : Nat := 0x205054 + 0x10000 * n
/-- R252 -/
def PROF_STREAM_WP (n : Nat) : Nat := 0x205060 + 0x10000 * n
/-- R252 -/
def PROF_STREAM_RP (n : Nat) : Nat := 0x205064 + 0x10000 * n
/-- R252 -/
def PROF_AHEAD (n : Nat) : Nat := 0x205068 + 0x10000 * n
/-- R257 -/
def PT_CFG (n : Nat) : Nat := 0x205080 + 0x10000 * n
/-- R257 -/
def PT_SCALE_N (n : Nat) : Nat := 0x205084 + 0x10000 * n
/-- R257 -/
def PT_SCALE_D (n : Nat) : Nat := 0x205088 + 0x10000 * n
/-- R257 -/
def PT_MSTEP (n : Nat) : Nat := 0x20508c + 0x10000 * n
/-- R264 -/
def GEAR_STATUS (n : Nat) : Nat := 0x206000 + 0x10000 * n
/-- R264 -/
def GEAR_MASTER (n : Nat) : Nat := 0x206004 + 0x10000 * n
/-- R264 -/
def GEAR_N (n : Nat) : Nat := 0x206008 + 0x10000 * n
/-- R264 -/
def GEAR_D (n : Nat) : Nat := 0x20600c + 0x10000 * n
/-- R264 -/
def GEAR_M_POS_LO (n : Nat) : Nat := 0x206010 + 0x10000 * n
/-- R264 -/
def GEAR_M_POS_HI (n : Nat) : Nat := 0x206014 + 0x10000 * n
/-- R264 -/
def GEAR_M_AGE (n : Nat) : Nat := 0x206018 + 0x10000 * n
/-- R273 -/
def LS_MEMBER (n : Nat) : Nat := 0x206200 + 0x10000 * n
/-- R273 -/
def LS_SHARE_NOW (n : Nat) : Nat := 0x206204 + 0x10000 * n
/-- R273 -/
def LS_GRP_CFG (n : Nat) : Nat := 0x207000 + 0x10000 * n
/-- R273 -/
def LS_GRP_MEM (n : Nat) (i : Nat) : Nat := 0x207004 + 0x10000 * n + 0x4 * i
/-- R273 -/
def LS_GRP_STATUS (n : Nat) : Nat := 0x207024 + 0x10000 * n
/-- R273 -/
def LS_GRP_TOTAL (n : Nat) : Nat := 0x207028 + 0x10000 * n
/-- R269 -/
def VM_STATUS (n : Nat) : Nat := 0x207800 + 0x10000 * n
/-- R269 -/
def VM_REF_P_LO (n : Nat) : Nat := 0x207808 + 0x10000 * n
/-- R269 -/
def VM_REF_P_HI (n : Nat) : Nat := 0x20780c + 0x10000 * n
/-- R269 -/
def VM_REF_V (n : Nat) : Nat := 0x207810 + 0x10000 * n
/-- R269 -/
def VM_REF_A (n : Nat) : Nat := 0x207814 + 0x10000 * n
/-- R265 -/
def GEAR_PUB_CFG (n : Nat) : Nat := 0x207c00 + 0x4 * n
/-- R139 -/
def CUPOLA_STATUS : Nat := 0x400000
/-- R139 -/
def CUPOLA_LIMIT : Nat := 0x400004
/-- R139 -/
def CUPOLA_LOAD0 (n : Nat) : Nat := 0x400040 + 0x4 * n
/-- R139 -/
def CUPOLA_LOAD1 (n : Nat) : Nat := 0x400060 + 0x4 * n
/-- R119 -/
def CUPOLA_GRP_CFG (n : Nat) : Nat := 0x400100 + 0x4 * n
/-- R139 -/
def CUPOLA_SHED_PLAN (n : Nat) : Nat := 0x400200 + 0x4 * n
/-- R139 -/
def CUPOLA_FAIL_TICK_LO : Nat := 0x400210
/-- R139 -/
def CUPOLA_FAIL_TICK_HI : Nat := 0x400214
/-- R295 -/
def OCU_STATUS : Nat := 0x500000
/-- R295 -/
def OCU_CFG : Nat := 0x500004
/-- R295 -/
def OCU_NREC : Nat := 0x500008
/-- R295 -/
def OCU_PRE : Nat := 0x50000c
/-- R295 -/
def OCU_POST : Nat := 0x500010
/-- R295 -/
def OCU_MEM_BASE : Nat := 0x500014
/-- R295 -/
def OCU_MEM_SIZE : Nat := 0x500018
/-- R295 -/
def OCU_STREAM_CFG : Nat := 0x50001c
/-- R295 -/
def OCU_RING_WP : Nat := 0x500020
/-- R295 -/
def OCU_RING_RP : Nat := 0x500024
/-- R295 -/
def OCU_TRIG_TIME_LO : Nat := 0x500028
/-- R295 -/
def OCU_TRIG_TIME_HI : Nat := 0x50002c
/-- R295 -/
def OCU_SETTLE_BAND : Nat := 0x500030
/-- R295 -/
def OCU_CH (n : Nat) : Nat := 0x500040 + 0x4 * n
/-- R295 -/
def OCU_SEQ_COND (n : Nat) : Nat := 0x500100 + 0x20 * n
/-- R295 -/
def OCU_SEQ_THR (n : Nat) : Nat := 0x500104 + 0x20 * n
/-- R295 -/
def OCU_SEQ_MASK (n : Nat) : Nat := 0x500108 + 0x20 * n
/-- R295 -/
def OCU_SEQ_CNT (n : Nat) : Nat := 0x50010c + 0x20 * n
/-- R295 -/
def OCU_SEQ_TMO (n : Nat) : Nat := 0x500110 + 0x20 * n
/-- R295 -/
def OCU_REC_GEN : Nat := 0x500200
/-- R295 -/
def OCU_REC_ADDR : Nat := 0x500204
/-- R295 -/
def OCU_REC_SEQ : Nat := 0x500208
/-- R295 -/
def OCU_TRIG_T_LO : Nat := 0x500210
/-- R295 -/
def OCU_TRIG_T_HI : Nat := 0x500214
/-- R295 -/
def OCU_TRIG_OFS : Nat := 0x500218
/-- R295 -/
def OCU_DEAD : Nat := 0x50021c
/-- R295 -/
def OCU_IGNORED : Nat := 0x500220
/-- R295 -/
def OCU_MEAS (n : Nat) (i : Nat) : Nat := 0x500400 + 0x20 * n + 0x4 * i
/-- R300 -/
def LAN_CFG (n : Nat) : Nat := 0x501000 + 0x200 * n
/-- R300 -/
def LAN_AMP (n : Nat) : Nat := 0x501004 + 0x200 * n
/-- R300 -/
def LAN_F0 (n : Nat) : Nat := 0x501008 + 0x200 * n
/-- R300 -/
def LAN_F1 (n : Nat) : Nat := 0x50100c + 0x200 * n
/-- R300 -/
def LAN_LEN (n : Nat) : Nat := 0x501010 + 0x200 * n
/-- R300 -/
def LAN_FADE (n : Nat) : Nat := 0x501014 + 0x200 * n
/-- R300 -/
def LAN_PRBS (n : Nat) : Nat := 0x501018 + 0x200 * n
/-- R300 -/
def LAN_SEED (n : Nat) : Nat := 0x50101c + 0x200 * n
/-- R300 -/
def LAN_MS_CFG (n : Nat) : Nat := 0x501020 + 0x200 * n
/-- R300 -/
def LAN_STATUS (n : Nat) : Nat := 0x501024 + 0x200 * n
/-- R300 -/
def LAN_N (n : Nat) : Nat := 0x501028 + 0x200 * n
/-- R300 -/
def LAN_OUT (n : Nat) : Nat := 0x50102c + 0x200 * n
/-- R300 -/
def LAN_MS_H (n : Nat) (i : Nat) : Nat := 0x501100 + 0x200 * n + 0x10 * i
/-- R300 -/
def LAN_MS_A (n : Nat) (i : Nat) : Nat := 0x501104 + 0x200 * n + 0x10 * i
/-- R300 -/
def LAN_MS_PH (n : Nat) (i : Nat) : Nat := 0x501108 + 0x200 * n + 0x10 * i
/-- R467 -/
def UPD_STATUS : Nat := 0x600000
/-- R467 -/
def UPD_SESSION : Nat := 0x600004
/-- R467 -/
def UPD_SLOT (n : Nat) : Nat := 0x600010 + 0x8 * n
/-- R467 -/
def UPD_SLOT_BUILD (n : Nat) : Nat := 0x600014 + 0x8 * n
/-- R467 -/
def UPD_OTP : Nat := 0x600030
/-- R467 -/
def UPD_UID (n : Nat) : Nat := 0x600040 + 0x4 * n
/-- R467 -/
def UPD_KEY (n : Nat) : Nat := 0x600100 + 0x4 * n
/-- R473 -/
def TEST_S1_DELAY : Nat := 0x700000
/-- R473 -/
def TEST_RING : Nat := 0x700010
/-- R473 -/
def TEST_DMA_HOLD : Nat := 0x700020
/-- R473 -/
def TEST_DMA_HOLD_US : Nat := 0x700024
/-- R473 -/
def TEST_CAN_ACK : Nat := 0x700030
/-- R474 -/
def TEST_UNLOCK : Nat := 0x700080
/-- R474 -/
def TEST_UNLOCK_STATUS : Nat := 0x700084
/-- R476 -/
def DBG_CTRL : Nat := 0x700100
/-- R473 -/
def TEST_SD_FLIP (n : Nat) : Nat := 0x700200 + 0x4 * n

end Sys2Proof.Machine.A
end

