-- ==== Sys2Proof/Machine/RegTable.lean ====
section
/-!
DEFINITION. The register table of the device: one row per register (or register array) of the spec's register tables,
with its offset in the 16 MiB register space (01_architecture_tick.md R21, R22), its value at reset, the bits a write
sets (RW), the bits a written 1 clears (W1C) or sets (W1S), and who may write it and when.  Client page cc (12_host_commands.md
R341) is keyed at 0x100_0000 + cc × 0x1_0000; CC0's page is also mapped at HOST offset 0.  All other bits are read only.
-/

namespace Sys2Proof.Machine

/-- Who may write a register: the rule its chapter names. -/
inductive Who where
  /-- any requester -/
  | any
  /-- CC0 only, kind NOT_PERMITTED -/
  | cc0
  /-- the owner of the axis or CC0 (01 R29), kind NOT_OWNER -/
  | owner
  /-- the client of the pair or CC0 (02 R64), kind NOT_PERMITTED -/
  | pair
  /-- the owner of the DMA channel or CC0 (13 R386) -/
  | dma
  /-- the owner of the CAN controller or CC0 (15 R448) -/
  | can
  /-- the owner of the UART or CC0 (15 R453) -/
  | uart
  /-- the Oculus holder or CC0 (10 R277) -/
  | holder
  /-- the owner of the generator's axis or CC0 (10 R300) -/
  | lan
  /-- CC0 or the debug port (16 R471) -/
  | test
  /-- no write changes it (13 R364) -/
  | noone
  deriving DecidableEq, Repr

/-- When a register accepts a write; in any other mode or axis state the kind is WRONG_MODE. -/
inductive WhenW where
  /-- in any mode -/
  | any
  /-- CONFIGURE-only (01 R29) -/
  | configure
  /-- while its axis is OFF or PARKED -/
  | parked
  /-- while its axis is OFF, PARKED or OPEN -/
  | parkedOpen
  deriving DecidableEq, Repr

/-- One row of the register table: `n1` copies at stride `s1`, each of `n2` words at stride `s2`. -/
structure RegRow where
  name : String
  base : Nat
  n1 : Nat
  s1 : Nat
  n2 : Nat
  s2 : Nat
  reset : Nat
  rw : Nat
  w1c : Nat
  w1s : Nat
  /-- W1C fields cleared whole by a 1 in any of their bits -/
  fields : List Nat
  who : Who
  at_ : WhenW
  deriving DecidableEq, Repr

/-- A single register, or an array of one or two dimensions. -/
def mkRow (name : String) (base n1 s1 n2 s2 reset rw w1c w1s : Nat) (fields : List Nat) (who : Who) (at_ : WhenW) : RegRow :=
  { name, base, n1, s1, n2, s2, reset, rw, w1c, w1s, fields, who, at_ }

def sysRows0 : List RegRow := [
  mkRow "SYS_DEV_ID" 0x0 1 0x1 1 0x1 0x4b320a40 0x0 0x0 0x0 [] .any .any,
  mkRow "SYS_REV" 0x4 1 0x1 1 0x1 0x111 0x0 0x0 0x0 [] .any .any,
  mkRow "SYS_MODE" 0x8 1 0x1 1 0x1 0x1ff 0x0 0x0 0x0 [] .any .any,
  mkRow "SYS_RST_CAUSE" 0xc 1 0x1 1 0x1 0x1 0x0 0xff 0x0 [] .any .any,
  mkRow "SYS_ACC_FAULT" 0x20 1 0x1 1 0x1 0x0 0x0 0x80000000 0x0 [] .any .any,
  mkRow "SYS_ACC_SRC" 0x24 1 0x1 1 0x1 0x0 0x0 0x0 0x0 [] .any .any,
  mkRow "SYS_TICK_CFG" 0x100 1 0x1 1 0x1 0x1 0x133 0x0 0x0 [] .any .configure,
  mkRow "SYS_TICK_STATUS" 0x104 1 0x1 1 0x1 0x1 0x0 0x600 0x0 [] .any .any,
  mkRow "SYS_TICK_COUNT_LO" 0x108 1 0x1 1 0x1 0x0 0x0 0x0 0x0 [] .any .any,
  mkRow "SYS_TICK_COUNT_HI" 0x10c 1 0x1 1 0x1 0x0 0x0 0x0 0x0 [] .any .any,
  mkRow "SYS_OVERRUN" 0x110 1 0x1 1 0x1 0x0 0x0 0x0 0x0 [] .any .any,
  mkRow "SYS_S1_PEAK" 0x114 1 0x1 1 0x1 0x0 0x0 0x0 0x0 [] .any .any,
  mkRow "SYS_SUPPLY_STATUS" 0x200 1 0x1 1 0x1 0x0 0x0 0x8 0x0 [] .any .any,
  mkRow "SYS_DIP_CFG" 0x204 1 0x1 1 0x1 0xa 0x3ff 0x0 0x0 [] .any .any,
  mkRow "SYS_DIP_LAST" 0x208 1 0x1 1 0x1 0x0 0x0 0x0 0x0 [] .any .any,
  mkRow "SYS_WAKE_CFG" 0x300 1 0x1 1 0x1 0x3e800 0xffff03 0x0 0x0 [] .any .any,
  mkRow "SYS_WAKE_STATE" 0x304 1 0x1 1 0x1 0xffffff04 0x0 0x20 0x0 [] .any .any,
  mkRow "SYS_AX_REST_LO" 0x308 1 0x1 1 0x1 0x0 0x0 0x0 0x0 [] .any .any,
  mkRow "SYS_AX_REST_HI" 0x30c 1 0x1 1 0x1 0x0 0x0 0x0 0x0 [] .any .any,
  mkRow "SYS_WAKE_LAST" 0x310 1 0x1 1 0x1 0x0 0x0 0x80000000 0x0 [] .any .any ]

def sysRows1 : List RegRow := [
  mkRow "SYS_AX_REST_CFG" 0x400 32 0x4 1 0x1 0x1 0xfffff07 0x0 0x0 [] .any .configure,
  mkRow "SYS_TJ" 0x500 1 0x1 1 0x1 0x0 0x0 0x10000 0x0 [] .any .any,
  mkRow "SYS_WAKE_BUDGET" 0x1000 512 0x8 1 0x1 0xffffff 0x80ffffff 0x0 0x0 [] .pair .any,
  mkRow "SYS_WAKE_AXES" 0x1004 512 0x8 1 0x1 0x0 0xffffffff 0x0 0x0 [] .pair .any ]

/-- The registers of this block. -/
def sysRows : List RegRow := sysRows0 ++ sysRows1

def timeRows0 : List RegRow := [
  mkRow "TIME_NOW_LO" 0x10000 1 0x1 1 0x1 0x0 0x0 0x0 0x0 [] .any .any,
  mkRow "TIME_NOW_HI" 0x10004 1 0x1 1 0x1 0x0 0x0 0x0 0x0 [] .any .any,
  mkRow "TIME_NOW_FRAC" 0x10008 1 0x1 1 0x1 0x0 0x0 0x0 0x0 [] .any .any,
  mkRow "TIME_CNT_LO" 0x10010 1 0x1 1 0x1 0x0 0x0 0x0 0x0 [] .any .any,
  mkRow "TIME_CNT_HI" 0x10014 1 0x1 1 0x1 0x0 0x0 0x0 0x0 [] .any .any,
  mkRow "TIME_RATE" 0x10018 1 0x1 1 0x1 0x0 0x0 0x0 0x0 [] .any .any,
  mkRow "TIME_STATUS" 0x10020 1 0x1 1 0x1 0x0 0x0 0x20 0x0 [] .any .any,
  mkRow "TIME_ERR" 0x10024 1 0x1 1 0x1 0x0 0x0 0x0 0x0 [] .any .any,
  mkRow "TIME_CFG" 0x10030 1 0x1 1 0x1 0x2001f4 0xffffff 0x0 0x0 [] .cc0 .configure,
  mkRow "TIME_PTP_STATUS" 0x10040 1 0x1 1 0x1 0x0 0x0 0x0 0x0 [] .any .any ]

/-- The registers of this block. -/
def timeRows : List RegRow := timeRows0

def belfryRows0 : List RegRow := [
  mkRow "BELFRY_CFG" 0x30000 1 0x1 1 0x1 0x0 0x7 0x0 0x0 [] .cc0 .any,
  mkRow "BELFRY_IN_CFG" 0x30040 18 0x4 1 0x1 0x0 0x7ffff 0x0 0x0 [] .cc0 .any,
  mkRow "BELFRY_IN_VAL" 0x30090 1 0x1 1 0x1 0x0 0x0 0xffff0000 0x0 [] .any .any,
  mkRow "BELFRY_ANA_VAL" 0x30094 1 0x1 1 0x1 0x0 0x0 0x0 0x0 [] .any .any,
  mkRow "BELFRY_FLAGS" 0x30098 1 0x1 1 0x1 0x0 0x0 0xffffffff 0x0 [] .any .any,
  mkRow "BELFRY_BELL" 0x3009c 1 0x1 1 0x1 0x0 0x0 0x1 0x0 [] .any .any,
  mkRow "BELFRY_RULE_STATE" 0x300a0 1 0x1 1 0x1 0x0 0x0 0x0 0x0 [] .any .any,
  mkRow "BELFRY_LOG_WP" 0x300b0 1 0x1 1 0x1 0x0 0x0 0xffff0000 0x0 [0xffff0000] .any .any,
  mkRow "BELFRY_LOG_RP" 0x300b4 1 0x1 1 0x1 0x0 0x7ff 0x0 0x0 [] .any .any,
  mkRow "BELFRY_LOG_SEQ" 0x300b8 1 0x1 1 0x1 0x0 0x0 0x0 0x0 [] .any .any,
  mkRow "BELFRY_LOG_SW" 0x300bc 1 0x1 1 0x1 0x0 0x0 0x0 0x0 [] .any .any,
  mkRow "BELFRY_RET_VALID" 0x300c0 1 0x1 1 0x1 0x0 0x0 0x0 0x0 [] .any .any,
  mkRow "BELFRY_RET_LOST" 0x300c4 1 0x1 1 0x1 0x0 0x0 0xffffffff 0x0 [] .any .any,
  mkRow "BELFRY_SNAP_STATUS" 0x300c8 1 0x1 1 0x1 0x0 0x0 0x2 0x0 [] .any .any,
  mkRow "BELFRY_RULE_COND" 0x30100 32 0x8 1 0x1 0x0 0x8fffffff 0x0 0x0 [] .cc0 .any,
  mkRow "BELFRY_RULE_ACT" 0x30104 32 0x8 1 0x1 0x0 0x1f 0x0 0x0 [] .cc0 .any,
  mkRow "BELFRY_BKP_STATUS" 0x3f000 1 0x1 1 0x1 0x10 0x0 0x1f 0x0 [] .any .any,
  mkRow "BELFRY_BKP_ALM_CFG" 0x3f004 1 0x1 1 0x1 0x2100 0xff77 0x0 0x0 [] .any .any,
  mkRow "BELFRY_RTC_LO" 0x3f010 1 0x1 1 0x1 0x0 0x0 0x0 0x0 [] .any .any,
  mkRow "BELFRY_RTC_HI" 0x3f014 1 0x1 1 0x1 0x0 0x0 0x0 0x0 [] .any .any ]

def belfryRows1 : List RegRow := [
  mkRow "BELFRY_RTC_SET_LO" 0x3f018 1 0x1 1 0x1 0x0 0xffffffff 0x0 0x0 [] .any .any,
  mkRow "BELFRY_RTC_SET_HI" 0x3f01c 1 0x1 1 0x1 0x0 0xffffffff 0x0 0x0 [] .any .any,
  mkRow "BELFRY_BKP_CTRL" 0x3f020 1 0x1 1 0x1 0x0 0x0 0x0 0x1 [] .any .any ]

/-- The registers of this block. -/
def belfryRows : List RegRow := belfryRows0 ++ belfryRows1

def eventRows0 : List RegRow := [
  mkRow "EVT_ROUTE" 0x40000 1024 0x4 1 0x1 0x4000 0x1ffff 0x0 0x0 [] .cc0 .any ]

/-- The registers of this block. -/
def eventRows : List RegRow := eventRows0

def dmaRows0 : List RegRow := [
  mkRow "DMA_STATUS" 0x80000 1 0x1 1 0x1 0x0 0x0 0x0 0x0 [] .any .any,
  mkRow "DMA_CAND" 0x80004 1 0x1 1 0x1 0x0 0x0 0x0 0x0 [] .any .any,
  mkRow "DMA_RESUME" 0x80008 1 0x1 1 0x1 0x0 0x0 0x0 0x0 [] .cc0 .any,
  mkRow "DMA_HALT_T_LO" 0x80010 1 0x1 1 0x1 0x0 0x0 0x0 0x0 [] .any .any,
  mkRow "DMA_HALT_T_HI" 0x80014 1 0x1 1 0x1 0x0 0x0 0x0 0x0 [] .any .any,
  mkRow "DMA_CH_OWN" 0x81000 32 0x40 1 0x1 0x0 0x1ff01ff 0x0 0x0 [] .cc0 .any,
  mkRow "DMA_CH_CFG" 0x81004 32 0x40 1 0x1 0x4a 0xff 0x0 0x0 [] .dma .any,
  mkRow "DMA_CH_STATUS" 0x81018 32 0x40 1 0x1 0x0 0x0 0xffff0000 0x0 [0xffff0000] .dma .any,
  mkRow "DMA_CH_CTRL" 0x8101c 32 0x40 1 0x1 0x0 0x0 0x0 0x7 [] .dma .any,
  mkRow "DMA_CH_TRIG" 0x81024 32 0x40 1 0x1 0x0 0x83ff 0xff000000 0x0 [0xff000000] .dma .any,
  mkRow "DMA_CH_RING_LO" 0x81008 32 0x40 1 0x1 0x0 0xffffffff 0x0 0x0 [] .dma .any,
  mkRow "DMA_CH_RING_HI" 0x8100c 32 0x40 1 0x1 0x0 0xffffffff 0x0 0x0 [] .dma .any,
  mkRow "DMA_CH_TAIL" 0x81010 32 0x40 1 0x1 0x0 0x0 0x0 0x0 [] .dma .any,
  mkRow "DMA_CH_HEAD" 0x81014 32 0x40 1 0x1 0x0 0x0 0x0 0x0 [] .dma .any,
  mkRow "DMA_CH_POS" 0x81020 32 0x40 1 0x1 0x0 0x0 0x0 0x0 [] .dma .any ]

/-- The registers of this block. -/
def dmaRows : List RegRow := dmaRows0

def hostRows0 : List RegRow := [
  mkRow "HOST_PORT_STATUS" 0xd0000 1 0x1 1 0x1 0x0 0x0 0x0 0x0 [] .any .any,
  mkRow "HOST_INFLIGHT_DEV" 0xd0004 1 0x1 1 0x1 0x0 0x0 0x0 0x0 [] .any .any,
  mkRow "HOST_INFLIGHT_FAB" 0xd0008 1 0x1 1 0x1 0x0 0x0 0x0 0x0 [] .any .any,
  mkRow "HOST_RINGS" 0xd000c 1 0x1 1 0x1 0x0 0x0 0x0 0x0 [] .any .any,
  mkRow "HOST_FAB_ERR" 0xd0010 1 0x1 1 0x1 0x0 0x0 0x80000000 0x0 [] .any .any,
  mkRow "HOST_FAB_ERR_INFO" 0xd0014 1 0x1 1 0x1 0x0 0x0 0x0 0x0 [] .any .any,
  mkRow "HOST_SPI_STATUS" 0xd0020 1 0x1 1 0x1 0x0 0x0 0xffff000f 0x0 [0xffff0000] .any .any,
  mkRow "HOST_SPI_IRQ" 0xd0024 1 0x1 1 0x1 0x0 0x0 0xffffffff 0x0 [] .any .any,
  mkRow "HOST_SPI_IRQ_MASK" 0xd0028 1 0x1 1 0x1 0x0 0xffffffff 0x0 0x0 [] .any .any,
  mkRow "HOST_CLIENT" 0xd1000 512 0x4 1 0x1 0x4040 0x0 0x0 0x0 [] .any .any,
  mkRow "HOST_UDP_CFG" 0xd2000 1 0x1 1 0x1 0xfc0 0x3ffff 0x0 0x0 [] .cc0 .any,
  mkRow "HOST_UDP_DROPS" 0xd2004 1 0x1 1 0x1 0x0 0x0 0xffffffff 0x0 [0xffffffff] .cc0 .any,
  mkRow "HOST_ETH_IP" 0xd2008 2 0x4 1 0x1 0x0 0xffffffff 0x0 0x0 [] .cc0 .any,
  mkRow "HOST_UDP_BIND" 0xd2020 16 0x8 1 0x1 0x0 0xffff81ff 0x0 0x0 [] .cc0 .any,
  mkRow "HOST_UDP_ADDR" 0xd2024 16 0x8 1 0x1 0x0 0xffffffff 0x0 0x0 [] .cc0 .any ]

/-- The registers of this block. -/
def hostRows : List RegRow := hostRows0

def fabricRows0 : List RegRow := [
  mkRow "FAB_CFG" 0x100000 1 0x1 1 0x1 0x1007 0xff07 0x0 0x0 [] .cc0 .configure,
  mkRow "FAB_STATUS" 0x100004 1 0x1 1 0x1 0x0 0x0 0x0 0x0 [] .any .any,
  mkRow "FAB_SLOT" 0x100008 1 0x1 1 0x1 0x0 0x0 0x1000000 0x0 [] .any .any,
  mkRow "FAB_LINK_STATUS" 0x100010 2 0x4 1 0x1 0x1 0x0 0xffff0000 0x0 [0xffff0000] .any .any,
  mkRow "FAB_LINK_DELAY" 0x100020 2 0x4 1 0x1 0x0 0x0 0x0 0x0 [] .any .any,
  mkRow "FAB_NODE" 0x100100 64 0x4 1 0x1 0x0 0x0 0x0 0x0 [] .any .any,
  mkRow "FAB_NODE_UID" 0x100200 64 0x10 4 0x4 0x0 0x0 0x0 0x0 [] .any .any ]

/-- The registers of this block. -/
def fabricRows : List RegRow := fabricRows0

def safetyRows0 : List RegRow := [
  mkRow "SAF_STATUS" 0x140000 1 0x1 1 0x1 0xf00 0x0 0x0 0x0 [] .any .any,
  mkRow "SAF_CAUSE" 0x140004 1 0x1 1 0x1 0x0 0x0 0x0 0x0 [] .any .any,
  mkRow "SAF_CH_STATUS" 0x140008 1 0x1 1 0x1 0xffffffff 0x0 0x0 0x0 [] .any .any,
  mkRow "SAF_IN_STATE" 0x140010 1 0x1 1 0x1 0x0 0x0 0x0 0x0 [] .any .any,
  mkRow "SAF_OUT_STATE" 0x140014 1 0x1 1 0x1 0xff00 0x0 0x0 0x0 [] .any .any,
  mkRow "SAF_DEG" 0x140020 1 0x1 1 0x1 0x0 0x0 0x0 0x0 [] .any .any,
  mkRow "SAF_UNLOCK" 0x140040 1 0x1 1 0x1 0x0 0xffff 0x0 0x0 [] .cc0 .any,
  mkRow "SAF_UNLOCK_STATUS" 0x140044 1 0x1 1 0x1 0x0 0x0 0x0 0x0 [] .any .any,
  mkRow "SAF_REC_SEQ_LO" 0x140050 1 0x1 1 0x1 0x0 0x0 0x0 0x0 [] .any .any,
  mkRow "SAF_REC_SEQ_HI" 0x140054 1 0x1 1 0x1 0x0 0x0 0x0 0x0 [] .any .any,
  mkRow "SAF_REC_GEN" 0x140058 1 0x1 1 0x1 0x0 0x0 0x0 0x0 [] .any .any,
  mkRow "SAF_CFG_GEN" 0x141000 1 0x1 1 0x1 0x3c03e8 0x0 0x0 0x0 [] .any .any,
  mkRow "SAF_IN_CFG" 0x141040 16 0x4 1 0x1 0x0 0x0 0x0 0x0 [] .any .any,
  mkRow "SAF_TP_CFG" 0x141080 1 0x1 1 0x1 0x264 0x0 0x0 0x0 [] .any .any,
  mkRow "SAF_OUT_CFG" 0x1410a0 8 0x4 1 0x1 0x0 0x0 0x0 0x0 [] .any .any,
  mkRow "SAF_OUT_TIME" 0x1410c0 8 0x4 1 0x1 0x0 0x0 0x0 0x0 [] .any .any,
  mkRow "SAF_GRP_CFG" 0x141100 4 0x4 1 0x1 0x0 0x0 0x0 0x0 [] .any .any,
  mkRow "SAF_SPD_CFG" 0x141120 8 0x8 1 0x1 0x0 0x0 0x0 0x0 [] .any .any,
  mkRow "SAF_SPD_SCALE" 0x141124 8 0x8 1 0x1 0x0 0x0 0x0 0x0 [] .any .any,
  mkRow "SAF_KEEP_OS" 0x141160 4 0x8 1 0x1 0x0 0x0 0x0 0x0 [] .any .any ]

def safetyRows1 : List RegRow := [
  mkRow "SAF_KEEP_RSC" 0x141164 4 0x8 1 0x1 0x0 0x0 0x0 0x0 [] .any .any,
  mkRow "SAF_FN_EN" 0x141180 4 0x4 1 0x1 0x0 0x0 0x0 0x0 [] .any .any,
  mkRow "SAF_V_ZERO" 0x141200 4 0x40 1 0x1 0x0 0x0 0x0 0x0 [] .any .any,
  mkRow "SAF_V_OS" 0x141204 4 0x40 1 0x1 0x0 0x0 0x0 0x0 [] .any .any,
  mkRow "SAF_V_SLS" 0x141208 4 0x40 4 0x4 0x0 0x0 0x0 0x0 [] .any .any,
  mkRow "SAF_V_RESCUE" 0x141218 4 0x40 1 0x1 0x0 0x0 0x0 0x0 [] .any .any,
  mkRow "SAF_V_INSP" 0x14121c 4 0x40 1 0x1 0x0 0x0 0x0 0x0 [] .any .any,
  mkRow "SAF_A_MON" 0x141220 4 0x40 1 0x1 0x0 0x0 0x0 0x0 [] .any .any,
  mkRow "SAF_V_TOL" 0x141224 4 0x40 1 0x1 0x0 0x0 0x0 0x0 [] .any .any,
  mkRow "SAF_POS_TOL" 0x141228 4 0x40 1 0x1 0x0 0x0 0x0 0x0 [] .any .any,
  mkRow "SAF_UCM_DIST" 0x14122c 4 0x40 1 0x1 0x0 0x0 0x0 0x0 [] .any .any,
  mkRow "SAF_MS_CFG" 0x141230 4 0x40 1 0x1 0x0 0x0 0x0 0x0 [] .any .any,
  mkRow "SAF_HR_RATIO" 0x141234 4 0x40 1 0x1 0x0 0x0 0x0 0x0 [] .any .any,
  mkRow "SAF_HR_CFG" 0x141238 4 0x40 1 0x1 0x0 0x0 0x0 0x0 [] .any .any,
  mkRow "SAF_RESCUE_DIST" 0x14123c 4 0x40 1 0x1 0x0 0x0 0x0 0x0 [] .any .any,
  mkRow "SAF_AX_CFG" 0x141300 32 0x4 1 0x1 0x0 0x0 0x0 0x0 [] .any .any,
  mkRow "SAF_AX_SCALE" 0x141380 32 0x4 1 0x1 0x3f800000 0x0 0x0 0x0 [] .any .any,
  mkRow "SAF_CFG_CRC" 0x141ffc 1 0x1 1 0x1 0x0 0x0 0x0 0x0 [] .any .any ]

/-- The registers of this block. -/
def safetyRows : List RegRow := safetyRows0 ++ safetyRows1

def fieldRows0 : List RegRow := [
  mkRow "FIELD_CH_CFG" 0x180000 32 0x4 1 0x1 0xa000001 0xff3fffff 0x0 0x0 [] .cc0 .any,
  mkRow "FIELD_OUT" 0x180080 1 0x1 1 0x1 0x0 0xffffffff 0x0 0x0 [] .cc0 .any,
  mkRow "FIELD_OUT_SET" 0x180084 1 0x1 1 0x1 0x0 0x0 0x0 0x0 [] .cc0 .any,
  mkRow "FIELD_OUT_CLR" 0x180088 1 0x1 1 0x1 0x0 0x0 0x0 0x0 [] .cc0 .any,
  mkRow "FIELD_OUT_EFF" 0x18008c 1 0x1 1 0x1 0x0 0x0 0x0 0x0 [] .any .any,
  mkRow "FIELD_LEVEL" 0x180090 1 0x1 1 0x1 0x0 0x0 0x0 0x0 [] .any .any,
  mkRow "FIELD_RAW" 0x180094 1 0x1 1 0x1 0x0 0x0 0x0 0x0 [] .any .any,
  mkRow "FIELD_FAULT_MASK" 0x180098 1 0x1 1 0x1 0x0 0xffffffff 0x0 0x0 [] .cc0 .any,
  mkRow "FIELD_STATUS" 0x1800a0 1 0x1 1 0x1 0x0 0x0 0xffff0022 0x0 [0xffff0000] .any .any,
  mkRow "FIELD_VFIELD" 0x1800a4 1 0x1 1 0x1 0x0 0x0 0x0 0x0 [] .any .any ]

/-- The registers of this block. -/
def fieldRows : List RegRow := fieldRows0

def canRows0 : List RegRow := [
  mkRow "CAN_CTRL" 0x1a0000 4 0x8000 1 0x1 0x0 0x1ff001f 0x0 0x20 [] .can .any,
  mkRow "CAN_NBT" 0x1a0004 4 0x8000 1 0x1 0xf0f3e01 0x7f7fffff 0x0 0x0 [] .can .any,
  mkRow "CAN_DBT" 0x1a0008 4 0x8000 1 0x1 0x3030e01 0xf0f1f1f 0x0 0x0 [] .can .any,
  mkRow "CAN_TDC" 0x1a000c 4 0x8000 1 0x1 0x0 0xff 0x0 0x0 [] .can .any,
  mkRow "CAN_STATUS" 0x1a0010 4 0x8000 1 0x1 0x0 0x0 0x0 0x0 [] .can .any,
  mkRow "CAN_COUNT" 0x1a0014 4 0x8000 1 0x1 0x0 0x0 0xffffffff 0x0 [0xffff, 0xffff0000] .can .any,
  mkRow "CAN_RX_WP" 0x1a0020 4 0x8000 1 0x1 0x0 0x0 0x0 0x0 [] .can .any,
  mkRow "CAN_RX_ACK" 0x1a0024 4 0x8000 1 0x1 0x0 0xffff 0x0 0x0 [] .can .any,
  mkRow "CAN_TX_PUT" 0x1a0028 4 0x8000 1 0x1 0x0 0xffff 0x0 0x0 [] .can .any,
  mkRow "CAN_TX_DONE" 0x1a002c 4 0x8000 1 0x1 0x0 0x0 0x0 0x0 [] .can .any,
  mkRow "CAN_TX_ACK" 0x1a0030 4 0x8000 1 0x1 0x0 0xffff 0x0 0x0 [] .can .any,
  mkRow "CAN_TM_CFG" 0x1a0040 4 0x8000 1 0x1 0x64 0x1fff 0x0 0x0 [] .can .any,
  mkRow "CAN_TM_ID" 0x1a0044 4 0x8000 1 0x1 0x0 0x1fffffff 0x0 0x0 [] .can .any,
  mkRow "CAN_TM_STATUS" 0x1a0048 4 0x8000 1 0x1 0x0 0x0 0x0 0x0 [] .can .any,
  mkRow "CAN_FLT_ID" 0x1a0080 4 0x8000 16 0x8 0x0 0xbfffffff 0x0 0x0 [] .can .any,
  mkRow "CAN_FLT_MASK" 0x1a0084 4 0x8000 16 0x8 0x0 0x3fffffff 0x0 0x0 [] .can .any ]

/-- The registers of this block. -/
def canRows : List RegRow := canRows0

def uartRows0 : List RegRow := [
  mkRow "UART_CFG" 0x1c0000 2 0x1000 1 0x1 0x1102 0x1ffffff 0x0 0x0 [] .uart .any,
  mkRow "UART_DIV" 0x1c0004 2 0x1000 1 0x1 0x1b20 0xfffff 0x0 0x0 [] .uart .any,
  mkRow "UART_DATA" 0x1c0008 2 0x1000 1 0x1 0x0 0xff 0x0 0x0 [] .uart .any,
  mkRow "UART_STATUS" 0x1c000c 2 0x1000 1 0x1 0x8000 0x0 0x70000 0x0 [] .uart .any,
  mkRow "UART_RX_THR" 0x1c0010 2 0x1000 1 0x1 0x1 0x7f 0x0 0x0 [] .uart .any ]

/-- The registers of this block. -/
def uartRows : List RegRow := uartRows0

def axisRows0 : List RegRow := [
  mkRow "AX_CFG" 0x200000 32 0x10000 1 0x1 0x3200 0xff01 0x0 0x0 [] .owner .any,
  mkRow "AX_STATE" 0x200004 32 0x10000 1 0x1 0x0 0x0 0x0 0x0 [] .owner .any,
  mkRow "AX_FAULT_CAUSE" 0x200008 32 0x10000 1 0x1 0x0 0x0 0x0 0x0 [] .owner .any,
  mkRow "AX_ADMIT_INFO" 0x20000c 32 0x10000 1 0x1 0x0 0x0 0x0 0x0 [] .owner .any,
  mkRow "AX_BANK_STATUS" 0x200010 32 0x10000 1 0x1 0x0 0x0 0x4 0x0 [] .owner .any,
  mkRow "AX_OPEN_U" 0x200020 32 0x10000 4 0x4 0x0 0xffffffff 0x0 0x0 [] .owner .any,
  mkRow "AX_OWNER" 0x200040 32 0x10000 1 0x1 0x0 0x0 0x0 0x0 [] .noone .any,
  mkRow "AX_OBS" 0x200044 32 0x10000 4 0x4 0x0 0x0 0x0 0x0 [] .noone .any,
  mkRow "AX_SNAP_CTRL" 0x200080 32 0x10000 1 0x1 0x0 0x0 0x0 0x1 [] .owner .any,
  mkRow "AX_SNAP_X" 0x200100 32 0x10000 64 0x4 0x0 0x0 0x0 0x0 [] .owner .any,
  mkRow "AX_SNAP_Y" 0x200200 32 0x10000 32 0x4 0x0 0x0 0x0 0x0 [] .owner .any,
  mkRow "AX_SNAP_W" 0x200280 32 0x10000 32 0x4 0x0 0x0 0x0 0x0 [] .owner .any,
  mkRow "AX_SNAP_U" 0x200300 32 0x10000 16 0x4 0x0 0x0 0x0 0x0 [] .owner .any,
  mkRow "AX_SNAP_TICK_LO" 0x200340 32 0x10000 1 0x1 0x0 0x0 0x0 0x0 [] .owner .any,
  mkRow "AX_SNAP_TICK_HI" 0x200344 32 0x10000 1 0x1 0x0 0x0 0x0 0x0 [] .owner .any,
  mkRow "AX_SD_CFG" 0x201000 32 0x10000 1 0x1 0x300000 0xff1f0f 0x0 0x0 [] .owner .parked,
  mkRow "AX_SD_GAIN" 0x201010 32 0x10000 4 0x4 0x0 0xffffffff 0x0 0x0 [] .owner .any,
  mkRow "AX_SD_OFS" 0x201020 32 0x10000 4 0x4 0x0 0xffffffff 0x0 0x0 [] .owner .any,
  mkRow "AX_CV_ILIM" 0x201030 32 0x10000 1 0x1 0x0 0xffffffff 0x0 0x0 [] .owner .any,
  mkRow "AX_CV_STATUS" 0x201034 32 0x10000 1 0x1 0x0 0x0 0x3ff0 0x0 [] .owner .any ]

def axisRows1 : List RegRow := [
  mkRow "AX_SDCLK_CFG" 0x201040 8 0x40000 1 0x1 0x4e200800 0x7fff1ff3 0x0 0x0 [] .cc0 .configure,
  mkRow "AX_SDCLK_STATUS" 0x201044 8 0x40000 1 0x1 0x0 0x0 0xc00 0x0 [] .cc0 .any,
  mkRow "AX_BUS_CFG" 0x201048 8 0x40000 1 0x1 0x3000 0xff1f 0x0 0x0 [] .cc0 .configure,
  mkRow "AX_BUS_GAIN" 0x20104c 8 0x40000 1 0x1 0x0 0xffffffff 0x0 0x0 [] .cc0 .any,
  mkRow "AX_BUS_OFS" 0x201050 8 0x40000 1 0x1 0x0 0xffffffff 0x0 0x0 [] .cc0 .any,
  mkRow "AX_BUS_NOM" 0x201054 8 0x40000 1 0x1 0x0 0xffffffff 0x0 0x0 [] .cc0 .any,
  mkRow "AX_PRED_CFG" 0x201100 32 0x10000 32 0x8 0x0 0xbf 0x0 0x0 [] .owner .any,
  mkRow "AX_PRED_GAIN" 0x201104 32 0x10000 32 0x8 0x0 0xffffffff 0x0 0x0 [] .owner .any,
  mkRow "AX_POS_CFG" 0x202000 32 0x10000 1 0x1 0x0 0x3f3fff 0x0 0x0 [] .owner .parked,
  mkRow "AX_POS_ADV" 0x202004 32 0x10000 1 0x1 0x3fc00000 0xffffffff 0x0 0x0 [] .owner .any,
  mkRow "AX_POS_WSCALE" 0x202008 32 0x10000 1 0x1 0x3f800000 0xffffffff 0x0 0x0 [] .owner .any,
  mkRow "AX_W_RATED" 0x20200c 32 0x10000 1 0x1 0x0 0xffffffff 0x0 0x0 [] .owner .any,
  mkRow "AX_INJ_CFG" 0x202010 32 0x10000 1 0x1 0x20080021 0xffff00f3 0x0 0x0 [] .owner .parked,
  mkRow "AX_INJ_AMP" 0x202014 32 0x10000 1 0x1 0x0 0xffffffff 0x0 0x0 [] .owner .any,
  mkRow "AX_INJ_GAIN" 0x202018 32 0x10000 1 0x1 0x0 0xffffffff 0x0 0x0 [] .owner .any,
  mkRow "AX_POL_AMP" 0x20201c 32 0x10000 1 0x1 0x0 0xffffffff 0x0 0x0 [] .owner .any,
  mkRow "AX_BLEND_CFG" 0x202020 32 0x10000 1 0x1 0x400283c 0xffffffff 0x0 0x0 [] .owner .any,
  mkRow "AX_EMF_R" 0x202024 32 0x10000 1 0x1 0x0 0xffffffff 0x0 0x0 [] .owner .any,
  mkRow "AX_EMF_LQ" 0x202028 32 0x10000 1 0x1 0x0 0xffffffff 0x0 0x0 [] .owner .any,
  mkRow "AX_EMF_PSI" 0x20202c 32 0x10000 1 0x1 0x0 0xffffffff 0x0 0x0 [] .owner .any ]

def axisRows2 : List RegRow := [
  mkRow "AX_IM_CFG" 0x202030 32 0x10000 1 0x1 0x3e8 0x3fff 0x0 0x0 [] .owner .parked,
  mkRow "AX_ENC_ANGLE_CFG" 0x202040 32 0x10000 1 0x1 0x1 0x1fff 0x0 0x0 [] .owner .parked,
  mkRow "AX_ENC_CPR" 0x202044 32 0x10000 1 0x1 0x0 0xffffffff 0x0 0x0 [] .owner .any,
  mkRow "AX_ENC_OFS" 0x202048 32 0x10000 1 0x1 0x0 0xffffffff 0x0 0x0 [] .owner .any,
  mkRow "AX_CATCH_CFG" 0x202050 32 0x10000 1 0x1 0x1f4 0xfff 0x0 0x0 [] .owner .parked,
  mkRow "AX_CATCH_VTHR" 0x202054 32 0x10000 1 0x1 0x40000000 0xffffffff 0x0 0x0 [] .owner .any,
  mkRow "AX_CATCH_ANGLE" 0x202058 32 0x10000 1 0x1 0x0 0x0 0x0 0x0 [] .owner .any,
  mkRow "AX_CATCH_SPEED" 0x20205c 32 0x10000 1 0x1 0x0 0x0 0x0 0x0 [] .owner .any,
  mkRow "AX_CATCH_AMPL" 0x202060 32 0x10000 1 0x1 0x0 0x0 0x0 0x0 [] .owner .any,
  mkRow "AX_CATCH_GEN" 0x202064 32 0x10000 1 0x1 0x0 0x0 0x0 0x0 [] .owner .any,
  mkRow "AX_POS_STATUS" 0x202070 32 0x10000 1 0x1 0x0 0x0 0x380 0x0 [] .owner .any,
  mkRow "AX_WAVE_CFG" 0x203800 32 0x10000 1 0x1 0x4 0xff 0x0 0x0 [] .owner .parkedOpen,
  mkRow "AX_ADV_SPAN" 0x203804 32 0x10000 1 0x1 0x0 0xffffffff 0x0 0x0 [] .owner .any,
  mkRow "AX_REV_THR" 0x203808 32 0x10000 1 0x1 0x0 0xffffffff 0x0 0x0 [] .owner .any,
  mkRow "AX_DIR" 0x20380c 32 0x10000 1 0x1 0x0 0x0 0x0 0x0 [] .owner .any,
  mkRow "AX_SHORT_CFG" 0x203810 32 0x10000 1 0x1 0x803e8 0xff0fff 0x0 0x0 [] .owner .any,
  mkRow "AX_SHORT_ILIM" 0x203814 32 0x10000 1 0x1 0x0 0xffffffff 0x0 0x0 [] .owner .any,
  mkRow "AX_SHORT_WEND" 0x203818 32 0x10000 1 0x1 0x0 0xffffffff 0x0 0x0 [] .owner .any,
  mkRow "AX_START_U" 0x203820 32 0x10000 4 0x4 0x0 0xffffffff 0x0 0x0 [] .owner .any,
  mkRow "AX_FLUX_NOM" 0x203830 32 0x10000 1 0x1 0x0 0xffffffff 0x0 0x0 [] .owner .any ]

def axisRows3 : List RegRow := [
  mkRow "AX_SEQ_CFG" 0x203834 32 0x10000 1 0x1 0x0 0xffffff 0x0 0x0 [] .owner .configure,
  mkRow "AX_DRIVE_STATUS" 0x203840 32 0x10000 1 0x1 0x0 0x0 0x1a1800 0x0 [] .owner .any,
  mkRow "AX_ADV_TAB" 0x203880 32 0x10000 32 0x4 0x0 0xffff 0x0 0x0 [] .owner .any,
  mkRow "PWM_CTRL" 0x203000 32 0x10000 1 0x1 0x1 0xff0f 0x0 0x0 [] .owner .parked,
  mkRow "PWM_STATUS" 0x203008 32 0x10000 1 0x1 0x0 0x0 0xf00 0x0 [] .owner .any,
  mkRow "PWM_PERIOD" 0x20300c 32 0x10000 1 0x1 0x7a120 0x0 0x0 0x0 [] .owner .any,
  mkRow "PWM_ACT" 0x203010 32 0x10000 3 0x4 0x100000 0x0 0x0 0x0 [] .owner .any,
  mkRow "PWM_DT_LIM" 0x203020 32 0x10000 1 0x1 0x3e800c80 0xffffffff 0x0 0x0 [] .owner .parked,
  mkRow "PWM_DT_CFG" 0x203024 32 0x10000 1 0x1 0x1903e80 0x3fffffff 0x0 0x0 [] .owner .parked,
  mkRow "PWM_DT_ACT" 0x203030 32 0x10000 3 0x4 0x3e803e80 0x0 0x0 0x0 [] .owner .any,
  mkRow "PWM_TRIP_CFG" 0x203040 32 0x10000 1 0x1 0x10000 0xff3fff 0x0 0x0 [] .owner .parked,
  mkRow "PWM_TRIP_WIN" 0x203044 32 0x10000 1 0x1 0x1 0xffff 0x0 0x0 [] .owner .parked,
  mkRow "PWM_TRIP_STATUS" 0x203048 32 0x10000 1 0x1 0x0 0x0 0xffff0000 0x0 [0xffff0000] .owner .any,
  mkRow "PWM_GTRIP_CFG" 0x203100 4 0x80000 1 0x1 0x0 0x3fff 0x0 0x0 [] .cc0 .configure,
  mkRow "PWM_GTRIP_MASK" 0x203104 4 0x80000 1 0x1 0x0 0xff 0x0 0x0 [] .cc0 .configure,
  mkRow "PWM_GTRIP_STATUS" 0x203108 4 0x80000 1 0x1 0x0 0x0 0xffff0002 0x0 [0xffff0000] .cc0 .any,
  mkRow "FB_CFG" 0x204000 32 0x10000 1 0x1 0x32320083 0xfff3fff7 0x0 0x0 [] .owner .parked,
  mkRow "FB_STATUS" 0x204004 32 0x10000 1 0x1 0x0 0x0 0xbe 0x0 [] .owner .any,
  mkRow "FB_COUNT_LO" 0x204008 32 0x10000 1 0x1 0x0 0x0 0x0 0x0 [] .owner .any,
  mkRow "FB_COUNT_HI" 0x20400c 32 0x10000 1 0x1 0x0 0x0 0x0 0x0 [] .owner .any ]

def axisRows4 : List RegRow := [
  mkRow "FB_LIM_LO_LO" 0x204010 32 0x10000 1 0x1 0x0 0xffffffff 0x0 0x0 [] .owner .parked,
  mkRow "FB_LIM_LO_HI" 0x204014 32 0x10000 1 0x1 0xffff8000 0xffff 0x0 0x0 [] .owner .parked,
  mkRow "FB_LIM_HI_LO" 0x204018 32 0x10000 1 0x1 0xffffffff 0xffffffff 0x0 0x0 [] .owner .parked,
  mkRow "FB_LIM_HI_HI" 0x20401c 32 0x10000 1 0x1 0x7fff 0xffff 0x0 0x0 [] .owner .parked,
  mkRow "FB_ORIGIN_LO" 0x204020 32 0x10000 1 0x1 0x0 0xffffffff 0x0 0x0 [] .owner .any,
  mkRow "FB_ORIGIN_HI" 0x204024 32 0x10000 1 0x1 0x0 0xffff 0x0 0x0 [] .owner .any,
  mkRow "FB_REF_VAL_LO" 0x204028 32 0x10000 1 0x1 0x0 0xffffffff 0x0 0x0 [] .owner .any,
  mkRow "FB_REF_VAL_HI" 0x20402c 32 0x10000 1 0x1 0x0 0xffff 0x0 0x0 [] .owner .any,
  mkRow "FB_SPEED" 0x204030 32 0x10000 1 0x1 0x0 0x0 0x0 0x0 [] .owner .any,
  mkRow "FB_REF_DELTA_LO" 0x204034 32 0x10000 1 0x1 0x0 0x0 0x0 0x0 [] .owner .any,
  mkRow "FB_REF_DELTA_HI" 0x204038 32 0x10000 1 0x1 0x0 0x0 0x0 0x0 [] .owner .any,
  mkRow "FB_ERR_COUNT" 0x20403c 32 0x10000 1 0x1 0x0 0x0 0xffffffff 0x0 [0xffff, 0xffff0000] .owner .any,
  mkRow "FB_CMP_CTRL" 0x204100 32 0x10000 2 0x40 0x0 0xffff01ff 0x0 0x0 [] .owner .any,
  mkRow "FB_CMP_BASE_LO" 0x204104 32 0x10000 2 0x40 0x0 0xffffffff 0x0 0x0 [] .owner .any,
  mkRow "FB_CMP_BASE_HI" 0x204108 32 0x10000 2 0x40 0x0 0xffff 0x0 0x0 [] .owner .any,
  mkRow "FB_CMP_STEP" 0x20410c 32 0x10000 2 0x40 0x400 0xffffffff 0x0 0x0 [] .owner .any,
  mkRow "FB_CMP_WIN" 0x204110 32 0x10000 2 0x40 0x0 0xffffffff 0x0 0x0 [] .owner .any,
  mkRow "FB_CMP_STATUS" 0x204114 32 0x10000 2 0x40 0x0 0x0 0xffffffff 0x0 [0xffff, 0xff0000, 0xff000000] .owner .any,
  mkRow "FB_CMP_HIT_T_LO" 0x204118 32 0x10000 2 0x40 0x0 0x0 0x0 0x0 [] .owner .any,
  mkRow "FB_CMP_HIT_T_HI" 0x20411c 32 0x10000 2 0x40 0x0 0x0 0x0 0x0 [] .owner .any ]

def axisRows5 : List RegRow := [
  mkRow "FB_CMP_HIT_GEN" 0x204120 32 0x10000 2 0x40 0x0 0x0 0x0 0x0 [] .owner .any,
  mkRow "FB_CMP_MISS_BASE_LO" 0x204124 32 0x10000 2 0x40 0x0 0x0 0x0 0x0 [] .owner .any,
  mkRow "FB_CMP_MISS_BASE_HI" 0x204128 32 0x10000 2 0x40 0x0 0x0 0x0 0x0 [] .owner .any,
  mkRow "FB_LAT_CTRL" 0x204200 32 0x10000 4 0x20 0x0 0x3ff 0x0 0x400 [] .owner .any,
  mkRow "FB_LAT_GEN" 0x204204 32 0x10000 4 0x20 0x0 0x0 0x6 0x0 [] .owner .any,
  mkRow "FB_LAT_T_LO" 0x204208 32 0x10000 4 0x20 0x0 0x0 0x0 0x0 [] .owner .any,
  mkRow "FB_LAT_T_HI" 0x20420c 32 0x10000 4 0x20 0x0 0x0 0x0 0x0 [] .owner .any,
  mkRow "FB_LAT_CNT_LO" 0x204210 32 0x10000 4 0x20 0x0 0x0 0x0 0x0 [] .owner .any,
  mkRow "FB_LAT_CNT_HI" 0x204214 32 0x10000 4 0x20 0x0 0x0 0x0 0x0 [] .owner .any,
  mkRow "FB_SER_CFG" 0x204800 8 0x10000 1 0x1 0x1800 0xff73f1f 0x0 0x0 [] .cc0 .configure,
  mkRow "FB_SER_TIMING" 0x204804 8 0x10000 1 0x1 0x3e8 0xffffff 0x0 0x0 [] .cc0 .configure,
  mkRow "FB_SER_LEAD" 0x204808 8 0x10000 1 0x1 0x3e8 0xffff 0x0 0x0 [] .cc0 .configure,
  mkRow "FB_SER_STATUS" 0x20480c 8 0x10000 1 0x1 0x0 0x0 0xff000 0x0 [] .cc0 .configure,
  mkRow "FB_SER_RAW_LO" 0x204810 8 0x10000 1 0x1 0x0 0x0 0x0 0x0 [] .cc0 .configure,
  mkRow "FB_SER_RAW_HI" 0x204814 8 0x10000 1 0x1 0x0 0x0 0x0 0x0 [] .cc0 .configure,
  mkRow "FB_LTCH_CFG" 0x204840 8 0x10000 1 0x1 0x0 0x7f 0x0 0x0 [] .cc0 .configure,
  mkRow "FB_SYNC_STATUS" 0x204880 1 0x1 1 0x1 0x0 0x0 0x0 0x0 [] .cc0 .configure,
  mkRow "FB_SYNC_T_LO" 0x204884 1 0x1 1 0x1 0x0 0x0 0x0 0x0 [] .cc0 .configure,
  mkRow "FB_SYNC_T_HI" 0x204888 1 0x1 1 0x1 0x0 0x0 0x0 0x0 [] .cc0 .configure,
  mkRow "FB_REP_CFG" 0x204900 4 0x10000 1 0x1 0x0 0xff 0x0 0x0 [] .cc0 .configure ]

def axisRows6 : List RegRow := [
  mkRow "PROF_CFG" 0x205000 32 0x10000 1 0x1 0x0 0x1f 0x0 0x0 [] .owner .parked,
  mkRow "PROF_V_MAX" 0x205004 32 0x10000 1 0x1 0x0 0xffffffff 0x0 0x0 [] .owner .any,
  mkRow "PROF_A_MAX" 0x205008 32 0x10000 1 0x1 0x0 0xffffffff 0x0 0x0 [] .owner .any,
  mkRow "PROF_J_MAX" 0x20500c 32 0x10000 1 0x1 0x0 0xffffffff 0x0 0x0 [] .owner .any,
  mkRow "PROF_STOP_A" 0x205010 32 0x10000 1 0x1 0x0 0xffffffff 0x0 0x0 [] .owner .any,
  mkRow "PROF_STOP_J" 0x205014 32 0x10000 1 0x1 0x0 0xffffffff 0x0 0x0 [] .owner .any,
  mkRow "VLIM_LO_LO" 0x205018 32 0x10000 1 0x1 0x1 0xffffffff 0x0 0x0 [] .owner .parked,
  mkRow "VLIM_LO_HI" 0x20501c 32 0x10000 1 0x1 0xffff8000 0xffff 0x0 0x0 [] .owner .parked,
  mkRow "VLIM_HI_LO" 0x205020 32 0x10000 1 0x1 0xfffffffe 0xffffffff 0x0 0x0 [] .owner .parked,
  mkRow "VLIM_HI_HI" 0x205024 32 0x10000 1 0x1 0x7fff 0xffff 0x0 0x0 [] .owner .parked,
  mkRow "PROF_STATUS" 0x205040 32 0x10000 1 0x1 0x0 0x0 0xff0 0x0 [] .owner .any,
  mkRow "PROF_REF_P_LO" 0x205048 32 0x10000 1 0x1 0x0 0x0 0x0 0x0 [] .owner .any,
  mkRow "PROF_REF_P_HI" 0x20504c 32 0x10000 1 0x1 0x0 0x0 0x0 0x0 [] .owner .any,
  mkRow "PROF_REF_V" 0x205050 32 0x10000 1 0x1 0x0 0x0 0x0 0x0 [] .owner .any,
  mkRow "PROF_REF_A" 0x205054 32 0x10000 1 0x1 0x0 0x0 0x0 0x0 [] .owner .any,
  mkRow "PROF_STREAM_WP" 0x205060 32 0x10000 1 0x1 0x0 0x7ff 0x0 0x0 [] .owner .any,
  mkRow "PROF_STREAM_RP" 0x205064 32 0x10000 1 0x1 0x0 0x0 0x0 0x0 [] .owner .any,
  mkRow "PROF_AHEAD" 0x205068 32 0x10000 1 0x1 0x0 0x0 0x0 0x0 [] .owner .any,
  mkRow "PT_CFG" 0x205080 32 0x10000 1 0x1 0x640064 0x3ff03ff 0x0 0x0 [] .owner .parked,
  mkRow "PT_SCALE_N" 0x205084 32 0x10000 1 0x1 0x1 0xffffffff 0x0 0x0 [] .owner .parked ]

def axisRows7 : List RegRow := [
  mkRow "PT_SCALE_D" 0x205088 32 0x10000 1 0x1 0x1 0xffffffff 0x0 0x0 [] .owner .parked,
  mkRow "PT_MSTEP" 0x20508c 32 0x10000 1 0x1 0x0 0x0 0x0 0x0 [] .owner .any,
  mkRow "GEAR_STATUS" 0x206000 32 0x10000 1 0x1 0x0 0x0 0x3000 0x0 [] .owner .any,
  mkRow "GEAR_MASTER" 0x206004 32 0x10000 1 0x1 0x0 0x0 0x0 0x0 [] .owner .any,
  mkRow "GEAR_N" 0x206008 32 0x10000 1 0x1 0x0 0x0 0x0 0x0 [] .owner .any,
  mkRow "GEAR_D" 0x20600c 32 0x10000 1 0x1 0x1 0x0 0x0 0x0 [] .owner .any,
  mkRow "GEAR_M_POS_LO" 0x206010 32 0x10000 1 0x1 0x0 0x0 0x0 0x0 [] .owner .any,
  mkRow "GEAR_M_POS_HI" 0x206014 32 0x10000 1 0x1 0x0 0x0 0x0 0x0 [] .owner .any,
  mkRow "GEAR_M_AGE" 0x206018 32 0x10000 1 0x1 0x0 0x0 0x0 0x0 [] .owner .any,
  mkRow "LS_MEMBER" 0x206200 32 0x10000 1 0x1 0x0 0x0 0x1000 0x0 [] .owner .any,
  mkRow "LS_SHARE_NOW" 0x206204 32 0x10000 1 0x1 0x0 0x0 0x0 0x0 [] .owner .any,
  mkRow "LS_GRP_CFG" 0x207000 8 0x10000 1 0x1 0x6400 0xff01 0x0 0x0 [] .cc0 .configure,
  mkRow "LS_GRP_MEM" 0x207004 8 0x10000 8 0x4 0x0 0x1fbf 0x0 0x0 [] .cc0 .configure,
  mkRow "LS_GRP_STATUS" 0x207024 8 0x10000 1 0x1 0x0 0x0 0xff00 0x0 [] .cc0 .any,
  mkRow "LS_GRP_TOTAL" 0x207028 8 0x10000 1 0x1 0x0 0x0 0x0 0x0 [] .any .any,
  mkRow "VM_STATUS" 0x207800 4 0x10000 1 0x1 0x1 0x0 0x10 0x0 [] .cc0 .any,
  mkRow "VM_REF_P_LO" 0x207808 4 0x10000 1 0x1 0x0 0x0 0x0 0x0 [] .any .any,
  mkRow "VM_REF_P_HI" 0x20780c 4 0x10000 1 0x1 0x0 0x0 0x0 0x0 [] .any .any,
  mkRow "VM_REF_V" 0x207810 4 0x10000 1 0x1 0x0 0x0 0x0 0x0 [] .any .any,
  mkRow "VM_REF_A" 0x207814 4 0x10000 1 0x1 0x0 0x0 0x0 0x0 [] .any .any ]

def axisRows8 : List RegRow := [
  mkRow "GEAR_PUB_CFG" 0x207c00 16 0x4 1 0x1 0x0 0xff 0x0 0x0 [] .cc0 .configure ]

/-- The registers of this block. -/
def axisRows : List RegRow := axisRows0 ++ axisRows1 ++ axisRows2 ++ axisRows3 ++ axisRows4 ++ axisRows5 ++ axisRows6 ++ axisRows7 ++ axisRows8

def cupolaRows0 : List RegRow := [
  mkRow "CUPOLA_STATUS" 0x400000 1 0x1 1 0x1 0xb 0x0 0x0 0x0 [] .any .any,
  mkRow "CUPOLA_LIMIT" 0x400004 1 0x1 1 0x1 0xf906 0x0 0x0 0x0 [] .any .any,
  mkRow "CUPOLA_LOAD0" 0x400040 8 0x4 1 0x1 0x0 0x0 0x0 0x0 [] .any .any,
  mkRow "CUPOLA_LOAD1" 0x400060 8 0x4 1 0x1 0x0 0x0 0x0 0x0 [] .any .any,
  mkRow "CUPOLA_GRP_CFG" 0x400100 8 0x4 1 0x1 0x100000 0x803fffff 0x0 0x0 [] .any .configure,
  mkRow "CUPOLA_SHED_PLAN" 0x400200 2 0x4 1 0x1 0x0 0x0 0x0 0x0 [] .any .any,
  mkRow "CUPOLA_FAIL_TICK_LO" 0x400210 1 0x1 1 0x1 0x0 0x0 0x0 0x0 [] .any .any,
  mkRow "CUPOLA_FAIL_TICK_HI" 0x400214 1 0x1 1 0x1 0x0 0x0 0x0 0x0 [] .any .any ]

/-- The registers of this block. -/
def cupolaRows : List RegRow := cupolaRows0

def oculusRows0 : List RegRow := [
  mkRow "OCU_STATUS" 0x500000 1 0x1 1 0x1 0x0 0x0 0x0 0x0 [] .holder .any,
  mkRow "OCU_CFG" 0x500004 1 0x1 1 0x1 0x0 0xffff007f 0x0 0x0 [] .holder .any,
  mkRow "OCU_NREC" 0x500008 1 0x1 1 0x1 0x1 0xffffffff 0x0 0x0 [] .holder .any,
  mkRow "OCU_PRE" 0x50000c 1 0x1 1 0x1 0x0 0xffffff 0x0 0x0 [] .holder .any,
  mkRow "OCU_POST" 0x500010 1 0x1 1 0x1 0x400 0xffffff 0x0 0x0 [] .holder .any,
  mkRow "OCU_MEM_BASE" 0x500014 1 0x1 1 0x1 0x0 0x3fffff 0x0 0x0 [] .holder .any,
  mkRow "OCU_MEM_SIZE" 0x500018 1 0x1 1 0x1 0x400000 0x7fffff 0x0 0x0 [] .holder .any,
  mkRow "OCU_STREAM_CFG" 0x50001c 1 0x1 1 0x1 0x20001 0xffffffff 0x0 0x0 [] .holder .any,
  mkRow "OCU_RING_WP" 0x500020 1 0x1 1 0x1 0x0 0x0 0x0 0x0 [] .holder .any,
  mkRow "OCU_RING_RP" 0x500024 1 0x1 1 0x1 0x0 0xffffffff 0x0 0x0 [] .holder .any,
  mkRow "OCU_TRIG_TIME_LO" 0x500028 1 0x1 1 0x1 0x0 0xffffffff 0x0 0x0 [] .holder .any,
  mkRow "OCU_TRIG_TIME_HI" 0x50002c 1 0x1 1 0x1 0x0 0xffffffff 0x0 0x0 [] .holder .any,
  mkRow "OCU_SETTLE_BAND" 0x500030 1 0x1 1 0x1 0x3ca3d70a 0xffffffff 0x0 0x0 [] .holder .any,
  mkRow "OCU_CH" 0x500040 16 0x4 1 0x1 0x0 0xffffffff 0x0 0x0 [] .holder .any,
  mkRow "OCU_SEQ_COND" 0x500100 8 0x20 1 0x1 0x0 0x77fff 0x0 0x0 [] .holder .any,
  mkRow "OCU_SEQ_THR" 0x500104 8 0x20 1 0x1 0x0 0xffffffff 0x0 0x0 [] .holder .any,
  mkRow "OCU_SEQ_MASK" 0x500108 8 0x20 1 0x1 0x0 0xffffffff 0x0 0x0 [] .holder .any,
  mkRow "OCU_SEQ_CNT" 0x50010c 8 0x20 1 0x1 0x1 0xffffffff 0x0 0x0 [] .holder .any,
  mkRow "OCU_SEQ_TMO" 0x500110 8 0x20 1 0x1 0x0 0xffffff 0x0 0x0 [] .holder .any,
  mkRow "OCU_REC_GEN" 0x500200 1 0x1 1 0x1 0x0 0x0 0x0 0x0 [] .holder .any ]

def oculusRows1 : List RegRow := [
  mkRow "OCU_REC_ADDR" 0x500204 1 0x1 1 0x1 0x0 0x0 0x0 0x0 [] .holder .any,
  mkRow "OCU_REC_SEQ" 0x500208 1 0x1 1 0x1 0x0 0x0 0x0 0x0 [] .holder .any,
  mkRow "OCU_TRIG_T_LO" 0x500210 1 0x1 1 0x1 0x0 0x0 0x0 0x0 [] .holder .any,
  mkRow "OCU_TRIG_T_HI" 0x500214 1 0x1 1 0x1 0x0 0x0 0x0 0x0 [] .holder .any,
  mkRow "OCU_TRIG_OFS" 0x500218 1 0x1 1 0x1 0x0 0x0 0x0 0x0 [] .holder .any,
  mkRow "OCU_DEAD" 0x50021c 1 0x1 1 0x1 0x0 0x0 0x0 0x0 [] .holder .any,
  mkRow "OCU_IGNORED" 0x500220 1 0x1 1 0x1 0x0 0x0 0xffffffff 0x0 [0xffffffff] .holder .any,
  mkRow "OCU_MEAS" 0x500400 16 0x20 8 0x4 0x0 0x0 0x0 0x0 [] .holder .any,
  mkRow "LAN_CFG" 0x501000 4 0x200 1 0x1 0x0 0x7ff1f 0x0 0x0 [] .lan .any,
  mkRow "LAN_AMP" 0x501004 4 0x200 1 0x1 0x0 0xffffffff 0x0 0x0 [] .lan .any,
  mkRow "LAN_F0" 0x501008 4 0x200 1 0x1 0x0 0xffffffff 0x0 0x0 [] .lan .any,
  mkRow "LAN_F1" 0x50100c 4 0x200 1 0x1 0x0 0xffffffff 0x0 0x0 [] .lan .any,
  mkRow "LAN_LEN" 0x501010 4 0x200 1 0x1 0x0 0xffffffff 0x0 0x0 [] .lan .any,
  mkRow "LAN_FADE" 0x501014 4 0x200 1 0x1 0x0 0xffff 0x0 0x0 [] .lan .any,
  mkRow "LAN_PRBS" 0x501018 4 0x200 1 0x1 0x107 0xff1f 0x0 0x0 [] .lan .any,
  mkRow "LAN_SEED" 0x50101c 4 0x200 1 0x1 0x1 0x7fffffff 0x0 0x0 [] .lan .any,
  mkRow "LAN_MS_CFG" 0x501020 4 0x200 1 0x1 0x1000400 0x1f01ffff 0x0 0x0 [] .lan .any,
  mkRow "LAN_STATUS" 0x501024 4 0x200 1 0x1 0x0 0x0 0xc0 0x0 [] .lan .any,
  mkRow "LAN_N" 0x501028 4 0x200 1 0x1 0x0 0x0 0x0 0x0 [] .lan .any,
  mkRow "LAN_OUT" 0x50102c 4 0x200 1 0x1 0x0 0x0 0x0 0x0 [] .lan .any ]

def oculusRows2 : List RegRow := [
  mkRow "LAN_MS_H" 0x501100 4 0x200 16 0x10 0x0 0xffff 0x0 0x0 [] .lan .any,
  mkRow "LAN_MS_A" 0x501104 4 0x200 16 0x10 0x0 0xffffffff 0x0 0x0 [] .lan .any,
  mkRow "LAN_MS_PH" 0x501108 4 0x200 16 0x10 0x0 0xffffffff 0x0 0x0 [] .lan .any ]

/-- The registers of this block. -/
def oculusRows : List RegRow := oculusRows0 ++ oculusRows1 ++ oculusRows2

def updateRows0 : List RegRow := [
  mkRow "UPD_STATUS" 0x600000 1 0x1 1 0x1 0x0 0x0 0x0 0x0 [] .any .any,
  mkRow "UPD_SESSION" 0x600004 1 0x1 1 0x1 0x0 0x0 0x0 0x0 [] .any .any,
  mkRow "UPD_SLOT" 0x600010 2 0x8 1 0x1 0x0 0x0 0x0 0x0 [] .any .any,
  mkRow "UPD_SLOT_BUILD" 0x600014 2 0x8 1 0x1 0x0 0x0 0x0 0x0 [] .any .any,
  mkRow "UPD_OTP" 0x600030 1 0x1 1 0x1 0x0 0x0 0x0 0x0 [] .any .any,
  mkRow "UPD_UID" 0x600040 4 0x4 1 0x1 0x0 0x0 0x0 0x0 [] .any .any,
  mkRow "UPD_KEY" 0x600100 16 0x4 1 0x1 0x0 0x0 0x0 0x0 [] .any .any ]

/-- The registers of this block. -/
def updateRows : List RegRow := updateRows0

def testRows0 : List RegRow := [
  mkRow "TEST_S1_DELAY" 0x700000 1 0x1 1 0x1 0x0 0xffff 0x0 0x0 [] .test .any,
  mkRow "TEST_RING" 0x700010 1 0x1 1 0x1 0x0 0xff0fff03 0x0 0x0 [] .test .any,
  mkRow "TEST_DMA_HOLD" 0x700020 1 0x1 1 0x1 0x0 0xffffffff 0x0 0x0 [] .test .any,
  mkRow "TEST_DMA_HOLD_US" 0x700024 1 0x1 1 0x1 0x0 0xffff 0x0 0x0 [] .test .any,
  mkRow "TEST_CAN_ACK" 0x700030 1 0x1 1 0x1 0x0 0xffff0f 0x0 0x0 [] .test .any,
  mkRow "TEST_UNLOCK" 0x700080 1 0x1 1 0x1 0x0 0xffff 0x0 0x0 [] .test .any,
  mkRow "TEST_UNLOCK_STATUS" 0x700084 1 0x1 1 0x1 0x0 0x0 0x0 0x0 [] .test .any,
  mkRow "DBG_CTRL" 0x700100 1 0x1 1 0x1 0x0 0x1 0x0 0x0 [] .test .any,
  mkRow "TEST_SD_FLIP" 0x700200 32 0x4 1 0x1 0x0 0xffff1f 0x0 0x0 [] .test .any ]

/-- The registers of this block. -/
def testRows : List RegRow := testRows0

def pageRows0 : List RegRow := [
  mkRow "HOST_CC_ID" 0x1000000 512 0x10000 1 0x1 0x0 0x0 0x0 0x0 [] .any .any,
  mkRow "HOST_CC_STATUS" 0x1000004 512 0x10000 1 0x1 0x0 0x0 0x0 0x0 [] .any .any,
  mkRow "HOST_ADM_SQ_LO" 0x1000010 1 0x1 1 0x1 0x0 0xffffffff 0x0 0x0 [] .cc0 .any,
  mkRow "HOST_ADM_SQ_HI" 0x1000014 1 0x1 1 0x1 0x0 0xffffffff 0x0 0x0 [] .cc0 .any,
  mkRow "HOST_ADM_CQ_LO" 0x1000018 1 0x1 1 0x1 0x0 0xffffffff 0x0 0x0 [] .cc0 .any,
  mkRow "HOST_ADM_CQ_HI" 0x100001c 1 0x1 1 0x1 0x0 0xffffffff 0x0 0x0 [] .cc0 .any,
  mkRow "HOST_ADM_CFG" 0x1000020 1 0x1 1 0x1 0x44 0x80001fff 0x0 0x0 [] .cc0 .any,
  mkRow "HOST_EVQ_LO" 0x1000030 512 0x10000 1 0x1 0x0 0xffffffff 0x0 0x0 [] .any .any,
  mkRow "HOST_EVQ_HI" 0x1000034 512 0x10000 1 0x1 0x0 0xffffffff 0x0 0x0 [] .any .any,
  mkRow "HOST_EVQ_CFG" 0x1000038 512 0x10000 1 0x1 0x4 0x8000000f 0x0 0x0 [] .any .any,
  mkRow "HOST_EVQ_HEAD" 0x100003c 512 0x10000 1 0x1 0x0 0x0 0x0 0x0 [] .any .any,
  mkRow "HOST_EVQ_STATUS" 0x1000040 512 0x10000 1 0x1 0x0 0x0 0xffff0000 0x0 [0xffff0000] .any .any,
  mkRow "HOST_VEC_MOD" 0x1000100 512 0x10000 32 0x4 0x10000 0xffffff 0x0 0x0 [] .any .any,
  mkRow "HOST_SQ_TAIL" 0x1001000 512 0x10000 256 0x8 0x0 0x0 0x0 0x0 [] .any .any,
  mkRow "HOST_CQ_HEAD" 0x1001004 512 0x10000 256 0x8 0x0 0x0 0x0 0x0 [] .any .any,
  mkRow "HOST_SQ_HEAD" 0x1001800 512 0x10000 256 0x4 0x0 0x0 0x0 0x0 [] .any .any ]

/-- The registers of this block. -/
def pageRows : List RegRow := pageRows0

/-- The rows of the block an offset lies in (01 R21). -/
def blockRows (a : Nat) : List RegRow :=
  if a < 0x10000 then sysRows
  else if a < 0x20000 then timeRows
  else if a < 0x40000 then belfryRows
  else if a < 0x80000 then eventRows
  else if a < 0xc0000 then dmaRows
  else if a < 0x100000 then hostRows
  else if a < 0x140000 then fabricRows
  else if a < 0x180000 then safetyRows
  else if a < 0x1a0000 then fieldRows
  else if a < 0x1c0000 then canRows
  else if a < 0x200000 then uartRows
  else if a < 0x400000 then axisRows
  else if a < 0x500000 then cupolaRows
  else if a < 0x600000 then oculusRows
  else if a < 0x700000 then updateRows
  else if a < 0x800000 then testRows
  else if a < 0x1000000 then [] else pageRows

/-- Whether a row holds the register at offset `a`. -/
def RegRow.covers (r : RegRow) (a : Nat) : Bool :=
  decide (r.base ≤ a) && decide ((a - r.base) / r.s1 < r.n1) &&
    decide ((a - r.base) % r.s1 / r.s2 < r.n2) && decide ((a - r.base) % r.s1 % r.s2 = 0)

/-- The row of the register at offset `a`, none where no register lies. -/
def regRow (a : Nat) : Option RegRow := (blockRows a).find? (fun r => r.covers a)

/-- The first index of the register at `a` in its row (an axis, a channel, a client). -/
def RegRow.idx1 (r : RegRow) (a : Nat) : Nat := (a - r.base) / r.s1

/-- The second index of the register at `a` in its row. -/
def RegRow.idx2 (r : RegRow) (a : Nat) : Nat := (a - r.base) % r.s1 / r.s2

/-- What a register reads as when nothing has been written to it: the Reset column of its table (0 where it gives none;
clients other than CC0 start with weight 0x10 and no tick-critical rate, 13 R362). -/
def regReset (a : Nat) : Word :=
  if 0xD1004 ≤ a ∧ a < 0xD1800 then 0x10
  else match regRow a with
    | some r => BitVec.ofNat 32 r.reset
    | none => 0

end Sys2Proof.Machine
end

