-- ==== Sys2Proof/Machine/StAxis.lean ====
section
/-!
DEFINITION. The state of one axis beyond its registers: the axis state and its reservation, the model's state, the sensing
and angle estimation, the modulator, the PWM and trip logic (04 to 07).  Feedback, motion and gearing follow in
Machine/StMotion.lean.
-/

namespace Sys2Proof.Machine

/-- A command that waits for the end of what it started, to be completed then (12_host_commands.md R349). -/
abbrev Waiting := Option Hdr

/-- A start-up under way (04_cupola_control.md R140, 06 R187): its target state, its command, the cause its transitions report,
whether it left PARKED, and the counter value at which enable_to_ms ends once the start-up steps are over. -/
structure EnableSt where
  toHold : Bool
  cmd : Waiting
  cause : Nat := 0
  fromParked : Bool := true
  deadline : Option Nat := none
  deriving DecidableEq, Repr

/-- A soft six-step handover (06 R178): the sector left, the step and the length. -/
structure Handover where
  fromSector : Nat
  toSector : Nat
  step : Nat
  deriving DecidableEq, Repr

/-- A leg's command: a duty from 0 to 1, or released (06 R171). -/
inductive Leg where
  | released
  | duty (d : Rat)
  deriving DecidableEq, Repr

/-- The modulator of one axis before a tick's commit: its shadow duties and its state (06 R178, R180). -/
structure ModSave where
  axis : Nat
  shadow : List Leg
  handover : Option Handover
  vertex : Option Nat
  kappa : Rat
  sixStep : Bool
  sector : Nat
  deriving DecidableEq, Repr

/-- What one execution of a model gives: the state, the outputs of each sub-step, its entries, and in `bad` bit 0 for a numeric fault and
bit 1 for a state bound (04 R111). -/
structure ExecOut where
  x : List F32
  us : List (List F32)
  y : List F32
  w : List F32
  r : List F32
  yLast : List (Option F32)
  wLast : List (Option F32)
  bad : Nat
  deriving DecidableEq, Repr

/-- What an execution replaced, kept until the next tick: a cluster failure in the same tick abandons it (04 R131), and a
forward time step may leave it too late (01 R46). -/
structure ExecSave where
  x : List F32
  y : List F32
  w : List F32
  r : List F32
  us : List (List F32)
  /-- the index of the last due tick that committed before -/
  commitTick : Nat
  /-- θ̂, ω̂ and the tick last committed before, by axis (05 R156) -/
  angs : List (Nat × Rat × Rat × Nat)
  /-- the blend weight last committed before, by axis (10 R279) -/
  betas : List (Nat × Rat)
  /-- a snapshot was captured at this commit -/
  snap : Bool
  mods : List ModSave
  deriving DecidableEq, Repr

/-- How a due tick of a model ended, judged at the next tick (01 R42, R43): no due tick, in time, late, or late with the
exemption of a step tick or a failover tick (01 R46, 04 R131). -/
inductive DueEnd where
  | idle | inTime | late | exempt
  deriving DecidableEq, Repr

/-- Axis state, reservation and model state (04 R107 to R138). -/
structure AxCore where
  state : AxState := .off
  prev : AxState := .off
  cause : Nat := 0
  admitted : Bool := false
  member : Bool := false
  cluster : Nat := 0
  lead : Nat := 0
  slot : Nat := 0
  cost : Nat := 0
  rate : Nat := 0
  phase : Nat := 0
  prio : Nat := 0
  /-- the active bank, 0 A, 1 B, and the swap that awaits its frame tick -/
  active : Nat := 0
  swapPending : Bool := false
  /-- AX_FAULT_CAUSE -/
  faults : Nat := 0
  /-- consecutive late due ticks (01 R43) -/
  late : Nat := 0
  /-- how the last tick ended for the model -/
  ended : DueEnd := .idle
  /-- the counts of the 500 MHz clock from the tick to the commit of its execution -/
  finish : Nat := 0
  /-- an execution that the present tick is not expected to last for: what it gives if it does (01 R38, R42) -/
  overrun : Option ExecOut := none
  /-- the fault entered at the next tick, after a suppressed commit (R111) -/
  faultNext : Nat := 0
  /-- x̂ -/
  x : List F32 := []
  /-- outputs committed by the last due tick (codes 0x20 to 0x2F) -/
  uCommitted : List F32 := []
  /-- limited outputs of the tick in progress that await the shadow load -/
  uPending : Option (List F32) := none
  /-- last valid scaled value of each y and w entry since PARKED was left (05 R148) -/
  yLast : List (Option F32) := []
  wLast : List (Option F32) := []
  enable : Option EnableSt := none
  /-- the values of the selector codes delivered at the last tick, by code (R112) -/
  deliv : AList F32 := []
  /-- y, w and r entries after scaling, and the outputs of each sub-step, of the last execution committed -/
  lastY : List F32 := []
  lastW : List F32 := []
  lastR : List F32 := []
  lastU : List (List F32) := []
  /-- the tick index of the last due tick that committed, with θ̂ and ω̂ there (05 R155, R156) -/
  commitTick : Nat := 0
  /-- the selector codes whose value is invalid at the present tick (05 R148) -/
  inval : List Nat := []
  /-- causes of FAULT found in the present tick's S0 (05 R151) -/
  faultNow : Nat := 0
  save : Option ExecSave := none
  deriving DecidableEq, Repr

/-- One channel's delivered output (05 R146 to R151). -/
structure ChanSt where
  value : F32 := 0
  valid : Bool := false
  /-- consecutive ticks of persistent loss counted so far -/
  loss : Nat := 0
  /-- the bits in the decimator since its last reset, newest first, and its normalised outputs of the last loop period, oldest first
  (05 R146) -/
  bits : List Bool := []
  ys : List Rat := []
  deriving DecidableEq, Repr

/-- A catch under way (05 R166): its start, the time of consecutive ticks below the threshold in ns, and the fit window as
(tick time in ns, unwrapped angle, |v|²), newest first. -/
structure CatchSt where
  start : Nat
  lowNs : Nat := 0
  window : List (Nat × Rat × Rat) := []
  deriving DecidableEq, Repr

/-- Steps of R160: the step, the ticks left in it, I₊ and I₋. -/
structure InitSt where
  step : Nat
  left : Nat
  iPos : Rat := 0
  iNeg : Rat := 0
  deriving DecidableEq, Repr

/-- Current, voltage and rotor position (05). -/
structure AxSense where
  chans : AList ChanSt := []
  /-- valid outputs counted under R149: by channel, 4 for the DC bus, 5 for an axis without outputs to count -/
  counts : AList Nat := []
  /-- the counter value from which they are counted -/
  countAt : Nat := 0
  /-- θ̂ and ω̂ of the last due tick, rad and rad/s -/
  theta : Rat := 0
  omega : Rat := 0
  omegaKnown : Bool := false
  /-- the tick θ̂ and ω̂ refer to, and those of the pair last committed with their tick (R156) -/
  tickK : Nat := 0
  thetaC : Rat := 0
  omegaC : Rat := 0
  tickC : Nat := 0
  /-- the blend weight of the last execution committed (10 R279) -/
  betaC : Rat := 0
  /-- iq of the last tick and the products s × Δi, newest first (R159) -/
  iqLast : Rat := 0
  demod : List Rat := []
  signs : List Int := []
  /-- rotated (id, iq) of the last ticks, newest first (fund_avg) -/
  rot : List (Rat × Rat) := []
  /-- injection phase, ticks since the injection started -/
  injTick : Nat := 0
  /-- blend region code, weight β, refill ticks left (R162) -/
  region : Nat := 0
  beta : Rat := 0
  refill : Nat := 0
  /-- counter value since which |ω̂| stays below 3 Hz (R163) -/
  imLowSince : Option Nat := none
  catching : Option CatchSt := none
  /-- the start-up steps of this chapter are over (R149) -/
  stepsDone : Bool := true
  catchResult : Nat := 0
  catchOmega : Rat := 0
  /-- the axis was caught in motion since it left PARKED: it takes over at HOLD (06 R189) -/
  caught : Bool := false
  init : Option InitSt := none
  deriving DecidableEq, Repr

/-- A winding short (06 R186): its start, ticks at or below AX_SHORT_WEND, the members whose legs are released now, the peak
current, and its command. -/
structure ShortSt where
  start : Nat
  endTicks : Nat := 0
  released : List Nat := []
  peak : Rat := 0
  cmd : Waiting := none
  deriving DecidableEq, Repr

/-- A park from HOLD (06 R190): by brake or by de-flux, its start, the cause its transition reports, and the commands it
completes. -/
structure ParkSt where
  brake : Bool
  start : Nat
  cause : Nat := 0
  cmds : List Hdr := []
  deriving DecidableEq, Repr

/-- A recovery sequence (06 R191): its step, allow_short, its command and the catch results so far. -/
structure RecoverSt where
  step : Nat
  allowShort : Bool
  cmd : Waiting
  catchResult : Nat := 0
  omegaFit : F32 := 0
  deriving DecidableEq, Repr

/-- Waveforms, direction and sequences (06). -/
structure AxWave where
  /-- σ_d is −1 -/
  reversed : Bool := false
  reversals : Nat := 0
  /-- base and ref_base of the delivered position, 48.16 (R182) -/
  base : Int := 0
  refBase : Int := 0
  sector : Nat := 0
  handover : Option Handover := none
  kappa : Rat := 0
  sixStep : Bool := false
  /-- the vertex in force and the ramp step at kappa = 1 (R180) -/
  vertex : Option Nat := none
  /-- seq_step of AX_DRIVE_STATUS, its start and the time the axis last left PARKED (R187) -/
  seqStep : Nat := 0
  seqStart : Nat := 0
  leftParked : Nat := 0
  /-- the flux factor f -/
  flux : Rat := 0
  /-- the flux step begins at the next tick: a catch has just found the axis in motion (05 R167) -/
  fluxNext : Bool := false
  short : Option ShortSt := none
  park : Option ParkSt := none
  recover : Option RecoverSt := none
  takeover : Bool := false
  /-- the PWM stays off in OPEN: after a catch in motion until OPEN is left or the flux step begins, and after an unresolved polarity (05 R160, R167) -/
  openOff : Bool := false
  /-- the assigned brake output is energised (lifted) -/
  brakeLifted : Bool := false
  deriving DecidableEq, Repr

/-- What a leg commands (07 R200): neither side, the low side or the high side. -/
inductive Side where
  | none
  | low
  | high
  deriving DecidableEq, Repr

/-- One leg's dead times, missed edges and fallback (07 R204 to R206), 125 ps units. -/
structure LegDt where
  fall : Nat := 0x3E80
  rise : Nat := 0x3E80
  /-- consecutive measured edges without a seen transition -/
  misses : Nat := 0
  fallback : Bool := false
  /-- what the leg commanded before the present period, and what is left of a fall dead time that reaches into it (R200, R204) -/
  before : Side := .none
  gap : Nat := 0
  /-- the dead times that the edges of the present period use: a new value applies from the next edge (R206) -/
  riseNow : Nat := 0x3E80
  fallNow : Nat := 0x3E80
  /-- measured edges of the present period whose window has seen nothing so far (R205) -/
  riseEdge : Bool := false
  fallEdge : Bool := false
  deriving DecidableEq, Repr

/-- The on-times of a leg's two gates within a period, from and to, in 125 ps units from its start (07 R200, R204). -/
structure LegWave where
  high : List (Nat × Nat) := []
  low : List (Nat × Nat) := []
  deriving DecidableEq, Repr

/-- PWM, dead time and trips (07). -/
structure AxPwm where
  /-- PWM_CTRL has been written since reset (R196) -/
  ctrlWritten : Bool := false
  on : Bool := false
  /-- a FAULT was entered: the PWM is off from the next tick (04 R134) -/
  offNext : Bool := false
  /-- forced inactive by the STO of the group, until an axis leaves PARKED (R215) -/
  sto : Bool := false
  /-- shadow and active duties of legs U, V, W -/
  shadow : List Leg := [.released, .released, .released]
  active : List Leg := [.released, .released, .released]
  /-- index of the PWM period within its tick -/
  period : Nat := 0
  legs : AList LegDt := []
  /-- the counter value at which the present period started (R198) -/
  startAt : Nat := 0
  /-- the on-times of legs U, V, W in the last cut period (R203) -/
  cutWaves : List LegWave := []
  /-- the registers of the page in force since the last tick (R197): PWM_CTRL, PWM_DT_LIM, PWM_DT_CFG, PWM_TRIP_CFG, PWM_TRIP_WIN, and in
  the page of axis 8g PWM_GTRIP_CFG and PWM_GTRIP_MASK -/
  ctrl : Word := 0x00000001
  dtLim : Word := 0x3E800C80
  dtCfg : Word := 0x01903E80
  tripCfg : Word := 0x00010000
  tripWin : Word := 0x00000001
  gCfg : Word := 0
  gMask : Word := 0
  /-- the level of AXnn_TRIP after its filter, and of TRIPG_g in the page of axis 8g (R209) -/
  ball : Bool := false
  gBall : Bool := false
  /-- whether a trip holds, from which point of the present period (125 ps units), and whether the period has been counted (R211, R212) -/
  tripNow : Bool := false
  tripFrom : Nat := 0
  counted : Bool := false
  /-- win_count has reached latch_n, or a group trip with gmode = 1 has come: the axis is latched off in this 500 MHz cycle (R212, R213) -/
  latchDue : Bool := false
  groupDue : Bool := false
  latched : Bool := false
  /-- periods left of the counting window, and its count -/
  winLeft : Nat := 0
  winCount : Nat := 0
  deriving DecidableEq, Repr

end Sys2Proof.Machine
end

