-- ==== Sys2Proof/Machine/StHost.lean ====
section
/-!
DEFINITION. The state behind the host interface: rings, commands in flight, event queues, vectors, client resets
(12_host_commands.md R341 to R354, 13_clients_events_dma.md R361 to R379) and the DMA engine (R380 to R391).
-/

namespace Sys2Proof.Machine

/-- A submission ring (12 R342, R343): entries fetched and published are counted from its creation; the ring's indices are
these counts modulo its size. -/
structure Sq where
  client : Nat
  loc : Nat
  /-- 0 tick-critical, 1 high, 2 normal, 3 bulk -/
  cls : Nat
  cq : Nat
  base : Nat
  k : Nat
  head : Nat := 0
  tail : Nat := 0
  stopped : Bool := false
  /-- tail writes whose entries have not all been fetched: the tail's count after each, and the write's place in ring arrival order
  (R343) -/
  marks : List (Nat × Nat) := []
  deriving DecidableEq, Repr

/-- A completion that waits for room in its ring (12 R346): the entry without its phase, the notify flag, and the tag as the command
is in flight under it. -/
structure Held where
  bytes : List Byte
  notify : Bool
  tag : Nat
  deriving DecidableEq, Repr

/-- A completion ring (12 R344, R346): entries written and consumed, counted from its creation. -/
structure Cq where
  client : Nat
  loc : Nat
  base : Nat
  k : Nat
  vector : Nat
  wr : Nat := 0
  rd : Nat := 0
  stopped : Bool := false
  /-- cq_full, raised once per filling -/
  full : Bool := false
  /-- completions held, oldest first -/
  held : List Held := []
  deriving DecidableEq, Repr

/-- A client's event queue (13 R370, R373), counted as a completion ring is. -/
structure Evq where
  wr : Nat := 0
  rd : Nat := 0
  /-- entries lost since the previous entry was written -/
  lost : Nat := 0
  /-- an entry has been lost since the queue last had free space -/
  overflowed : Bool := false
  deriving DecidableEq, Repr

/-- A cause of a vector that has not been signalled: the CQ, or none for the event queue, and the entry's count. -/
structure Cause where
  cq : Option Nat
  idx : Nat
  deriving DecidableEq, Repr

/-- One vector's moderation (13 R374): unsignalled causes, oldest first, and the counter value of the first. -/
structure Vec where
  causes : List Cause := []
  first : Nat := 0
  deriving DecidableEq, Repr

/-- A command accepted for a later frame tick (12 R353): its opcode, header and entry, the fabric time in ns from which it
is due, and its place in ring arrival order. -/
structure Sub where
  op : Nat
  h : Hdr
  bytes : List Byte
  due : Nat
  ord : Nat
  /-- ACCEPTED has been written -/
  acked : Bool := false
  /-- held for a wake (02 R74) -/
  held : Bool := false
  /-- what the device read from host memory for it, and that Keep's copy gave Turret's result (11 R311) -/
  data : Option (List Byte) := none
  keepSame : Bool := true
  deriving DecidableEq, Repr

/-- A command in flight (12 R351): its ring, tag, client and target; a rejection that never held its tag (checks 1 to 3) under its tag
plus 2¹⁶. -/
structure InFlight where
  sq : Nat
  tag : Nat
  cc : Nat
  node : Nat
  deriving DecidableEq, Repr

/-- An entry of a UDP datagram that waits to be checked behind a fence (12 R353, 14 R426): its binding, bytes and place in arrival
order, and what the device read from host memory for it. -/
structure UdpEnt where
  binding : Nat
  bytes : List Byte
  ord : Nat
  data : Option (List Byte) := none
  keepSame : Bool := true
  deriving DecidableEq, Repr

/-- A client reset in progress (13 R376): the client and the fabric time of its cut tick, ns. -/
structure ClientReset where
  cc : Nat
  cut : Nat
  cutDone : Bool := false
  /-- the command that ordered it, and what its completion reports: commands discarded, axes that took an orphan reaction (R379) -/
  cmd : Option Hdr := none
  discarded : Nat := 0
  orphans : Nat := 0
  deriving DecidableEq, Repr

/-- A command forwarded over the ring that awaits its completion (12 R354, 14 R400): the counter value it was sent at, and whether its
target has accepted it. -/
structure Forwarded where
  h : Hdr
  op : Nat
  sent : Nat
  acked : Bool := false
  deriving DecidableEq, Repr

/-- A command on several models that completes once, when the last of them has ended (12 R349): how many are left, and the status
and result of the first that failed. -/
structure JoinSt where
  h : Hdr
  left : Nat
  bad : Option (Nat × List (Nat × Nat × Nat)) := none
  deriving DecidableEq, Repr

/-- The host port, rings, clients and events. -/
structure HostSt where
  /-- strap: SPI mode (12 R333) -/
  spi : Bool := false
  /-- whether this device carries the host port -/
  attached : Bool := true
  linkUp : Bool := false
  speed : Nat := 0
  width : Nat := 0
  vfEnable : Bool := false
  numVfs : Nat := 0
  sqs : AList Sq := []
  cqs : AList Cq := []
  evqs : AList Evq := []
  vecs : AList Vec := []
  /-- MSI-X vector masks and pending bits of each client -/
  masks : AList Nat := []
  pba : AList Nat := []
  accepted : List Sub := []
  nextOrd : Nat := 0
  inflight : List InFlight := []
  joins : List JoinSt := []
  resets : List ClientReset := []
  forwarded : List Forwarded := []
  /-- clients whose contexts have ceased (13 R361) -/
  gone : List Nat := []
  /-- the node that carries the host port, where it is not this one -/
  hostNode : Nat := 0
  /-- source port and sequence number of the last datagram of each UDP binding (14 R426) -/
  udpPeer : AList (Nat × Nat) := []
  udpQueue : List UdpEnt := []
  /-- token buckets of tick-critical clients, in 1/500,000 of a command, with the counter value of their last refill; one not listed
  is full (13 R366) -/
  tokens : AList (Nat × Nat) := []
  /-- counter value at which the PCIe link went down (12 R337) -/
  downSince : Option Nat := none
  /-- kind of the access fault of the access just judged, 0 none -/
  accKind : Nat := 0
  /-- SYS_RESET (02 R59): the ring and tag of the completion whose write the reset waits for, then the counter value of the reset -/
  resetWait : Option (Nat × Nat) := none
  resetAt : Option Nat := none
  /-- completion rings whose memory refuses the device's writes (12 R347) -/
  cqBad : List Nat := []
  /-- how many commands of a client have been fetched since one of the class was, while one of it waited (13 R367), by client and class -/
  passed : AList Nat := []
  /-- the counter value of the latest raises, and those raises: source, subject, and the count of the entry they went into (13 R372) -/
  raisedAt : Nat := 0
  raised : List (Nat × Nat × Nat) := []
  /-- register reads of peers that await their response: node, offset, counter value -/
  reads : List (Nat × Nat × Nat) := []
  deriving DecidableEq, Repr

/-- DMA channel states (13 R386). -/
inductive DmaState where
  | idle | run | halted | error | probing
  deriving DecidableEq, Repr

/-- The state code of DMA_CH_STATUS. -/
def DmaState.code : DmaState → Nat
  | .idle => 0 | .run => 1 | .halted => 2 | .error => 3 | .probing => 4

/-- One DMA channel (13 R380 to R391). -/
structure DmaCh where
  state : DmaState := .idle
  head : Nat := 0
  tail : Nat := 0
  pos : Nat := 0
  cand : Bool := false
  probeOk : Bool := false
  errKind : Nat := 0
  /-- trigger credits not used yet (R385) -/
  credits : Nat := 0
  /-- the time from which its limiter permits the next burst, in quarters of a ns of the counter (R383) -/
  freeAt : Nat := 0
  deriving DecidableEq, Repr

/-- The DMA engine. -/
structure DmaSt where
  chans : AList DmaCh := []
  /-- the channel probed -/
  probing : Option Nat := none
  /-- counter value at which TEST_DMA_HOLD ends, none for no end (16 R472) -/
  holdEnd : Option Nat := none
  deriving DecidableEq, Repr

end Sys2Proof.Machine
end

