-- ==== Sys2Proof/Machine/StIo.lean ====
section
/-!
DEFINITION. The state of the field channels, the CAN controllers and the UARTs (15_field_io_can.md), and of firmware update, the
TAPs and the debug port (16_update_test_debug.md), beyond their registers.
-/

namespace Sys2Proof.Machine

/-- The conditions of a field channel (15 R435), and whether its thermal protection holds the switch open. -/
structure FieldCh where
  overload : Bool := false
  thermal : Bool := false
  readback : Bool := false
  wire : Bool := false
  /-- counter value of the last change of its bit of FIELD_OUT_EFF (R435) -/
  effAt : Nat := 0
  deriving DecidableEq, Repr

/-- What a CAN controller has on the bus (15 R443, R447). -/
inductive CanBus where
  /-- the entry at CAN_TX_DONE -/
  | entry
  /-- a reference message -/
  | reference
  deriving DecidableEq, Repr

/-- A write of an acknowledge index that TEST_CAN_ACK delays (16 R472): of the transmit queue, its value and the counter value at
which it takes effect. -/
structure CanDelay where
  tx : Bool
  v : Nat
  at_ : Nat
  deriving DecidableEq, Repr

/-- A CAN controller (15 R440 to R447): what is on the bus, the count up to which entries are aborted, retransmissions of the entry
on the bus, occurrences of 11 recessive bits in bus-off, and the time master: next due time in ns, a reference that waits, sequence
number, whether the next message carries valid 0, valid of the one being sent and of the last sent, skips, and the SOF time of the last. -/
structure CanSt where
  bus : Option CanBus := none
  abortTo : Option Nat := none
  tries : Nat := 0
  recessive : Nat := 0
  refNext : Nat := 0
  refPending : Bool := false
  seq : Nat := 0
  fresh : Bool := true
  curValid : Bool := false
  lastValid : Bool := false
  skips : Nat := 0
  prevSof : Nat := 0
  delays : List CanDelay := []
  deriving DecidableEq, Repr

/-- A UART (15 R452): received bytes with their flags, bytes that wait, the byte being sent, and DE. -/
structure UartSt where
  rx : List Word := []
  tx : List Byte := []
  shift : Option Byte := none
  de : Bool := false
  /-- the end of the last stop bit of the byte being or last sent, and of the lag of DE after it, in quarters of a ns of the counter (R452) -/
  endAt : Nat := 0
  deEnd : Nat := 0
  deriving DecidableEq, Repr

/-- A flash slot (16 R457, R467): its state code, the blocks written, and an image put there in production, whose contents the spec
does not give and which verifies (notes/assumptions/11.md). -/
structure FlashSlot where
  state : Nat := 0
  blocks : AList (List Byte) := []
  factory : Bool := false
  deriving DecidableEq, Repr

/-- A boot record (16 R456). -/
structure BootRec where
  seq : Nat
  active : Nat
  pending : Option Nat
  trial : Bool
  deriving DecidableEq, Repr

/-- A block being programmed: its index, bytes, and command. -/
structure Prog where
  index : Nat
  bytes : List Byte
  cmd : Hdr
  deriving DecidableEq, Repr

/-- An update session (16 R460 to R462): its slot, length, block count, phase code (1 erasing, 2 loading, 3 verifying), the command
that waits for the phase to end, and the blocks being programmed. -/
structure UpdSess where
  slot : Nat
  length : Nat
  blocks : Nat
  phase : Nat
  cmd : Option Hdr
  prog : List Prog := []
  deriving DecidableEq, Repr

/-- Firmware update, TAPs and the debug port. -/
structure UpdSt where
  slots : AList FlashSlot := [(0, { state := 4, factory := true })]
  /-- the two copies of the boot record -/
  recs : AList BootRec := []
  running : Nat := 0
  trial : Bool := false
  finial : Bool := false
  bootSrc : Nat := 0
  session : Option UpdSess := none
  reason : Nat := 0
  /-- OTP: anti-rollback steps, the image key is programmed, debug state -/
  steps : Nat := 0
  keyOk : Bool := true
  dbg : Nat := 0
  /-- a commit in progress -/
  commit : Option Hdr := none
  /-- instructions of the logic-die and Drum-die TAPs -/
  tapLogic : Nat := 2
  tapDrum : Nat := 2
  /-- a token has opened the debug port; the challenge's first free value -/
  tokenOk : Bool := false
  challenge : Nat := 0
  /-- command processors halted -/
  halted : Nat := 0
  /-- unlock of PRODUCTION_TEST: the first value's counter, the window's end -/
  keyAt : Option Nat := none
  windowEnd : Option Nat := none
  /-- Finial on UART 0: bytes of a frame in reception, and the counter value of its first -/
  frame : List Byte := []
  frameAt : Nat := 0
  /-- frames left of the TEST_RING stall -/
  stallLeft : Nat := 0
  deriving DecidableEq, Repr

end Sys2Proof.Machine
end

