-- ==== Sys2Proof/Machine/StMotion.lean ====
section
/-!
DEFINITION. The state of the reference generators: profiles, streams, plans, gearing, load sharing and virtual masters
(09_motion_gearing.md).  Positions are signed 48.16 integers (R240); velocities and accelerations are exact
(notes/assumptions/15.md).
-/

namespace Sys2Proof.Machine

/-- A segment of constant jerk: its duration in seconds and its jerk in counts/s³ (R253). -/
structure Seg where
  dur : Rat
  jerk : Rat
  deriving DecidableEq, Repr

/-- A plan or stop ramp in progress (R244, R253): its start in ns, the generator state it starts from, its segments, and the
position it ends at exactly when it aims at one. -/
structure Plan where
  t0 : Nat
  p0 : Int
  v0 : Rat
  a0 : Rat
  segs : List Seg
  goal : Option Int := none
  /-- the velocity it ends at and runs on with -/
  vEnd : Rat := 0
  deriving DecidableEq, Repr

/-- A knot as it was read: its time, position 48.16 and velocity. -/
structure Knot where
  t : Nat := 0
  p : Int := 0
  v : F32 := 0
  deriving DecidableEq, Repr

/-- A table or stream in progress (R247 to R252): its time origin in ns, its first knot, the shift of its positions, and the
index of the knot that ends the current segment. -/
structure KnotRun where
  t0 : Nat
  first : Nat
  count : Nat
  shift : Int
  cur : Nat
  /-- the next segment is invalid: the ramp starts at the current segment's end knot -/
  bad : Bool := false
  /-- the next segment has been judged -/
  checked : Bool := false
  /-- the knot the current segment of a stream starts at, which the host may overwrite once it is consumed -/
  start : Knot := {}
  deriving DecidableEq, Repr

/-- The source a generator follows below its gear laws (R242). -/
inductive Src where
  | off
  | hold
  | table (k : KnotRun)
  | stream (k : KnotRun)
  | move (p : Plan)
  | vel (p : Plan)
  | share
  | ramp (p : Plan)
  /-- the takeover of R189 from a caught speed -/
  | catchUp (p : Plan)
  deriving DecidableEq, Repr

/-- A gearing master (R258): a local axis or virtual master, by feedback or reference, or a publication of a node. -/
structure Master where
  index : Nat
  fb : Bool := false
  remote : Option Nat := none
  deriving DecidableEq, Repr

/-- A gear or cam law (R260, R261): ratio, phase and engage points in 48.16. -/
structure GearLaw where
  n : Int
  d : Nat
  phi : Int := 0
  m0 : Int := 0
  s0 : Int := 0
  cam : Bool := false
  cyclic : Bool := false
  points : Nat := 0
  deriving DecidableEq, Repr

/-- The kinds of blend (R262). -/
inductive BlendKind where
  | velocity | position | phase
  deriving DecidableEq, Repr

/-- A published master record (R265): sample time, position 48.16, velocity and acceleration. -/
structure MRec where
  ts : Nat
  p : Int
  v : F32
  a : F32
  deriving DecidableEq, Repr

/-- A master as a law follows it (R259, R266, R267): the sum of its re-references since the engage, and for a remote master the
record in use, the one that has arrived and waits for its frame tick, and the consecutive misses. -/
structure MasterSt where
  m : Master
  delta : Int := 0
  rec_ : Option MRec := none
  next : Option MRec := none
  misses : Nat := 0
  deriving DecidableEq, Repr

/-- One change of law that is blending or in force over what was in force before it (R262): its master, law, kind, start in ns,
length in ms, the phase change, and the integrated position and velocity of a velocity blend. -/
structure GearLayer where
  ms : MasterSt
  law : GearLaw
  kind : BlendKind
  t0 : Nat
  te : Nat
  dphi : Int := 0
  p : Int := 0
  v : Rat := 0
  /-- the time p and v hold at -/
  at_ : Nat := 0
  /-- the command that completes at its end -/
  cmd : Option Hdr := none
  deriving DecidableEq, Repr

/-- The gearing of an axis (R258 to R268). -/
structure GearSt where
  /-- newest first; the last one lies on the base source -/
  layers : List GearLayer := []
  absolute : Bool := false
  /-- gear state of GEAR_STATUS -/
  state : Nat := 0
  mPos : Int := 0
  age : Nat := 0
  /-- the misses counted when the master was lost (R267) -/
  lostMisses : Nat := 0
  /-- suspended once HOLD is reached (R268) -/
  suspend : Bool := false
  deriving DecidableEq, Repr

/-- A member of a load-share group (R270 to R273). -/
structure LsMember where
  home : Nat
  group : Nat
  weight : Int
  localHome : Bool
  /-- total and sum of weights of the record in use, for a remote home -/
  total : F32 := 0
  sum : F32 := 0
  recTs : Nat := 0
  nextRec : Option (Nat × F32 × F32) := none
  misses : Nat := 0
  share : Rat := 0
  /-- leaving: the fade's start in ns and the share it starts from -/
  fade : Option (Nat × Rat) := none
  byLoss : Bool := false
  deriving DecidableEq, Repr

/-- The reference generator of an axis. -/
structure AxMot where
  p : Int := 0
  v : Rat := 0
  a : Rat := 0
  /-- the time they hold at, ns -/
  at_ : Nat := 0
  hold : Int := 0
  src : Src := .off
  gear : GearSt := {}
  ls : Option LsMember := none
  /-- knot ranges validated by PROF_LOAD: first index, count, relative (R250) -/
  valid : List (Nat × Nat × Bool) := []
  /-- buffered-ahead below 4 frame periods -/
  low : Bool := false
  /-- limits in force, taken at a frame tick (R243): v_max, a_max, j_max, stop a, stop j -/
  lims : List F32 := [0, 0, 0, 0, 0]
  /-- microsteps carried over and the last direction (R256) -/
  carry : Int := 0
  /-- pulses of the present loop period and its direction setup, ns (09 R256) -/
  ptCount : Nat := 0
  ptSetup : Nat := 0
  dirUp : Bool := true
  /-- PT_MSTEP was lost by a reset or VIGIL and no PARKED-to-OPEN transition has reported it (R257) -/
  msLoss : Bool := true
  /-- speed at the last frame tick, for the acceleration of a feedback master (R258) -/
  lastFrameV : Rat := 0
  frameA : Rat := 0
  deriving DecidableEq, Repr

/-- A virtual master (R269). -/
structure VmSt where
  p : Int := 0
  v : Rat := 0
  a : Rat := 0
  src : Src := .hold
  deriving DecidableEq, Repr

/-- A remote member's last record at the home of a load-share group (R272). -/
structure LsRemote where
  torque : F32 := 0
  weight : Int := 0
  ts : Nat := 0
  next : Option (Nat × F32 × Int) := none
  misses : Nat := 0
  active : Bool := false
  deriving DecidableEq, Repr

/-- A motion order that has taken effect at F and takes over at F + 1 (R254): its opcode, header and entry, and the fabric time
of the takeover. -/
structure Takeover where
  op : Nat
  h : Hdr
  bytes : List Byte
  at_ : Nat
  deriving DecidableEq, Repr

/-- Motion of the device: virtual masters, remote members by group and entry, orders between F and F + 1, and whether the
time unit has been told that every affected axis stands (R268). -/
structure MotSt where
  vms : AList VmSt := []
  remotes : AList LsRemote := []
  takeovers : List Takeover := []
  syncHold : Bool := false
  /-- the axes R268 stops -/
  syncAxes : Nat := 0
  /-- load-share groups of peers whose records have been seen: home, group, member axis -/
  lsSeen : List (Nat × Nat × Nat) := []
  /-- re-references of each publication's master since it started (R259) -/
  pubDelta : AList Int := []
  /-- publications of peers that have been seen: node, index, feedback kind, and the latest record (R264) -/
  pubs : List (Nat × Nat × Bool × MRec) := []
  deriving DecidableEq, Repr

end Sys2Proof.Machine
end

