-- ==== Sys2Proof/Machine/StOcu.lean ====
section
/-!
DEFINITION. The state of the Oculus engine and of the Lantern generators beyond their registers (10_oculus_tuning.md).
-/

namespace Sys2Proof.Machine

/-- An event seen by the trigger sequencer between samples (R284): its code, edge, and time in 125 ps units. -/
structure OcuEvent where
  code : Nat
  rising : Bool
  t : Nat
  deriving DecidableEq, Repr

/-- A run of evenly spaced samples (R289): the ordinal of its first sample and that sample's tick; a fabric-time step begins a
new run. -/
structure OcuMark where
  ord : Nat
  tick : Nat
  deriving DecidableEq, Repr

/-- The accepted trigger of a record (R285): its sample's ordinal, its point in 125 ps units, the tick time of its sample in
ns, and whether it was forced. -/
structure OcuTrig where
  ord : Nat
  t : Nat
  tick : Nat
  forced : Bool
  deriving DecidableEq, Repr

/-- A record whose header and trailer await their publication (R293): its slot's offset, its header, its trailer and the values
the record registers take. -/
structure OcuDone where
  addr : Nat
  header : List Byte
  trailer : List Byte
  trailerAt : Nat
  trig : Nat
  ofs : Int
  dead : Nat
  meas : List (List F32)
  deriving DecidableEq, Repr

/-- The Oculus engine (R276 to R294). -/
structure OcuSt where
  /-- OCU_STATUS.state -/
  state : Nat := 0
  holder : Option Nat := none
  stopCause : Nat := 0
  rate : Nat := 0
  /-- sequencer state, samples since its entry, and its count -/
  seqState : Nat := 0
  age : Nat := 0
  count : Nat := 0
  /-- the previous sample of each channel -/
  prev : AList Word := []
  prevTick : Nat := 0
  events : List OcuEvent := []
  /-- slot index of the record in progress, records ended since arming, samples taken in it, and its runs, newest first -/
  slot : Nat := 0
  ended : Nat := 0
  taken : Nat := 0
  marks : List OcuMark := []
  trig : Option OcuTrig := none
  /-- CAP_FORCE: 0 none, 1 since the last sample, 2 the sequencer is abandoned -/
  force : Nat := 0
  forceCmd : Option Hdr := none
  armCmd : Option Hdr := none
  /-- the sample tick that writes a header, by the rate of the record that ended -/
  skip : Option Nat := none
  /-- time of the last sample of the record before, ns, and the dead time of this one -/
  deadFrom : Option Nat := none
  dead : Nat := 0
  /-- records published since device reset -/
  seq : Nat := 0
  done : List OcuDone := []
  deriving DecidableEq, Repr

/-- A Lantern generator (R296 to R299): LAN_START's command and frame tick, the next sample index, the PRBS register with its
output bit and the due ticks left of that bit, and a fade in progress (the envelope it starts from and its samples so far). -/
structure LanSt where
  cmd : Option Hdr := none
  at_ : Nat := 0
  startTime : Nat := 0
  next : Nat := 0
  prbs : Nat := 0
  out : Bool := false
  left : Nat := 0
  fade : Option (Rat × Nat) := none
  env : Rat := 0
  deriving DecidableEq, Repr

end Sys2Proof.Machine
end

