-- ==== Sys2Proof/Machine/StRing.lean ====
section
/-!
DEFINITION. The state of the Spire ring, its map, links and slots, and of the PTP instances (14_spire_ring_time.md).
-/

namespace Sys2Proof.Machine

/-- A packet that waits for a link (R406) or for room (R400): its type, destination and payload, and the command it carries if it is one. -/
structure QueuedPkt where
  kind : Nat
  node : Nat
  bytes : List Byte
  cmd : Option Hdr := none
  /-- a command within reserved capacity (13 R366) -/
  reserved : Bool := false
  deriving DecidableEq, Repr

/-- One link (R406): state code, whether this end wraps, no signal, the counter value its lock or recalibration began at, the
packets that wait, and the last delay exchanges in 2⁻⁸ ns, newest first. -/
structure PortSt where
  state : Nat := 1
  wrapped : Bool := false
  los : Bool := false
  since : Nat := 0
  queue : List QueuedPkt := []
  delays : List Nat := []
  deriving DecidableEq, Repr

/-- A node of the root's map (R402, R405). -/
structure NodeSt where
  state : Nat := 0
  vigil : Bool := false
  pos : Nat := 0
  uid : List Byte := []
  /-- frames in a row without its status slot, and whether it arrived in this frame -/
  missed : Nat := 0
  seen : Bool := false
  /-- the mode and link states its status slot reports -/
  mode : Nat := 0xF
  links : Nat := 0
  /-- frame F_i of its insertion, ns, and the command that waits for it -/
  insertAt : Option Nat := none
  cmd : Option Hdr := none
  host : Bool := false
  /-- ordered out in the frame that starts at this time -/
  removed : Option Nat := none
  deriving DecidableEq, Repr

/-- A held slot, or a refused request (R399): kind 1 publication `index` of `owner`, kind 2 a load-share pair of remote entry `sub`
of group `index`; its offset and length in the cyclic segment, and the frame tick from which it is used. -/
structure SlotEnt where
  owner : Nat
  kind : Nat
  index : Nat
  sub : Nat := 0
  off : Nat := 0
  size : Nat
  from_ : Nat := 0
  deriving DecidableEq, Repr

/-- A PTP instance (R424, R425, R428): its configuration, role, and the times of the exchange in progress, ns. -/
structure PtpSt where
  cfgRole : Nat := 0
  role : Nat := 0
  domain : Nat := 0
  flags : Nat := 0
  rxDelay : Nat := 0
  txDelay : Nat := 0
  prio1 : Nat := 128
  prio2 : Nat := 128
  /-- the master chosen, as its Announce compares -/
  best : Option Nat := none
  t1 : Option Int := none
  t2 : Option Int := none
  t3 : Option Int := none
  configured : Bool := false
  deriving DecidableEq, Repr

/-- The ring. -/
structure RingSt where
  ports : AList PortSt := []
  nodes : AList NodeSt := []
  /-- topology epoch in use, one announced for the next frame, slot epoch -/
  epoch : Nat := 0
  epochNext : Bool := false
  slotEpoch : Nat := 0
  slotNext : Option Nat := none
  slots : List SlotEnt := []
  refused : List SlotEnt := []
  standby : Option Nat := none
  /-- frame F_i of the device's own insertion, ns -/
  insertAt : Option Nat := none
  /-- the device may join; a request has been sent and is not answered; polls to let pass -/
  ready : Bool := false
  joinSent : Bool := false
  joinSkip : Nat := 0
  /-- a discovery in progress and the command that ordered it -/
  discovering : Bool := false
  discoverCmd : Option Hdr := none
  renumber : Bool := false
  /-- frames of the wake pattern left (R412), and the fabric step: frames left and the step, 2⁻¹⁶ ns -/
  wakeLeft : Nat := 0
  stepLeft : Nat := 0
  step : Int := 0
  /-- a fabric step has been taken from the markers that carry it -/
  stepSeen : Bool := false
  /-- slot copies received in this frame -/
  slotSeen : List (Nat × Nat × Nat × Nat) := []
  /-- frames started or passed since reset -/
  frames : Nat := 0
  /-- d_in of the upstream neighbour from the map mirror, 2⁻⁸ ns -/
  monitorDelay : Nat := 0
  /-- sequence numbers of the packets sent, by destination -/
  seqs : AList Nat := []
  /-- what this device has put into the asynchronous segments of the present frame, bytes: into ring A's, into the forwarding room of
  ring A, into ring B's (R404); and the packets that wait for the next frame -/
  usedA : Nat := 0
  usedRes : Nat := 0
  usedB : Nat := 0
  waits : List QueuedPkt := []
  /-- on a device that holds no map: the active nodes in ring-A order, as the map mirror gives them (R404) -/
  order : List Nat := []
  ptp : AList PtpSt := []
  /-- a handover to the standby is due at the next frame tick -/
  handover : Option Hdr := none
  deriving DecidableEq, Repr

end Sys2Proof.Machine
end

