-- ==== Sys2Proof/Machine/StSafety.lean ====
section
/-!
DEFINITION. The state of the two safety channels beyond the SAFETY registers (11_safety.md).
-/

namespace Sys2Proof.Machine

/-- A safety input pair (R307): the levels of its channels (true high), the counter value its discrepancy began at, whether it
is faulted, and when it closed (for RESET pairs). -/
structure PairSt where
  a : Bool := false
  b : Bool := false
  disc : Option Nat := none
  faulted : Bool := false
  closedAt : Option Nat := none
  deriving DecidableEq, Repr

/-- A group SS1 in progress (R312): the counter value its ramp starts at, the speed at the start, cycles at standstill, the
counter value at which the brakes were de-energised, its cause, whether its STO is latched, whether it is one of the entry to
DEGRADED (R319): of a lift group, which ends in HOLD, or of another group; and the counter value at which Keep detected its demand. -/
structure Ss1St where
  start : Nat
  v0 : Rat
  still : Nat := 0
  brakeAt : Option Nat := none
  code : Nat
  latch : Bool := false
  rescue : Bool := false
  deg : Bool := false
  keepAt : Option Nat := none
  deriving DecidableEq, Repr

/-- Turret's speed channel (R311, SAF_SPD_CFG): its filtered levels of the axis's A and B, and its count. -/
structure SpdSt where
  a : Bool := false
  b : Bool := false
  pos : Int := 0
  deriving DecidableEq, Repr

/-- A group's supervision (R308 to R314): what its STO is demanded by, its SS1, and the state of its functions. -/
structure GrpSt where
  /-- demand of SAF_STO, of the pairs with func 1, of a completed SS1 of a pair with func 2, of a completed SS1 of DEGRADED -/
  cmdSto : Bool := false
  pairSto : Bool := false
  ss1Sto : Bool := false
  degSto : Bool := false
  latched : Bool := false
  /-- the causes of the latched reaction, and the channels that demand it -/
  causes : List Nat := []
  latT : Bool := false
  latK : Bool := false
  ss1 : Option Ss1St := none
  /-- the position and the speed in counts that the last safety cycle took from the speed channel -/
  pos : Int := 0
  v : Rat := 0
  /-- Keep's overspeed channel: the levels of A and B, the edges counted in the gate window that runs, those of its last one, and the
  limit it compared them with -/
  keepA : Bool := false
  keepB : Bool := false
  keepEdges : Nat := 0
  keepCount : Nat := 0
  keepLimit : Nat := 0
  /-- SAF_SDI: 0 off, 1 positive, 2 negative, and the furthest position in that direction -/
  sdi : Nat := 0
  sdiFrom : Int := 0
  /-- consecutive cycles with every energised axis in HOLD, and the position at arming -/
  sosCycles : Nat := 0
  sosAt : Option Int := none
  /-- latched direction of unintended reversal, its furthest position, and since when at standstill -/
  revDir : Int := 0
  revPos : Int := 0
  revZero : Option Nat := none
  ucmAt : Option Int := none
  msAt : Option Int := none
  /-- handrail deviation of each pair, since when, and the counter values of its pulses in the rate window, newest first -/
  hr : List (Option Nat) := [none, none]
  hrPulses : List (List Nat) := [[], []]
  /-- the order of the pendant in force (R324): 1 up, -1 down, 0 none, and whether the key was closed -/
  pendant : Int := 0
  keyWas : Bool := false
  /-- standstill has been reached since DEGRADED was entered; position of each travel axis then -/
  degStill : Bool := false
  degCycles : Nat := 0
  degPos : List (Nat × Int) := []
  deriving DecidableEq, Repr

/-- An output pair (R304, R314): whether it is energised, since when in its present level, and a timing in progress. -/
structure OutSt where
  on : Bool := false
  since : Nat := 0
  timing : Option Nat := none
  /-- the device's own wish (axis brakes, contactors) -/
  wish : Bool := false
  deriving DecidableEq, Repr

/-- An inspection test in progress (R325): the command, its parameter block and destination, counter value and fabric time of
its start, the counter value at which the ramp of type 1 began and whether the pair is energised again, whether fabric time
stepped, and whether it ends as aborted. -/
structure InspSt where
  cmd : Hdr
  block : List Byte
  dest : Nat
  start : Nat
  startTime : Nat
  rampAt : Option Nat := none
  lifted : Bool := false
  stepped : Bool := false
  aborted : Bool := false
  deriving DecidableEq, Repr

/-- Turret and Keep. -/
structure SafSt where
  turretOk : Bool := false
  keepOk : Bool := false
  /-- counter values of the last passed self-tests, none before the first -/
  turretTest : Option Nat := none
  keepTest : Option Nat := none
  turretHalted : Bool := false
  pairs : AList PairSt := []
  /-- test pulses (R307): counter value at which the last pulse of each output began, and the channels (2 × pair, plus 1 for
  channel B) at which it has not appeared yet -/
  tpAt : AList Nat := []
  tpWait : List Nat := []
  groups : AList GrpSt := []
  /-- Turret's speed channels -/
  spd : AList SpdSt := []
  /-- the counter value of the last reaction, until the next safety cycle (R317) -/
  causeAt : Option Nat := none
  outs : AList OutSt := []
  /-- every STO line and output is forced by SAFE_HOLD or a device reaction -/
  deviceSto : Bool := true
  resetOk : Bool := false
  /-- DEGRADED: 0 none, 1 Turret failed, 2 Keep failed; entry and end in counter units -/
  failed : Nat := 0
  degStart : Nat := 0
  degWarned : Bool := false
  /-- unlock of SAF_CFG_LOAD: the first value's counter, the window's end -/
  keyAt : Option Nat := none
  windowEnd : Option Nat := none
  insp : Option InspSt := none
  recSeq : Nat := 0
  /-- a scan-control instruction is loaded (16 R470) -/
  scan : Bool := false
  /-- the unit key is present (R328) -/
  key : Bool := false
  /-- since the last frame tick: bit g a reaction of STO group g, bit 4 a mode change by safety, supply or ring (01 R50, 02 R56) -/
  acted : Nat := 0
  deriving DecidableEq, Repr

end Sys2Proof.Machine
end

