-- ==== Sys2Proof/Machine/StSys.lean ====
section
/-!
DEFINITION. The state of the device as a whole beyond its registers: modes, ticks, wake and supplies (01, 02), Belfry (03),
Cupola's clusters (04), the modulator-clock groups (05), and what the device has sent (the model's outbox).
-/

namespace Sys2Proof.Machine

/-- A change of SYS_TICK_CFG accepted and not yet in force (01 R35): the settings and the fabric time of effect, ns. -/
structure TickPending where
  ftSel : Nat
  mult : Nat
  at_ : Nat
  deriving DecidableEq, Repr

/-- Modes and ticks (01 R31 to R46, 02 R53 to R60). -/
structure SysSt where
  /-- the variant's fuse: true on the BZG-4016 (00 R3, R4) -/
  is4016 : Bool := false
  mode : Mode := .booting
  prevMode : Mode := .booting
  modeCause : Nat := 1
  /-- frame period and loop multiplier codes in force (01 R31, R32) -/
  ftSel : Nat := 1
  mult : Nat := 0
  pending : Option TickPending := none
  /-- on another node than the root: the ft_sel the root has accepted and its fabric time of effect, ns (01 R34, R35) -/
  rootPending : Option (Nat × Nat) := none
  /-- SYS_TICK_COUNT: index of the last loop tick fired -/
  tick : Nat := 0
  /-- fabric time in ns of the last frame tick -/
  lastFrame : Nat := 0
  /-- the present tick was shortened by a forward step (01 R46) -/
  stepTick : Bool := false
  /-- the tick grid has moved since the last tick, and the counter value of that tick (07 R203) -/
  cutTick : Bool := false
  tickAt : Nat := 0
  /-- decimators to resynchronise at the next tick: groups (05 R147) -/
  resync : List Nat := []
  /-- snapshot holders (01 R28): requester to high word -/
  snap : List (Req × Word) := []
  /-- the fraction captured with TIME_NOW_LO, by requester (14 R427) -/
  frac : List (Req × Word) := []
  /-- boot: steps 1 to 6 are over, a device reaction was taken during boot or in VIGIL and waits for its mode change, RECOVERY_N was
  sampled low, both start-up self-tests passed -/
  booted : Bool := false
  bootReaction : Bool := false
  recoveryLow : Bool := false
  selfTest : Bool := false
  /-- pins -/
  resetN : Bool := true
  /-- out by a fabric order, until a new release (02 R54, 14 R411) -/
  orderedOut : Bool := false
  deriving DecidableEq, Repr

/-- Fabric time (14 R417 to R422). -/
structure TimeSt where
  /-- counter C at 500 MHz -/
  cnt : Nat := 0
  /-- offset O in 2⁻⁴⁰ ns -/
  offset : Int := 0
  /-- rate r in 2⁻⁴⁰ -/
  rate : Int := 0
  /-- the rate the servo asks for at the next frame tick -/
  rateNext : Option Int := none
  /-- state code of R420 -/
  state : Nat := 0
  /-- integral term of the servo, consecutive valid markers, frames without one, large errors in a row -/
  integral : Int := 0
  goodMarkers : Nat := 0
  missing : Nat := 0
  largeErr : Nat := 0
  /-- a valid marker arrived since the last frame tick -/
  markerSeen : Bool := false
  /-- frames for which the rate is held after a path change (R421) -/
  holdFrames : Nat := 0
  /-- a step that waits (R422), 2⁻⁴⁰ ns -/
  stepWait : Option Int := none
  /-- the whole-fabric step of the acting root at a frame tick (R424) -/
  rootStep : Option (Nat × Int) := none
  source : Nat := 0
  deriving DecidableEq, Repr

/-- A wake in progress (02 R73 to R76): its cause, start and the device budget in force at entry, µs; the PWR_WAKE commands that
wait for READY; and, once READY is reached, the claimed axes whose HOLD the measured time waits for. -/
structure WakeRun where
  cause : Nat
  start : Nat
  budget : Nat
  cmds : List Hdr := []
  awaiting : Option (List Nat) := none
  deriving DecidableEq, Repr

/-- Rest and wake (02 R61 to R76). -/
structure WakeSt where
  /-- counter value since which the conditions of R69 hold -/
  idleSince : Nat := 0
  run : Option WakeRun := none
  /-- rest assertion of each STO group (R63) -/
  restSto : Nat := 0
  /-- rest state code of each axis at rest -/
  rests : List (Nat × Nat) := []
  /-- device budget in force at the last entry -/
  entryBudget : Nat := 0xFFFFFF
  /-- a VIGIL request to the root is answered: some true granted, some false refused (R70) -/
  bypassGrant : Option Bool := none
  /-- rules that took the device out of VIGIL to REST (03 R97) -/
  rules : List Nat := []
  /-- PWR_REST that waits for the root's answer: deepest mode code -/
  restCmd : Option (Hdr × Nat) := none
  /-- the root has been asked, and its answer decides a rest entry (R70) -/
  asked : Bool := false
  /-- VIGIL is entered once every axis has left HOLD (R54, 06 R190) -/
  deepen : Bool := false
  /-- PWR_WAKE commands whose wake a safety reaction broke off: they complete when READY is reached (R77) -/
  waiting : List Hdr := []
  deriving DecidableEq, Repr

/-- Supplies and dips (02 R78 to R85). -/
structure PowerSt where
  vsysAbsent : Bool := false
  vcoreLow : Bool := false
  vbatPresent : Bool := true
  /-- counter value at which a dip began -/
  dipStart : Option Nat := none
  /-- DIP_STOP issued in the dip in progress: motion is refused (R80) -/
  dipStopped : Bool := false
  /-- the stop of R80 has been requested and is an order of the next frame tick -/
  dipOrder : Bool := false
  /-- flash operation suspended by the dip (R79) -/
  suspended : Bool := false
  /-- tail log: index of the next entry -/
  tailWp : Nat := 0
  /-- the RTC, 32.768 kHz periods, as it would read at counter value 0 -/
  rtc : Nat := 0
  /-- die temperatures, °C (17 R496) -/
  tjLogic : Int := 25
  tjDrum : Int := 25
  /-- TJ_HIGH has been raised and is not armed again -/
  tjHot : Bool := false
  deriving DecidableEq, Repr

/-- One Belfry slot's filter (03 R93). -/
structure BelSlot where
  started : Bool := false
  count : Nat := 0
  level : Bool := false
  y : Nat := 0
  deriving DecidableEq, Repr

/-- One Belfry rule's working state (03 R95, R96): prev, own condition, COUNT edges and the ms left of the window,
and the slot level of the last sample (for the COUNT edge). -/
structure BelRule where
  prev : Bool := false
  own : Bool := false
  edges : Nat := 0
  winLeft : Option Nat := none
  lastLevel : Bool := false
  deriving DecidableEq, Repr

/-- Belfry (03): slots, rules, the snapshot, the log sequence, and flags set while the logic die was off. -/
structure BelSt where
  slots : AList BelSlot := []
  rules : AList BelRule := []
  snap : Option (AList BelSlot × AList BelRule × Word × Word) := none
  /-- stopped below 2.40 V -/
  stopped : Bool := false
  offFlags : Nat := 0
  /-- events of this block and of the supplies while the logic die was off, oldest first: source and subject -/
  offEvents : List (Nat × Nat) := []
  restoredPending : Bool := false
  deriving DecidableEq, Repr

/-- A model in Cupola's schedule (04 R123 to R126): its lead axis, its axes, its group slot, the cost per due tick, rate, phase,
priority and cluster. -/
structure Mdl where
  lead : Nat
  axes : List Nat
  slot : Option Nat
  cost : Nat
  rate : Nat
  phase : Nat
  prio : Nat
  cluster : Nat := 0
  deriving DecidableEq, Repr

/-- An admission search (04 R126): the command, the bank, the models it admits and the counter value it began at, and whether it
has ended. -/
structure SearchSt where
  cmd : Hdr
  bank : Nat
  models : List Mdl
  start : Nat
  ended : Bool := false
  deriving DecidableEq, Repr

/-- Cupola's clusters (04 R128 to R131). -/
structure CupSt where
  ok0 : Bool := true
  ok1 : Bool := true
  primary : Nat := 0
  failCode : Nat := 0
  failovers : Nat := 0
  /-- CUP_FAILOVER_DONE is due after the next tick's commits -/
  failoverDue : Bool := false
  /-- the axes to shed at the next tick -/
  shedNext : Nat := 0
  search : Option SearchSt := none
  /-- S1 of the present tick (01 R45): the cluster cycles its executions ask for, the ns its S0 took, and s1_peak before it -/
  s1Used : Nat := 0
  s1S0 : Nat := 0
  s1Before : Nat := 0
  /-- admission commands judged once the search is over: AX_ADMIT with its bank and slot, or AX_RELEASE -/
  waiting : List (Hdr × Option (Nat × Nat)) := []
  deriving DecidableEq, Repr

/-- One modulator-clock group (05 R142 to R153). -/
structure SdGrp where
  running : Bool := false
  /-- outputs per tick d -/
  d : Nat := 0
  /-- oversampling ratio in force -/
  osr : Nat := 0x80
  /-- outputs since the synchronising reset -/
  outputs : Nat := 0
  busValue : F32 := 0
  busLast : Option F32 := none
  busValid : Bool := false
  busLoss : Nat := 0
  /-- the DC-bus decimator: its bits, newest first, and its outputs of the last loop period -/
  busBits : List Bool := []
  busYs : List Rat := []
  syncCount : Nat := 0
  /-- AX_SDCLK_CFG and AX_BUS_CFG in force since the last frame tick (05 R145) -/
  cfg : BitVec 32 := 0x4E200800
  busCfg : BitVec 32 := 0x3000
  deriving DecidableEq, Repr

/-- What the device sends to the world outside: the model's outbox. -/
inductive Out where
  /-- a completion entry of 32 bytes written to CQ `cq` at index `idx` (12 R344, R349) -/
  | completion (cq idx : Nat) (bytes : List Byte)
  /-- the completion of a command whose ring this device does not hold -/
  | unbound (bytes : List Byte)
  /-- an event entry of 16 bytes written to client `cc`'s queue at index `idx` (13 R372) -/
  | event (cc idx : Nat) (bytes : List Byte)
  /-- vector `v` of client `cc` signalled (13 R374) -/
  | vector (cc v : Nat)
  /-- the answer to a register read: requester, offset, value -/
  | read (r : Req) (addr : Nat) (v : Word)
  /-- bytes written to host memory (13 R381, 11 R326) -/
  | hostWrite (addr : Nat) (bytes : List Byte)
  /-- a packet sent on the ring to a node (14 R400), or a start marker (kind 0): the port it leaves by (0 U onto ring B, 1 D onto ring A), its
  kind, and all its bytes -/
  | packet (port kind node : Nat) (bytes : List Byte)
  /-- a packet sent with a CRC that is wrong (16 R472) -/
  | badPacket (port kind node : Nat) (bytes : List Byte)
  /-- a cyclic slot published on the ring (14 R398) -/
  | slot (index : Nat) (bytes : List Byte)
  /-- an SPI response (12 R339) -/
  | spi (bytes : List Byte)
  /-- a UDP response or Ethernet frame (14 R425, R426) -/
  | eth (port : Nat) (bytes : List Byte)
  /-- a CAN frame put on the bus (15 R441) -/
  | can (k : Nat) (bytes : List Byte)
  /-- the frame of a byte sent by a UART, bit by bit (15 R450, R452) -/
  | uart (n : Nat) (bits : List Bool)
  /-- step pulses of an axis over the following loop period (09 R256): signed count, and the direction setup in ns that precedes them
  when the direction changes at the tick -/
  | pulses (axis : Nat) (n : Int) (setup : Nat)
  /-- a compare pulse (08 R232) -/
  | compareHit (axis unit : Nat)
  /-- a bulk reply over a TAP or Finial (16 R466) -/
  | finial (bytes : List Byte)
  deriving DecidableEq, Repr

end Sys2Proof.Machine
end

