-- ==== Sys2Proof/Machine/State.lean ====
section
/-!
DEFINITION. The state of the block: the register map, the addressed memories, the engines behind them, and the queue of
commands that wait.  Every field is plain data.
-/

namespace Sys2Proof.Machine

/-- What a byte of the device's memories reads as when nothing has written it (notes/assumptions/2.md). -/
def memDflt : Nat → Byte := fun _ => 0

/-- The canonical form of the addressed memories: addresses strictly rising, no entry equal to what an unlisted address
reads as. -/
def Memory.wf (m : List Host.Cell) : Bool := SMap.wf memDflt m

/-- Everything the device holds. -/
structure Dev where
  /-- registers by offset in the register space; an unlisted register holds its reset value -/
  regs : SMap Word := []
  /-- banks, profile and capture memory, logs, ring memory and queues, by address in the register space -/
  mem : List Host.Cell := []
  sys : SysSt := {}
  time : TimeSt := {}
  wake : WakeSt := {}
  pwr : PowerSt := {}
  bel : BelSt := {}
  cup : CupSt := {}
  core : AList AxCore := []
  sense : AList AxSense := []
  wave : AList AxWave := []
  pwm : AList AxPwm := []
  grps : AList SdGrp := []
  fbs : AList AxFb := []
  fbd : FbDev := {}
  mots : AList AxMot := []
  mot : MotSt := {}
  saf : SafSt := {}
  ocu : OcuSt := {}
  lans : AList LanSt := []
  host : HostSt := {}
  dma : DmaSt := {}
  ring : RingSt := {}
  fios : AList FieldCh := []
  cans : AList CanSt := []
  uarts : AList UartSt := []
  upd : UpdSt := {}
  /-- the model's counter of free values (notes/assumptions/1.md) -/
  free : Nat := 0
  /-- the model's outbox, newest first (notes/assumptions/14.md) -/
  out : List Out := []
  deriving DecidableEq, Repr

/-- The state: the device and the commands waiting, first in first out. -/
structure State where
  dev : Dev := {}
  pending : List Instr := []
  deriving DecidableEq, Repr

/-- No command of the device faults: what goes wrong is reported in its registers, events and completions
(01 R30, 12 R356, 13 R369), which are part of the state. -/
inductive Fault where
  deriving DecidableEq, Repr

/-- Why a step can be refused. -/
inductive Refusal where
  /-- raised by `exec` for a command whose meaning is not written yet; safe: nothing is claimed of it -/
  | notModelled (mnemonic : String)
  deriving DecidableEq, Repr

/-- The machine right after reset: every register at its Reset column, every memory unlisted, the device reporting BOOTING
(02 R53), and no command waiting. -/
def State.reset : State := {}

end Sys2Proof.Machine
end

