-- ==== Sys2Proof/Machine/Status.lean ====
section
/-!
DEFINITION. The numbers the device reports with: completion status codes (12_host_commands.md R356), access-fault kinds
(01_architecture_tick.md R30) and event sources (each chapter's event table).
-/

namespace Sys2Proof.Machine

namespace Code
/-- R356 -/
def done : Nat := 0x0000
/-- R356 -/
def accepted : Nat := 0x0001
/-- R352 -/
def tagBusy : Nat := 0x0101
/-- R183 -/
def reversalRefused : Nat := 0x0102
/-- R356 -/
def notOwner : Nat := 0x0103
/-- R356 -/
def wrongMode : Nat := 0x0104
/-- R356 -/
def budgetExceeded : Nat := 0x0105
/-- R4 -/
def axisAbsent : Nat := 0x0106
/-- R80 -/
def supplyLow : Nat := 0x0107
/-- R117 -/
def bankInvalid : Nat := 0x0108
/-- R120, R140 -/
def groupSplit : Nat := 0x0109
/-- R249 -/
def profileInvalid : Nat := 0x010A
/-- R264 -/
def masterInvalid : Nat := 0x010B
/-- R252 -/
def streamShort : Nat := 0x010C
/-- R276 -/
def captureBusy : Nat := 0x010D
/-- R356 -/
def badOpcode : Nat := 0x010E
/-- R351 -/
def badField : Nat := 0x010F
/-- R351 -/
def inFlightLimit : Nat := 0x0110
/-- R351 -/
def timeRange : Nat := 0x0111
/-- R356 -/
def noResource : Nat := 0x0112
/-- R140 -/
def enableTimeout : Nat := 0x0201
/-- R160 -/
def polarityUnresolved : Nat := 0x0202
/-- R192 -/
def recoveryFailed : Nat := 0x0203
/-- R351 -/
def timePast : Nat := 0x0204
/-- R267 -/
def masterLost : Nat := 0x0205
/-- R297 -/
def lanternAborted : Nat := 0x0206
/-- R327 -/
def recordFailed : Nat := 0x0207
/-- R357 -/
def accessFault : Nat := 0x0208
/-- R347 -/
def hostMemory : Nat := 0x0209
/-- 16 R461 -/
def imageRejected : Nat := 0x020A
/-- 16 R462 -/
def rollbackRefused : Nat := 0x020B
/-- R310 -/
def safetyBlocked : Nat := 0x0301
/-- R310 -/
def degradedOnly : Nat := 0x0302
/-- R311 -/
def cfgRejected : Nat := 0x0303
/-- R325 -/
def testAborted : Nat := 0x0304
/-- R354 -/
def nodeLost : Nat := 0x0401
/-- R408 -/
def linkNotReady : Nat := 0x0402
/-- R50 -/
def superseded : Nat := 0x0501
end Code

/-- Access-fault kinds (01 R30). -/
inductive Kind where
  | misaligned | narrowWrite | unmapped | reservedEncoding | wrongMode | axisAbsent | notOwner | notPermitted | dieLink
  deriving DecidableEq, Repr

/-- The kind code of SYS_ACC_FAULT. -/
def Kind.code : Kind → Nat
  | .misaligned => 1 | .narrowWrite => 2 | .unmapped => 3 | .reservedEncoding => 4 | .wrongMode => 5
  | .axisAbsent => 6 | .notOwner => 7 | .notPermitted => 8 | .dieLink => 9

namespace Ev
/-- R52 -/
def accessFault : Nat := 0
/-- R52 -/
def tickCfgApplied : Nat := 1
/-- R52 -/
def tickCfgRefused : Nat := 2
/-- R52 -/
def timeStep : Nat := 3
/-- R86 -/
def modeChange : Nat := 4
/-- R86 -/
def vsysDip : Nat := 5
/-- R86 -/
def dipStop : Nat := 6
/-- R86 -/
def vcoreWarn : Nat := 7
/-- R86 -/
def restEntered : Nat := 8
/-- R86 -/
def wakeDone : Nat := 9
/-- R86 -/
def wakeOverBudget : Nat := 10
/-- R86 -/
def vigilRefused : Nat := 11
/-- R497 -/
def tjHigh : Nat := 12
/-- R86 -/
def bkpMigrated : Nat := 124
/-- R86 -/
def bkpAlarm : Nat := 125
/-- R86 -/
def vbatLow : Nat := 126
/-- R106 -/
def belfryRuleFlag : Nat := 96
/-- R106 -/
def belfryLogOverrun : Nat := 97
/-- R106 -/
def belfryInputError : Nat := 98
/-- R106 -/
def belfryRetentionLost : Nat := 99
/-- R106 -/
def belfrySnapshotRestored : Nat := 100
/-- R141 -/
def cupClusterFailed : Nat := 896
/-- R141 -/
def cupFailoverDone : Nat := 897
/-- R141 -/
def cupAxesShed : Nat := 898
/-- R141 -/
def cupAdmissionChanged : Nat := 899
/-- R302 -/
def ocuTriggered : Nat := 928
/-- R302 -/
def ocuRecordDone : Nat := 929
/-- R302 -/
def ocuRateReduced : Nat := 930
/-- R302 -/
def ocuWaiting : Nat := 931
/-- R302 -/
def ocuStopped : Nat := 932
/-- R302 -/
def ocuTrigIgnored : Nat := 933
/-- R302 -/
def lanDone (g : Nat) : Nat := 936 + g
/-- R302 -/
def lanAborted (g : Nat) : Nat := 940 + g
/-- R332 -/
def safGroupReaction : Nat := 288
/-- R332 -/
def safSafeHold : Nat := 289
/-- R332 -/
def safDegraded : Nat := 290
/-- R332 -/
def safDegWarn : Nat := 291
/-- R332 -/
def safResetDone : Nat := 292
/-- R332 -/
def safInputFault : Nat := 293
/-- R332 -/
def safOutputFault : Nat := 294
/-- R332 -/
def safChannelFault : Nat := 295
/-- R332 -/
def safRecord : Nat := 296
/-- R332 -/
def safUnlockFault : Nat := 297
/-- R332 -/
def safCfgLoaded : Nat := 298
/-- R332 -/
def safTurretHalted : Nat := 299
/-- R360 -/
def hostRingError : Nat := 160
/-- R360 -/
def hostCqFull : Nat := 161
/-- R360 -/
def hostFabErr : Nat := 162
/-- R360 -/
def hostSpiErr : Nat := 163
/-- R360 -/
def hostLinkChange : Nat := 164
/-- R391 -/
def dmaHalted : Nat := 128
/-- R391 -/
def dmaResumed : Nat := 129
/-- R391 -/
def dmaChError : Nat := 130
/-- R391 -/
def dmaDescIrq : Nat := 131
/-- R391 -/
def clientResetDone : Nat := 192
/-- R391 -/
def evqOverflow : Nat := 193
/-- R391 -/
def axOwnerChange : Nat := 194
/-- R429 -/
def timeLock : Nat := 64
/-- R429 -/
def timeLost : Nat := 65
/-- R429 -/
def timeStepDone : Nat := 66
/-- R429 -/
def timeStepWait : Nat := 67
/-- R429 -/
def ptpState : Nat := 68
/-- R429 -/
def fabNodeJoined : Nat := 224
/-- R429 -/
def fabNodeLost : Nat := 225
/-- R429 -/
def fabWrap : Nat := 226
/-- R429 -/
def fabUnwrap : Nat := 227
/-- R429 -/
def fabLink : Nat := 228
/-- R429 -/
def fabRootChange : Nat := 229
/-- R429 -/
def fabIsolated : Nat := 230
/-- R429 -/
def fabSlotRefused : Nat := 231
/-- R429 -/
def fabBypassRefused : Nat := 232
/-- R429 -/
def udpDrop : Nat := 233
/-- R454 -/
def dioFault : Nat := 352
/-- R454 -/
def vfieldChange : Nat := 353
/-- R454 -/
def fioEdge (c : Nat) : Nat := 360 + c
/-- R454 -/
def canRx (k : Nat) : Nat := 416 + 8 * k
/-- R454 -/
def canTxDone (k : Nat) : Nat := 417 + 8 * k
/-- R454 -/
def canRxOvr (k : Nat) : Nat := 418 + 8 * k
/-- R454 -/
def canErrState (k : Nat) : Nat := 419 + 8 * k
/-- R454 -/
def canRefSkip (k : Nat) : Nat := 420 + 8 * k
/-- R454 -/
def uartRx (n : Nat) : Nat := 480 + 8 * n
/-- R454 -/
def uartTxIdle (n : Nat) : Nat := 481 + 8 * n
/-- R454 -/
def uartErr (n : Nat) : Nat := 482 + 8 * n
/-- R478 -/
def updErased : Nat := 496
/-- R478 -/
def updVerified : Nat := 497
/-- R478 -/
def updCommitted : Nat := 498
/-- R478 -/
def updFallback : Nat := 499
/-- R478 -/
def updRollbackExhausted : Nat := 500
/-- R478 -/
def updFlashError : Nat := 501
/-- R478 -/
def testActive : Nat := 960
/-- R478 -/
def testCleared : Nat := 961
/-- R478 -/
def testUnlockFault : Nat := 962
/-- R478 -/
def dbgHalt : Nat := 963
/-- the k-th source of axis n (04 R141) -/
def axis (n k : Nat) : Nat := 512 + 12 * n + k
end Ev

end Sys2Proof.Machine
end

