-- ==== Sys2Proof/Machine/Ops.lean ====
section
/-!
DEFINITION. The named operations every meaning is written with: registers and memories, the numbered engines, fabric time and
the tick grid (01_architecture_tick.md R31 to R36, 14_spire_ring_time.md R417), free values, and what the device sends.
-/

namespace Sys2Proof.Machine

/-! ### Registers and memories -/

/-- The register at key `a`. -/
def Dev.rd (d : Dev) (a : Nat) : Word := SMap.get regReset d.regs a

/-- Set the register at key `a`. -/
def Dev.wr (d : Dev) (a : Nat) (v : Word) : Dev := { d with regs := SMap.put regReset d.regs a v }

/-- Field [hi:lo] of a register. -/
def Dev.fld (d : Dev) (a hi lo : Nat) : Nat := field hi lo (d.rd a)

/-- Set field [hi:lo] of a register. -/
def Dev.setFld (d : Dev) (a hi lo v : Nat) : Dev := d.wr a (setField hi lo v (d.rd a))

/-- Bit `i` of a register. -/
def Dev.rb (d : Dev) (a i : Nat) : Bool := bit i (d.rd a)

/-- Set bit `i` of a register. -/
def Dev.wb (d : Dev) (a i : Nat) (b : Bool) : Dev := d.wr a (setBit i b (d.rd a))

/-- Write several registers. -/
def Dev.wrAll (d : Dev) : List (Nat × Word) → Dev
  | [] => d
  | (a, v) :: l => Dev.wrAll (d.wr a v) l

/-- Add one to field [hi:lo] of a register, saturating at its width. -/
def Dev.incSat (d : Dev) (a hi lo : Nat) : Dev := d.setFld a hi lo (sat (2 ^ (hi + 1 - lo) - 1) (d.fld a hi lo + 1))

/-- Add one to field [hi:lo] of a register, wrapping at its width. -/
def Dev.incWrap (d : Dev) (a hi lo : Nat) : Dev := d.setFld a hi lo (d.fld a hi lo + 1)

/-- A 64-bit pair, low word first (01 R28). -/
def Dev.rd64 (d : Dev) (a : Nat) : Nat := (d.rd a).toNat + 2 ^ 32 * (d.rd (a + 4)).toNat

/-- Set a 64-bit pair. -/
def Dev.wr64 (d : Dev) (a v : Nat) : Dev := (d.wr a (BitVec.ofNat 32 v)).wr (a + 4) (BitVec.ofNat 32 (v / 2 ^ 32))

/-- A 48-bit signed pair, bits [31:16] of the high word reading the sign (08 R219). -/
def Dev.rd48 (d : Dev) (a : Nat) : Int := toSigned 48 (d.rd64 a)

/-- Set a 48-bit signed pair. -/
def Dev.wr48 (d : Dev) (a : Nat) (v : Int) : Dev := d.wr64 a (ofSigned 64 (toSigned 48 (ofSigned 48 v)))

/-- A byte of memory. -/
def Dev.mb (d : Dev) (a : Nat) : Byte := SMap.get memDflt d.mem a

/-- Set a byte of memory. -/
def Dev.setMb (d : Dev) (a : Nat) (v : Byte) : Dev := { d with mem := SMap.put memDflt d.mem a v }

/-- Set bytes of memory from address `a` on. -/
def Dev.setMbs (d : Dev) (a : Nat) : List Byte → Dev
  | [] => d
  | b :: bs => Dev.setMbs (d.setMb a b) (a + 1) bs

/-- `n` bytes of memory from address `a` on. -/
def Dev.mbs (d : Dev) (a n : Nat) : List Byte := (List.range n).map (fun i => d.mb (a + i))

/-- The 32-bit word of memory at `a`, little-endian (00 R13). -/
def Dev.mw (d : Dev) (a : Nat) : Word := BitVec.ofNat 32 (ofLe (d.mbs a 4))

/-- Set the 32-bit word of memory at `a`. -/
def Dev.setMw (d : Dev) (a : Nat) (v : Word) : Dev := d.setMbs a (leBytes 4 v.toNat)

/-! ### The numbered engines -/

/-- The core record of axis `n`. -/
def Dev.ax (d : Dev) (n : Nat) : AxCore := AList.get {} d.core n
/-- Set the core record of axis `n`. -/
def Dev.setAx (d : Dev) (n : Nat) (c : AxCore) : Dev := { d with core := AList.put d.core n c }
/-- The sensing record of axis `n`. -/
def Dev.sns (d : Dev) (n : Nat) : AxSense := AList.get {} d.sense n
/-- Set the sensing record of axis `n`. -/
def Dev.setSns (d : Dev) (n : Nat) (c : AxSense) : Dev := { d with sense := AList.put d.sense n c }
/-- The waveform record of axis `n`. -/
def Dev.wav (d : Dev) (n : Nat) : AxWave := AList.get {} d.wave n
/-- Set the waveform record of axis `n`. -/
def Dev.setWav (d : Dev) (n : Nat) (c : AxWave) : Dev := { d with wave := AList.put d.wave n c }
/-- The PWM record of axis `n`. -/
def Dev.pw (d : Dev) (n : Nat) : AxPwm := AList.get {} d.pwm n
/-- Set the PWM record of axis `n`. -/
def Dev.setPw (d : Dev) (n : Nat) (c : AxPwm) : Dev := { d with pwm := AList.put d.pwm n c }
/-- The feedback record of axis `n`. -/
def Dev.fb (d : Dev) (n : Nat) : AxFb := AList.get {} d.fbs n
/-- Set the feedback record of axis `n`. -/
def Dev.setFb (d : Dev) (n : Nat) (c : AxFb) : Dev := { d with fbs := AList.put d.fbs n c }
/-- The reference generator of axis `n`. -/
def Dev.mo (d : Dev) (n : Nat) : AxMot := AList.get {} d.mots n
/-- Set the reference generator of axis `n`. -/
def Dev.setMo (d : Dev) (n : Nat) (c : AxMot) : Dev := { d with mots := AList.put d.mots n c }
/-- The modulator-clock group `g`. -/
def Dev.grp (d : Dev) (g : Nat) : SdGrp := AList.get {} d.grps g
/-- Set the modulator-clock group `g`. -/
def Dev.setGrp (d : Dev) (g : Nat) (c : SdGrp) : Dev := { d with grps := AList.put d.grps g c }
/-- The supervision of STO group `g`. -/
def Dev.sg (d : Dev) (g : Nat) : GrpSt := AList.get {} d.saf.groups g
/-- Set the supervision of STO group `g`. -/
def Dev.setSg (d : Dev) (g : Nat) (c : GrpSt) : Dev := { d with saf := { d.saf with groups := AList.put d.saf.groups g c } }
/-- DMA channel `c`. -/
def Dev.ch (d : Dev) (c : Nat) : DmaCh := AList.get {} d.dma.chans c
/-- Set DMA channel `c`. -/
def Dev.setCh (d : Dev) (c : Nat) (x : DmaCh) : Dev := { d with dma := { d.dma with chans := AList.put d.dma.chans c x } }

/-- Lantern generator `g`. -/
def Dev.lan (d : Dev) (g : Nat) : LanSt := AList.get {} d.lans g
/-- Set Lantern generator `g`. -/
def Dev.setLan (d : Dev) (g : Nat) (x : LanSt) : Dev := { d with lans := AList.put d.lans g x }

/-- Set the moderation of vector `v` of client `cc`. -/
def Dev.setVec (d : Dev) (cc v : Nat) (x : Vec) : Dev :=
  { d with host := { d.host with vecs := AList.put d.host.vecs (32 * cc + v) x } }
/-- Set client `cc`'s event queue. -/
def Dev.setEvq (d : Dev) (cc : Nat) (x : Evq) : Dev :=
  { d with host := { d.host with evqs := AList.put d.host.evqs cc x } }
/-- Set completion ring `q`. -/
def Dev.setCq (d : Dev) (q : Nat) (x : Cq) : Dev := { d with host := { d.host with cqs := AList.put d.host.cqs q x } }
/-- A new completion ring `q`, whose memory takes writes until one fails (12 R347). -/
def Dev.newCq (d : Dev) (q : Nat) (x : Cq) : Dev :=
  { d with host := { d.host with cqs := AList.put d.host.cqs q x, cqBad := d.host.cqBad.filter (· != q) } }
/-- Set submission ring `q`. -/
def Dev.setSq (d : Dev) (q : Nat) (x : Sq) : Dev := { d with host := { d.host with sqs := AList.put d.host.sqs q x } }

/-! ### Changes of one part of the device -/

/-- Change modes and ticks. -/
def Dev.modSys (d : Dev) (f : SysSt → SysSt) : Dev := { d with sys := f d.sys }
/-- Change fabric time. -/
def Dev.modTime (d : Dev) (f : TimeSt → TimeSt) : Dev := { d with time := f d.time }
/-- Change rest and wake. -/
def Dev.modWake (d : Dev) (f : WakeSt → WakeSt) : Dev := { d with wake := f d.wake }
/-- Change supplies. -/
def Dev.modPwr (d : Dev) (f : PowerSt → PowerSt) : Dev := { d with pwr := f d.pwr }
/-- Change Belfry. -/
def Dev.modBel (d : Dev) (f : BelSt → BelSt) : Dev := { d with bel := f d.bel }
/-- Change the clusters. -/
def Dev.modCup (d : Dev) (f : CupSt → CupSt) : Dev := { d with cup := f d.cup }
/-- Change motion of the device. -/
def Dev.modMot (d : Dev) (f : MotSt → MotSt) : Dev := { d with mot := f d.mot }
/-- Change the safety channels. -/
def Dev.modSaf (d : Dev) (f : SafSt → SafSt) : Dev := { d with saf := f d.saf }
/-- Change Oculus. -/
def Dev.modOcu (d : Dev) (f : OcuSt → OcuSt) : Dev := { d with ocu := f d.ocu }
/-- Change the host port. -/
def Dev.modHost (d : Dev) (f : HostSt → HostSt) : Dev := { d with host := f d.host }
/-- Change the DMA engine. -/
def Dev.modDma (d : Dev) (f : DmaSt → DmaSt) : Dev := { d with dma := f d.dma }
/-- Change the ring. -/
def Dev.modRing (d : Dev) (f : RingSt → RingSt) : Dev := { d with ring := f d.ring }
/-- Link `p` of the ring. -/
def Dev.link (d : Dev) (p : Nat) : PortSt := AList.get {} d.ring.ports p
/-- Set link `p`. -/
def Dev.setLink (d : Dev) (p : Nat) (x : PortSt) : Dev := d.modRing (fun r => { r with ports := AList.put r.ports p x })
/-- Node `id` of the root's map. -/
def Dev.nodeSt (d : Dev) (id : Nat) : NodeSt := AList.get {} d.ring.nodes id
/-- Set node `id` of the map. -/
def Dev.setNode (d : Dev) (id : Nat) (x : NodeSt) : Dev := d.modRing (fun r => { r with nodes := AList.put r.nodes id x })
/-- Field channel `c`. -/
def Dev.fch (d : Dev) (c : Nat) : FieldCh := AList.get {} d.fios c
/-- Set field channel `c`. -/
def Dev.setFch (d : Dev) (c : Nat) (x : FieldCh) : Dev := { d with fios := AList.put d.fios c x }
/-- CAN controller `k`. -/
def Dev.can (d : Dev) (k : Nat) : CanSt := AList.get {} d.cans k
/-- Change CAN controller `k`. -/
def Dev.modCan (d : Dev) (k : Nat) (f : CanSt → CanSt) : Dev := { d with cans := AList.put d.cans k (f (d.can k)) }
/-- UART `n`. -/
def Dev.uart (d : Dev) (n : Nat) : UartSt := AList.get {} d.uarts n
/-- Change UART `n`. -/
def Dev.modUart (d : Dev) (n : Nat) (f : UartSt → UartSt) : Dev := { d with uarts := AList.put d.uarts n (f (d.uart n)) }
/-- Change firmware update, the TAPs and the debug port. -/
def Dev.modUpd (d : Dev) (f : UpdSt → UpdSt) : Dev := { d with upd := f d.upd }
/-- Change feedback of the device. -/
def Dev.modFbd (d : Dev) (f : FbDev → FbDev) : Dev := { d with fbd := f d.fbd }
/-- Change the core record of axis `n`. -/
def Dev.modAx (d : Dev) (n : Nat) (f : AxCore → AxCore) : Dev := d.setAx n (f (d.ax n))
/-- Change the sensing record of axis `n`. -/
def Dev.modSns (d : Dev) (n : Nat) (f : AxSense → AxSense) : Dev := d.setSns n (f (d.sns n))
/-- Change the waveform record of axis `n`. -/
def Dev.modWav (d : Dev) (n : Nat) (f : AxWave → AxWave) : Dev := d.setWav n (f (d.wav n))
/-- Change the PWM record of axis `n`. -/
def Dev.modPw (d : Dev) (n : Nat) (f : AxPwm → AxPwm) : Dev := d.setPw n (f (d.pw n))
/-- Change the feedback record of axis `n`. -/
def Dev.modFb (d : Dev) (n : Nat) (f : AxFb → AxFb) : Dev := d.setFb n (f (d.fb n))
/-- Change the reference generator of axis `n`. -/
def Dev.modMo (d : Dev) (n : Nat) (f : AxMot → AxMot) : Dev := d.setMo n (f (d.mo n))
/-- Change modulator-clock group `g`. -/
def Dev.modGrp (d : Dev) (g : Nat) (f : SdGrp → SdGrp) : Dev := d.setGrp g (f (d.grp g))
/-- Change the supervision of STO group `g`. -/
def Dev.modSg (d : Dev) (g : Nat) (f : GrpSt → GrpSt) : Dev := d.setSg g (f (d.sg g))

/-- How many axes the variant has (00 R4). -/
def Dev.axes (d : Dev) : Nat := if d.sys.is4016 then 16 else 32

/-- The numbers of the axes the variant has. -/
def Dev.axisList (d : Dev) : List Nat := List.range d.axes

/-- Do something for each of a list of numbers, in order. -/
def Dev.each (d : Dev) (l : List Nat) (f : Dev → Nat → Dev) : Dev := l.foldl f d

/-- The node ID of this device (14 R416). -/
def Dev.node (d : Dev) : Nat := d.fld A.FAB_STATUS 5 0

/-- This device is the acting root (14 R416). -/
def Dev.isRoot (d : Dev) : Bool := d.rb A.FAB_STATUS 7

/-- The lead axis of the admitted group axis `n` belongs to, or the axis itself (04 R120). -/
def Dev.lead (d : Dev) (n : Nat) : Nat := if (d.ax n).member then (d.ax n).lead else n

/-- The axes that act with axis `n`: the members of its admitted group in ascending order, or the axis alone. -/
def Dev.members (d : Dev) (n : Nat) : List Nat :=
  if (d.ax n).member then d.axisList.filter (fun m => (d.ax m).member && (d.ax m).lead == (d.ax n).lead) else [n]

/-- The axes that lead an admitted model, ascending. -/
def Dev.leads (d : Dev) : List Nat := d.axisList.filter (fun n => (d.ax n).admitted && d.lead n == n)

/-- The STO group of an axis (00 R6). -/
def stoGroup (n : Nat) : Nat := n / 8

/-- A mask holds some but not all members of an admitted group (04 R120). -/
def Dev.splits (d : Dev) (mask : Nat) : Bool := (maskList 32 mask).any (fun n => (d.members n).any (fun m => !nbit m mask))

/-- The owner of an axis (13 R364). -/
def Dev.owner (d : Dev) (n : Nat) : Nat := d.fld (A.AX_OWNER n) 8 0

/-- The observers of an axis (13 R364): AX_OBS[i] holds observers 2i and 2i + 1. -/
def Dev.observers (d : Dev) (n : Nat) : List Nat :=
  ((List.range 4).flatMap (fun i =>
    let w := d.rd (A.AX_OBS n i)
    (if bit 9 w then [field 8 0 w] else []) ++ (if bit 25 w then [field 24 16 w] else [])))

/-- A client context exists (12 R335): CC0 always; the others in PCIe mode while their VF is enabled. -/
def Dev.clientExists (d : Dev) (cc : Nat) : Bool :=
  cc == 0 || (!d.host.spi && d.host.vfEnable && decide (cc ≤ d.host.numVfs))

/-- A client reset of `cc` is in progress (13 R376). -/
def Dev.resetting (d : Dev) (cc : Nat) : Bool := d.host.resets.any (fun r => r.cc == cc)

/-! ### Fabric time and the tick grid -/

/-- The unit fabric time is held in: 2⁴⁰ to the ns. -/
def q40 : Int := 2 ^ 40

/-- Fabric time in 2⁻⁴⁰ ns at counter value `c` (14 R417). -/
def TimeSt.at40 (t : TimeSt) (c : Nat) : Int := t.offset + 2 * c * (q40 + t.rate)

/-- Fabric time in ns. -/
def Dev.now (d : Dev) : Nat := (d.time.at40 d.time.cnt / q40).toNat

/-- The first counter value at which fabric time is at or past `b` ns (01 R33). -/
def TimeSt.edge (t : TimeSt) (b : Nat) : Nat :=
  let den := 2 * (q40 + t.rate)
  ((b * q40 - t.offset + den - 1) / den).toNat

/-- The frame period of a code of ft_sel, ns (01 R31). -/
def frameNs (code : Nat) : Nat := if code = 0 then 250000 else if code = 1 then 125000 else 62500

/-- The frame period in force. -/
def Dev.framePeriod (d : Dev) : Nat := frameNs d.sys.ftSel

/-- The loop multiplier in force, M (01 R32). -/
def Dev.mult (d : Dev) : Nat := 2 ^ d.sys.mult

/-- The loop period in force, ns. -/
def Dev.loopPeriod (d : Dev) : Nat := d.framePeriod / d.mult

/-- The loop period as an exact number of seconds. -/
def Dev.loopSec (d : Dev) : Rat := mkRat d.loopPeriod 1000000000

/-- Fabric time in ns of the last loop tick. -/
def Dev.tickTime (d : Dev) : Nat := d.sys.tick * d.loopPeriod

/-- The fabric time of the next frame tick, ns. -/
def Dev.nextFrame (d : Dev) : Nat := (d.sys.lastFrame / d.framePeriod + 1) * d.framePeriod

/-- The first frame tick at or after a time. -/
def Dev.frameAtOrAfter (d : Dev) (t : Nat) : Nat := ceilDiv t d.framePeriod * d.framePeriod

/-- Counts of the 500 MHz counter in `n` µs. -/
def usCnt (n : Nat) : Nat := 500 * n

/-- Counts of the 500 MHz counter in `n` ms. -/
def msCnt (n : Nat) : Nat := 500000 * n

/-- A timer of the loop tick, the frame tick or a slower evaluation has run out (01 R47). -/
def Dev.past (d : Dev) (deadline : Nat) : Bool := decide (deadline ≤ d.time.cnt)

/-- The counter moves on to a deadline that a block's own clock keeps (01 R47); it never moves back. -/
def Dev.advanceTo (d : Dev) (c : Nat) : Dev := { d with time := { d.time with cnt := max d.time.cnt c } }

/-! ### Free values and what the device sends -/

/-- A quotient; by zero, where the spec states no result, a free value of the numerator (notes/assumptions/1.md). -/
def ratDiv (a b : Rat) : Rat := if b = 0 then Config.divZero a else a / b


/-- A value the spec leaves open (notes/assumptions/1.md). -/
def Dev.fresh (d : Dev) : Nat × Dev := (Config.free d.free, { d with free := d.free + 1 })

/-- A free register value. -/
def Dev.freshWord (d : Dev) : Word × Dev := (BitVec.ofNat 32 (Config.free d.free), { d with free := d.free + 1 })

/-- Something leaves the device (notes/assumptions/14.md). -/
def Dev.emit (d : Dev) (o : Out) : Dev := { d with out := o :: d.out }

/-- The device at the end of a command: its maps in canonical form. -/
def Dev.settle (d : Dev) : Dev := { d with regs := SMap.canon regReset d.regs, mem := SMap.canon memDflt d.mem }

/-- A command's effect as a step's outcome: every command of the device completes. -/
def State.perform (f : Dev → Dev) (s : State) : Host.Outcome State Fault Refusal := .next { s with dev := (f s.dev).settle }

end Sys2Proof.Machine
end

