-- ==== Sys2Proof/Machine/Events.lean ====
section
/-!
DEFINITION. Events and vectors (13_clients_events_dma.md R369 to R374), and the trigger credits an event gives to DMA channels
(R385).
-/

namespace Sys2Proof.Machine

/-- The ring or queue entry at index `idx` of a memory based at `base`: in SPI mode it lies in SPI ring memory
(12 R340, 13 R370), otherwise it leaves for the host's memory through `o`. -/
def Dev.toHost (d : Dev) (base off : Nat) (bytes : List Byte) (o : Out) : Dev :=
  (if d.host.spi then d.setMbs (0xE0000 + (base + off) % 0x20000) bytes else d).emit o

/-- Host space at `a` takes bytes: host memory, or in SPI mode SPI ring memory (R380). -/
def Dev.hostPut (d : Dev) (a : Nat) (bs : List Byte) : Dev :=
  if d.host.spi then d.setMbs (0xE0000 + a % 0x20000) bs else d.emit (.hostWrite a bs)

/-- Vector `v` of client `cc` is signalled: an MSI-X message, its pending bit while masked, or a bit of HOST_SPI_IRQ (R374). -/
def Dev.signal (d : Dev) (cc v : Nat) : Dev :=
  let d := d.setVec cc v {}
  if d.host.spi then d.wb A.HOST_SPI_IRQ v true
  else if nbit v (AList.get 0 d.host.masks cc) then
    { d with host := { d.host with pba := AList.put d.host.pba cc (nset v (AList.get 0 d.host.pba cc)) } }
  else d.emit (.vector cc v)

/-- A cause for vector `v` of client `cc`: it signals at once when its hold-off is 0 or the causes number count (R374). -/
def Dev.cause (d : Dev) (cc v : Nat) (c : Cause) : Dev :=
  let w := d.rd (A.HOST_VEC_MOD cc v)
  let x := AList.get {} d.host.vecs (32 * cc + v)
  let causes := x.causes ++ [c]
  if field 15 0 w = 0 ∨ field 23 16 w ≤ causes.length then d.signal cc v
  else d.setVec cc v { causes, first := if x.causes.isEmpty then d.time.cnt else x.first }

/-- Whether a cause has been consumed: the head of its ring or queue has passed it (R374). -/
def Dev.consumed (d : Dev) (cc : Nat) (c : Cause) : Bool :=
  match c.cq with
  | some q => match AList.find d.host.cqs q with | some x => decide (c.idx < x.rd) | none => true
  | none => decide (c.idx < (AList.get {} d.host.evqs cc).rd)

/-- The size of client `cc`'s event queue in entries (R373). -/
def Dev.evqSize (d : Dev) (cc : Nat) : Nat := 2 ^ d.fld (A.HOST_EVQ_CFG cc) 3 0

/-- A queue is full when one entry remains free before its head (R373). -/
def Dev.evqFull (d : Dev) (cc : Nat) : Bool :=
  let q := AList.get {} d.host.evqs cc
  decide (d.evqSize cc ≤ q.wr - q.rd + 1)

/-- An event entry (R370). -/
def eventEntry (src node phase count lost subj time : Nat) : List Byte :=
  leBytes 2 src ++ [BitVec.ofNat 8 (node % 64 + 128 * phase), BitVec.ofNat 8 count] ++ leBytes 2 lost ++ leBytes 2 subj ++
    leBytes 8 time

/-- One entry due to client `cc`'s queue (R370, R373); `lostOne` raises EVQ_OVERFLOW for a queue that first loses an entry. -/
def Dev.deliver (lostOne : Dev → Nat → Dev) (d : Dev) (cc v src node count subj time : Nat) : Dev :=
  let q := AList.get {} d.host.evqs cc
  let en := d.rb (A.HOST_EVQ_CFG cc) 31
  if !en || d.evqFull cc then
    let first := en && !q.overflowed
    let d := d.setEvq cc { q with lost := sat 0xFFFF (q.lost + 1), overflowed := q.overflowed || en }
    let d := d.incSat (A.HOST_EVQ_STATUS cc) 31 16
    if first then lostOne d cc else d
  else
    let size := d.evqSize cc
    let idx := q.wr % size
    let phase := if q.wr / size % 2 = 0 then 1 else 0
    let d := d.setEvq cc { q with wr := q.wr + 1, lost := 0 }
    let d := d.toHost (d.rd64 (A.HOST_EVQ_LO cc)) (16 * idx) (eventEntry src node phase count q.lost subj time)
      (.event cc idx (eventEntry src node phase count q.lost subj time))
    d.cause cc v { cq := none, idx := q.wr }

/-- The clients a route names for source `src` and subject `subj` (R369): each at most once. -/
def Dev.routeTo (d : Dev) (src subj : Nat) : List Nat :=
  let w := d.rd (A.EVT_ROUTE src)
  let named :=
    if !bit 15 w then [field 8 0 w]
    else if 512 ≤ src ∧ src < 896 then d.owner ((src - 512) / 12) :: d.observers ((src - 512) / 12)
    else if src = Ev.dmaChError ∨ src = Ev.dmaDescIrq then [d.fld (A.DMA_CH_OWN subj) 8 0]
    else [field 8 0 w]
  (named ++ (if bit 16 w then [0] else [])).eraseDups

/-- A raise of `src` gives one credit to every channel in trigger mode on it; at 255 credits, and after another raise of it in the same
cycle, it is counted only (R385). -/
def Dev.credit (d : Dev) (src : Nat) (again : Bool := false) : Dev :=
  d.each (List.range 32) (fun d c =>
    let w := d.rd (A.DMA_CH_TRIG c)
    if bit 15 w && field 9 0 w == src then
      let x := d.ch c
      if !again && decide (x.credits < 255) then d.setCh c { x with credits := x.credits + 1 }
      else d.setFld (A.DMA_CH_TRIG c) 31 24 (sat 255 (field 31 24 w + 1))
    else d)

/-! ### Packets on the ring (14 R400, R406; 16 R472) -/

/-- The device inserts none of its packets at port `p` while TEST_RING stalls it. -/
def Dev.stalled (d : Dev) (p : Nat) : Bool := decide (0 < d.upd.stallLeft) && d.rb A.TEST_RING p

/-- TEST_RING corrupts the CRC of the next item of a kind (0 packet, 1 cyclic slot, 2 start marker) at port `p`. -/
def Dev.spoil (d : Dev) (kind p : Nat) : Bool × Dev :=
  let left := d.fld A.TEST_RING 31 24
  if d.rb A.TEST_RING (16 + p) && d.fld A.TEST_RING 19 18 == kind && left != 0 then (true, d.setFld A.TEST_RING 31 24 (left - 1))
  else (false, d)

/-- The nodes of the map in a state, ascending. -/
def Dev.nodesIn (d : Dev) (k : Nat) : List Nat := (d.ring.nodes.filter (fun x => x.2.state == k)).map (·.1)

/-- The active nodes. -/
def Dev.activeCount (d : Dev) : Nat := (d.nodesIn 1).length

/-- L_c: the status slots and the slots held (R396). -/
def Dev.cyclicUsed (d : Dev) : Nat := 16 * d.activeCount + d.ring.slots.foldl (fun s e => s + e.size) 0

/-- The asynchronous segment of a ring at the frame tick in force, bytes, and the forwarding room in ring A's (R396). -/
def Dev.asyncRoom (d : Dev) : Nat × Nat :=
  let x := if d.sys.ftSel = 0 then (31250, 10752) else if d.sys.ftSel = 1 then (15625, 5376) else (7812, 2688)
  (x.1 - 160 - d.cyclicUsed, x.2)

/-- The bytes of a packet with a payload of `n` (R400). -/
def packetSize (n : Nat) : Nat := 20 + n

/-- A packet fits the segment of the ring that leaves by port `p` in the present frame (R404): on ring A only a command within reserved
capacity takes the forwarding room.  Of the packets in a segment a device sees its own (notes/assumptions/167.md). -/
def Dev.packetFits (d : Dev) (p size : Nat) (reserved : Bool) : Bool :=
  let room := d.asyncRoom
  let r := d.ring
  if p = 0 then decide (r.usedB + size ≤ room.1)
  else if reserved then decide (r.usedA + r.usedRes + size ≤ room.1)
  else decide (r.usedA + max r.usedRes room.2 + size ≤ room.1)

/-- The active nodes in ring-A order: by the map where there is one, otherwise as the map mirror gave them (R404). -/
def Dev.ringOrder (d : Dev) : List Nat :=
  if d.rb A.FAB_STATUS 7 || d.rb A.FAB_STATUS 8 then
    (List.range 64).flatMap (fun p => (d.ring.nodes.filter (fun x => x.2.state == 1 && x.2.pos == p)).map (·.1))
  else d.ring.order

/-- The port of the ring that reaches `node` in fewer hops over the active devices, a tie going to ring A (R404); so does a node that is
not in the order (notes/assumptions/167.md). -/
def Dev.ringWay (d : Dev) (node : Nat) : Nat :=
  let l := d.ringOrder
  match l.findIdx? (· == d.node), l.findIdx? (· == node) with
  | some i, some j => if (i + l.length - j) % l.length < (j + l.length - i) % l.length then 0 else 1
  | _, _ => 1

/-- A packet of R400: type, flags, destination, source, payload length, sequence number, fabric time of sending, payload, CRC-32C, the last
inverted where TEST_RING spoils it (16 R472). -/
def packetBytes (kind : Nat) (reserved : Bool) (node src seq time : Nat) (payload : List Byte) (bad : Bool) : List Byte :=
  let b := leBytes 1 kind ++ leBytes 1 (b2n reserved) ++ leBytes 1 node ++ leBytes 1 src ++ leBytes 2 payload.length ++ leBytes 2 seq ++
    leBytes 8 time ++ payload
  b ++ leBytes 4 (if bad then 0xFFFFFFFF - crc32c b else crc32c b)

/-- A packet leaves by port `p`, with the next sequence number for its destination (R400; notes/assumptions/35.md). -/
def Dev.packetOn (d : Dev) (p kind node : Nat) (bytes : List Byte) (reserved : Bool := false) : Dev :=
  let x := d.spoil 0 p
  let size := packetSize bytes.length
  let b := packetBytes kind reserved node d.node (AList.get 0 d.ring.seqs node) d.now bytes x.1
  (x.2.emit (if x.1 then .badPacket p kind node b else .packet p kind node b)).modRing (fun r =>
    { r with
      seqs := AList.put r.seqs node ((AList.get 0 r.seqs node + 1) % 65536)
      usedB := if p = 0 then r.usedB + size else r.usedB
      usedA := if p ≠ 0 ∧ reserved = false then r.usedA + size else r.usedA
      usedRes := if p ≠ 0 ∧ reserved = true then r.usedRes + size else r.usedRes })

/-- A packet is sent (R404, R406): by the ring of fewer hops, or the other one where its link is not up or it has no room in this frame;
without room in either it waits for the next frame; without a link that is up it waits at one that is locking, recalibrating or stalled,
and with no such link it is lost.  A device that is not on the ring sends by the port it listens at. -/
def Dev.sendOut (d : Dev) (kind node : Nat) (bytes : List Byte) (cmd : Option Hdr := none) (reserved : Bool := false) : Dev :=
  if !d.rb A.FAB_STATUS 11 then d.packetOn 0 kind node bytes
  else
    let way := d.ringWay node
    let ways := [way, 1 - way]
    let carries := ways.filter (fun p => (d.link p).state == 4 && !d.stalled p)
    match carries.find? (fun p => d.packetFits p (packetSize bytes.length) reserved) with
    | some p => d.packetOn p kind node bytes reserved
    | none =>
      if !carries.isEmpty then d.modRing (fun r => { r with waits := r.waits ++ [{ kind, node, bytes, cmd, reserved }] })
      else match ways.find? (fun p => let s := (d.link p).state; s == 3 || s == 5 || s == 4) with
        | some p => d.setLink p { d.link p with queue := (d.link p).queue ++ [{ kind, node, bytes, cmd, reserved }] }
        | none => d

/-- The raises of the present cycle; the cycle is the counter's value (R372; notes/assumptions/169.md). -/
def Dev.raisedNow (d : Dev) : List (Nat × Nat × Nat) := if d.host.raisedAt = d.time.cnt then d.host.raised else []

/-- The count of the entry a further raise merges into, 0 for none: the source and subject have been raised in this cycle, fewer than 256
times (R372). -/
def Dev.mergeCount (d : Dev) (src subj : Nat) : Nat :=
  match d.raisedNow.find? (fun x => x.1 == src && x.2.1 == subj) with
  | some x => if x.2.2 < 255 then x.2.2 else 0
  | none => 0

/-- A raise is noted for the others of its cycle. -/
def Dev.noteRaise (d : Dev) (src subj : Nat) : Dev :=
  d.modHost (fun q => { q with raisedAt := d.time.cnt, raised := (src, subj, d.mergeCount src subj + 1) :: d.raisedNow })

/-- The event entry of a source, subject and time whose count is `c`, with the count one higher; any other bytes as they are. -/
def countUp (src subj c time : Nat) (bs : List Byte) : List Byte :=
  if leAt bs 0 2 = src ∧ byteAt bs 3 = c ∧ leAt bs 6 2 = subj ∧ leAt bs 8 8 = time then bs.take 3 ++ [BitVec.ofNat 8 (c + 1)] ++ bs.drop 4
  else bs

/-- A packet of an event that still waits counts one raise more. -/
def QueuedPkt.countUp (src subj c time : Nat) (p : QueuedPkt) : QueuedPkt :=
  if p.kind = 3 then { p with bytes := Machine.countUp src subj c time p.bytes } else p

/-- A packet on the ring (R400) whose payload is an event counts one raise more, with a new CRC. -/
def countPacket (src subj c time : Nat) (bs : List Byte) : List Byte :=
  let p := (bs.drop 16).take (bs.length - 20)
  let q := Machine.countUp src subj c time p
  if q = p then bs else
    let b := bs.take 16 ++ q
    b ++ leBytes 4 (crc32c b)

/-- What leaves the device for an event counts one raise more. -/
def Out.countUp (src subj c time : Nat) : Out → Out
  | .event cc idx bs => .event cc idx (Machine.countUp src subj c time bs)
  | .packet p 3 n bs => .packet p 3 n (countPacket src subj c time bs)
  | o => o

/-- A raise merges into the entries and packets of its source and subject in this cycle, whose count was `c` (R372). -/
def Dev.mergeRaise (d : Dev) (src subj c : Nat) : Dev :=
  let t := d.now
  let d := if !d.host.spi then d
    else d.out.foldl (fun (d : Dev) o => match o with
      | .event cc idx bs =>
        if Machine.countUp src subj c t bs = bs then d
        else d.setMbs (0xE0000 + (d.rd64 (A.HOST_EVQ_LO cc) + 16 * idx) % 0x20000) (Machine.countUp src subj c t bs)
      | _ => d) d
  let d := { d with out := d.out.map (Out.countUp src subj c t) }
  d.modRing (fun r => { r with
    waits := r.waits.map (QueuedPkt.countUp src subj c t)
    ports := r.ports.map (fun x => (x.1, { x.2 with queue := x.2.queue.map (QueuedPkt.countUp src subj c t) })) })

/-- A raise, with `fuel` bounding the overflow events it can lead to. -/
def Dev.raiseN : Nat → Dev → Nat → Nat → Dev
  | 0, d, _, _ => d
  | fuel + 1, d, src, subj =>
    let c := d.mergeCount src subj
    let d := (d.credit src (d.raisedNow.any (fun x => x.1 == src))).noteRaise src subj
    let w := d.rd (A.EVT_ROUTE src)
    if !bit 14 w then d
    else if c ≠ 0 then d.mergeRaise src subj c
    else if !d.host.attached then
      (d.routeTo src subj).foldl (fun d cc => d.sendOut 0x03 d.host.hostNode
        (eventEntry src d.node 0 1 0 subj d.now ++ leBytes 2 cc ++ leBytes 1 (field 13 9 w))) d
    else
      (d.routeTo src subj).foldl (fun d cc =>
        d.deliver (fun d cc => Dev.raiseN fuel d Ev.evqOverflow cc) cc (field 13 9 w) src d.node 1 subj d.now) d

/-- Event source `src` is raised with a subject (R370): a routed source writes one entry to the queue of each destination,
or counts in the one the same cycle has brought (R372). -/
def Dev.raise (d : Dev) (src : Nat) (subj : Nat := 0) : Dev := d.raiseN 4 src subj

/-- The k-th source of axis `n` is raised; its subject is the axis number (R370). -/
def Dev.raiseAx (d : Dev) (n k : Nat) : Dev := d.raise (Ev.axis n k) n

/-- A flag bit of a register is set; its event is raised when it goes from 0 to 1 (R502). -/
def Dev.flag (d : Dev) (a i src : Nat) (subj : Nat := 0) : Dev :=
  if d.rb a i then d else (d.wb a i true).raise src subj

/-- A flag bit of an axis register is set, with the axis's k-th source (R502). -/
def Dev.flagAx (d : Dev) (a i n k : Nat) : Dev := d.flag a i (Ev.axis n k) n

/-- An event of a latch source or of codes 64 to 100, kept for the next sample (R284). -/
def Dev.ocuEvent (d : Dev) (code : Nat) (rising : Bool) (t125 : Nat) : Dev :=
  if 1 ≤ d.ocu.state ∧ d.ocu.state ≤ 3 then { d with ocu := { d.ocu with events := d.ocu.events ++ [{ code, rising, t := t125 }] } } else d

/-- The hold-off of a vector runs out: it is signalled while a cause is unconsumed, otherwise its causes are cleared (R374). -/
def Dev.holdoff (d : Dev) (cc v : Nat) : Dev :=
  let x := AList.get {} d.host.vecs (32 * cc + v)
  let w := d.rd (A.HOST_VEC_MOD cc v)
  let due := x.first + usCnt (field 15 0 w)
  if x.causes.isEmpty then d
  else
    let d := d.advanceTo due
    if x.causes.all (d.consumed cc) then d.setVec cc v {} else d.signal cc v

/-- VECTOR_HOLDOFF_EXPIRY (R374). -/
def execVectorHoldoffExpiry (cc v : Nat) (s : State) : Host.Outcome State Fault Refusal :=
  s.perform (fun d => d.holdoff cc v)

/-- A vector is unmasked: with its PBA bit set the pending message is sent (R374). -/
def Dev.unmask (d : Dev) (cc v : Nat) : Dev :=
  let d := { d with host := { d.host with masks := AList.put d.host.masks cc (nclr v (AList.get 0 d.host.masks cc)) } }
  if nbit v (AList.get 0 d.host.pba cc) then
    Dev.emit { d with host := { d.host with pba := AList.put d.host.pba cc (nclr v (AList.get 0 d.host.pba cc)) } } (.vector cc v)
  else d

/-- MSIX_UNMASK (R374). -/
def execMsixUnmask (cc v : Nat) (s : State) : Host.Outcome State Fault Refusal := s.perform (fun d => d.unmask cc v)

end Sys2Proof.Machine
end

