-- ==== Sys2Proof/Machine/Complete.lean ====
section
/-!
DEFINITION. Completions (12_host_commands.md R344 to R350): the entry, the ring it is written to, the completions held while a
ring is full or stopped (R346, R347), and the answer of a command that came from a peer or a UDP binding.
-/

namespace Sys2Proof.Machine

/-- Replace the bytes of `l` from offset `off` on. -/
def putAt (l : List Byte) (off : Nat) (bs : List Byte) : List Byte := l.take off ++ bs ++ l.drop (off + bs.length)

/-- The 16 result bytes of a completion, from (first byte, length, value) items; every other byte is 0 (R349). -/
def resultOf (items : List (Nat × Nat × Nat)) : List Byte :=
  items.foldl (fun l x => putAt l (x.1 - 16) (leBytes x.2.1 x.2.2)) (List.replicate 16 0)

/-- A completion entry without its phase bit (R349). -/
def completionEntry (node : Nat) (h : Hdr) (status time : Nat) (res : List Byte) : List Byte :=
  leBytes 2 h.tag ++ leBytes 2 status ++ [BitVec.ofNat 8 (node % 64)] ++ leBytes 2 (h.sq % 0x4000) ++ [0] ++ leBytes 8 time ++
    res

/-- A completion ring is full when one entry remains free before its head (R346). -/
def Cq.isFull (c : Cq) : Bool := decide (2 ^ c.k ≤ c.wr - c.rd + 1)

/-- A completion cannot be written now (R346, R347). -/
def Cq.holds (c : Cq) : Bool := c.stopped || c.isFull

/-- A completion ring takes no entry now: it holds them, or both command processors are halted (16 R477). -/
def Dev.cqHolds (d : Dev) (c : Cq) : Bool := c.holds || d.upd.halted == 15

/-- The host refuses writes to the memory of completion ring `q` (R347). -/
def Dev.cqFails (d : Dev) (q : Nat) : Bool := !d.host.spi && d.host.cqBad.contains q

/-- A completion cannot be written because the write fails: its ring stops and holds `held` (R347). -/
def Dev.cqStop (d : Dev) (q : Nat) (c : Cq) (held : List Held) : Dev :=
  (d.setCq q { c with stopped := true, held }).raise Ev.hostRingError c.client

/-- The final completion of a command is written: the command leaves flight (R351), and that of SYS_RESET starts the 10 µs to the reset
(02 R59). -/
def Dev.landed (d : Dev) (sq tag status : Nat) : Dev :=
  if status = Code.accepted then d
  else
    let q := d.host
    let mine := q.resetWait == some (sq, tag)
    { d with host := { q with
        inflight := q.inflight.eraseP (fun f => f.sq == sq && f.tag == tag)
        resetAt := if mine then some (d.time.cnt + usCnt 10) else q.resetAt
        resetWait := if mine then none else q.resetWait } }

/-- Write an entry to completion ring `q` (R344): phase 1 on the first pass, inverting at each wrap; then its vector, at once
with the notify flag. -/
def Dev.cqWrite (d : Dev) (q : Nat) (c : Cq) (x : Held) : Dev :=
  let bytes := x.bytes
  let size := 2 ^ c.k
  let idx := c.wr % size
  let phase : Nat := if c.wr / size % 2 = 0 then 128 else 0
  let e := putAt bytes 4 [BitVec.ofNat 8 (byteAt bytes 4 + phase)]
  let c' := { c with wr := c.wr + 1 }
  let d := d.setCq q { c' with full := c'.isFull }
  let d := (d.toHost c.base (32 * idx) e (.completion q idx e)).landed (leAt bytes 5 2) x.tag (leAt bytes 2 2)
  let d := if c'.isFull && !c.full then d.raise Ev.hostCqFull else d
  if x.notify then d.signal c.client c.vector else d.cause c.client c.vector { cq := some q, idx := c.wr }

/-- Write the completions a ring holds while it has room (R346). -/
def Dev.cqRelease : Nat → Dev → Nat → Dev
  | 0, d, _ => d
  | fuel + 1, d, q =>
    match AList.find d.host.cqs q with
    | none => d
    | some c =>
      match c.held with
      | [] => d
      | e :: rest =>
        if d.cqHolds c then d
        else if d.cqFails q then d.cqStop q c c.held
        else Dev.cqRelease fuel (d.cqWrite q { c with held := rest } e) q

/-- The entry of a command's ring: written, or held behind those that wait (R346), or on a ring whose write fails (R347). -/
def Dev.cqPut (d : Dev) (q : Nat) (c : Cq) (x : Held) : Dev :=
  if d.cqHolds c || !c.held.isEmpty then
    d.setCq q { c with held := c.held ++ [x] }
  else if d.cqFails q then d.cqStop q c [x]
  else d.cqWrite q c x

/-- The UDP binding a header's ring number stands for, if any (14 R426; notes/assumptions/14.md). -/
def udpBinding (sq : Nat) : Option Nat := if 0x4000 ≤ sq ∧ sq < 0x4010 then some (sq - 0x4000) else none

/-- The ring number under which a command that came from node `n` is in flight here (notes/assumptions/14.md). -/
def guestSq (n sq : Nat) : Nat := 0x10000 * (n + 1) + sq

/-- The ring number under which a command is in flight here: its own, or that of a command from another node. -/
def Hdr.flightSq (h : Hdr) : Nat := match h.origin with | none => h.sq | some n => guestSq n h.sq

/-- A command is in flight to a node (R351). -/
def Dev.fly (d : Dev) (h : Hdr) (node : Nat) : Dev :=
  d.modHost (fun q => { q with inflight := q.inflight ++ [({ sq := h.flightSq, tag := h.tag, cc := h.cc, node } : InFlight)] })

/-- A command that was forwarded has its final completion (R354). -/
def Dev.unforward (d : Dev) (h : Hdr) (status : Nat) : Dev :=
  if status = Code.accepted ∨ h.origin.isSome then d
  else d.modHost (fun q => { q with forwarded := q.forwarded.filter (fun f => !(f.h.sq == h.sq && f.h.tag == h.tag)) })

/-- The ring number of the commands Finial takes on UART 0 (16 R466). -/
def finialSq : Nat := 0x5000

/-- The CRC-16 of R340. -/
def crc16 (bs : List Byte) : Nat :=
  bs.foldl (fun (c : Nat) b => (List.range 8).foldl (fun (c : Nat) _ => if 32768 ≤ c then (2 * c % 65536) ^^^ 0x1021 else 2 * c) (c ^^^ (256 * b.toNat))) 0xFFFF

/-- A response datagram of one completion entry (14 R426). -/
def Dev.udpReply (d : Dev) (b : Nat) (bytes : List Byte) : Dev :=
  let p := AList.get (0, 0) d.host.udpPeer b
  d.emit (.eth (d.fld A.HOST_UDP_CFG 17 17)
    (leBytes 2 0x4253 ++ [1, 1] ++ leBytes 2 (d.fld (A.HOST_UDP_BIND b) 31 16) ++ leBytes 2 p.2 ++ bytes))

/-- The completion entry of a command goes where its answers go: to its ring, its UDP binding, Finial's wire, or the node it came from,
followed there by its ring number (notes/assumptions/35.md).  A command of a client whose reset is in progress gets no completion
(13 R376). -/
def Dev.answer (d : Dev) (h : Hdr) (status : Nat) (bytes : List Byte) : Dev :=
  let d := d.unforward h status
  if h.pendant || d.resetting h.cc then d
  else match h.origin with
    | some n => (d.sendOut 0x02 n (bytes ++ leBytes 2 h.sq)).landed (guestSq n h.sq) h.tag status
    | none =>
      match udpBinding h.sq with
      | some b => (d.udpReply b bytes).landed h.sq h.tag status
      | none =>
        if h.sq = finialSq then
          Dev.landed (d.emit (.finial ([0x7E, 0x02] ++ bytes ++ leBytes 2 (crc16 ([0x02] ++ bytes))))) h.sq h.tag status
        else match AList.find d.host.sqs h.sq with
        | none => d.emit (.unbound bytes)
        | some s =>
          match AList.find d.host.cqs s.cq with
          | none => d.emit (.unbound bytes)
          | some c => d.cqPut s.cq c { bytes, notify := h.notify, tag := h.tag }

/-- A command completes with a status, a time (R350) and a result. -/
def Dev.complete (d : Dev) (h : Hdr) (status time : Nat) (res : List Byte) : Dev :=
  d.answer h status (completionEntry d.node h status time res)

/-- A completion at an effective frame tick: its time is that tick (R350). -/
def Dev.doneAt (d : Dev) (h : Hdr) (status : Nat) (items : List (Nat × Nat × Nat) := []) : Dev :=
  d.complete h status d.sys.lastFrame (resultOf items)

/-- A completion of a command that acts at once, an ACCEPTED or a rejection: its time is the present (R350). -/
def Dev.doneNow (d : Dev) (h : Hdr) (status : Nat) (items : List (Nat × Nat × Nat) := []) : Dev :=
  d.complete h status d.now (resultOf items)

/-- Complete each of several commands. -/
def Dev.doneAll (d : Dev) (hs : List Hdr) (status : Nat) (items : List (Nat × Nat × Nat) := []) : Dev :=
  hs.foldl (fun d h => d.doneNow h status items) d

/-- Complete a command that waits, if there is one. -/
def Dev.doneWait (d : Dev) (h : Option Hdr) (status : Nat) (items : List (Nat × Nat × Nat) := []) : Dev :=
  match h with
  | none => d
  | some h => d.doneNow h status items

/-- A command acts on several models: it completes when the last of them has ended. -/
def Dev.joinStart (d : Dev) (h : Hdr) (n : Nat) : Dev :=
  if n ≤ 1 then d else d.modHost (fun q => { q with joins := ({ h, left := n } : JoinSt) :: q.joins })

/-- One model of a command has ended with a status and a result: the command completes with its last one, with the status of the
first that failed. -/
def Dev.partDone (d : Dev) (h : Hdr) (status : Nat) (items : List (Nat × Nat × Nat)) : Dev :=
  match d.host.joins.find? (fun j => j.h == h) with
  | none => d.doneNow h status items
  | some j =>
    let bad := if j.bad.isSome then j.bad else if status = Code.done then none else some (status, items)
    let rest := d.host.joins.filter (fun x => x.h != h)
    if j.left ≤ 1 then
      let d := d.modHost (fun q => { q with joins := rest })
      match bad with
      | some b => d.doneNow h b.1 b.2
      | none => d.doneNow h status items
    else d.modHost (fun q => { q with joins := { j with left := j.left - 1, bad } :: rest })

/-- One model of a command that waits has ended. -/
def Dev.partWait (d : Dev) (h : Option Hdr) (status : Nat) (items : List (Nat × Nat × Nat)) : Dev :=
  match h with
  | none => d
  | some h => d.partDone h status items

/-- HELD_COMPLETION_RELEASE (R346): the host has freed space and the held completions are written. -/
def execHeldCompletionRelease (cq : Nat) (s : State) : Host.Outcome State Fault Refusal :=
  s.perform (fun d => d.cqRelease ((match AList.find d.host.cqs cq with | some c => c.held.length | none => 0)) cq)

end Sys2Proof.Machine
end

