-- ==== Sys2Proof/Machine/Catalog.lean ====
section
/-!
DEFINITION. The opcode catalogue (12_host_commands.md R358): the class an entry must carry and who may issue it; and the two
checks of a command that its target makes of any opcode, the axis mask and the sender (R351, checks 6 and 7).
-/

namespace Sys2Proof.Machine

/-- Who may issue an opcode (R358). -/
inductive Sender where
  /-- every existing client -/
  | any
  /-- CC0 only -/
  | cc0
  /-- the owner of every axis in the mask, or CC0 -/
  | owner
  /-- the owner or an observer of every axis in the mask, or CC0 -/
  | obs
  /-- the Oculus holder -/
  | holder
  deriving DecidableEq, Repr

/-- A row of the catalogue. -/
structure OpRow where
  op : Nat
  cls : CmdClass
  sender : Sender
  deriving DecidableEq, Repr

/-- Opcodes 0x01xx. -/
def catalogue01 : List OpRow := [
  ⟨0x0101, .none, .cc0⟩, -- SYS_MODE_SET
  ⟨0x0102, .none, .cc0⟩, -- SYS_RESET
  ⟨0x0103, .none, .cc0⟩, -- RING_CREATE
  ⟨0x0104, .none, .cc0⟩, -- RING_DELETE
  ⟨0x0105, .none, .any⟩, -- REG_READ
  ⟨0x0106, .none, .any⟩, -- REG_WRITE
  ⟨0x0107, .none, .any⟩, -- SYS_IDENTIFY
  ⟨0x0108, .none, .any⟩, -- SYS_NOP
  ⟨0x0109, .none, .any⟩, -- CLIENT_RESET
  ⟨0x010A, .none, .cc0⟩, -- CLIENT_CFG
  ⟨0x010B, .none, .cc0⟩ -- EVENT_ROUTE
  ]

/-- Opcodes 0x02xx. -/
def catalogue02 : List OpRow := [
  ⟨0x0201, .none, .owner⟩, -- AX_ADMIT
  ⟨0x0202, .none, .owner⟩, -- AX_RELEASE
  ⟨0x0203, .motion, .owner⟩, -- AX_ENABLE
  ⟨0x0204, .stop, .owner⟩, -- AX_OPEN
  ⟨0x0205, .stop, .owner⟩, -- AX_DISABLE
  ⟨0x0206, .none, .owner⟩, -- AX_FAULT_CLEAR
  ⟨0x0207, .none, .owner⟩, -- AX_BANK_SWAP
  ⟨0x0208, .none, .obs⟩, -- AX_QUERY
  ⟨0x0209, .motion, .owner⟩, -- AX_REVERSE
  ⟨0x020A, .stop, .owner⟩, -- AX_SHORT_BRAKE
  ⟨0x020B, .motion, .owner⟩, -- AX_RECOVER
  ⟨0x020C, .none, .owner⟩, -- FB_SET
  ⟨0x020D, .none, .owner⟩, -- FB_CMP_ARM
  ⟨0x020E, .none, .owner⟩, -- FB_LATCH_ARM
  ⟨0x020F, .none, .owner⟩, -- FB_SYNC_LATCH
  ⟨0x0210, .none, .obs⟩, -- FB_QUERY
  ⟨0x0211, .none, .cc0⟩, -- AX_OWN
  ⟨0x0212, .none, .cc0⟩ -- AX_OBSERVE
  ]

/-- Opcodes 0x03xx. -/
def catalogue03 : List OpRow := [
  ⟨0x0301, .none, .owner⟩, -- PROF_LOAD
  ⟨0x0302, .motion, .owner⟩, -- PROF_RUN
  ⟨0x0303, .motion, .owner⟩, -- PROF_MOVE
  ⟨0x0304, .motion, .owner⟩, -- PROF_VEL
  ⟨0x0305, .stop, .owner⟩, -- PROF_STOP
  ⟨0x0306, .none, .obs⟩ -- PROF_QUERY
  ]

/-- Opcodes 0x04xx. -/
def catalogue04 : List OpRow := [
  ⟨0x0401, .motion, .owner⟩, -- GEAR_ENGAGE
  ⟨0x0402, .motion, .owner⟩, -- GEAR_RATIO
  ⟨0x0403, .motion, .owner⟩, -- GEAR_PHASE
  ⟨0x0404, .motion, .owner⟩, -- GEAR_DISENGAGE
  ⟨0x0405, .motion, .owner⟩, -- LS_JOIN
  ⟨0x0406, .motion, .owner⟩, -- LS_SHARE
  ⟨0x0407, .stop, .owner⟩, -- LS_LEAVE
  ⟨0x0408, .motion, .cc0⟩, -- VM_MOTION
  ⟨0x0409, .stop, .cc0⟩, -- VM_STOP
  ⟨0x040A, .none, .obs⟩ -- GEAR_QUERY
  ]

/-- Opcodes 0x05xx. -/
def catalogue05 : List OpRow := [
  ⟨0x0501, .none, .any⟩, -- CAP_CLAIM
  ⟨0x0502, .none, .holder⟩, -- CAP_ARM
  ⟨0x0503, .none, .holder⟩, -- CAP_FORCE
  ⟨0x0504, .none, .holder⟩, -- CAP_STOP
  ⟨0x0505, .none, .any⟩, -- CAP_QUERY
  ⟨0x0506, .motion, .owner⟩, -- LAN_START
  ⟨0x0507, .stop, .owner⟩, -- LAN_STOP
  ⟨0x0508, .none, .any⟩ -- LAN_QUERY
  ]

/-- Opcodes 0x06xx. -/
def catalogue06 : List OpRow := [
  ⟨0x0601, .none, .cc0⟩, -- FIO_WRITE
  ⟨0x0602, .none, .any⟩, -- FIO_QUERY
  ⟨0x0603, .none, .cc0⟩, -- CAN_TIME_MASTER
  ⟨0x0604, .none, .any⟩ -- CAN_QUERY
  ]

/-- Opcodes 0x07xx. -/
def catalogue07 : List OpRow := [
  ⟨0x0701, .none, .cc0⟩, -- SAF_CFG_LOAD
  ⟨0x0702, .none, .cc0⟩, -- SAF_RESET
  ⟨0x0703, .none, .cc0⟩, -- SAF_GRP_RESET
  ⟨0x0704, .stop, .cc0⟩, -- SAF_STO
  ⟨0x0705, .none, .cc0⟩, -- SAF_SDI
  ⟨0x0706, .stop, .cc0⟩, -- SAF_RESCUE_DONE
  ⟨0x0707, .none, .cc0⟩, -- SAF_INSP_TEST
  ⟨0x0708, .none, .cc0⟩, -- SAF_KEY_SIGN
  ⟨0x0709, .none, .any⟩ -- SAF_QUERY
  ]

/-- Opcodes 0x08xx. -/
def catalogue08 : List OpRow := [
  ⟨0x0801, .none, .cc0⟩, -- FAB_DISCOVER
  ⟨0x0802, .none, .cc0⟩, -- FAB_INSERT
  ⟨0x0803, .none, .cc0⟩, -- FAB_REMOVE
  ⟨0x0804, .none, .cc0⟩, -- FAB_STANDBY
  ⟨0x0805, .none, .cc0⟩, -- FAB_SLOT_ALLOC
  ⟨0x0806, .none, .any⟩ -- FAB_QUERY
  ]

/-- Opcodes 0x09xx. -/
def catalogue09 : List OpRow := [
  ⟨0x0901, .none, .any⟩, -- TIME_QUERY
  ⟨0x0902, .none, .cc0⟩, -- TIME_SRC
  ⟨0x0903, .none, .cc0⟩ -- TIME_PTP_CFG
  ]

/-- Opcodes 0x0Axx. -/
def catalogue0A : List OpRow := [
  ⟨0x0A01, .none, .cc0⟩, -- UPD_BEGIN
  ⟨0x0A02, .none, .cc0⟩, -- UPD_BLOCK
  ⟨0x0A03, .none, .cc0⟩, -- UPD_ACTIVATE
  ⟨0x0A04, .none, .any⟩ -- UPD_QUERY
  ]

/-- Opcodes 0x0Bxx. -/
def catalogue0B : List OpRow := [
  ⟨0x0B01, .none, .any⟩, -- PWR_CLAIM
  ⟨0x0B02, .none, .any⟩, -- PWR_REST
  ⟨0x0B03, .none, .any⟩, -- PWR_WAKE
  ⟨0x0B04, .none, .any⟩ -- PWR_QUERY
  ]

/-- The catalogue. -/
def catalogue : List OpRow := catalogue01 ++ catalogue02 ++ catalogue03 ++ catalogue04 ++ catalogue05 ++ catalogue06 ++ catalogue07 ++ catalogue08 ++ catalogue09 ++ catalogue0A ++ catalogue0B

/-- The row of an opcode. -/
def opRow (op : Nat) : Option OpRow := catalogue.find? (fun r => r.op == op)

/-- The sender of a command is entitled (R358): CC0 for every axis opcode, the holder alone for those of the Oculus holder. -/
def Dev.entitled (d : Dev) (op : Nat) (h : Hdr) : Bool :=
  match opRow op with
  | none => false
  | some r =>
    match r.sender with
    | .any => true
    | .cc0 => h.cc == 0
    | .owner => h.cc == 0 || (maskList 32 h.mask).all (fun n => d.owner n == h.cc)
    | .obs => h.cc == 0 || (maskList 32 h.mask).all (fun n => d.owner n == h.cc || (d.observers n).contains h.cc)
    | .holder => d.ocu.holder == some h.cc

/-- Checks 6 and 7 of R351: the axis mask within the variant (R4) and the sender. -/
def Dev.targetCheck (d : Dev) (op : Nat) (h : Hdr) : Option Nat :=
  if (maskList 32 h.mask).any (fun n => decide (d.axes ≤ n)) then some Code.axisAbsent
  else if d.entitled op h then none else some Code.notOwner

/-- A command at its target: turned away by checks 6 and 7, or with its effect. -/
def Dev.command (d : Dev) (op : Nat) (h : Hdr) (f : Dev → Dev) : Dev :=
  match d.targetCheck op h with
  | some st => d.doneNow h st
  | none => f d

end Sys2Proof.Machine
end

