-- ==== Sys2Proof/Machine/Flags.lean ====
section
/-!
DEFINITION. The status registers the device computes from its engines: AX_STATE, AX_FAULT_CAUSE and AX_ADMIT_INFO
(04_cupola_control.md R137), the two safety words (10_oculus_tuning.md R278), and the mode register (02 R53).
-/

namespace Sys2Proof.Machine

/-- AX_STATE of axis `n` (04 R137). -/
def Dev.axStateWord (d : Dev) (n : Nat) : Word :=
  let c := d.ax n
  BitVec.ofNat 32 (c.state.code + c.prev.code * 2 ^ 4 + c.cause * 2 ^ 8 + b2n c.admitted * 2 ^ 12 + b2n c.member * 2 ^ 13 +
    c.cluster * 2 ^ 14 + (if c.member then c.lead * 2 ^ 16 + c.slot * 2 ^ 21 else 0))

/-- AX_ADMIT_INFO of axis `n`: group-wide, so 0 in the page of a member that does not lead (04 R120, R137). -/
def Dev.axAdmitWord (d : Dev) (n : Nat) : Word :=
  let c := d.ax n
  if c.admitted && (!c.member || c.lead == n) then
    BitVec.ofNat 32 (c.cost + c.rate * 2 ^ 18 + c.phase * 2 ^ 20 + c.prio * 2 ^ 24)
  else 0

/-- SYS_MODE (02 R53). -/
def Dev.modeWord (d : Dev) : Word :=
  BitVec.ofNat 32 (d.sys.mode.code + d.sys.prevMode.code * 2 ^ 4 + d.sys.modeCause * 2 ^ 8)

/-- Whether the STO of group `g` is demanded by either channel (11 R304, R308). -/
def Dev.stoDemanded (d : Dev) (g : Nat) : Bool :=
  let x := d.sg g
  d.saf.deviceSto || x.latched || x.cmdSto || x.pairSto || x.ss1Sto || x.degSto || d.saf.turretHalted || d.saf.scan ||
    nbit g d.wake.restSto || (d.sys.is4016 && decide (2 ≤ g))

/-- The channel, Turret or Keep, demands STO of group `g` (10 R278): a latched reaction by those that saw its causes, the hold of a halted
Turret by Keep, every other demand by both (11 R304, R309, R314, R329). -/
def Dev.stoBy (d : Dev) (turret : Bool) (g : Nat) : Bool :=
  let x := d.sg g
  d.saf.deviceSto || (x.latched && (if turret then x.latT else x.latK)) || x.cmdSto || x.pairSto || x.ss1Sto || x.degSto ||
    (d.saf.turretHalted && !turret) || d.saf.scan || nbit g d.wake.restSto || (d.sys.is4016 && decide (2 ≤ g))

/-- The mask of the STO groups that are demanded. -/
def Dev.stoMask (d : Dev) : Nat := maskOf ((List.range 4).filter d.stoDemanded)

/-- The mask of the output pairs that are energised. -/
def Dev.outMask (d : Dev) : Nat := maskOf ((List.range 8).filter (fun j => (AList.get {} d.saf.outs j).on))

/-- STO lines asserted, two per group (11 R330, SAF_OUT_STATE.sto); they cannot be energised without VFIELD (17 R482). -/
def Dev.stoLines (d : Dev) : Nat :=
  (List.range 4).foldl (fun m g => if d.stoDemanded g || d.rb A.FIELD_STATUS 3 then m + 3 * 4 ^ g else m) 0

/-- Safety word 0 (10 R278): levels of the input pairs, channel A low, channel B high. -/
def Dev.safetyWord0 (d : Dev) : Word :=
  BitVec.ofNat 32 (maskOf ((List.range 16).filter (fun i => (AList.get {} d.saf.pairs i).a)) +
    2 ^ 16 * maskOf ((List.range 16).filter (fun i => (AList.get {} d.saf.pairs i).b)))

/-- Safety word 1 (10 R278): outputs energised, STO lines, and the groups each channel demands. -/
def Dev.safetyWord1 (d : Dev) : Word :=
  BitVec.ofNat 32 (d.outMask + 2 ^ 8 * d.stoLines + 2 ^ 16 * maskOf ((List.range 4).filter (d.stoBy true)) +
    2 ^ 20 * maskOf ((List.range 4).filter (d.stoBy false)))

/-- A completion ring of client `cc` is full, and a ring of it is stopped (12 R341). -/
def Dev.ccStatusWord (d : Dev) (cc : Nat) : Word :=
  BitVec.ofNat 32 (b2n (d.clientExists cc) + 2 * b2n (d.resetting cc) +
    4 * b2n (d.host.cqs.any (fun c => c.2.client == cc && c.2.full)) +
    8 * b2n (d.host.sqs.any (fun q => q.2.client == cc && q.2.stopped) || d.host.cqs.any (fun c => c.2.client == cc && c.2.stopped)) +
    2 ^ 16 * sat 0xFFFF (d.host.inflight.filter (fun f => f.cc == cc)).length)

end Sys2Proof.Machine
end

