-- ==== Sys2Proof/Machine/Latch.lean ====
section
/-!
DEFINITION. Compare units and latch units (08_feedback.md R232 to R235).  Windows of a check are measured in the sense of the
step (notes/assumptions/16.md).
-/

namespace Sys2Proof.Machine

/-- A distance in counts rounded half away from zero. -/
def roundCounts (q : Rat) : Int := ratRound q

/-- The count of axis `n` at fabric time `t`: extrapolated from the last valid frame for a serial source (R235). -/
def Dev.countAt (d : Dev) (n t : Nat) : Int :=
  let f := d.fb n
  if d.fld (A.FB_CFG n) 1 0 = 2 then
    match f.ser1 with
    | some m => f.count + roundCounts (f.speed * mkRat ((t : Int) - m.t) 1000000000)
    | none => f.count
  else f.count

/-- Latch unit `u` of axis `n` captures at time `t` (R235). -/
def Dev.capture (d : Dev) (n u t : Nat) (stepped : Bool := false) : Dev :=
  let g := A.FB_LAT_GEN n u
  let c := A.FB_LAT_CTRL n u
  let had := d.rb g 0
  let d := d.wr64 (A.FB_LAT_T_LO n u) t
  let d := d.wr48 (A.FB_LAT_CNT_LO n u) (d.countAt n t)
  let d := (d.incWrap g 31 16).wb g 0 true
  let d := if had && d.rb c 1 then d.wb g 1 true else d
  let d := if stepped then d.wb g 2 true else d
  let d := if d.rb c 1 then d else d.wb c 10 false
  d.raiseAx n 10

/-- The window list of compare unit `u`. -/
def AxFb.wins (f : AxFb) (u : Nat) : List CmpWin := if u = 0 then f.win0 else f.win1

/-- Set the window list of compare unit `u`. -/
def AxFb.setWins (f : AxFb) (u : Nat) (w : List CmpWin) : AxFb := if u = 0 then { f with win0 := w } else { f with win1 := w }

/-- The signed step of compare unit `u` of axis `n`. -/
def Dev.cmpStep (d : Dev) (n u : Nat) : Int := toSigned 32 (d.rd (A.FB_CMP_STEP n u)).toNat

/-- The window of base `b`: its first and last count in the sense of the step (R233). -/
def Dev.inWindow (d : Dev) (n u : Nat) (b c : Int) : Bool :=
  let s : Int := if d.cmpStep n u < 0 then -1 else 1
  let x := s * (c - b)
  decide (-(d.fld (A.FB_CMP_WIN n u) 15 0 : Int) ≤ x) && decide (x ≤ (d.fld (A.FB_CMP_WIN n u) 31 16 : Int))

/-- An event of the check source of compare unit `u` at count `c`: it matches the window it lies in, or that the count ran past in the
same clock, once; any other adds to extra (R233). -/
def Dev.checkEvent (d : Dev) (n u : Nat) (c : Int) : Dev :=
  let f := d.fb n
  let base := d.rd48 (A.FB_CMP_BASE_LO n u)
  let wins := if (f.wins u).any (fun w => w.base == base) then f.wins u else f.wins u ++ [({ base := base } : CmpWin)]
  match wins.find? (fun w => (d.inWindow n u w.base c || w.due == some f.clock) && !w.matched) with
  | some w =>
    d.setFb n (f.setWins u (wins.flatMap (fun x =>
      if x.base != w.base then [x] else if x.due.isSome then [] else [{ x with matched := true }])))
  | none => (d.incSat (A.FB_CMP_STATUS n u) 31 24).raiseAx n 10

/-- One hit of compare unit `u` at time `t` (R232). -/
def Dev.hit (d : Dev) (n u : Nat) (t : Nat) : Dev :=
  let base := d.rd48 (A.FB_CMP_BASE_LO n u)
  let ctrl := A.FB_CMP_CTRL n u
  let f := d.fb n
  let d := if d.rb ctrl 1 && !(f.wins u).any (fun w => w.base == base) then d.setFb n (f.setWins u (f.wins u ++ [({ base := base } : CmpWin)])) else d
  let d := d.wr64 (A.FB_CMP_HIT_T_LO n u) t
  let d := (d.incWrap (A.FB_CMP_HIT_GEN n u) 31 16).wb (A.FB_CMP_HIT_GEN n u) 0 true
  let d := d.incSat (A.FB_CMP_STATUS n u) 15 0
  let d := d.wr48 (A.FB_CMP_BASE_LO n u) (base + d.cmpStep n u)
  let k := d.fld ctrl 31 16
  let d := if k = 0 then d
    else
      let d := d.setFld ctrl 31 16 (k - 1)
      if k = 1 then (d.wb ctrl 0 false).setFb n ((d.fb n).setWins u []) else d
  (d.emit (.compareHit n u)).raiseAx n 10

/-- Hits of compare unit `u` while its base lies between the old and the new count in the step's sense. -/
def Dev.hits : Nat → Dev → Nat → Nat → Int → Int → Nat → Dev
  | 0, d, _, _, _, _, _ => d
  | fuel + 1, d, n, u, old, new, t =>
    let base := d.rd48 (A.FB_CMP_BASE_LO n u)
    let st := d.cmpStep n u
    let reached := if 0 < st then decide (old < base) && decide (base ≤ new) else decide (base < old) && decide (new ≤ base)
    if d.rb (A.FB_CMP_CTRL n u) 0 && reached && st != 0 then Dev.hits fuel (d.hit n u t) n u old new t else d

/-- Windows the count has passed: an unmatched one is missing unless an event of the same clock matches it (R233). -/
def Dev.missing (d : Dev) (n u : Nat) (new : Int) : Dev :=
  let st := d.cmpStep n u
  let s : Int := if st < 0 then -1 else 1
  let base := d.rd48 (A.FB_CMP_BASE_LO n u)
  let post : Int := d.fld (A.FB_CMP_WIN n u) 31 16
  let f := d.fb n
  d.setFb n (f.setWins u ((f.wins u).flatMap (fun w =>
    if w.due.isSome || !(decide (post + 1 ≤ s * (new - w.base)) && decide (w.base ≠ base)) then [w]
    else if w.matched then [] else [{ w with due := some f.clock }])))

/-- The windows of axis `n` that the count ran past without a match are missing (R233). -/
def Dev.missed (d : Dev) (n : Nat) : Dev :=
  d.each [0, 1] (fun d u =>
    let f := d.fb n
    let gone := (f.wins u).filter (fun w => w.due.isSome)
    if gone.isEmpty then d
    else gone.foldl (fun d w =>
      ((d.incSat (A.FB_CMP_STATUS n u) 23 16).wr48 (A.FB_CMP_MISS_BASE_LO n u) w.base).raiseAx n 10)
      (d.setFb n (f.setWins u ((f.wins u).filter (fun w => w.due.isNone)))))

/-- Something happens on axis `n` in the 5 ns clock of fabric time `t`: what an earlier clock left open is settled. -/
def Dev.clockTo (d : Dev) (n t : Nat) : Dev :=
  if (d.fb n).clock = t / 5 then d else (d.missed n).modFb n (fun f => { f with clock := t / 5 })

/-- The compare units of axis `n` after the count has moved from `old` to `new` at time `t` (R232, R233). -/
def Dev.compare (d : Dev) (n : Nat) (old new : Int) (t : Nat) : Dev :=
  d.each [0, 1] (fun d u =>
    if d.rb (A.FB_CMP_CTRL n u) 0 then
      let st := d.cmpStep n u
      let fuel := if st = 0 then 0 else ((new - old).natAbs / st.natAbs) + 1
      let d := Dev.hits fuel d n u old new t
      if d.rb (A.FB_CMP_CTRL n u) 1 then d.missing n u new else d
    else d)

/-- Whether an edge setting (0 rising, 1 falling, 2 both) takes an edge. -/
def edgeTaken (setting : Nat) (rising : Bool) : Bool :=
  if setting = 0 then rising else if setting = 1 then !rising else decide (setting = 2)

/-- Whether latch source `src` can fire (R234). -/
def Dev.sourceFires (d : Dev) (src : Nat) : Bool :=
  if 32 ≤ src ∧ src < 48 then decide (d.fld (A.FIELD_CH_CFG (src - 32)) 1 0 ≠ 2)
  else if d.sys.is4016 && decide (16 ≤ src) && decide (src < 32) then false
  else decide (src < 59)

/-- An event of latch source `src` at time `t`: armed units capture, and check events are matched (R233 to R235). -/
def Dev.fire (d : Dev) (src : Nat) (rising : Bool) (t : Nat) (stepped : Bool := false) : Dev :=
  if !d.sourceFires src then d
  else d.each d.axisList (fun d n =>
    let d := d.each [0, 1, 2, 3] (fun d u =>
      let w := d.rd (A.FB_LAT_CTRL n u)
      if bit 0 w && bit 10 w && field 7 2 w == src && (decide (56 ≤ src) || edgeTaken (field 9 8 w) rising) then
        d.capture n u t stepped
      else d)
    d.each [0, 1] (fun d u =>
      let w := d.rd (A.FB_CMP_CTRL n u)
      if bit 0 w && bit 1 w && field 7 2 w == src && (decide (56 ≤ src) || (bit 8 w != rising)) then
        d.checkEvent n u (d.countAt n t)
      else d))

end Sys2Proof.Machine
end

