-- ==== Sys2Proof/Machine/Oculus.lean ====
section
/-!
DEFINITION. Oculus: nodes, samples, the trigger sequencer, records, and the CAP_ commands (10_oculus_tuning.md R276 to R295,
R301, R302).
-/

namespace Sys2Proof.Machine

/-- A verdict of a command's checks: none when they pass, else its status and the items of its result. -/
abbrev Verdict := Option (Nat × List (Nat × Nat × Nat))

/-- The first of several checks that fails. -/
def firstFail : List (Bool × Nat) → Verdict
  | [] => none
  | (bad, st) :: l => if bad then some (st, []) else firstFail l

/-! ### Nodes (R278, R279) -/

/-- The kind, axis, index and sub-step of a node selector. -/
def selKind (w : Word) : Nat := field 7 0 w
/-- The axis of a node selector. -/
def selAxis (w : Word) : Nat := field 12 8 w
/-- The index of a node selector. -/
def selIndex (w : Word) : Nat := field 21 16 w
/-- The sub-step of a node selector. -/
def selSub (w : Word) : Nat := field 28 22 w

/-- A raw node: its sample is no FP32 value. -/
def rawKind (k : Nat) : Bool := k == 0x28 || k == 0x40 || k == 0x41 || k == 0x42

/-- A kind that reads the model of a group, named by its lead axis. -/
def modelKind (k : Nat) : Bool := decide (0x10 ≤ k) && decide (k ≤ 0x15)

/-- The largest index a kind takes, none for a reserved kind. -/
def kindMaxIndex (k : Nat) : Option Nat :=
  if 0x01 ≤ k ∧ k ≤ 0x0D then some 0
  else if k = 0x10 ∨ k = 0x14 ∨ k = 0x15 then some 15
  else if k = 0x11 then some 63
  else if k = 0x12 ∨ k = 0x13 then some 31
  else if k = 0x18 then some 2
  else if k = 0x19 then some 5
  else if 0x1A ≤ k ∧ k ≤ 0x20 then some 0
  else if k = 0x28 then some 0
  else if k = 0x30 then some 3
  else if k = 0x40 then some 1
  else if k = 0x41 ∨ k = 0x42 then some 0
  else none

/-- A reserved node (R278). -/
def Dev.reservedNode (d : Dev) (w : Word) : Bool :=
  let k := selKind w
  let c := d.ax (selAxis w)
  (match kindMaxIndex k with | none => true | some m => decide (m < selIndex w)) ||
    field 15 13 w != 0 || field 31 29 w != 0 || (k != 0x15 && selSub w != 0) ||
    (modelKind k && c.member && c.lead != selAxis w)

/-- The dead time in force of leg index `i` of R278, ns. -/
def Dev.deadNs (d : Dev) (n i : Nat) : Rat :=
  let l := AList.get {} (d.pw n).legs (i / 2)
  mkRat (if i % 2 = 0 then l.fall else l.rise) 8

/-- What the last execution of the model of lead axis `n` that was committed at or before the present tick left behind (R279): an execution
of this tick commits after it. -/
def Dev.heldExec (d : Dev) (n : Nat) : Option ExecSave :=
  let c := d.ax n
  if c.commitTick = d.sys.tick then c.save else none

/-- The value of a node at the present tick (R278, R279). -/
def Dev.nodeWord (d : Dev) (w : Word) : Word :=
  let k := selKind w
  let n := selAxis w
  let i := selIndex w
  let c := d.ax n
  let o := d.heldExec (d.lead n)
  let us := (o.map (·.us)).getD c.lastU
  if k ≤ 0x0D then AList.get 0 c.deliv k
  else if k = 0x10 then c.uCommitted.getD i 0
  else if k = 0x11 then ((o.map (·.x)).getD c.x).getD i 0
  else if k = 0x12 then ((o.map (·.y)).getD c.lastY).getD i 0
  else if k = 0x13 then ((o.map (·.w)).getD c.lastW).getD i 0
  else if k = 0x14 then ((o.map (·.r)).getD c.lastR).getD i 0
  else if k = 0x15 then (us.getD (min (selSub w) (us.length - 1)) []).getD i 0
  else if k = 0x18 then
    match (d.pw n).active.getD i .released with
    | .released => 0xBF800000
    | .duty q => f32Of q
  else if k = 0x19 then f32Of (d.deadNs n i)
  else if k = 0x1A then AList.get 0 c.deliv 0x09
  else if k = 0x1B then AList.get 0 c.deliv 0x0A
  else if k ≤ 0x1F then AList.get 0 c.deliv (0x30 + (k - 0x1C))
  else if k = 0x20 then f32Of ((o.bind (fun s => AList.find s.betas n)).getD (d.sns n).betaC)
  else if k = 0x28 then d.axStateWord n
  else if k = 0x30 then d.rd (A.LAN_OUT i)
  else if k = 0x40 then (if i = 0 then d.safetyWord0 else d.safetyWord1)
  else if k = 0x41 then d.rd A.FIELD_LEVEL
  else BitVec.ofNat 32 d.sys.tick

/-! ### The configuration of a record -/

/-- The enabled channels, ascending. -/
def Dev.ocuChans (d : Dev) : List Nat := maskList 16 (d.fld A.OCU_CFG 31 16)

/-- The pre-trigger length P. -/
def Dev.ocuP (d : Dev) : Nat := d.fld A.OCU_PRE 23 0

/-- The post-trigger length Q. -/
def Dev.ocuQ (d : Dev) : Nat := d.fld A.OCU_POST 23 0

/-- The slot size S (R287). -/
def Dev.ocuS (d : Dev) : Nat :=
  let c := d.ocuChans.length
  ceilDiv (128 + 4 * c * (d.ocuP + d.ocuQ) + (if d.rb A.OCU_CFG 5 then 32 * c else 0)) 64 * 64

/-- The memory mode: 0 single, 1 segmented, 2 stream. -/
def Dev.ocuMode (d : Dev) : Nat := d.fld A.OCU_CFG 1 0

/-- The configured rate code. -/
def Dev.ocuCfgRate (d : Dev) : Nat := d.fld A.OCU_CFG 4 2

/-- The window of capture memory. -/
def Dev.ocuBase (d : Dev) : Nat := d.fld A.OCU_MEM_BASE 21 0
/-- The size of the window. -/
def Dev.ocuSize (d : Dev) : Nat := d.fld A.OCU_MEM_SIZE 22 0

/-- The slots of the stream ring, K. -/
def Dev.ocuK (d : Dev) : Nat := d.ocuSize / d.ocuS

/-- The slots free before the next record is reserved (R290): those published and not consumed, and those that await their
publication, are taken. -/
def Dev.ocuFree (d : Dev) : Nat :=
  d.ocuK - ((d.rd A.OCU_RING_WP - d.rd A.OCU_RING_RP).toNat + d.ocu.done.length)

/-- The address of the slot in progress. -/
def Dev.ocuSlotAddr (d : Dev) : Nat := d.ocuBase + d.ocu.slot * d.ocuS

/-- OCU_STATUS (R295). -/
def Dev.ocuStatusWord (d : Dev) : Word :=
  BitVec.ofNat 32 (d.ocu.state + 8 * d.ocu.seqState + 64 * b2n d.ocu.holder.isSome + 256 * d.ocu.holder.getD 0 +
    2 ^ 17 * d.ocu.rate + 2 ^ 20 * d.ocu.stopCause)

/-! ### Records -/

/-- Begin a record in the present slot at rate code `r` (R281 to R283). -/
def Dev.ocuBegin (d : Dev) (r : Nat) : Dev :=
  let d := { d with ocu := { d.ocu with state := if d.ocuP = 0 then 2 else 1, rate := r, seqState := 0, age := 0, count := 0, prev := [], events := [], taken := 0, marks := [], trig := none, force := 0, dead := 0, prevTick := d.now } }
  if d.ocuCfgRate < r then d.raise Ev.ocuRateReduced else d

/-- The slots of the stream ring: the next record is reserved while one is free (R290), else the engine waits in state 4. -/
def Dev.ocuReserve (d : Dev) : Dev :=
  let free := d.ocuFree
  if free = 0 then
    if d.ocu.state = 4 then d else Dev.raise { d with ocu := { d.ocu with state := 4 } } Ev.ocuWaiting
  else
    let free := free - 1
    let low := d.fld A.OCU_STREAM_CFG 15 0
    let high := d.fld A.OCU_STREAM_CFG 31 16
    let r := if d.ocu.ended = 0 then d.ocuCfgRate else if free < low then min 7 (d.ocu.rate + 1)
      else if high ≤ free then d.ocuCfgRate else d.ocu.rate
    d.ocuBegin r

/-- The tick of the sample of ordinal `i` in the record in progress (R289). -/
def OcuSt.tickOf (o : OcuSt) (i : Nat) : Nat :=
  match o.marks.find? (fun m => decide (m.ord ≤ i)) with
  | some m => m.tick + (i - m.ord) * 2 ^ o.rate
  | none => 0

/-- The samples a record holds: those of the pre-trigger area and those from its trigger on. -/
def Dev.ocuLen (d : Dev) : Nat :=
  match d.ocu.trig with
  | some g => d.ocuP + (d.ocu.taken - g.ord)
  | none => min d.ocu.taken d.ocuP

/-- The ordinal of the oldest sample a record holds. -/
def Dev.ocuFirst (d : Dev) : Nat :=
  match d.ocu.trig with
  | some g => g.ord - d.ocuP
  | none => d.ocu.taken - d.ocuP

/-- The sample position of sample `i` in time order (R288). -/
def samplePos (p rot len i : Nat) : Nat := if i < min len p then (rot + i) % p else i

/-- The value of channel position `c` of sample `i` of the record in progress. -/
def Dev.ocuSampleAt (d : Dev) (rot c i : Nat) : Word :=
  d.mw (0xC00000 + d.ocuSlotAddr + 128 + 4 * (d.ocuChans.length * samplePos d.ocuP rot d.ocuLen i + c))

/-- The mean of a list of rationals. -/
def ratMean (l : List Rat) : Rat := l.foldl (· + ·) 0 / (l.length : Rat)

/-- The smallest value of a list. -/
def ratMin (l : List Rat) : Rat := l.foldl (fun m x => if x < m then x else m) (l.headD 0)

/-- The largest value of a list. -/
def ratMax (l : List Rat) : Rat := l.foldl (fun m x => if m < x then x else m) (l.headD 0)

/-- The times of rising crossings of `thr` in a series of (time, value), a crossing counting only after a value at or below
`arm` (R292). -/
def crossings (thr arm : Rat) : Bool → List (Rat × Rat) → List Rat
  | armed, (t0, v0) :: (t1, v1) :: l =>
    let armed := armed || decide (v0 ≤ arm)
    if armed && decide (v0 < thr) && decide (thr ≤ v1) then
      (t0 + (thr - v0) / (v1 - v0) * (t1 - t0)) :: crossings thr arm false ((t1, v1) :: l)
    else crossings thr arm armed ((t1, v1) :: l)
  | _, _ => []

/-- The time a series first crosses `thr` in the sense of `up` at or after time `from_`. -/
def firstCross (thr : Rat) (up : Bool) (from_ : Rat) : List (Rat × Rat) → Option Rat
  | (t0, v0) :: (t1, v1) :: l =>
    let x := t0 + (thr - v0) / (v1 - v0) * (t1 - t0)
    if (if up then decide (v0 < thr) && decide (thr ≤ v1) else decide (thr < v0) && decide (v1 ≤ thr)) && decide (from_ ≤ x) then some x
    else firstCross thr up from_ ((t1, v1) :: l)
  | _ => none

/-- The eight measurements of one FP32 channel over its post-trigger samples (R292): `pre` its pre-trigger values, `post` its
post-trigger (time in s, value) pairs, `t0` the trigger point in s. -/
def measure (band : F32) (q : Nat) (pre : List Rat) (post : List (Rat × Rat)) (t0 : Rat) : List F32 :=
  let vs := post.map (·.2)
  let mn := ratMin vs
  let mx := ratMax vs
  let mean := ratMean vs
  let pp := mx - mn
  let vi := if pre.isEmpty then vs.headD 0 else ratMean pre
  let tail := (vs.reverse.take (ceilDiv q 10)).reverse
  let vf := ratMean tail
  let step := vf - vi
  let xs := crossings mean (mean - pp / 20) false post
  let period := match xs with
    | a :: b :: l => f32Of (((b :: l).getLastD a - a) / ((b :: l).length : Rat))
    | _ => f32NanPattern
  let up := decide (0 < step)
  let rise :=
    if ratAbs step < pp / 20 then f32NanPattern
    else match firstCross (vi + step / 10) up (post.headD (0, 0)).1 post with
      | none => f32NanPattern
      | some a => match firstCross (vi + step * 9 / 10) up a post with
        | none => f32NanPattern
        | some b => f32Of (b - a)
  let out (x : Rat × Rat) : Bool := decide (f32Val band * ratAbs step < ratAbs (x.2 - vf))
  let settle :=
    if step = 0 ∨ (post.getLast?.map out).getD true then f32NanPattern
    else match (post.reverse.takeWhile (fun x => !out x)).getLast? with
      | none => 0
      | some x => if post.all (fun y => !out y) then 0 else f32Of (x.1 - t0)
  [f32Of mn, f32Of mx, f32Of mean, f32Of (Config.sqrt (ratMean (vs.map (fun v => v * v)))), f32Of (pp / 2), period, rise, settle]

/-- The measurements of every enabled channel of the record in progress. -/
def Dev.ocuMeasure (d : Dev) (rot : Nat) : List (List F32) :=
  let len := d.ocuLen
  let first := d.ocuFirst
  let time (i : Nat) : Rat := mkRat (d.ocu.tickOf (first + i) * d.loopPeriod) 1000000000
  let npre := min len d.ocuP
  (d.ocuChans.zipIdx).map (fun (ch, c) =>
    if rawKind (selKind (d.rd (A.OCU_CH ch))) then List.replicate 8 f32NanPattern
    else if d.ocu.trig.isNone then (List.range 8).map (fun j => BitVec.ofNat 32 (Config.free (d.free + 8 * c + j)))
    else
      let v (i : Nat) : Rat := f32Val (d.ocuSampleAt rot c i)
      measure (d.rd A.OCU_SETTLE_BAND) d.ocuQ ((List.range npre).map v) ((List.range (len - npre)).map (fun i => (time (npre + i), v (npre + i))))
        (mkRat ((d.ocu.trig.map (·.t)).getD 0) 8000000000))

/-- The header of the record in progress (R288). -/
def Dev.ocuHeader (d : Dev) (rot : Nat) (truncated : Bool) : List Byte :=
  let o := d.ocu
  let len := d.ocuLen
  let first := d.ocuFirst
  let steps := (o.marks.reverse.filter (fun m => decide (0 < m.ord) && decide (first < m.ord) && decide (m.ord < first + len)))
  let stepIndex := match steps with | [] => 0xFFFFFFFF | m :: _ => m.ord - first
  let stepTick := match steps with | [] => 0 | m :: _ => m.tick
  let ofs : Int := match o.trig with | some g => (g.t : Int) - 8 * g.tick | none => 0
  let flags := b2n ((o.trig.map (·.forced)).getD false) + 2 * b2n (d.rb A.OCU_CFG 6) + 4 * b2n truncated +
    8 * b2n (decide (d.ocuCfgRate < o.rate)) + 16 * b2n (d.rb A.OCU_CFG 5) + 32 * b2n (!steps.isEmpty)
  leBytes 4 (o.seq + o.done.length) ++ leBytes 4 d.ocuS ++ leBytes 8 (if len = 0 then 0 else o.tickOf first) ++ leBytes 8 stepTick ++
    leBytes 8 ((o.trig.map (fun g => g.t / 8)).getD 0) ++ leBytes 4 (ofSigned 32 ofs) ++ leBytes 4 rot ++ leBytes 4 len ++
    leBytes 4 stepIndex ++ leBytes 4 (sat 0xFFFFFFFF o.dead) ++ leBytes 4 d.ocuP ++ leBytes 1 o.rate ++ leBytes 1 d.ocuCfgRate ++
    leBytes 1 flags ++ leBytes 1 d.ocuChans.length ++ leBytes 2 (d.fld A.OCU_CFG 31 16) ++ leBytes 2 0 ++
    (d.ocuChans.flatMap (fun ch => leBytes 4 (d.rd (A.OCU_CH ch)).toNat)) ++ List.replicate (64 - 4 * d.ocuChans.length) 0

/-- The record in progress ends: its header and trailer await publication (R292, R293). -/
def Dev.ocuEnd (d : Dev) (truncated : Bool) : Dev :=
  let o := d.ocu
  let p := d.ocuP
  let rot := if p = 0 then 0 else match o.trig with
    | some g => g.ord % p
    | none => if o.taken < p then 0 else o.taken % p
  let meas := if d.rb A.OCU_CFG 5 then d.ocuMeasure rot else []
  let chans := d.ocuChans
  let r : OcuDone := {
    addr := d.ocuSlotAddr
    header := d.ocuHeader rot truncated
    trailer := meas.flatMap (fun l => l.flatMap (fun v => leBytes 4 v.toNat))
    trailerAt := d.ocuSlotAddr + 128 + 4 * chans.length * (p + d.ocuQ)
    trig := (o.trig.map (fun g => g.t / 8)).getD 0
    ofs := match o.trig with | some g => (g.t : Int) - 8 * g.tick | none => 0
    dead := sat 0xFFFFFFFF o.dead
    meas := (List.range 16).map (fun ch => match chans.idxOf? ch with | some c => meas.getD c (List.replicate 8 f32NanPattern) | none => List.replicate 8 f32NanPattern) }
  { d with ocu := { o with done := o.done ++ [r], ended := o.ended + 1, deadFrom := if o.taken = 0 then o.deadFrom else some (o.tickOf (o.taken - 1) * d.loopPeriod) },
           free := d.free + (if d.rb A.OCU_CFG 5 && o.trig.isNone then 8 * chans.length else 0) }

/-- The oldest record that awaits it is published (R293). -/
def Dev.ocuPublish (d : Dev) : Dev :=
  match d.ocu.done with
  | [] => d
  | r :: rest =>
    let d := (d.setMbs (0xC00000 + r.addr) r.header).setMbs (0xC00000 + r.trailerAt) r.trailer
    let d := (d.incWrap A.OCU_REC_GEN 31 16).wb A.OCU_REC_GEN 0 true
    let d := d.wrAll [(A.OCU_REC_ADDR, BitVec.ofNat 32 r.addr), (A.OCU_REC_SEQ, BitVec.ofNat 32 d.ocu.seq),
      (A.OCU_TRIG_OFS, BitVec.ofNat 32 (ofSigned 32 r.ofs)), (A.OCU_DEAD, BitVec.ofNat 32 r.dead)]
    let d := d.wr64 A.OCU_TRIG_T_LO r.trig
    let d := d.wrAll ((r.meas.zipIdx).flatMap (fun (l, ch) => (l.zipIdx).map (fun (v, w) => (A.OCU_MEAS ch w, v))))
    let d := if d.ocuMode = 2 then d.wr A.OCU_RING_WP (d.rd A.OCU_RING_WP + 1) else d
    Dev.raise { d with ocu := { d.ocu with done := rest, seq := (d.ocu.seq + 1) % 2 ^ 32 } } Ev.ocuRecordDone

/-- Every record that awaits it is published. -/
def Dev.ocuPublishAll : Nat → Dev → Dev
  | 0, d => d
  | k + 1, d => Dev.ocuPublishAll k d.ocuPublish

/-- The engine stops without a record in progress (R294): idle with its cause; CAP_ARM and CAP_FORCE that still wait complete
with WRONG_MODE. -/
def Dev.ocuIdle (d : Dev) (cause : Nat) : Dev :=
  let arm := d.ocu.armCmd
  let force := d.ocu.forceCmd
  let d := { d with ocu := { d.ocu with state := 0, stopCause := cause, armCmd := none, forceCmd := none, skip := none, deadFrom := none, seqState := 0 } }
  let d := (d.doneWait arm Code.wrongMode).doneWait force Code.wrongMode
  d.raise Ev.ocuStopped

/-- A stop cause of R294 acts: the record in progress is truncated and published, the engine is idle. -/
def Dev.ocuStop (d : Dev) (cause : Nat) : Dev :=
  if d.ocu.state = 0 ∨ d.ocu.state = 5 then d
  else
    let d := if d.ocu.state = 4 then d else d.ocuEnd true
    (Dev.ocuPublishAll d.ocu.done.length d).ocuIdle cause

/-- The last sample of a record has been stored: the next record begins, waits, or the engine stops (R287, R290). -/
def Dev.ocuRecordEnd (d : Dev) : Dev :=
  let rate := d.ocu.rate
  let d := d.ocuEnd false
  let nrec := (d.rd A.OCU_NREC).toNat
  let last := d.ocuMode == 0 || (nrec != 0 && decide (nrec ≤ d.ocu.ended))
  if last then d.ocuIdle 1
  else
    let d := { d with ocu := { d.ocu with skip := some rate } }
    if d.ocuMode = 1 then
      let d := { d with ocu := { d.ocu with slot := d.ocu.slot + 1 } }
      if d.ocuSize < (d.ocu.slot + 1) * d.ocuS then d.ocuIdle 3 else d.ocuBegin d.ocuCfgRate
    else
      let d := { d with ocu := { d.ocu with slot := (d.ocu.slot + 1) % d.ocuK } }
      d.ocuReserve

/-! ### The trigger sequencer (R283 to R286) -/

/-- An event of latch source `src` (R234) as the latch units and Oculus see it. -/
def Dev.source (d : Dev) (src : Nat) (rising : Bool) (t : Nat) (stepped : Bool := false) : Dev :=
  let d := d.fire src rising t stepped
  if d.sourceFires src && decide (src < 58) then d.ocuEvent src rising (8 * t) else d

/-- The sequencer enters state `s`. -/
def Dev.ocuEnter (d : Dev) (s : Nat) : Dev := { d with ocu := { d.ocu with seqState := s, age := 0, count := 0 } }

/-- tmo samples have passed in the state without a match: the sequencer goes to tnext (R283). -/
def Dev.ocuTimeout (d : Dev) : Dev :=
  let s := d.ocu.seqState
  let tmo := d.fld (A.OCU_SEQ_TMO s) 23 0
  if (d.ocu.state = 1 ∨ d.ocu.state = 2) ∧ d.ocu.force ≠ 2 ∧ !(d.rb A.OCU_CFG 6) ∧ tmo ≠ 0 ∧ tmo ≤ d.ocu.age then
    d.ocuEnter (d.fld (A.OCU_SEQ_COND s) 18 16)
  else d

/-- A trigger is accepted at the present sample (R281, R285): latch source 58 fires at its point. -/
def Dev.ocuTrigger (d : Dev) (t125 : Nat) (forced : Bool) : Dev :=
  let g : OcuTrig := { ord := d.ocu.taken, t := t125, tick := d.tickTime, forced }
  let d := { d with ocu := { d.ocu with trig := some g, state := 3 } }
  let cmd := d.ocu.forceCmd
  let d := { d with ocu := { d.ocu with forceCmd := none, force := 0 } }
  let d := d.doneWait cmd Code.done [(16, 8, t125 / 8)]
  (d.fire 58 true (t125 / 8)).raise Ev.ocuTriggered

/-- A match of a state's condition (R283): the trigger, an ignored trigger (R282), or the next state. -/
def Dev.ocuMatch (d : Dev) (t125 : Nat) : Dev :=
  let c := d.rd (A.OCU_SEQ_COND d.ocu.seqState)
  if bit 11 c then
    if d.ocuP ≤ d.ocu.taken then d.ocuTrigger t125 false
    else
      let d := { d with ocu := { d.ocu with count := 0 } }
      (d.wr A.OCU_IGNORED (if d.rd A.OCU_IGNORED = 0xFFFFFFFF then 0xFFFFFFFF else d.rd A.OCU_IGNORED + 1)).raise Ev.ocuTrigIgnored
  else d.ocuEnter (field 14 12 c)

/-- One more occurrence of the condition in force: a match at the n-th (R284). -/
def Dev.ocuOccur (d : Dev) (t125 : Nat) : Dev :=
  let n := d.fld (A.OCU_SEQ_CNT d.ocu.seqState) 15 0
  let k := d.ocu.count + 1
  if n ≤ k then d.ocuMatch t125 else { d with ocu := { d.ocu with count := k } }

/-- The condition of the state in force is evaluated on one event. -/
def Dev.ocuOnEvent (d : Dev) (e : OcuEvent) : Dev :=
  let c := d.rd (A.OCU_SEQ_COND d.ocu.seqState)
  if (d.ocu.state = 1 ∨ d.ocu.state = 2) ∧ field 10 4 c = e.code ∧
      (field 3 0 c = 6 ∧ e.rising ∨ field 3 0 c = 7 ∧ !e.rising) ∧
      d.fld (A.OCU_SEQ_CNT d.ocu.seqState) 31 16 ≤ d.ocu.age - 1 then
    d.ocuOccur e.t
  else d

/-- An instant between two samples rounded to 125 ps toward the later one. -/
def to125 (t : Rat) : Nat := (t * 8).ceil.toNat

/-- The condition of the state in force is evaluated on the present sample of its channel. -/
def Dev.ocuOnSample (d : Dev) (sample : AList Word) : Dev :=
  let s := d.ocu.seqState
  let c := d.rd (A.OCU_SEQ_COND s)
  let ty := field 3 0 c
  let ch := field 10 4 c
  let thr := d.rd (A.OCU_SEQ_THR s)
  if d.fld (A.OCU_SEQ_CNT s) 31 16 < d.ocu.age ∧ 1 ≤ ty ∧ ty ≤ 5 then
    match AList.find sample ch with
    | none => d
    | some v =>
      if ty ≤ 2 then
        match AList.find d.ocu.prev ch with
        | none => d
        | some u =>
          if (if ty = 1 then f32Lt u thr && f32Le thr v else f32Lt thr u && f32Le v thr) then
            let t0 : Rat := d.ocu.prevTick
            let t1 : Rat := d.tickTime
            let f : Rat := if f32Val v = f32Val u then 1 else (f32Val thr - f32Val u) / (f32Val v - f32Val u)
            d.ocuOccur (to125 (t0 + f * (t1 - t0)))
          else d
      else
        let ok := if ty = 3 then f32Le thr v else if ty = 4 then f32Le v thr else decide (v &&& d.rd (A.OCU_SEQ_MASK s) = thr)
        if ok then d.ocuOccur (8 * d.tickTime) else { d with ocu := { d.ocu with count := 0 } }
  else d

/-- Insert an event in timestamp order. -/
def insertEvent (e : OcuEvent) : List OcuEvent → List OcuEvent
  | [] => [e]
  | x :: l => if e.t < x.t then e :: x :: l else x :: insertEvent e l

/-- Code 100 (R284): fabric time has reached OCU_TRIG_TIME since the sample before, stamped with the count of 2 ns that reached it. -/
def Dev.ocuTimeEvents (d : Dev) : List OcuEvent :=
  let t := d.rd64 A.OCU_TRIG_TIME_LO
  if d.ocu.prevTick < t ∧ t ≤ d.tickTime then [{ code := 100, rising := true, t := 16 * ceilDiv t 2 }] else []

/-- The sequencer, CAP_FORCE and free running at a sample (R282 to R286). -/
def Dev.ocuSequence (d : Dev) (sample : AList Word) : Dev :=
  let d := d.ocuTimeout
  let evs := (d.ocuTimeEvents ++ d.ocu.events).foldl (fun l e => insertEvent e l) []
  let d := { d with ocu := { d.ocu with events := [], age := d.ocu.age + 1 } }
  let allowed := decide (d.ocuP ≤ d.ocu.taken)
  if d.rb A.OCU_CFG 6 then (if allowed then d.ocuTrigger (8 * d.tickTime) (decide (d.ocu.force ≠ 0)) else d)
  else
    let d := if d.ocu.force = 2 ∨ (d.ocu.force = 1 ∧ !allowed) then d
      else
        let s := d.ocu.seqState
        let d := evs.foldl Dev.ocuOnEvent d
        if d.ocu.trig.isNone ∧ d.ocu.seqState = s ∧ d.ocu.age ≠ 0 then d.ocuOnSample sample else d
    if d.ocu.force ≠ 0 ∧ d.ocu.trig.isNone then
      (if allowed then d.ocuTrigger (8 * d.tickTime) true else { d with ocu := { d.ocu with force := 2 } })
    else d

/-! ### Samples (R281) -/

/-- One sample is taken at the present loop tick and stored; the trigger is evaluated; a record that is complete ends. -/
def Dev.ocuTake (d : Dev) : Dev :=
  let chans := d.ocuChans
  let sample : AList Word := chans.map (fun c => (c, d.nodeWord (d.rd (A.OCU_CH c))))
  let o := d.ocu
  let tick := d.sys.tick
  let expected := match o.marks with | [] => none | m :: _ => some (m.tick + (o.taken - m.ord) * 2 ^ o.rate)
  let marks := if expected = some tick then o.marks else { ord := o.taken, tick } :: o.marks
  let d := { d with ocu := { o with marks } }
  let p := d.ocuP
  let d := if d.ocu.taken = p then
      match d.ocu.deadFrom with | some t => { d with ocu := { d.ocu with dead := d.tickTime - t } } | none => d
    else d
  let d := if d.ocu.trig.isNone then d.ocuSequence sample else d
  let pos := match d.ocu.trig with
    | some g => some (p + (d.ocu.taken - g.ord))
    | none => if p = 0 then none else some (d.ocu.taken % p)
  let d := match pos with
    | none => d
    | some pos =>
      let d := d.setMbs (0xC00000 + d.ocuSlotAddr + 128 + 4 * chans.length * pos) (List.flatMap (fun (x : Nat × Word) => leBytes 4 x.2.toNat) sample)
      let cmd := d.ocu.armCmd
      Dev.doneWait { d with ocu := { d.ocu with armCmd := none } } cmd Code.done [(16, 4, d.ocu.seq + d.ocu.done.length)]
  let d := { d with ocu := { d.ocu with taken := d.ocu.taken + 1, prev := sample, prevTick := d.tickTime } }
  let d := if d.ocu.state = 1 ∧ p ≤ d.ocu.taken then { d with ocu := { d.ocu with state := 2 } } else d
  match d.ocu.trig with
  | some g => if d.ocuQ ≤ d.ocu.taken - g.ord then d.ocuRecordEnd else d
  | none => d

/-- OCU_SAMPLE: Oculus at a loop tick (R281, R291). -/
def Dev.ocuTick (d : Dev) : Dev :=
  match d.ocu.skip with
  | some r => if d.sys.tick % 2 ^ r = 0 then { d with ocu := { d.ocu with skip := none } } else d
  | none =>
    if 1 ≤ d.ocu.state ∧ d.ocu.state ≤ 3 ∧ d.sys.tick % 2 ^ d.ocu.rate = 0 then d.ocuTake else d

/-! ### Commands -/

/-- The major modes Oculus runs in (R294). -/
def ocuModeOk (m : Mode) : Bool := !(m == .bypass || m == .backup || m == .booting || m == .vigil)

/-- A release of the claim (R276): a stop with cause 6. -/
def Dev.ocuRelease (d : Dev) : Dev :=
  let d := d.ocuStop 6
  { d with ocu := { d.ocu with holder := none } }

/-- INSPECTION takes the engine (R294), and gives it back when it is left. -/
def Dev.ocuInspection (d : Dev) (enter : Bool) : Dev :=
  if enter then
    let d := d.ocuStop 5
    { d with ocu := { d.ocu with holder := none, state := 5 } }
  else if d.ocu.state = 5 then { d with ocu := { d.ocu with state := 0 } } else d

/-- The checks of CAP_CLAIM (R301). -/
def Dev.capClaimCheck (d : Dev) (h : Hdr) (claim named : Nat) : Verdict :=
  if h.mask ≠ 0 then some (Code.wrongMode, [])
  else if claim = 1 then
    if named ≠ 0 then some (Code.badField, [])
    else if d.ocu.state = 5 ∨ (d.ocu.holder.isSome ∧ d.ocu.holder ≠ some h.cc) then some (Code.captureBusy, [])
    else none
  else firstFail [(h.cc != 0 && named != h.cc, Code.notOwner), (d.ocu.holder != some named, Code.wrongMode)]

/-- CAP_CLAIM takes effect (R276, R301). -/
def Dev.capClaim (d : Dev) (h : Hdr) (claim named : Nat) : Dev :=
  match d.capClaimCheck h claim named with
  | some (st, items) => d.doneAt h st items
  | none =>
    let d := if claim = 1 then { d with ocu := { d.ocu with holder := some h.cc } } else d.ocuRelease
    d.doneAt h Code.done [(16, 2, d.ocu.holder.getD 0)]

/-- CAP_CLAIM. -/
def execCapClaim (h : Hdr) (claim named : Nat) (s : State) : Host.Outcome State Fault Refusal :=
  s.perform (fun d => d.command 0x0501 h (fun d => d.capClaim h claim named))

/-- A reserved encoding of sequencer state `s` (R284). -/
def Dev.reservedCond (d : Dev) (s : Nat) : Bool :=
  let c := d.rd (A.OCU_SEQ_COND s)
  let ty := field 3 0 c
  let src := field 10 4 c
  let event := decide (src < 58) || (decide (64 ≤ src) && decide (src < 101))
  decide (8 ≤ ty) || (decide (1 ≤ ty) && decide (ty ≤ 5) && decide (16 ≤ src)) || (decide (6 ≤ ty) && decide (ty ≤ 7) && !event) ||
    (ty == 5 && decide (src < 16) && !rawKind (selKind (d.rd (A.OCU_CH src)))) || d.fld (A.OCU_SEQ_CNT s) 15 0 == 0

/-- The reason CAP_ARM fails its checks, 0 for none (R301). -/
def Dev.armReason (d : Dev) : Nat :=
  if d.ocuChans.isEmpty then 1
  else if 0x400000 < d.ocuBase + d.ocuSize then 2
  else if d.ocuSize < d.ocuS then 3
  else if d.ocuMode = 2 ∧ (d.ocuSize % d.ocuS ≠ 0 ∨ d.ocuK < 2) then 4
  else if d.ocuChans.any (fun c => d.reservedNode (d.rd (A.OCU_CH c))) then 5
  else if !d.rb A.OCU_CFG 6 && (List.range 8).any d.reservedCond then 6
  else if d.ocuMode = 2 ∧ (d.fld A.OCU_STREAM_CFG 31 16 < d.fld A.OCU_STREAM_CFG 15 0 ∨ d.ocuK < d.fld A.OCU_STREAM_CFG 31 16) then 7
  else 0

/-- The checks of CAP_ARM (R280, R301). -/
def Dev.capArmCheck (d : Dev) (h : Hdr) : Verdict :=
  let axes := (d.ocuChans.map (fun c => d.rd (A.OCU_CH c))).filter (fun w => decide (selKind w ≤ 0x28))
  let reason := d.armReason
  if h.mask ≠ 0 then some (Code.wrongMode, [])
  else if d.ocu.holder ≠ some h.cc then some (Code.notOwner, [])
  else if d.ocu.state ≠ 0 ∨ !ocuModeOk d.sys.mode then some (Code.wrongMode, [])
  else if reason ≠ 0 then some (Code.wrongMode, [(20, 1, reason)])
  else if axes.any (fun w => decide (d.axes ≤ selAxis w)) then some (Code.axisAbsent, [])
  else if h.cc ≠ 0 ∧ axes.any (fun w => d.owner (selAxis w) != h.cc && !(d.observers (selAxis w)).contains h.cc) then
    some (Code.notOwner, [])
  else none

/-- CAP_ARM takes effect (R282, R293): it completes when the first sample is stored. -/
def Dev.capArm (d : Dev) (h : Hdr) (clear : Bool) : Dev :=
  match d.capArmCheck h with
  | some (st, items) => d.doneAt h st items
  | none =>
    let d := Dev.ocuPublishAll d.ocu.done.length d
    let d := if clear then d.wr A.OCU_IGNORED 0 else d
    let d := (d.wb A.OCU_REC_GEN 0 false).wrAll [(A.OCU_RING_WP, 0), (A.OCU_RING_RP, 0)]
    let d := { d with ocu := { d.ocu with slot := 0, ended := 0, armCmd := some h, forceCmd := none, skip := none, deadFrom := none } }
    d.ocuBegin d.ocuCfgRate

/-- CAP_ARM. -/
def execCapArm (h : Hdr) (clear : Bool) (s : State) : Host.Outcome State Fault Refusal := s.perform (fun d => d.command 0x0502 h (fun d => d.capArm h clear))

/-- The checks of CAP_FORCE, CAP_STOP and CAP_QUERY: axis mask 0, the holder, and the states they act in. -/
def Dev.capForceCheck (d : Dev) (h : Hdr) : Verdict :=
  firstFail [(h.mask != 0, Code.wrongMode), (d.ocu.holder != some h.cc, Code.notOwner),
    (!(d.ocu.state == 1 || d.ocu.state == 2), Code.wrongMode)]

/-- CAP_FORCE takes effect (R286); it completes at the trigger. -/
def Dev.capForce (d : Dev) (h : Hdr) : Dev :=
  match d.capForceCheck h with
  | some (st, items) => d.doneAt h st items
  | none =>
    let old := d.ocu.forceCmd
    let d := { d with ocu := { d.ocu with force := if d.ocu.force = 0 then 1 else d.ocu.force, forceCmd := some h } }
    d.doneWait old Code.superseded

/-- CAP_FORCE. -/
def execCapForce (h : Hdr) (s : State) : Host.Outcome State Fault Refusal := s.perform (fun d => d.command 0x0503 h (fun d => d.capForce h))

/-- The checks of CAP_STOP. -/
def Dev.capStopCheck (d : Dev) (h : Hdr) : Verdict :=
  firstFail [(h.mask != 0, Code.wrongMode), (d.ocu.holder != some h.cc, Code.notOwner),
    (d.ocu.state == 0 || d.ocu.state == 5, Code.wrongMode)]

/-- CAP_STOP takes effect (R294). -/
def Dev.capStop (d : Dev) (h : Hdr) : Dev :=
  match d.capStopCheck h with
  | some (st, items) => d.doneAt h st items
  | none =>
    let len := if d.ocu.state = 4 then 0 else d.ocuLen
    (d.ocuStop 2).doneAt h Code.done [(16, 4, len)]

/-- CAP_STOP. -/
def execCapStop (h : Hdr) (s : State) : Host.Outcome State Fault Refusal := s.perform (fun d => d.command 0x0504 h (fun d => d.capStop h))

/-- CAP_QUERY (R301). -/
def Dev.capQuery (d : Dev) (h : Hdr) : Dev :=
  if h.mask ≠ 0 then d.doneNow h Code.wrongMode
  else d.doneNow h Code.done [(16, 4, d.ocuStatusWord.toNat), (20, 4, (d.rd A.OCU_REC_GEN).toNat), (24, 4, (d.rd A.OCU_RING_WP).toNat),
    (28, 4, (d.rd A.OCU_IGNORED).toNat)]

/-- CAP_QUERY. -/
def execCapQuery (h : Hdr) (s : State) : Host.Outcome State Fault Refusal := s.perform (fun d => d.command 0x0505 h (fun d => d.capQuery h))

/-- OCU_SLOT_RESERVED (R290): a slot has become free and the record that waits is begun. -/
def execOcuSlotReserved (s : State) : Host.Outcome State Fault Refusal :=
  s.perform (fun d => if d.ocu.state = 4 then d.ocuReserve else d)

/-- OCU_SEQ_TIMEOUT (R283). -/
def execOcuSeqTimeout (s : State) : Host.Outcome State Fault Refusal := s.perform (fun d => d.ocuTimeout)

/-- OCU_RECORD_DONE (R293). -/
def execOcuRecordDone (s : State) : Host.Outcome State Fault Refusal := s.perform (fun d => d.ocuPublish)

end Sys2Proof.Machine
end

