-- ==== Sys2Proof/Machine/Planner.lean ====
section
/-!
DEFINITION. The trajectories of constant jerk a reference generator follows: the stop ramp (09_motion_gearing.md R244) and the
time-optimal plans to a velocity and to a position (R253).  Times, velocities and accelerations are exact rationals; a root
that is not rational is taken to 2⁻⁶⁴ (notes/assumptions/15.md).
-/

namespace Sys2Proof.Machine

/-- The unit of a position: 2¹⁶ to the count (R240). -/
def pUnit : Int := 65536

/-- A distance in counts as a 48.16 position, to nearest, ties to even. -/
def ratEven (q : Rat) : Int := if q < 0 then -(roundEven (-q) : Int) else (roundEven q : Int)

/-- A distance in counts as a 48.16 position. -/
def toPos (q : Rat) : Int := ratEven (q * (pUnit : Rat))

/-- A 48.16 position in counts. -/
def ofPos (p : Int) : Rat := (p : Rat) / (pUnit : Rat)

/-- The square root of a rational that is not below 0: exact for the square of a rational, otherwise to 64 binary places
(notes/assumptions/15.md). -/
def ratSqrt (q : Rat) : Rat :=
  let n := isqrt q.num.natAbs
  let m := isqrt q.den
  if n * n = q.num.natAbs ∧ m * m = q.den then mkRat n m else mkRat (isqrt (q.num.natAbs * 2 ^ 128 / q.den)) (2 ^ 64)

/-- The sign of a rational: −1, 0 or 1. -/
def sgn (q : Rat) : Rat := if q < 0 then -1 else if 0 < q then 1 else 0

/-- A generator's state: distance from the start in counts, velocity, acceleration. -/
structure Kin where
  p : Rat
  v : Rat
  a : Rat
  deriving DecidableEq, Repr

/-- A state after `t` seconds of constant jerk. -/
def Kin.after (k : Kin) (j t : Rat) : Kin :=
  { p := k.p + k.v * t + k.a * t * t / 2 + j * t * t * t / 6, v := k.v + k.a * t + j * t * t / 2, a := k.a + j * t }

/-- A state after whole segments. -/
def Kin.run (k : Kin) : List Seg → Kin
  | [] => k
  | s :: l => Kin.run (k.after s.jerk s.dur) l

/-- A state `t` seconds into segments. -/
def Kin.at (k : Kin) (t : Rat) : List Seg → Kin
  | [] => { k with p := k.p + k.v * t }
  | s :: l => if t < s.dur then k.after s.jerk t else Kin.at (k.after s.jerk s.dur) (t - s.dur) l

/-- The duration of segments. -/
def segsDur (l : List Seg) : Rat := l.foldl (fun t s => t + s.dur) 0

/-- The first part of every plan: |a| is brought within the limit at full jerk (R244, R253). -/
def easeSegs (a aMax j : Rat) : List Seg := if aMax < ratAbs a then [⟨(ratAbs a - aMax) / j, -(sgn a) * j⟩] else []

/-- The time-optimal way from (v, a), |a| within the limit, to velocity `vt` without acceleration. -/
def velCore (v a vt aMax j : Rat) : List Seg :=
  let w := v - vt
  let z := w + a * ratAbs a / (2 * j)
  if z = 0 then (if a = 0 then [] else [⟨ratAbs a / j, -(sgn a) * j⟩])
  else
    let s := sgn z
    let w := s * w
    let a := s * a
    let peak2 := j * w + a * a / 2
    if peak2 ≤ aMax * aMax then
      let p := ratSqrt peak2
      [⟨(a + p) / j, -s * j⟩, ⟨p / j, s * j⟩]
    else [⟨(a + aMax) / j, -s * j⟩, ⟨(w + a * a / (2 * j) - aMax * aMax / j) / aMax, 0⟩, ⟨aMax / j, s * j⟩]

/-- The time-optimal way from (v, a) to velocity `vt` without acceleration, |a| ≤ aMax and |j| ≤ jMax (R244, R253). -/
def velSegs (v a vt aMax j : Rat) : List Seg :=
  let pre := easeSegs a aMax j
  let k := Kin.run ⟨0, v, a⟩ pre
  pre ++ velCore k.v k.a vt aMax j

/-- Acceleration toward the side `s` for `tau` seconds, |a| within the limit, and then the stop. -/
def reachSegs (v a s aMax j tau : Rat) : List Seg :=
  let full := (aMax - s * a) / j
  let t1 := if tau < full then tau else full
  let acc : List Seg := [⟨t1, s * j⟩, ⟨tau - t1, 0⟩]
  let k := Kin.run ⟨0, v, a⟩ acc
  acc ++ velSegs k.v k.a 0 aMax j

/-- The largest multiple of 2⁻⁶⁴ s, built bit by bit, that `short` finds too short. -/
def tauBits (short : Rat → Bool) : Nat → Nat → Nat
  | 0, k => k
  | n + 1, k => if short (mkRat ((k + 2 ^ n : Nat) : Int) (2 ^ 64)) then tauBits short n (k + 2 ^ n) else tauBits short n k

/-- How long a plan without cruise accelerates toward its target on the side `s`, before a time `top` that leads beyond it: from rest
with the acceleration limit reached in closed form, otherwise to 2⁻⁶⁴ s (notes/assumptions/15.md). -/
def moveTau (dist v a s aMax j top : Rat) : Rat :=
  let x := ratAbs dist
  if v = 0 ∧ a = 0 ∧ 2 * aMax * aMax * aMax / (j * j) ≤ x then
    let r := aMax * aMax / j
    ((ratSqrt (r * r + 4 * aMax * x) - r) / 2) / aMax
  else
    let short (tau : Rat) : Bool := decide (s * (Kin.run ⟨0, v, a⟩ (reachSegs v a s aMax j tau)).p < s * dist)
    mkRat (tauBits short (Nat.log2 (top * 2 ^ 64).ceil.toNat + 1) 0 : Nat) (2 ^ 64)

/-- The time-optimal way over a distance to rest from (v, a), |a| within the limit: the velocity limit with a cruise when there is room
for it, otherwise acceleration toward the target followed by the stop. -/
def moveCore (dist v a vMax aMax j : Rat) : List Seg :=
  let stop := velSegs v a 0 aMax j
  let rest := dist - (Kin.run ⟨0, v, a⟩ stop).p
  if rest = 0 then stop
  else
    let s := sgn rest
    let up := velSegs v a (s * vMax) aMax j
    let down := velSegs (s * vMax) 0 0 aMax j
    let room := dist - (Kin.run ⟨0, v, a⟩ up).p - (Kin.run ⟨0, s * vMax, 0⟩ down).p
    if 0 ≤ s * room then up ++ [⟨s * room / vMax, 0⟩] ++ down
    else reachSegs v a s aMax j (moveTau dist v a s aMax j (segsDur up))

/-- |v| above the limit, or bound to pass it on the way to a = 0, is brought within it at full jerk, |a| within its limit (R253). -/
def slowSegs (v a vMax aMax j : Rat) : List Seg :=
  let s := if v = 0 then sgn a else sgn v
  let v := s * v
  let a := s * a
  if v ≤ vMax ∧ v + a * ratAbs a / (2 * j) ≤ vMax then []
  else
    let full := (a + aMax) / j
    let v1 := v + a * full - j * full * full / 2
    if vMax < v1 then [⟨full, -s * j⟩, ⟨(v1 - vMax) / aMax, 0⟩]
    else [⟨(a + ratSqrt (a * a + 2 * j * (v - vMax))) / j, -s * j⟩]

/-- The way over a distance to rest (R253): |a| is brought within its limit first; where no cruise fits, so is |v|
(notes/assumptions/165.md). -/
def moveSegs (dist v a vMax aMax j : Rat) : List Seg :=
  let pre := easeSegs a aMax j
  let k := Kin.run ⟨0, v, a⟩ pre
  let s := sgn (dist - (Kin.run k (velSegs k.v k.a 0 aMax j)).p)
  let up := velSegs k.v k.a (s * vMax) aMax j
  let down := velSegs (s * vMax) 0 0 aMax j
  let room := dist - (Kin.run k up).p - (Kin.run ⟨0, s * vMax, 0⟩ down).p
  let slow := if s = 0 ∨ 0 ≤ s * room ∨ s * k.v ≤ 0 then [] else slowSegs k.v k.a vMax aMax j
  let q := Kin.run k slow
  pre ++ slow ++ moveCore (dist - q.p) q.v q.a vMax aMax j

/-- Where a plan without a goal ends: its start and the distance of its segments. -/
def Plan.endPos (q : Plan) : Int := q.goal.getD (q.p0 + toPos (Kin.run ⟨0, q.v0, q.a0⟩ q.segs).p)

/-- The duration of a plan in ns, to the next whole one. -/
def Plan.durNs (q : Plan) : Nat := (segsDur q.segs * 1000000000).ceil.toNat

/-- The fabric time in ns at which a plan ends (R254). -/
def Plan.endTime (q : Plan) : Nat := q.t0 + q.durNs

/-- A plan at fabric time `t`: position 48.16, velocity, acceleration, and whether it has ended. -/
def Plan.eval (q : Plan) (t : Nat) : Int × Rat × Rat × Bool :=
  let tau := mkRat ((t : Int) - q.t0) 1000000000
  let dur := segsDur q.segs
  if dur ≤ tau then (q.endPos + toPos (q.vEnd * (tau - dur)), q.vEnd, 0, true)
  else
    let k := Kin.at ⟨0, q.v0, q.a0⟩ tau q.segs
    (q.p0 + toPos k.p, k.v, k.a, false)

/-- The stop ramp from a state (R244). -/
def stopPlan (t0 : Nat) (p : Int) (v a aMax j : Rat) : Plan := { t0, p0 := p, v0 := v, a0 := a, segs := velSegs v a 0 aMax j }

/-- A plan to a velocity (R253); a start above the velocity limit comes down to the target at full jerk. -/
def velPlan (t0 : Nat) (p : Int) (v a vt aMax j : Rat) : Plan :=
  { t0, p0 := p, v0 := v, a0 := a, segs := velSegs v a vt aMax j, vEnd := vt }

/-- A plan to a position (R253). -/
def movePlan (t0 : Nat) (p : Int) (v a : Rat) (goal : Int) (vMax aMax j : Rat) : Plan :=
  { t0, p0 := p, v0 := v, a0 := a, segs := moveSegs (ofPos (goal - p)) v a vMax aMax j, goal := some goal }

/-- A plan passes through zero speed (R253, R274): its velocity takes both signs, at its jerk changes or where its acceleration is 0. -/
def Plan.throughZero (q : Plan) : Bool :=
  let k := q.segs.foldl (fun (st : Kin × Bool × Bool) s =>
    let n := st.1.after s.jerk s.dur
    let te := -st.1.a / s.jerk
    let m := if s.jerk ≠ 0 ∧ 0 < te ∧ te < s.dur then (st.1.after s.jerk te).v else n.v
    (n, st.2.1 || decide (n.v < 0) || decide (m < 0), st.2.2 || decide (0 < n.v) || decide (0 < m))) (⟨0, q.v0, q.a0⟩, decide (q.v0 < 0), decide (0 < q.v0))
  k.2.1 && k.2.2

/-! ### Cubic segments between knots (R248), in binary64, operation by operation as the rule writes them (notes/assumptions/162.md) -/

/-- A binary64 sum. -/
def dAdd (a b : Rat) : Rat := d64Round (a + b)
/-- A binary64 difference. -/
def dSub (a b : Rat) : Rat := d64Round (a - b)
/-- A binary64 product. -/
def dMul (a b : Rat) : Rat := d64Round (a * b)
/-- A binary64 quotient. -/
def dDiv (a b : Rat) : Rat := if b = 0 then Config.divZero a else d64Round (a / b)

/-- One Hermite segment: its length (seconds, or master counts), the distance, the slopes at its ends. -/
structure Hermite where
  h : Rat
  dp : Rat
  v0 : Rat
  v1 : Rat
  deriving DecidableEq, Repr

/-- c₂ = 3Δp − (2v₀ + v₁)h. -/
def Hermite.c2 (x : Hermite) : Rat := dSub (dMul 3 x.dp) (dMul (dAdd (dMul 2 x.v0) x.v1) x.h)
/-- c₃ = (v₀ + v₁)h − 2Δp. -/
def Hermite.c3 (x : Hermite) : Rat := dSub (dMul (dAdd x.v0 x.v1) x.h) (dMul 2 x.dp)

/-- Distance from the first knot, slope and curvature at s in [0, 1]. -/
def Hermite.eval (x : Hermite) (s : Rat) : Kin :=
  let vh := dMul x.v0 x.h
  let s2 := dMul s s
  { p := dAdd (dAdd (dMul vh s) (dMul x.c2 s2)) (dMul x.c3 (dMul s2 s))
    v := dDiv (dAdd (dAdd vh (dMul (dMul 2 x.c2) s)) (dMul (dMul 3 x.c3) s2)) x.h
    a := dDiv (dAdd (dMul 2 x.c2) (dMul (dMul 6 x.c3) s)) (dMul x.h x.h) }

/-- The jerk of a segment, 6c₃/h³. -/
def Hermite.jerk (x : Hermite) : Rat := dDiv (dMul 6 x.c3) (dMul (dMul x.h x.h) x.h)

/-- The largest |v| of a segment (R249 reason 0x03): at both ends and at s* = −c₂/(3c₃) when it lies inside. -/
def Hermite.vPeak (x : Hermite) : Rat :=
  let e := max (ratAbs x.v0) (ratAbs x.v1)
  if x.c3 = 0 then e
  else
    let s := dDiv (-x.c2) (dMul 3 x.c3)
    if 0 < s ∧ s < 1 then max e (ratAbs (x.eval s).v) else e

/-- The blend weight w = 10x³ − 15x⁴ + 6x⁵ with its first and second derivatives in x (R262). -/
def blendW (x : Rat) : Rat × Rat × Rat :=
  if 1 ≤ x then (1, 0, 0)
  else if x < 0 then (0, 0, 0)
  else (x ^ 3 * (10 - 15 * x + 6 * x * x), 30 * x * x * (1 - x) * (1 - x), 60 * x * (1 - x) * (1 - 2 * x))

end Sys2Proof.Machine
end

