-- ==== Sys2Proof/Machine/Field.lean ====
section
/-!
DEFINITION. Field channels (15_field_io_can.md R430 to R438): outputs under suppression, the filtered levels, and the common fault bit.
-/

namespace Sys2Proof.Machine

/-- The mode of channel `c` (R430). -/
def Dev.fieldMode (d : Dev) (c : Nat) : Nat := d.fld (A.FIELD_CH_CFG c) 1 0

/-- Channel `c` is an output. -/
def Dev.isOutput (d : Dev) (c : Nat) : Bool := d.fieldMode c == 2

/-- The output of channel `c` is suppressed (R432). -/
def Dev.suppressed (d : Dev) (c : Nat) : Bool :=
  let w := d.rd (A.FIELD_CH_CFG c)
  d.rb A.FIELD_STATUS 3 || d.rb A.FIELD_STATUS 4 || (d.sys.mode == .vigil && !bit 4 w) || (d.sys.mode == .safeHold && bit 5 w)

/-- FIELD_OUT_EFF as the registers and the mode give it. -/
def Dev.fieldEff (d : Dev) : Nat :=
  maskOf ((List.range 32).filter (fun c => d.rb A.FIELD_OUT c && d.isOutput c && !d.suppressed c))

/-- A condition of R435 is present at channel `c`. -/
def Dev.fieldCond (d : Dev) (c : Nat) : Bool :=
  let x := d.fch c
  let w := d.rd (A.FIELD_CH_CFG c)
  if d.isOutput c then (x.overload && d.rb A.FIELD_OUT_EFF c && !x.thermal) || x.thermal || x.readback
  else bit 3 w && x.wire && !d.rb A.FIELD_STATUS 2

/-- dio_fault follows the conditions of the channels that are not masked (R435). -/
def Dev.dioRefresh (d : Dev) : Dev :=
  let now := (List.range 32).any (fun c => !d.rb A.FIELD_FAULT_MASK c && d.fieldCond c)
  if now = d.rb A.FIELD_STATUS 0 then d
  else
    let d := d.wb A.FIELD_STATUS 0 now
    if now then ((d.wb A.FIELD_STATUS 1 true).incSat A.FIELD_STATUS 31 16).raise Ev.dioFault else d

/-- The switches follow FIELD_OUT and the suppressions; a change begins a new readback time. -/
def Dev.fieldRefresh (d : Dev) : Dev :=
  let old := (d.rd A.FIELD_OUT_EFF).toNat
  let new := d.fieldEff
  let d := d.each (maskList 32 (old ^^^ new)) (fun d c => d.setFch c { d.fch c with readback := false, effAt := d.time.cnt })
  (d.wr A.FIELD_OUT_EFF (BitVec.ofNat 32 new)).dioRefresh

/-- FIELD_OUT takes a value in the bits of a mask; bits of channels that are not outputs ignore it. -/
def Dev.fieldOut (d : Dev) (mask v : Nat) : Dev :=
  let m := maskOf ((maskList 32 mask).filter d.isOutput)
  let old := (d.rd A.FIELD_OUT).toNat
  (d.wr A.FIELD_OUT (BitVec.ofNat 32 (nminus old m ||| (v &&& m)))).fieldRefresh

/-- Channel `c` is an output: every digital slot of Belfry that selects it shows an input error (03 R91). -/
def Dev.slotsLost (d : Dev) (c : Nat) : Dev :=
  d.each ((List.range 16).filter (fun i => d.rb (A.BELFRY_IN_CFG i) 5 && d.fld (A.BELFRY_IN_CFG i) 4 0 == c)) (fun d i =>
    d.flag A.BELFRY_IN_VAL (16 + i) Ev.belfryInputError i)

/-- Channel `c` changes its configuration (R432, R439): a change of mode opens the switch and clears its bit and its conditions. -/
def Dev.fieldCfg (d : Dev) (c : Nat) (v : Word) : Dev :=
  let was := d.fieldMode c
  let d := d.wr (A.FIELD_CH_CFG c) v
  let d := if was = field 1 0 v then d else (d.wb A.FIELD_OUT c false).setFch c { effAt := (d.fch c).effAt }
  (if d.isOutput c then d.slotsLost c else d).fieldRefresh

/-- The comparator of channel `c` shows `raw` and has held it for `held` clocks of the filter clock (R431): the filtered level takes it
once that is N clocks. -/
def Dev.fieldLevel (d : Dev) (c : Nat) (raw : Bool) (held : Nat) : Dev :=
  let w := d.rd (A.FIELD_CH_CFG c)
  let lv := raw != bit 2 w
  let d := d.wb A.FIELD_RAW c raw
  if held < field 19 8 w ∨ lv = d.rb A.FIELD_LEVEL c then d
  else
    let d := d.wb A.FIELD_LEVEL c lv
    if (if lv then bit 6 w else bit 7 w) then d.raise (Ev.fioEdge c) else d

/-- A condition of channel `c` appears or ends (R434, R435), where its channel can have it; a readback that disagrees is one from 100 µs after
a change of FIELD_OUT_EFF on. -/
def Dev.fieldCondSet (d : Dev) (c : Nat) (k : FieldCond) (on : Bool) : Dev :=
  let x := d.fch c
  let w := d.rd (A.FIELD_CH_CFG c)
  let out := d.isOutput c
  let d := match k with
    | .overload => if out && (!on || d.rb A.FIELD_OUT_EFF c) then d.setFch c { x with overload := on } else d
    | .thermal => if out then d.setFch c { x with thermal := on } else d
    | .readback =>
      if !out then d else if on then (d.advanceTo (x.effAt + usCnt 100)).setFch c { x with readback := true } else d.setFch c { x with readback := false }
    | .wire => if !out && bit 3 w && !d.rb A.FIELD_STATUS 2 then d.setFch c { x with wire := on } else d
  d.dioRefresh

/-- FIELD_INPUT_EDGE (R431). -/
def execFieldInputEdge (c : Nat) (raw : Bool) (held : Nat) (s : State) : Host.Outcome State Fault Refusal :=
  s.perform (fun d => if c < 32 then d.fieldLevel c raw held else d)

/-- WIRE_BREAK (R434): the current of an input has been below 0.25 mA (the level true), or at or above it, for so many ms, which counts
from wb_ms on. -/
def execWireBreak (c : Nat) (x : HeldLevel) (s : State) : Host.Outcome State Fault Refusal :=
  s.perform (fun d => if x.held < d.fld (A.FIELD_CH_CFG c) 31 24 then d else d.fieldCondSet c .wire x.level)

/-- DIO_FAULT (R435): a condition appears. -/
def execDioFault (c : Nat) (k : FieldCond) (s : State) : Host.Outcome State Fault Refusal :=
  s.perform (fun d => d.fieldCondSet c k true)

/-- DIO_FAULT_END (R435): a condition ends. -/
def execDioFaultEnd (c : Nat) (k : FieldCond) (s : State) : Host.Outcome State Fault Refusal :=
  s.perform (fun d => d.fieldCondSet c k false)

/-- THERMAL_SHUTDOWN (R435): the channel's switch opens. -/
def execThermalShutdown (c : Nat) (s : State) : Host.Outcome State Fault Refusal :=
  s.perform (fun d => d.fieldCondSet c .thermal true)

/-- THERMAL_RESTART (R435): after 15 K of cooling the switch closes again. -/
def execThermalRestart (c : Nat) (s : State) : Host.Outcome State Fault Refusal :=
  s.perform (fun d => d.fieldCondSet c .thermal false)

end Sys2Proof.Machine
end

