-- ==== Sys2Proof/Machine/Bank.lean ====
section
/-!
DEFINITION. Model banks: their header and matrices, the checks of validity, and the cost of an execution
(04_cupola_control.md R109, R112, R113, R115 to R117, R121).
-/

namespace Sys2Proof.Machine

/-- A bank: its address, whether it is a group bank, and the axes its member indices name. -/
structure Bank where
  base : Nat
  group : Bool
  members : List Nat
  deriving DecidableEq, Repr

/-- Bank `b` of axis `n`'s page (R115). -/
def axisBank (n b : Nat) : Bank := { base := 0x200000 + 0x10000 * n + 0x8000 + 0x4000 * b, group := false, members := [n] }

/-- Bank `b` of group slot `g`. -/
def slotBank (g b : Nat) (members : List Nat) : Bank := { base := 0x410000 + 0x18000 * g + 0xC000 * b, group := true, members }

/-- Bank `b` of the model that axis `n` belongs to. -/
def Dev.bankOf (d : Dev) (n b : Nat) : Bank :=
  if (d.ax n).member then slotBank (d.ax n).slot b (d.members n) else axisBank n b

/-- The active bank of the model that axis `n` belongs to. -/
def Dev.activeBank (d : Dev) (n : Nat) : Bank := d.bankOf n (d.ax (d.lead n)).active

/-- The members a group slot names (R119). -/
def Dev.slotMembers (d : Dev) (g : Nat) : List Nat :=
  let w := d.rd (A.CUPOLA_GRP_CFG g)
  [field 4 0 w, field 9 5 w, field 14 10 w, field 19 15 w].take (field 21 20 w + 1)

/-- A byte of a bank's header. -/
def Dev.bb (d : Dev) (b : Bank) (off : Nat) : Nat := (d.mb (b.base + off)).toNat

/-- A word of a bank. -/
def Dev.bw (d : Dev) (b : Bank) (off : Nat) : F32 := d.mw (b.base + off)

/-- States. -/
def Dev.bankN (d : Dev) (b : Bank) : Nat := d.bb b 2
/-- Measured inputs. -/
def Dev.bankM (d : Dev) (b : Bank) : Nat := d.bb b 3
/-- Internal inputs. -/
def Dev.bankP (d : Dev) (b : Bank) : Nat := d.bb b 4
/-- Outputs. -/
def Dev.bankQ (d : Dev) (b : Bank) : Nat := d.bb b 5
/-- Reference entries. -/
def Dev.bankR (d : Dev) (b : Bank) : Nat := d.bb b 6
/-- Rate code. -/
def Dev.bankRate (d : Dev) (b : Bank) : Nat := d.bb b 7
/-- Priority. -/
def Dev.bankPrio (d : Dev) (b : Bank) : Nat := d.bb b 8
/-- Schedule phase, 0xFF for the device's choice. -/
def Dev.bankPhase (d : Dev) (b : Bank) : Nat := d.bb b 9
/-- Sub-steps. -/
def Dev.bankS (d : Dev) (b : Bank) : Nat := d.bb b 10
/-- The identifier of the bank. -/
def Dev.bankTag (d : Dev) (b : Bank) : Nat := (d.bw b 0x18).toNat

/-- A 16-bit entry of the header. -/
def Dev.bankSel (d : Dev) (b : Bank) (off i : Nat) : Nat := d.bb b (off + 2 * i) + 256 * d.bb b (off + 2 * i + 1)

/-- The selector of y entry `i`. -/
def Dev.ySel (d : Dev) (b : Bank) (i : Nat) : Nat := d.bankSel b 0x20 i
/-- The selector of w entry `i`. -/
def Dev.wSel (d : Dev) (b : Bank) (i : Nat) : Nat := d.bankSel b 0x60 i
/-- The destination of output `i`. -/
def Dev.uDst (d : Dev) (b : Bank) (i : Nat) : Nat := d.bankSel b 0xA0 i
/-- The selector of r entry `i`. -/
def Dev.rSel (d : Dev) (b : Bank) (i : Nat) : Nat := d.bankSel b 0xC0 i

/-- Element [i][j] of a matrix (R116): single-axis base and stride, group base and stride. -/
def Dev.bankEl (d : Dev) (b : Bank) (sb ss gb gs i j : Nat) : F32 :=
  if b.group then d.bw b (gb + gs * i + 4 * j) else d.bw b (sb + ss * i + 4 * j)

/-- F[i][j]. -/
def Dev.elF (d : Dev) (b : Bank) (i j : Nat) : F32 := d.bankEl b 0x400 16 0x400 64 i j
/-- K[i][j]. -/
def Dev.elK (d : Dev) (b : Bank) (i j : Nat) : F32 := d.bankEl b 0x500 128 0x1000 256 i j
/-- B[i][j]. -/
def Dev.elB (d : Dev) (b : Bank) (i j : Nat) : F32 := d.bankEl b 0x800 32 0x2000 128 i j
/-- L[i][j]. -/
def Dev.elL (d : Dev) (b : Bank) (i j : Nat) : F32 := d.bankEl b 0xC00 32 0x4000 128 i j
/-- Φ[i][j]. -/
def Dev.elPhi (d : Dev) (b : Bank) (i j : Nat) : F32 := d.bankEl b 0x1000 128 0x6000 256 i j

/-- x0 of a bank. -/
def Dev.bankX0 (d : Dev) (b : Bank) : List F32 := (List.range (d.bankN b)).map (fun i => d.bw b (0x300 + 4 * i))

/-- A selector is defined, consistent and allowed (R112): `w` for w entries, `q` outputs, `k` members. -/
def selOk (group : Bool) (k q : Nat) (w : Bool) (sel : Nat) : Bool :=
  let code := sel % 256
  let mem := sel / 256 % 4
  let memOk := if group then decide (mem < k) else mem == 0
  decide (sel < 1024) &&
    (if 0x10 ≤ code ∧ code ≤ 0x1F then w && mem == 0 && decide (code - 0x10 < q)
     else if 0x20 ≤ code ∧ code ≤ 0x2F then mem == 0 && decide (code - 0x20 < q)
     else memOk && (decide (code ≤ 0x0D) || (decide (0x30 ≤ code) && decide (code ≤ 0x34)) || code == 0x38))

/-- Every destination is defined and consistent (R113). -/
def dstOk (group : Bool) (k : Nat) (dsts : List Nat) : Bool :=
  let memOk (x : Nat) : Bool := decide (x < 1024) && (if group then decide (x / 256 % 4 < k) else x / 256 % 4 == 0)
  let has (m c : Nat) : Bool := dsts.any (fun x => x % 256 == c && x / 256 % 4 == m)
  let count (m c : Nat) : Nat := (dsts.filter (fun x => x % 256 == c && x / 256 % 4 == m)).length
  dsts.all (fun x => memOk x && decide (x % 256 ≤ 5)) &&
    (List.range 4).all (fun m =>
      has m 1 == has m 2 && has m 3 == has m 4 && !(has m 1 && has m 3) &&
        [1, 2, 3, 4, 5].all (fun c => decide (count m c ≤ 1)))

/-- The coefficients, scales, limits and initial states within a model's dimensions, with state_bound and vec_lim. -/
def Dev.bankReals (d : Dev) (b : Bank) : List F32 :=
  let n := d.bankN b; let m := d.bankM b; let p := d.bankP b; let q := d.bankQ b; let r := d.bankR b
  let mat (rows cols : Nat) (f : Nat → Nat → F32) : List F32 :=
    (List.range rows).flatMap (fun i => (List.range cols).map (f i))
  let vec (k off : Nat) : List F32 := (List.range k).map (fun i => d.bw b (off + 4 * i))
  [d.bw b 0x0C, d.bw b 0x10] ++ vec m 0x100 ++ vec p 0x180 ++ vec q 0x200 ++ vec q 0x240 ++ vec r 0x280 ++ vec n 0x300 ++
    mat q r (d.elF b) ++ mat q n (d.elK b) ++ mat n p (d.elB b) ++ mat n m (d.elL b) ++ mat n n (d.elPhi b)

/-- The reason a bank is invalid, 0 when it is valid (R117), in the order of the checks. -/
def Dev.bankReason (d : Dev) (b : Bank) : Nat :=
  let k := b.members.length
  let n := d.bankN b; let m := d.bankM b; let p := d.bankP b; let q := d.bankQ b; let r := d.bankR b
  let s := d.bankS b
  let zero (off len : Nat) : Bool := (List.range len).all (fun i => d.bb b (off + i) == 0)
  let ks := if b.group then k else 1
  let rate := d.bankRate b
  let phase := d.bankPhase b
  let bound := d.bw b 0x0C
  let lim := d.bw b 0x10
  let last := if b.group then 0xA000 else 0x2000
  if !(d.bankSel b 0 0 == (if b.group then 2 else 1) && zero 0x0B 1 && zero 0x14 4 && zero 0xE0 32 && zero 0x2C0 64) then 1
  else if !(decide (1 ≤ n) && decide (n ≤ if b.group then 64 else 32) && decide (m ≤ 8 * ks) && decide (p ≤ 8 * ks) &&
      decide (1 ≤ q) && decide (q ≤ 4 * ks) && decide (r ≤ 4 * ks) && decide (1 ≤ s) && decide (s ≤ 128) && decide (rate ≤ 3) &&
      (phase == 0xFF || decide (phase < 2 ^ rate)) &&
      (!f32Finite bound || decide (0 ≤ f32Rat bound)) &&
      (!f32Finite lim || (decide (0 ≤ f32Rat lim) && decide (f32Rat lim ≤ f32Rat 0x3F93D70A)))) then 2
  else if !((List.range m).all (fun i => selOk b.group k q false (d.ySel b i)) &&
      (List.range p).all (fun i => selOk b.group k q true (d.wSel b i)) &&
      (List.range r).all (fun i => selOk b.group k q false (d.rSel b i))) then 3
  else if !dstOk b.group k ((List.range q).map (d.uDst b)) then 4
  else if !(d.bankReals b).all f32Finite then 6
  else if !(List.range q).all (fun i => f32Le (d.bw b (0x200 + 4 * i)) (d.bw b (0x240 + 4 * i))) then 5
  else if crc32c (d.mbs b.base 0x1C ++ [0, 0, 0, 0] ++ d.mbs (b.base + 0x20) (last - 0x20)) ≠ (d.bw b 0x1C).toNat then 7
  else 0

/-- The cost of one execution in cluster cycles (R121). -/
def execCost (n m p q : Nat) : Nat := ceilDiv (n * (n + m + p)) 16 + ceilDiv (q * n) 16 + 40

/-- The cost s × C of a bank's model per due tick. -/
def Dev.bankCost (d : Dev) (b : Bank) : Nat :=
  d.bankS b * execCost (d.bankN b) (d.bankM b) (d.bankP b) (d.bankQ b)

end Sys2Proof.Machine
end

