-- ==== Sys2Proof/Machine/Lantern.lean ====
section
/-!
DEFINITION. Lantern: the four generators, their signals and envelopes, aborts, and the LAN_ commands
(10_oculus_tuning.md R296 to R301).
-/

namespace Sys2Proof.Machine

/-- LAN_STATUS.state of generator `g`: 0 idle, 1 waiting, 2 running, 3 fading out. -/
def Dev.lanState (d : Dev) (g : Nat) : Nat := d.fld (A.LAN_STATUS g) 1 0

/-- The target axis of generator `g`. -/
def Dev.lanAxis (d : Dev) (g : Nat) : Nat := d.fld (A.LAN_CFG g) 4 0

/-- The generator that delivers a signal to the model of lead axis `n`, if one runs (R296). -/
def Dev.lanOn (d : Dev) (n : Nat) : Option Nat :=
  (List.range 4).find? (fun g => decide (2 ≤ d.lanState g) && d.lanAxis g == n)

/-- A run ends with its status: LAN_START completes, ℓ is 0 (R297, R299). -/
def Dev.lanEnd (d : Dev) (g status : Nat) (abort : Nat := 0) : Dev :=
  let l := d.lan g
  let n := (d.rd (A.LAN_N g)).toNat
  let d := d.setFld (A.LAN_STATUS g) 1 0 0
  let d := if status = Code.done then d.wb (A.LAN_STATUS g) 6 true
    else (d.setFld (A.LAN_STATUS g) 5 2 abort).wb (A.LAN_STATUS g) 7 true
  let d := (d.wr (A.LAN_OUT g) 0).setLan g { l with cmd := none, fade := none }
  let d := d.doneWait l.cmd status [(16, 8, l.startTime), (24, 4, n)]
  d.raise (if status = Code.done then Ev.lanDone g else Ev.lanAborted g)

/-- Generator `g` is aborted for a cause of R297. -/
def Dev.lanAbort (d : Dev) (g cause : Nat) : Dev :=
  if d.lanState g = 0 then d else d.lanEnd g Code.lanternAborted cause

/-- The generators that target the group of axis `n` are aborted. -/
def Dev.lanAbortAxis (d : Dev) (n cause : Nat) : Dev :=
  d.each (List.range 4) (fun d g => if d.lanState g ≠ 0 ∧ d.lead (d.lanAxis g) = d.lead n then d.lanAbort g cause else d)

/-- Every generator is aborted. -/
def Dev.lanAbortAll (d : Dev) (cause : Nat) : Dev := d.each (List.range 4) (fun d g => d.lanAbort g cause)

/-- The generators started by client `cc` are aborted. -/
def Dev.lanAbortClient (d : Dev) (cc : Nat) : Dev :=
  d.each (List.range 4) (fun d g => if d.lanState g ≠ 0 ∧ d.fld (A.LAN_STATUS g) 16 8 = cc then d.lanAbort g 4 else d)

/-- The generator starts with n = 0 at the present due tick (R299). -/
def Dev.lanBegin (d : Dev) (g : Nat) : Dev :=
  let o := d.fld (A.LAN_PRBS g) 4 0
  let l := d.lan g
  let d := d.setFld (A.LAN_STATUS g) 1 0 2
  let d := d.setLan g { l with startTime := d.tickTime, next := 0, prbs := (d.rd (A.LAN_SEED g)).toNat % 2 ^ o, left := 0, fade := none, env := 1 }
  let d := d.wr (A.LAN_N g) 0
  d.ocuEvent (96 + g) true (8 * d.tickTime)

/-- The tap of a PRBS order (R298). -/
def prbsTap (o : Nat) : Option Nat :=
  AList.find [(7, 6), (9, 5), (10, 7), (11, 9), (15, 14), (17, 14), (18, 11), (20, 17), (23, 18), (31, 28)] o

/-- One bit of the PRBS register of order `o` (R298): the new register and its output bit. -/
def prbsStep (o r : Nat) : Nat × Bool :=
  let fb := (r.testBit (o - 1)) != (r.testBit ((prbsTap o).getD 1 - 1))
  ((r * 2 + b2n fb) % 2 ^ o, fb)

/-- The execution period of the model of lead axis `n`, s. -/
def Dev.execSec (d : Dev) (n : Nat) : Rat := d.loopSec * ((2 ^ (d.ax n).rate : Nat) : Rat)

/-- The signal s(n) of chirp and multisine (R298). -/
def Dev.lanSignal (d : Dev) (g n : Nat) : Rat :=
  let w := d.rd (A.LAN_CFG g)
  let tx := d.execSec (d.lanAxis g)
  let t := (n : Rat) * tx
  let tlen := ((d.rd (A.LAN_LEN g)).toNat : Rat) * tx
  let f0 := f32Val (d.rd (A.LAN_F0 g))
  let f1 := f32Val (d.rd (A.LAN_F1 g))
  if field 17 16 w = 0 then
    if bit 18 w then
      let k := Config.log (f1 / f0)
      Config.sin (2 * Config.pi * f0 * tlen / k * (Config.exp (k * t / tlen) - 1))
    else Config.sin (2 * Config.pi * (f0 * t + (f1 - f0) * t * t / (2 * tlen)))
  else
    let per := d.fld (A.LAN_MS_CFG g) 16 0
    ((List.range (d.fld (A.LAN_MS_CFG g) 28 24)).map (fun k =>
      f32Val (d.rd (A.LAN_MS_A g k)) *
        Config.sin (2 * Config.pi * (d.fld (A.LAN_MS_H g k) 15 0 : Rat) * ((n % per : Nat) : Rat) / (per : Rat) +
          f32Val (d.rd (A.LAN_MS_PH g k))))).foldl (· + ·) 0

/-- The envelope e(n) (R299). -/
def Dev.lanEnv (d : Dev) (g n : Nat) : Rat :=
  let fade := d.fld (A.LAN_FADE g) 15 0
  let len := (d.rd (A.LAN_LEN g)).toNat
  if fade = 0 then 1
  else if n < fade then mkRat (n + 1) fade
  else if 0 < len ∧ len - fade ≤ n then mkRat ((len : Int) - n) fade
  else 1

/-- LAN_DONE (R299): the generator has passed its last sample, or its fade has ended. -/
def Dev.lanFinish (d : Dev) (g : Nat) : Dev :=
  let l := d.lan g
  let len := (d.rd (A.LAN_LEN g)).toNat
  let fade := d.fld (A.LAN_FADE g) 15 0
  if d.lanState g = 2 ∧ 0 < len ∧ len ≤ l.next then d.lanEnd g Code.done
  else if d.lanState g == 3 && (match l.fade with | some (_, k) => decide (fade ≤ k) | none => true) then d.lanEnd g Code.done
  else d

/-- The sample of one due tick: ℓ(n) = LAN_AMP × e(n) × s(n) (R298, R299). -/
def Dev.lanSample (d : Dev) (g : Nat) : Dev :=
  let l := d.lan g
  let n := l.next
  let prbs := decide (d.fld (A.LAN_CFG g) 17 16 = 1)
  let o := d.fld (A.LAN_PRBS g) 4 0
  let hold := d.fld (A.LAN_PRBS g) 15 8
  let l := if prbs && decide (l.left = 0) then
      let r := prbsStep o l.prbs
      { l with prbs := r.1, out := r.2, left := hold - 1 }
    else { l with left := l.left - 1 }
  let s : Rat := if prbs then (if l.out then 1 else -1) else d.lanSignal g n
  let fadeN := d.fld (A.LAN_FADE g) 15 0
  let e : Rat := match l.fade with
    | some (e0, k) => e0 * mkRat ((fadeN : Int) - (k + 1)) fadeN
    | none => d.lanEnv g n
  let l := { l with next := n + 1, env := if l.fade.isSome then l.env else e, fade := l.fade.map (fun x => (x.1, x.2 + 1)) }
  let d := d.setLan g l
  (d.wr (A.LAN_N g) (BitVec.ofNat 32 n)).wr (A.LAN_OUT g) (f32Of (f32Val (d.rd (A.LAN_AMP g)) * e * s))

/-- The generators of lead axis `n` at one of its due ticks, before its model runs (R298, R299). -/
def Dev.lanTick (d : Dev) (n : Nat) : Dev :=
  d.each (List.range 4) (fun d g =>
    if d.lanAxis g ≠ n then d
    else
      let d := if d.lanState g = 1 ∧ (d.lan g).at_ ≤ d.tickTime then d.lanBegin g else d
      let d := d.lanFinish g
      if 2 ≤ d.lanState g then d.lanSample g else d)

/-- LAN_GENERATOR_START (R299): the first due tick of the target at or after F. -/
def execLanGeneratorStart (g : Nat) (s : State) : Host.Outcome State Fault Refusal :=
  s.perform (fun d => if d.lanState g = 1 ∧ (d.lan g).at_ ≤ d.now then d.lanBegin g else d)

/-- LAN_DONE. -/
def execLanDone (g : Nat) (s : State) : Host.Outcome State Fault Refusal := s.perform (fun d => d.lanFinish g)

/-- The axis states a target may be in (R297). -/
def lanStateOk (a : AxState) : Bool := a == .opened || a == .hold || a == .move || a == .stopping

/-- The major modes Lantern runs in (R297). -/
def lanModeOk (m : Mode) : Bool := m == .configure || m == .ready || m == .run || m == .recovery

/-- A combination of the generator's registers that is reserved (R296, R298, R299), for the model and the rate its target runs at. -/
def Dev.lanReserved (d : Dev) (g : Nat) : Bool :=
  let w := d.rd (A.LAN_CFG g)
  let fx : Rat := 1 / d.execSec (d.lanAxis g)
  let f0 := f32Val (d.rd (A.LAN_F0 g))
  let f1 := f32Val (d.rd (A.LAN_F1 g))
  let len := (d.rd (A.LAN_LEN g)).toNat
  let fade := d.fld (A.LAN_FADE g) 15 0
  let okF (f : Rat) : Bool := decide (0 < f) && decide (f ≤ fx / 2)
  let o := d.fld (A.LAN_PRBS g) 4 0
  let per := d.fld (A.LAN_MS_CFG g) 16 0
  let sig := field 17 16 w
  let b := d.activeBank (d.lanAxis g)
  let point := field 9 8 w
  let dim := if point = 1 then d.bankQ b else if point = 2 then d.bankR b else d.bankM b
  (sig == 3) || (point != 0 && decide (dim ≤ field 15 10 w)) || (decide (0 < len) && decide (len < 2 * fade)) ||
    (sig == 0 && (len == 0 || !okF f0 || !okF f1 || (bit 18 w && decide (f0 = f1)))) ||
    (sig == 1 && ((prbsTap o).isNone || d.fld (A.LAN_PRBS g) 15 8 == 0 || (d.rd (A.LAN_SEED g)).toNat % 2 ^ o == 0)) ||
    (sig == 2 && (List.range (d.fld (A.LAN_MS_CFG g) 28 24)).any (fun k =>
      d.fld (A.LAN_MS_H g k) 15 0 == 0 || decide (per ≤ 2 * d.fld (A.LAN_MS_H g k) 15 0)))

/-- The checks of LAN_START (R297, R301). -/
def Dev.lanStartCheck (d : Dev) (h : Hdr) (g : Nat) : Verdict :=
  let n := d.lanAxis g
  let ms := d.members n
  firstFail [(decide (4 ≤ g), Code.badField), (decide (maskOf ms ≠ h.mask), Code.groupSplit),
    (!lanModeOk d.sys.mode, Code.wrongMode),
    (ms.any (fun m => !lanStateOk (d.ax m).state || (d.wav (d.lead m)).park.isSome || !((d.wav m).seqStep == 0 || (d.wav m).seqStep == 7)), Code.wrongMode),
    (d.lanState g != 0 || (List.range 4).any (fun k => d.lanState k != 0 && d.lanAxis k == n), Code.wrongMode),
    (d.lanReserved g || d.lead n != n, Code.wrongMode)]

/-- LAN_START takes effect at its frame tick (R299). -/
def Dev.lanStart (d : Dev) (h : Hdr) (g : Nat) : Dev :=
  match d.lanStartCheck h g with
  | some (st, items) => d.doneAt h st items
  | none =>
    let d := (d.setFld (A.LAN_STATUS g) 1 0 1).setFld (A.LAN_STATUS g) 16 8 h.cc
    d.setLan g { d.lan g with cmd := some h, at_ := d.sys.lastFrame, next := 0, fade := none }

/-- LAN_START. -/
def execLanStart (h : Hdr) (g : Nat) (s : State) : Host.Outcome State Fault Refusal :=
  s.perform (fun d => d.command 0x0506 h (fun d => d.lanStart h g))

/-- The checks of LAN_STOP. -/
def Dev.lanStopCheck (d : Dev) (h : Hdr) (g : Nat) : Verdict :=
  firstFail [(decide (4 ≤ g), Code.badField), (decide (maskOf (d.members (d.lanAxis g)) ≠ h.mask), Code.groupSplit),
    (d.lanState g == 0, Code.wrongMode)]

/-- LAN_STOP takes effect (R299): a fade from the present envelope, or an end at once. -/
def Dev.lanStop (d : Dev) (h : Hdr) (g : Nat) (immediate : Bool) : Dev :=
  match d.lanStopCheck h g with
  | some (st, items) => d.doneAt h st items
  | none =>
    let n := (d.rd (A.LAN_N g)).toNat
    let d := if immediate || decide (d.lanState g = 1) || decide (d.fld (A.LAN_FADE g) 15 0 = 0) then d.lanEnd g Code.done
      else if d.lanState g = 3 then d
      else (d.setFld (A.LAN_STATUS g) 1 0 3).setLan g { d.lan g with fade := some ((d.lan g).env, 0) }
    d.doneAt h Code.done [(16, 4, n)]

/-- LAN_STOP. -/
def execLanStop (h : Hdr) (g : Nat) (immediate : Bool) (s : State) : Host.Outcome State Fault Refusal :=
  s.perform (fun d => d.command 0x0507 h (fun d => d.lanStop h g immediate))

/-- LAN_QUERY (R301). -/
def Dev.lanQuery (d : Dev) (h : Hdr) (g : Nat) : Dev :=
  if 4 ≤ g then d.doneNow h Code.badField
  else d.doneNow h Code.done [(16, 4, (d.rd (A.LAN_STATUS g)).toNat), (20, 4, (d.rd (A.LAN_N g)).toNat), (24, 4, (d.rd (A.LAN_OUT g)).toNat)]

/-- LAN_QUERY. -/
def execLanQuery (h : Hdr) (g : Nat) (s : State) : Host.Outcome State Fault Refusal :=
  s.perform (fun d => d.command 0x0508 h (fun d => d.lanQuery h g))

end Sys2Proof.Machine
end

