-- ==== Sys2Proof/Machine/Model.lean ====
section
/-!
DEFINITION. The law Cupola evaluates: inputs, sub-steps, limits and numeric checks (04_cupola_control.md R107 to R114, R133),
with the substitutions of 05 R148 and the injection of Lantern (10 R296).
-/

namespace Sys2Proof.Machine

/-- A 1.0. -/
def f32One : F32 := 0x3F800000

/-- The sum of two values, rounded once. -/
def f32Add (a b : F32) : F32 := f32Fma a f32One b

/-- The DC-bus value as it is used: the last valid one, or AX_BUS_NOM before there is one (05 R148). -/
def Dev.busVolt (d : Dev) (n : Nat) : F32 :=
  let g := d.grp (n / 4)
  if g.busValid then g.busValue else g.busLast.getD (d.rd (A.AX_BUS_NOM (n / 4)))

/-- The member axis a selector names. -/
def Bank.axisOf (b : Bank) (sel : Nat) : Nat := b.members.getD (sel / 256 % 4) 0

/-- The value of a selector code of axis `n` before its scale; `lead` is the axis that leads the model (R112). -/
def Dev.codeValue (d : Dev) (lead n code : Nat) (us : List F32) : F32 :=
  if code = 0 then 0
  else if 0x10 ≤ code ∧ code ≤ 0x1F then us.getD (code - 0x10) 0
  else if 0x20 ≤ code ∧ code ≤ 0x2F then (d.ax lead).uCommitted.getD (code - 0x20) 0
  else if code = 0x38 then (match d.lanOn lead with | some g => d.rd (A.LAN_OUT g) | none => 0)
  else AList.get 0 (d.ax n).deliv code

/-- A selector names a value that is invalid at this tick (05 R148). -/
def Dev.selInvalid (d : Dev) (b : Bank) (sel : Nat) : Bool := (d.ax (b.axisOf sel)).inval.contains (sel % 256)

/-- In OPEN an injection reaches the outputs only where AX_OPEN_U does, and no reference (10 R296). -/
def Dev.lanActs (d : Dev) (n point : Nat) : Bool :=
  (d.ax n).state != .opened || (point != 2 && (point != 1 || d.rb (A.AX_CFG n) 0))

/-- The generator of lead axis `n` injects at `point` into entry `i` (10 R296). -/
def Dev.lanAt (d : Dev) (n point i : Nat) : Option F32 :=
  match d.lanOn n with
  | some g => if d.lanActs n point ∧ d.fld (A.LAN_CFG g) 9 8 = point ∧ d.fld (A.LAN_CFG g) 15 10 = i then some (d.rd (A.LAN_OUT g)) else none
  | none => none

/-- A value with Lantern's injection added. -/
def withLan (l : Option F32) (v : F32) : F32 := match l with | some x => f32Add v x | none => v

/-- y entry `i`: scaled, or its substitute when its source is invalid (05 R148), and the list of last valid values. -/
def Dev.yEntry (d : Dev) (lead : Nat) (b : Bank) (i : Nat) : F32 × Option F32 :=
  let c := d.ax lead
  let sel := d.ySel b i
  let scale := d.bw b (0x100 + 4 * i)
  if d.selInvalid b sel then
    let p := d.rd (A.AX_PRED_CFG lead i)
    let v := if bit 7 p then
        (if field 5 0 p < d.bankN b then f32Mul (d.rd (A.AX_PRED_GAIN lead i)) (c.x.getD (field 5 0 p) 0) else 0)
      else if sel % 256 = 8 then f32Mul (d.busVolt (b.axisOf sel)) scale
      else (c.yLast.getD i none).getD 0
    (v, c.yLast.getD i none)
  else
    let v := f32Mul (d.codeValue lead (b.axisOf sel) (sel % 256) []) scale
    (v, some v)

/-- w entry `i`: scaled, or its last valid value. -/
def Dev.wEntry (d : Dev) (lead : Nat) (b : Bank) (us : List F32) (i : Nat) : F32 × Option F32 :=
  let c := d.ax lead
  let sel := d.wSel b i
  let scale := d.bw b (0x180 + 4 * i)
  if d.selInvalid b sel then
    (if sel % 256 = 8 then f32Mul (d.busVolt (b.axisOf sel)) scale else (c.wLast.getD i none).getD 0, c.wLast.getD i none)
  else
    let v := f32Mul (d.codeValue lead (b.axisOf sel) (sel % 256) us) scale
    (v, some v)

/-- What a brake-torque test adds to r entry `i` of the model that axis `lead` leads: its value ramped up, held and ramped down
(11 R325). -/
def Dev.inspAdd (d : Dev) (lead i : Nat) : Option F32 :=
  match d.saf.insp with
  | none => none
  | some x =>
    match x.rampAt with
    | none => none
    | some t0 =>
      let b := x.block
      let ramp := 500000 * leAt b 16 2
      let hold := 500000 * leAt b 18 2
      let t := d.time.cnt - t0
      let up : Rat := if t < ramp then mkRat t ramp else if t < ramp + hold then 1
        else if t < 2 * ramp + hold then mkRat ((2 * ramp + hold : Nat) - t) ramp else 0
      if byteAt b 0 = 1 ∧ d.lead (byteAt b 2) = lead ∧ byteAt b 9 = i then some (f32Of (f32Val (BitVec.ofNat 32 (leAt b 12 4)) * up)) else none

/-- r entry `i`. -/
def Dev.rEntry (d : Dev) (lead : Nat) (b : Bank) (i : Nat) : F32 :=
  let sel := d.rSel b i
  withLan (d.inspAdd lead i) <| withLan (d.lanAt lead 2 i) (f32Mul (d.codeValue lead (b.axisOf sel) (sel % 256) []) (d.bw b (0x280 + 4 * i)))

/-- A row of products accumulated onto `acc` in ascending column order (R110). -/
def accRow (el : Nat → F32) (v : List F32) (neg : Bool) (acc : F32) : F32 :=
  (v.zipIdx).foldl (fun a x => f32Fma (if neg then f32NegOf (el x.2) else el x.2) x.1 a) acc

/-- The outputs u = F·r − K·x̂ (R107 step 2). -/
def Dev.lawU (d : Dev) (b : Bank) (r x : List F32) : List F32 :=
  (List.range (d.bankQ b)).map (fun i => accRow (d.elK b i) x true (accRow (d.elF b i) r false 0))

/-- The state x̂⁺ = Φ·x̂ + L·y + B·w (R107 step 4). -/
def Dev.lawX (d : Dev) (b : Bank) (x y w : List F32) : List F32 :=
  (List.range (d.bankN b)).map (fun i =>
    accRow (d.elB b i) w false (accRow (d.elL b i) y false (accRow (d.elPhi b i) x false 0)))

/-- The output index with destination `code` of member `j`. -/
def Dev.dstIndex (d : Dev) (b : Bank) (j code : Nat) : Option Nat :=
  (List.range (d.bankQ b)).find? (fun i => d.uDst b i == code + 256 * j)

/-- The two indices of member `j`'s voltage pair: dq, or αβ. -/
def Dev.pairIndex (d : Dev) (b : Bank) (j : Nat) : Option (Nat × Nat) :=
  match d.dstIndex b j 1, d.dstIndex b j 2 with
  | some a, some c => some (a, c)
  | _, _ => match d.dstIndex b j 3, d.dstIndex b j 4 with
    | some a, some c => some (a, c)
    | _, _ => none

/-- The vec_lim in use for member axis `n`: at most 1.0 unless its waveform mode is blend (06 R175, R177, R180). -/
def Dev.vecLim (d : Dev) (b : Bank) (n : Nat) : F32 :=
  let v := d.bw b 0x10
  if d.fld (A.AX_WAVE_CFG n) 1 0 = 2 then v else if f32Lt f32One v then f32One else v

/-- The limits of R114: each output clamped, then each member's pair scaled into its circle. -/
def Dev.limitU (d : Dev) (b : Bank) (us : List F32) : List F32 :=
  let us := (us.zipIdx).map (fun x => f32Clamp (d.bw b (0x200 + 4 * x.2)) (d.bw b (0x240 + 4 * x.2)) x.1)
  (List.range b.members.length).foldl (fun us j =>
    match d.pairIndex b j with
    | none => us
    | some (i1, i2) =>
      let v := limitPair (d.vecLim b (b.members.getD j 0)) (d.busVolt (b.members.getD j 0)) (us.getD i1 0) (us.getD i2 0)
      (us.set i1 v.1).set i2 v.2) us

/-- A value beyond the state bound, which 0.0 disables (R111); an infinity is. -/
def beyond (bound v : F32) : Bool :=
  f32Rat bound != 0 && (f32Inf v || (f32Finite v && decide (f32Rat bound < ratAbs (f32Rat v))))

/-- The s sub-steps of a due tick (R107, R108): `u` gives the outputs before the limits from the state. -/
def Dev.subSteps (d : Dev) (lead : Nat) (b : Bank) (u : List F32 → List F32) (y r : List F32) : Nat → ExecOut → ExecOut
  | 0, o => o
  | k + 1, o =>
    if o.bad ≠ 0 then o
    else
      let raw := u o.x
      let raw := (raw.zipIdx).map (fun x => withLan (d.lanAt lead 1 x.2) x.1)
      let us := d.limitU b raw
      let ws := (List.range (d.bankP b)).map (d.wEntry lead b us)
      let w := ws.map (·.1)
      let x := d.lawX b o.x y w
      let bound := d.bw b 0x0C
      let bad := b2n (!(us.all f32Finite && x.all f32Finite)) + 2 * b2n (x.any (beyond bound))
      d.subSteps lead b u y r k { o with x, us := o.us ++ [us], w, wLast := ws.map (·.2), bad }

/-- One due tick of the model that axis `lead` leads, from its state and the values delivered in S0 (R107, R133): `opened` with
the outputs of AX_OPEN_U, or none, in place of the law. -/
def Dev.execute (d : Dev) (lead : Nat) (b : Bank) (opened : Option (List F32)) : ExecOut :=
  let ys := (List.range (d.bankM b)).map (d.yEntry lead b)
  let y := (ys.zipIdx).map (fun x => withLan (d.lanAt lead 3 x.2) x.1.1)
  let r := (List.range (d.bankR b)).map (d.rEntry lead b)
  let u : List F32 → List F32 := match opened with
    | some v => fun _ => v
    | none => fun x => d.lawU b r x
  d.subSteps lead b u y r (d.bankS b)
    { x := (d.ax lead).x, us := [], y, w := [], r, yLast := ys.map (·.2), wLast := (d.ax lead).wLast, bad := 0 }

/-- The outputs applied in OPEN with open_pwm = 1 (R133, R137): u₄ⱼ₊ᵢ is AX_OPEN_U[i] of member j. -/
def Dev.openU (d : Dev) (b : Bank) : List F32 :=
  (List.range (d.bankQ b)).map (fun i => d.rd (A.AX_OPEN_U (b.members.getD (i / 4) 0) (i % 4)))

end Sys2Proof.Machine
end

