-- ==== Sys2Proof/Machine/Base.lean ====
section
/-!
DEFINITION. Transitions that reach across the device: an axis's state and the end of what runs on it (04_cupola_control.md R132,
R134, R140; 06 R186, R190, R192), the safety reactions (11 R308, R309, R314) and the major mode (02 R54, R56).
-/

namespace Sys2Proof.Machine

/-! ### Outputs and brakes -/

/-- The output pair assigned as the brake of axis `n` (11, SAF_AX_CFG). -/
def Dev.brakeOf (d : Dev) (n : Nat) : Option Nat :=
  if d.rb (A.SAF_AX_CFG n) 5 then some (d.fld (A.SAF_AX_CFG n) 4 2) else none

/-- Output pair `j`. -/
def Dev.outp (d : Dev) (j : Nat) : OutSt := AList.get {} d.saf.outs j

/-- Set output pair `j`. -/
def Dev.setOutp (d : Dev) (j : Nat) (o : OutSt) : Dev := { d with saf := { d.saf with outs := AList.put d.saf.outs j o } }

/-- Output pair `j` may be energised: no reaction forces it (11 R304, R308). -/
def Dev.outAllowed (d : Dev) (j : Nat) : Bool :=
  !d.saf.deviceSto && !d.saf.scan && !d.rb A.FIELD_STATUS 3 && !(List.range 4).any (fun g => bit (4 + g) (d.rd (A.SAF_OUT_CFG j)) && d.stoDemanded g)

/-- The output pairs follow the device's wishes for brakes and the reactions in force, contactors and general pairs the reactions
alone (notes/assumptions/19.md); a pair with feedback starts its timing at each change (11 R314). -/
def Dev.refreshOuts (d : Dev) : Dev :=
  d.each (List.range 8) (fun d j =>
    let o := d.outp j
    let kind := d.fld (A.SAF_OUT_CFG j) 1 0
    let on := (o.wish || decide (2 ≤ kind)) && kind != 0 && d.outAllowed j
    if on = o.on then d
    else d.setOutp j { o with on, since := d.time.cnt, timing := if d.rb (A.SAF_OUT_CFG j) 13 then some d.time.cnt else none })

/-- The brake output of axis `n` is energised (lifted) or de-energised. -/
def Dev.brake (d : Dev) (n : Nat) (lift : Bool) : Dev :=
  match d.brakeOf n with
  | none => d
  | some j =>
    let d := d.setWav n { d.wav n with brakeLifted := lift }
    (d.setOutp j { d.outp j with wish := lift }).refreshOuts

/-! ### Axis states -/

/-- AX_DRIVE_STATUS.seq_step of axis `n` changes (06 R194); a start-up, catch, short or recovery step that begins aborts a generator that
targets it (10 R297). -/
def Dev.seqTo (d : Dev) (n k : Nat) : Dev :=
  let d := if 1 ≤ k ∧ k ≤ 6 then d.lanAbortAxis n 1 else d
  let w := d.wav n
  if w.seqStep = k then d.setWav n { w with seqStart := d.time.cnt }
  else (d.setWav n { w with seqStep := k, seqStart := d.time.cnt }).raiseAx n 7

/-- The group of axis `n` enters a state (04 R120, R137, R141). -/
def Dev.setState (d : Dev) (n : Nat) (st : AxState) (cause : Nat) : Dev :=
  d.each (d.members n) (fun d m =>
    let c := d.ax m
    if c.state = st then d
    else (d.setAx m { c with state := st, prev := c.state, cause }).raiseAx m 2)

/-- Why what runs on an axis ends: the STO of its group, its FAULT, or anything else. -/
inductive EndWhy where
  | sto | fault | other
  deriving DecidableEq, Repr

/-- The status a sequence's command ends with. -/
def EndWhy.status : EndWhy → Nat
  | .sto => Code.safetyBlocked
  | .fault => Code.wrongMode
  | .other => Code.wrongMode

/-- The ms since a counter value. -/
def Dev.msSince (d : Dev) (t : Nat) : Nat := (d.time.cnt - t) / 500000

/-! ### Position retention (03 R103, R104) -/

/-- The retention entry of axis `n`. -/
def retAddr (n : Nat) : Nat := 0x28000 + 16 * n

/-- The entry is written with a microstep position, a count and valid bits. -/
def Dev.retPut (d : Dev) (n mstep count valid : Nat) : Dev :=
  let bs := leBytes 4 mstep ++ leBytes 6 count ++ [BitVec.ofNat 8 valid, 0]
  (d.setMbs (retAddr n) (bs ++ leBytes 4 (crc32c bs))).wb A.BELFRY_RET_VALID n (valid == 3)

/-- The axis stands still. -/
def Dev.standstill (d : Dev) (n : Nat) : Bool := decide ((d.fb n).speed = 0) && decide ((d.mo n).v = 0)

/-- RETENTION_WRITE: an axis with MSTEP_RETAIN = 1 at standstill; a retained position outlives a loss of the present one until it has
been taken back (notes/assumptions/148.md). -/
def Dev.retWrite (d : Dev) (n : Nat) : Dev :=
  if d.rb (A.PROF_CFG n) 4 && d.standstill n && !((d.mo n).msLoss && d.rb A.BELFRY_RET_VALID n) then d.retPut n (d.rd (A.PT_MSTEP n)).toNat (ofSigned 48 (d.fb n).count) 3 else d

/-- The valid bits are cleared when the axis next moves. -/
def Dev.retMoved (d : Dev) (n : Nat) : Dev :=
  let bs := d.mbs (retAddr n) 12
  if d.rb A.BELFRY_RET_VALID n && !d.standstill n then
    d.retPut n (leAt bs 0 4) (leAt bs 4 6) 0
  else d

/-- What runs on the group of axis `n` ends: start-up, short, park, recovery (04 R140, 06 R190, R192, R193); `st` is the state
that follows. -/
def Dev.endSeq (d : Dev) (n : Nat) (why : EndWhy) (st : AxState) : Dev :=
  let l := d.lead n
  let c := d.ax l
  let w := d.wav l
  let d := d.setAx l { c with enable := none }
  let d := d.setWav l { w with short := none, park := none, recover := none }
  let d := match c.enable with
    | some e => d.partWait e.cmd why.status [(16, 1, st.code)]
    | none => d
  let d := match w.short with
    | some x => d.partWait x.cmd why.status [(16, 1, 0), (20, 4, d.msSince x.start), (24, 4, (f32Of x.peak).toNat)]
    | none => d
  let d := match w.park with
    | some p => p.cmds.foldl (fun (d : Dev) h => d.partDone h (if why = EndWhy.sto then Code.done else Code.wrongMode) [(16, 1, st.code)]) d
    | none => d
  let d := match w.recover with
    | some r => d.partWait r.cmd Code.recoveryFailed [(16, 1, r.step), (17, 1, r.catchResult), (20, 4, r.omegaFit.toNat)]
    | none => d
  d.each (d.members n) (fun d m =>
    let s := d.sns m
    let d := d.setSns m { s with catching := none, init := none, catchResult := if s.catching.isSome then 0 else s.catchResult }
    let d := d.setWav m { d.wav m with handover := none, vertex := none, kappa := 0, sixStep := false, takeover := false, fluxNext := false }
    d.seqTo m 0)

/-- The PWM of an axis goes off: no trip holds its outputs, and its counting window closes (07 R202, R211, R212). -/
def AxPwm.off (p : AxPwm) : AxPwm :=
  { p with
    on := false, offNext := false, shadow := [.released, .released, .released], active := [.released, .released, .released], period := 0
    tripNow := false, counted := false, latchDue := false, groupDue := false, winLeft := 0, winCount := 0 }

/-- The PWM of the group of axis `n` goes off. -/
def Dev.pwmOff (d : Dev) (n : Nat) : Dev := d.each (d.members n) (fun d m => d.setPw m (d.pw m).off)

/-- The group of axis `n` goes to PARKED or OFF (04 R133): the PWM is off, the model's state is discarded, the flux factor is 0. -/
def Dev.park (d : Dev) (n : Nat) (why : EndWhy) (st : AxState) (cause : Nat) : Dev :=
  let d := (d.endSeq n why st).pwmOff n
  let d := d.each (d.members n) (fun d m =>
    let d := d.setAx m { d.ax m with x := [], uPending := none, yLast := [], wLast := [], save := none }
    d.setWav m { d.wav m with flux := 0 })
  let d := d.setState n st cause
  let d := d.each (d.members n) Dev.retWrite
  d.lanAbortAxis n (if why = .sto then 3 else 1)

/-- The group is in one of the four states that carry a model (04 R133). -/
def AxState.active (a : AxState) : Bool := a == .opened || a == .hold || a == .move || a == .stopping

/-- STO acts on an axis (04 R132, 07 R215): its gates are forced inactive, and it goes to PARKED unless it is in FAULT. -/
def Dev.stoAxis (d : Dev) (n : Nat) : Dev :=
  let d := d.setPw n { (d.pw n).off with sto := true }
  let d := d.setWav n { d.wav n with brakeLifted := false }
  let d := if (d.ax n).state.active then d.park n .sto .parked 5 else d
  d.lanAbortAxis n 3

/-! ### Safety reactions -/

/-- SAF_CAUSE records a reaction (11 R330). -/
def Dev.safCause (d : Dev) (code groups : Nat) (byT byK : Bool) : Dev :=
  let d := (d.setFld A.SAF_CAUSE 7 0 code).setFld A.SAF_CAUSE 11 8 groups
  let d := (d.wb A.SAF_CAUSE 12 byT).wb A.SAF_CAUSE 13 byK
  (d.modSaf (fun q => { q with causeAt := some d.time.cnt })).incSat A.SAF_CAUSE 31 16

/-- The brakes of group `g` are no longer wished energised, and the outputs follow. -/
def Dev.dropOuts (d : Dev) (g : Nat) : Dev :=
  let d := d.each (List.range 8) (fun d j =>
    if bit (4 + g) (d.rd (A.SAF_OUT_CFG j)) && d.fld (A.SAF_OUT_CFG j) 1 0 == 1 then d.setOutp j { d.outp j with wish := false } else d)
  d.refreshOuts

/-- A test that runs ends as aborted (11 R325). -/
def Dev.abortInsp (d : Dev) : Dev := d.modSaf (fun q => { q with insp := q.insp.map (fun i => { i with aborted := true }) })

/-- The reaction of group `g` with a cause code is one the test of type `ty` provokes itself (11 R325). -/
def provokes (ty code : Nat) : Bool :=
  (ty == 1 && (code == 0x06 || code == 0x0C)) || (ty == 2 && code == 0x04) || (ty == 3 && code == 0x08) ||
    (ty == 4 && (code == 0x02 || code == 0x0B || code == 0x12))

/-- A reaction of group `g` that the test in progress does not provoke aborts it; the FAULT of the axes that a provoked reaction
orders is part of it. -/
def Dev.inspReaction (d : Dev) (g code : Nat) : Dev :=
  match d.saf.insp with
  | some i =>
    let own := byteAt i.block 1 == g
    if own && (provokes (byteAt i.block 0) code || (code == 0x03 && (d.sg g).latched)) then d else d.abortInsp
  | none => d

/-- The STO lines of group `g` are asserted and its outputs de-energised (11 R308). -/
def Dev.applySto (d : Dev) (g : Nat) : Dev :=
  let d := (d.modSaf (fun q => { q with acted := nset g q.acted })).dropOuts g
  d.each (d.axisList.filter (fun n => stoGroup n == g)) Dev.stoAxis

/-- What a mode change ends: generators outside their modes, the engine in VIGIL and INSPECTION, shorts and recoveries outside
theirs (06 R186, R192; 10 R294, R297). -/
def Dev.modeEnds (d : Dev) (old m : Mode) : Dev :=
  let d := if lanModeOk m then d else d.lanAbortAll 2
  let d := if m = .vigil then d.ocuStop 4 else d
  let d := if m = .inspection then d.ocuInspection true else if old = .inspection then d.ocuInspection false else d
  d.each d.leads (fun d n =>
    let w := d.wav n
    let four := m == .configure || m == .ready || m == .inspection || m == .recovery
    if w.recover.isSome then (if four then d else d.park n .other .parked 8)
    else match w.short with
      | some x =>
        if m == .configure || m == .inspection || m == .recovery then d
        else
          let d := d.setWav n { d.wav n with short := none }
          let d := d.partWait x.cmd Code.wrongMode [(16, 1, 4), (20, 4, d.msSince x.start), (24, 4, (f32Of x.peak).toNat)]
          d.park n .other .parked 8
      | none => d)

/-- The perturbation registers that are device-wide (16 R473). -/
def testWide : List Nat := [A.TEST_S1_DELAY, A.TEST_RING, A.TEST_DMA_HOLD, A.TEST_DMA_HOLD_US, A.TEST_CAN_ACK]

/-- The perturbations are cleared (16 R471): the device-wide registers, and TEST_SD_FLIP of every axis that is not OFF; TEST_CLEARED
where one was in force. -/
def Dev.testClear (d : Dev) : Dev :=
  let l := testWide ++ (d.axisList.filter (fun n => (d.ax n).state != .off)).map A.TEST_SD_FLIP
  if l.all (fun a => d.rd a == 0) then d
  else
    let d := (d.wrAll (l.map (fun a => (a, 0)))).modUpd (fun u => { u with stallLeft := 0 })
    (d.modDma (fun q => { q with holdEnd := none })).raise Ev.testCleared

/-- READY is reached: the PWR_WAKE commands that waited for it complete (02 R77). -/
def Dev.wakeWaiters (d : Dev) : Dev :=
  (d.modWake (fun w => { w with waiting := [] })).doneAll d.wake.waiting Code.done [(16, 4, d.fld A.SYS_WAKE_LAST 23 0)]

/-- The device enters a major mode (02 R53, R54, R86). -/
def Dev.enterMode (d : Dev) (m : Mode) (cause : Nat) : Dev :=
  if d.sys.mode = m then d
  else
    let old := d.sys.mode
    let d := if old = .configure ∨ old = .prodTest then d.testClear else d
    let d := d.modSys (fun s => { s with mode := m, prevMode := old, modeCause := cause })
    let d := if cause = 2 ∨ cause = 4 ∨ cause = 5 then d.modSaf (fun q => { q with acted := nset 4 q.acted }) else d
    let d := (d.modeEnds old m).fieldRefresh
    let d := d.raise Ev.modeChange m.code
    if m = .ready then d.wakeWaiters else d

/-- What a device reaction does at once (11 R308): it is recorded, every STO line asserted, every output de-energised. -/
def Dev.takeReaction (d : Dev) (code : Nat) (byT byK : Bool) : Dev :=
  let d := d.safCause code 0xF byT byK
  let d := (d.abortInsp).modSaf (fun s => { s with deviceSto := true, resetOk := false, acted := s.acted ||| 15 })
  let d := (d.each (List.range 8) (fun d j => d.setOutp j { d.outp j with wish := false })).refreshOuts
  d.each d.axisList Dev.stoAxis

/-- A reaction ends the rest, or a wake on its way (02 R73): the PWR_WAKE commands of that wake go on waiting for READY. -/
def Dev.restBroken (d : Dev) : Dev :=
  if d.sys.mode = .rest ∨ d.sys.mode = .vigil then
    d.modWake (fun w => { w with
      rests := [], run := none, deepen := false
      waiting := w.waiting ++ (match w.run with | some r => r.cmds | none => []) })
  else d

/-- The device enters SAFE_HOLD by a device reaction with a cause code (02 R54). -/
def Dev.toSafeHold (d : Dev) (code : Nat) : Dev :=
  ((d.restBroken.modSys (fun s => { s with bootReaction := false })).enterMode .safeHold 2).raise Ev.safSafeHold code

/-- A device reaction (11 R308) with its change to SAFE_HOLD; nothing in BYPASS and BACKUP.  BOOTING and VIGIL have no such transition
for it (02 R54): there it waits for the end of the boot, or of the wake (notes/assumptions/147.md). -/
def Dev.deviceReaction (d : Dev) (code : Nat) (byT byK : Bool) : Dev :=
  if d.sys.mode = .bypass ∨ d.sys.mode = .backup then d
  else
    let d := d.takeReaction code byT byK
    if d.sys.mode = .booting ∨ d.sys.mode = .vigil then d.modSys (fun s => { s with bootReaction := true })
    else if d.sys.mode = .safeHold then d
    else d.toSafeHold code

/-- A device reaction that waited for the end of VIGIL takes its transition. -/
def Dev.heldReaction (d : Dev) : Dev := if d.sys.bootReaction then d.toSafeHold (d.fld A.SAF_CAUSE 7 0) else d

/-- An SS1 in progress gives way to STO, which its demand then holds (11 R312, R317; notes/assumptions/20.md). -/
def GrpSt.dropSs1 (x : GrpSt) : GrpSt :=
  match x.ss1 with
  | none => x
  | some y =>
    let x := { x with ss1 := none }
    if y.latch then { x with latched := true, causes := (y.code :: x.causes).eraseDups, latT := true, latK := true }
    else if y.deg || y.rescue then { x with degSto := true }
    else { x with ss1Sto := true }

/-- A cause, seen by the channels given, joins those of the latched reaction. -/
def GrpSt.latch (x : GrpSt) (code : Nat) (byT byK : Bool) : GrpSt :=
  { x with latched := true, causes := (code :: x.causes).eraseDups, latT := x.latT || byT, latK := x.latK || byK }

/-- A latched reaction of group `g` (11 R308, R309); in REST a device reaction. -/
def Dev.groupReaction (d : Dev) (g code : Nat) (byT byK : Bool) : Dev :=
  if d.sys.mode = .rest then d.deviceReaction code byT byK
  else if (d.sg g).latched then
    ((d.inspReaction g code).modSg g (fun x => x.latch code byT byK)).modSaf (fun q => { q with causeAt := some d.time.cnt })
  else
    let d := d.inspReaction g code
    let d := (d.safCause code (2 ^ g) byT byK).modSg g (fun x => x.dropSs1.latch code byT byK)
    let d := d.modSaf (fun s => { s with resetOk := false })
    (d.applySto g).raise Ev.safGroupReaction g

/-- The group of axis `n` enters FAULT (04 R132, R134, R141): its causes set, its PWM off from the next tick, and the reaction
of its STO group. -/
def Dev.faultAxis (d : Dev) (n causes : Nat) : Dev :=
  if (d.ax n).state = .off ∨ causes = 0 then d
  else
    let was := (d.ax n).state
    let d := d.each (d.members n) (fun d m => d.setAx m { d.ax m with faults := (d.ax m).faults ||| causes })
    if was = .fault then d
    else
      let d := d.endSeq n .fault .fault
      let d := d.each (d.members n) (fun d m =>
        (d.modPw m (fun p => { p with offNext := true })).modAx m (fun c => { c with uPending := none }))
      let d := d.setState n .fault 4
      let d := d.each (d.members n) (fun d m => d.raiseAx m 1)
      let d := d.lanAbortAxis n 5
      d.groupReaction (stoGroup n) 0x03 true false

end Sys2Proof.Machine
end

