-- ==== Sys2Proof/Machine/Sense.lean ====
section
/-!
DEFINITION. Current, voltage and rotor position at a loop tick: decimator outputs and their checks, the rotating frame, both
angle estimators and their blend, and the samples of a catch (05_current_position.md R142 to R166).
-/

namespace Sys2Proof.Machine

/-! ### Modulator clocks and decimators -/

/-- The loop rate in force, Hz. -/
def Dev.loopHz (d : Dev) : Nat := 1000000000 / d.loopPeriod

/-- Outputs per loop tick, d (R143): the floor of the target, raised until f_mod is at least 5 MHz. -/
def chooseD (osr kHz fLoop : Nat) : Nat := max 1 (max (kHz * 1000 / (osr * fLoop)) (ceilDiv 5000000 (osr * fLoop)))

/-- The group delay of a decimator output of group `g`, s (R146). -/
def Dev.groupDelay (d : Dev) (g : Nat) : Rat :=
  let x := d.grp g
  mkRat (3 * x.osr - 3) (2 * (x.osr * x.d * d.loopHz))

/-- The modes in which the modulator clocks may run (R144). -/
def sdMode (m : Mode) : Bool := !(m == .bypass || m == .backup || m == .booting || m == .vigil)

/-- The number of modulator-clock groups of the variant (00 R4, R6). -/
def Dev.grpCount (d : Dev) : Nat := d.axes / 4

/-- The axes of modulator-clock group `g` (00 R6). -/
def grpAxes (g : Nat) : List Nat := [4 * g, 4 * g + 1, 4 * g + 2, 4 * g + 3]

/-- A synchronising reset of group `g` at the present tick (R147): its decimators are cleared, its axes count valid outputs anew, in every
state (R149; notes/assumptions/153.md), and a catch restarts (R166). -/
def Dev.syncReset (d : Dev) (g : Nat) : Dev :=
  let x := d.grp g
  let osr := field 12 4 x.cfg
  let d := d.setGrp g { x with running := true, outputs := 0, syncCount := sat 0xFFFF (x.syncCount + 1), osr, d := chooseD osr (field 30 16 x.cfg) d.loopHz, busBits := [], busYs := [] }
  d.each (grpAxes g) (fun d n =>
    d.modSns n (fun s => { s with
      chans := s.chans.map (fun c => (c.1, { c.2 with bits := [], ys := [] })), counts := [], countAt := d.time.cnt, catching := s.catching.map (fun _ => ({ start := d.time.cnt } : CatchSt)) }))

/-- The configuration of the groups takes effect at a frame tick (R145, R147). -/
def Dev.sdFrame (d : Dev) : Dev :=
  d.each (List.range d.grpCount) (fun d g =>
    let x := d.grp g
    let cfg := d.rd (A.AX_SDCLK_CFG g)
    let d := if cfg ≠ x.cfg ∧ bit 0 cfg then d.modSys (fun s => { s with resync := s.resync ++ [g] }) else d
    d.setGrp g { d.grp g with cfg, busCfg := d.rd (A.AX_BUS_CFG g) })

/-- The clock of group `g` is to run. -/
def Dev.sdRuns (d : Dev) (g : Nat) : Bool := bit 0 (d.grp g).cfg && sdMode d.sys.mode

/-- The clocks that stop at a tick. -/
def Dev.sdStops (d : Dev) : Dev :=
  d.each (List.range d.grpCount) (fun d g =>
    if d.sdRuns g then d else d.setGrp g { d.grp g with running := false, d := 0, outputs := 0, busLast := none })

/-- The groups that start or resynchronise at a tick do so once the tick has taken the outputs of the bits before it (R147). -/
def Dev.sdResets (d : Dev) : Dev :=
  let due := d.sys.resync
  let d := d.each (List.range d.grpCount) (fun d g => if d.sdRuns g && (!(d.grp g).running || due.contains g) then d.syncReset g else d)
  d.modSys (fun s => { s with resync := [] })

/-- Pairs out of `k`. -/
def pairsIn (k : Nat) : Nat := k * (k - 1) / 2

/-- The weight a sinc3 decimator of ratio `osr` gives the bit `k` places before the newest: three moving sums in a row (R146). -/
def sincWeight (osr k : Nat) : Nat := pairsIn (k + 2) + 3 * pairsIn (k + 2 - 2 * osr) - 3 * pairsIn (k + 2 - osr)

/-- The sinc3 sum S of a window of bits, newest first (R146). -/
def sincSum (osr : Nat) (w : List Bool) : Nat := (w.zipIdx).foldl (fun s x => if x.1 then s + sincWeight osr x.2 else s) 0

/-- A normalised output y_norm of a sinc3 sum (R146). -/
def yNorm (osr sum : Nat) : Rat := mkRat (2 * sum) (osr ^ 3) - 1

/-- The window of one output: 3 × osr − 2 bits (R146). -/
def sincWindow (osr : Nat) (bits : List Bool) : List Bool := bits.take (3 * osr - 2)

/-- The longest run of one level in a list of bits (R151). -/
def longestRun (l : List Bool) : Nat :=
  (l.foldl (fun (a : Option Bool × Nat × Nat) b =>
    let run := if a.1 = some b then a.2.1 + 1 else 1
    (some b, run, max a.2.2 run)) (none, 0, 0)).2.2

/-- A decimator takes the bits of a loop period: the bits it holds then, newest first, and its outputs of the period, one for each `osr`
clocks (R146). -/
def decimate (osr : Nat) (held new : List Bool) : List Bool × List Rat :=
  (sincWindow osr (new.reverse ++ held),
   (List.range (new.length / osr)).map (fun j => yNorm osr (sincSum osr (sincWindow osr ((new.take (osr * (j + 1))).reverse ++ held)))))

/-- A flag of AX_CV_STATUS is set, with its event (R169). -/
def Dev.cvFlag (d : Dev) (n i : Nat) : Dev := d.flagAx (A.AX_CV_STATUS n) i n 5

/-- Sensing FAULT of an axis in one of the four states (R151); elsewhere the check only sets its flag. -/
def Dev.senseFault (d : Dev) (n : Nat) : Dev :=
  if (d.ax n).state.active then d.modAx n (fun c => { c with faultNow := c.faultNow ||| 64 }) else d

/-- The output of channel `c` of axis `n` at a tick (R146, R150, R151): the one whose last bit is the last sampled; `k` is the number of the output since the reset, 0 when
the clock delivers none. -/
def Dev.channel (d : Dev) (n c k : Nat) (stopped : Bool) (s : Option SdSample) : Dev :=
  let cfg := d.rd (A.AX_SD_CFG n)
  let x := AList.get {} (d.sns n).chans c
  let put (d : Dev) (y : ChanSt) : Dev := d.modSns n (fun t => { t with chans := AList.put t.chans c y })
  if !bit c cfg then put d {}
  else if k = 0 then put d { x with valid := false, loss := if stopped then x.loss + 1 else x.loss }
  else match s with
    | none => put d { x with valid := false, loss := if k ≤ 2 then x.loss else x.loss + 1 }
    | some s =>
      let osr := (d.grp (n / 4)).osr
      let q := decimate osr x.bits s.bits
      let y := yNorm osr (sincSum osr q.1)
      let stuck := decide (field 23 16 cfg ≤ longestRun q.1)
      let valid := decide (3 ≤ k) && !stuck
      let v := f32Of (f32Val (d.rd (A.AX_SD_GAIN n c)) * y + f32Val (d.rd (A.AX_SD_OFS n c)))
      let d := if stuck then d.cvFlag n (4 + c) else d
      let d := if mkRat 98 100 ≤ ratAbs y then d.cvFlag n (8 + c) else d
      put d { value := v, valid, loss := if valid then 0 else if k ≤ 2 then x.loss else x.loss + 1, bits := q.1, ys := q.2 }

/-- The DC-bus output of group `g` at a tick (R151, R153). -/
def Dev.busChannel (d : Dev) (g k : Nat) (stopped : Bool) (s : Option BusSample) : Dev :=
  let x := d.grp g
  if !bit 1 x.cfg then d.setGrp g { x with busValid := false, busLoss := 0 }
  else if k = 0 then d.setGrp g { x with busValid := false, busLoss := if stopped then x.busLoss + 1 else x.busLoss }
  else match s with
    | none => d.setGrp g { x with busValid := false, busLoss := if k ≤ 2 then x.busLoss else x.busLoss + 1 }
    | some s =>
      let q := decimate x.osr x.busBits s.bits
      let y := yNorm x.osr (sincSum x.osr q.1)
      let stuck := decide (field 15 8 x.busCfg ≤ longestRun q.1)
      let clip := decide (mkRat 98 100 ≤ ratAbs y)
      let valid := decide (3 ≤ k) && !stuck
      let v := f32Of (f32Val (d.rd (A.AX_BUS_GAIN g)) * y + f32Val (d.rd (A.AX_BUS_OFS g)))
      let flag (d : Dev) (i : Nat) (on : Bool) : Dev :=
        if on && !d.rb (A.AX_SDCLK_STATUS g) i then
          (d.wb (A.AX_SDCLK_STATUS g) i true).each (grpAxes g) (fun d n => d.raiseAx n 5)
        else d
      let d := flag (flag d 10 stuck) 11 clip
      d.setGrp g { x with busValid := valid, busValue := v, busLast := if valid then some v else x.busLast, busLoss := if valid then 0 else if k ≤ 2 then x.busLoss else x.busLoss + 1, busBits := q.1, busYs := q.2 }

/-- The decimator outputs of a tick (R146, R151). -/
def Dev.sdOutputs (d : Dev) (i : TickIn) : Dev :=
  d.each (List.range d.grpCount) (fun d g =>
    let x := d.grp g
    let k := if x.running then x.outputs + 1 else 0
    let stopped := !bit 0 x.cfg && sdMode d.sys.mode
    let d := d.setGrp g { x with outputs := k }
    let d := d.busChannel g k stopped (i.bus.find? (fun b => b.grp == g))
    d.each (grpAxes g) (fun d n =>
      d.each (List.range 4) (fun d c => d.channel n c k stopped (i.sd.find? (fun s => s.axis == n && s.chan == c)))))

/-! ### Values of an axis -/

/-- Channel `c` of axis `n`. -/
def Dev.chan (d : Dev) (n c : Nat) : ChanSt := AList.get {} (d.sns n).chans c

/-- Both phase currents are valid. -/
def Dev.currentsValid (d : Dev) (n : Nat) : Bool := (d.chan n 0).valid && (d.chan n 1).valid

/-- ic = −ia − ib (R142). -/
def Dev.icValue (d : Dev) (n : Nat) : F32 := f32Of (-(f32Val (d.chan n 0).value) - f32Val (d.chan n 1).value)

/-- The largest current magnitude of the axis. -/
def Dev.currentMax (d : Dev) (n : Nat) : Rat :=
  ratMax ([(d.chan n 0).value, (d.chan n 1).value, d.icValue n].map (fun v => ratAbs (f32Val v)))

/-- The checks of R151 that act on an axis: over-current and persistent loss. -/
def Dev.sensingChecks (d : Dev) (n : Nat) : Dev :=
  let lim := f32Val (d.rd (A.AX_CV_ILIM n))
  let d := if decide (0 < lim) && d.currentsValid n && decide (lim < d.currentMax n) then (d.cvFlag n 12).senseFault n else d
  let lost := (List.range 4).any (fun c => decide (2 ≤ (d.chan n c).loss)) || decide (2 ≤ (d.grp (n / 4)).busLoss)
  if lost then (d.cvFlag n 13).senseFault n else d

/-- A valid output of each enabled channel and of the bus is counted for an axis in OPEN at the ticks after its start-up steps are
over (R149). -/
def Dev.countValid (d : Dev) (n : Nat) : Dev :=
  let cfg := d.rd (A.AX_SD_CFG n)
  let g := d.grp (n / 4)
  let keys := (List.range 4).filter (fun c => bit c cfg) ++ (if bit 1 g.cfg then [4] else [])
  if (d.ax n).state ≠ .opened ∨ !(d.sns n).stepsDone ∨ d.sys.tickAt ≤ (d.sns n).countAt then d
  else
    let inc (s : AxSense) (k : Nat) : AxSense := { s with counts := AList.put s.counts k (sat 3 (AList.get 0 s.counts k + 1)) }
    if keys.isEmpty then d.modSns n (fun s => inc s 5)
    else d.modSns n (fun s => keys.foldl (fun s k =>
      if (if k = 4 then g.busValid else (AList.get {} s.chans k).valid) then inc s k else s) s)

/-- valid_count of AX_CV_STATUS (R149): the smallest count of the outputs that count. -/
def Dev.validCount (d : Dev) (n : Nat) : Nat :=
  let cfg := d.rd (A.AX_SD_CFG n)
  let keys := (List.range 4).filter (fun c => bit c cfg) ++ (if bit 1 (d.grp (n / 4)).cfg then [4] else [])
  let keys := if keys.isEmpty then [5] else keys
  keys.foldl (fun m k => min m (AList.get 0 (d.sns n).counts k)) 3

/-- AX_CV_STATUS of axis `n` (R151): its flags, the last delivered outputs that were valid, and the count. -/
def Dev.cvStatusWord (d : Dev) (n : Nat) : Word :=
  let valid := maskOf ((List.range 4).filter (fun c => (d.chan n c).valid))
  (d.rd (A.AX_CV_STATUS n) &&& 0x3FF0) ||| BitVec.ofNat 32 (valid + 2 ^ 16 * d.validCount n)

/-- AX_SDCLK_STATUS of group `g` (R145). -/
def Dev.sdStatusWord (d : Dev) (g : Nat) : Word :=
  let x := d.grp g
  (d.rd (A.AX_SDCLK_STATUS g) &&& 0xC00) ||| BitVec.ofNat 32 (x.d % 256 + 2 ^ 8 * b2n x.running + 2 ^ 9 * b2n x.busValid + 2 ^ 16 * x.syncCount)

/-! ### The rotating frame -/

/-- An angle wrapped into [−π, π). -/
def wrapPi (a : Rat) : Rat := a - 2 * Config.pi * (((a + Config.pi) / (2 * Config.pi)).floor : Rat)

/-- √3. -/
def sqrt3 : Rat := Config.sqrt 3

/-- The position of axis `n` in its model's members. -/
def Dev.memberIndex (d : Dev) (n : Nat) : Nat := ((d.members n).idxOf? n).getD 0

/-- The member has a dq destination (04 R113). -/
def Dev.hasDq (d : Dev) (n : Nat) : Bool := (d.dstIndex (d.activeBank n) (d.memberIndex n) 1).isSome

/-- The model of lead axis `n` is due at the present tick (04 R123). -/
def Dev.due (d : Dev) (n : Nat) : Bool := d.sys.tick % 2 ^ (d.ax n).rate == (d.ax n).phase

/-- The angle and speed from the encoder (R164). -/
def Dev.encoderAngle (d : Dev) (n : Nat) : Rat × Rat :=
  let w := d.rd (A.AX_ENC_ANGLE_CFG n)
  let cpr := (d.rd (A.AX_ENC_CPR n)).toNat
  let pp : Rat := field 6 0 w
  let s : Rat := if bit 7 w then -1 else 1
  let m : Rat := ((d.fb n).tickCount % cpr : Int)
  (wrapPi (ratDiv (s * 2 * Config.pi * pp * m) cpr + f32Val (d.rd (A.AX_ENC_OFS n))),
   ratDiv (s * 2 * Config.pi * pp * (d.fb n).speed) cpr)

/-- θ̂ and ω̂ of axis `n` at the present tick (R155, R164): from the model's state at its due ticks. -/
def Dev.estimate (d : Dev) (n : Nat) : Dev :=
  let cfg := d.rd (A.AX_POS_CFG n)
  let lead := d.lead n
  let x := (d.ax lead).x
  let s := d.sns n
  if field 1 0 cfg = 1 then
    let e := d.encoderAngle n
    d.setSns n { s with theta := e.1, omega := e.2, omegaKnown := true, tickK := d.sys.tick }
  else if !(d.hasDq n) then d.setSns n { s with theta := 0, omega := 0, omegaKnown := false, tickK := d.sys.tick }
  else if (d.ax n).state.active && d.due lead && s.catching.isNone then
    d.setSns n { s with theta := f32Val (x.getD (field 13 8 cfg) 0), omega := f32Val (d.rd (A.AX_POS_WSCALE n)) * f32Val (x.getD (field 21 16 cfg) 0), omegaKnown := true, tickK := d.sys.tick }
  else d

/-- θ_in at the present tick (R155): the estimate carried on to this tick, less the group delay. -/
def Dev.thetaIn (d : Dev) (n : Nat) : Rat :=
  let s := d.sns n
  s.theta + s.omega * (((d.sys.tick - s.tickK : Nat) : Rat) * d.loopSec - d.groupDelay (n / 4))

/-- An αβ pair rotated by −θ into dq. -/
def toDq (a b th : Rat) : Rat × Rat := (a * Config.cos th + b * Config.sin th, -a * Config.sin th + b * Config.cos th)

/-- A dq pair rotated by θ into αβ. -/
def toAb (dd q th : Rat) : Rat × Rat := (dd * Config.cos th - q * Config.sin th, dd * Config.sin th + q * Config.cos th)

/-- The rotated currents of the present tick (R155). -/
def Dev.idq (d : Dev) (n : Nat) : Rat × Rat :=
  let ia := f32Val (d.chan n 0).value
  let ib := f32Val (d.chan n 1).value
  toDq ia ((ia + 2 * ib) / sqrt3) (d.thetaIn n)

/-- The measured line voltages as αβ (R166). -/
def Dev.vab (d : Dev) (n : Nat) : Rat × Rat :=
  let a := f32Val (d.chan n 2).value
  let b := f32Val (d.chan n 3).value
  ((2 * a + b) / 3, b / sqrt3)

/-! ### Injection, back-EMF and the blend -/

/-- N of AX_INJ_CFG. -/
def Dev.injN (d : Dev) (n : Nat) : Nat := 4 * 2 ^ d.fld (A.AX_INJ_CFG n) 1 0

/-- Injection acts on axis `n` (R158); the pulses of steps 2 to 5 of R160 and their pauses take its place. -/
def Dev.injOn (d : Dev) (n : Nat) : Bool :=
  let cfg := d.rd (A.AX_POS_CFG n)
  bit 3 cfg && field 1 0 cfg == 0 && (d.sns n).region != 2 && (d.ax n).state.active && (d.sns n).catching.isNone &&
    (match (d.sns n).init with | some i => decide (i.step ≤ 1) | none => true)

/-- The sign of the injection at a tick of its period (R158). -/
def injSign (period tick : Nat) : Int := if tick % period < period / 2 then 1 else -1

/-- The injection moves on by one tick: its sign joins those of the last ticks, newest first. -/
def Dev.injStep (d : Dev) (n : Nat) : Dev :=
  if d.injOn n then
    d.modSns n (fun s => { s with injTick := s.injTick + 1, signs := (injSign (d.injN n) s.injTick :: s.signs).take 32 })
  else d.modSns n (fun s => { s with injTick := 0, signs := ((0 : Int) :: s.signs).take 32 })

/-- The demodulated value D (R159). -/
def Dev.demodValue (d : Dev) (n : Nat) : Rat :=
  let s := d.sns n
  let per := d.injN n
  let dly := d.fld (A.AX_INJ_CFG n) 7 4
  (((List.range per).map (fun j => (s.signs.getD (j + dly) 0 : Rat) * s.demod.getD j 0)).foldl (· + ·) 0) / (per : Rat)

/-- The rotated currents of the tick join those kept, and Δi its list (R159); an invalid pair adds no change. -/
def Dev.rotStep (d : Dev) (n : Nat) : Dev :=
  if d.currentsValid n then
    let r := d.idq n
    d.modSns n (fun s => { s with rot := (r :: s.rot).take 16, demod := ((r.2 - s.iqLast) :: s.demod).take 16, iqLast := r.2 })
  else d.modSns n (fun s => { s with demod := ((0 : Rat) :: s.demod).take 16 })

/-- A value held within −1 and 1. -/
def clip1 (x : Rat) : Rat := if x < -1 then -1 else if 1 < x then 1 else x

/-- vd for the back-EMF error (R161): of the committed pair now acting, or measured. -/
def Dev.emfVd (d : Dev) (n : Nat) : Rat :=
  if d.rb (A.AX_POS_CFG n) 7 then (toDq (d.vab n).1 (d.vab n).2 (d.thetaIn n)).1
  else
    let b := d.activeBank n
    let j := d.memberIndex n
    let u (i : Nat) : Rat := f32Val ((d.ax (d.lead n)).uCommitted.getD i 0)
    match d.dstIndex b j 1, d.pairIndex b j with
    | some i, _ => u i
    | none, some (a, c) => (toDq (u a) (u c) (d.thetaIn n)).1
    | none, none => 0

/-- The back-EMF angle error, code 0x0C (R161). -/
def Dev.emfError (d : Dev) (n : Nat) : F32 :=
  let s := d.sns n
  let wr := f32Val (d.rd (A.AX_W_RATED n))
  if ratAbs s.omega < wr / 100 then 0
  else
    let r := s.rot.headD (0, 0)
    let num := -(d.emfVd n - f32Val (d.rd (A.AX_EMF_R n)) * r.1 + s.omega * f32Val (d.rd (A.AX_EMF_LQ n)) * r.2)
    f32Of (Config.asin (clip1 (ratDiv num (s.omega * f32Val (d.rd (A.AX_EMF_PSI n))))) * s.beta)

/-- ω_up and ω_dn (R162). -/
def Dev.xover (d : Dev) (n : Nat) : Rat × Rat :=
  let w := d.rd (A.AX_BLEND_CFG n)
  let wr := f32Val (d.rd (A.AX_W_RATED n))
  let x : Rat := field 9 0 w
  let h : Rat := field 19 10 w
  ((x + h) * wr / 1000, (x - h) * wr / 1000)

/-- The region changes, with its event (R169). -/
def Dev.setRegion (d : Dev) (n r : Nat) (beta : Rat) (refill : Nat := 0) : Dev :=
  let old := (d.sns n).region
  let d := d.modSns n (fun s => { s with region := r, beta, refill })
  if old = r then d else d.raiseAx n 6

/-- The region in which an axis starts (R162): EMF after a catch at or above ω_up, INJ otherwise; EMF without injection. -/
def Dev.startRegion (d : Dev) (n : Nat) (caught : Option Rat) : Dev :=
  let cfg := d.rd (A.AX_POS_CFG n)
  if !bit 3 cfg || field 1 0 cfg != 0 then d.setRegion n 2 1
  else match caught with
    | some w => if (d.xover n).1 ≤ ratAbs w then d.setRegion n 2 1 else d.setRegion n 0 0
    | none => d.setRegion n 0 0

/-- BLEND_REGION_UPDATE (R162): once per tick from ω̂; without injection the region is fixed and no change of it is told
(notes/assumptions/41.md). -/
def Dev.regionStep (d : Dev) (n : Nat) : Dev :=
  let cfg := d.rd (A.AX_POS_CFG n)
  let s := d.sns n
  if !bit 3 cfg || field 1 0 cfg != 0 then d.setSns n { s with region := 2, beta := 1, refill := 0 }
  else if !(d.ax n).state.active || s.catching.isSome then d
  else
    let w := ratAbs s.omega
    let up := decide ((d.xover n).1 ≤ w)
    let dn := decide (w ≤ (d.xover n).2)
    let inc : Rat := 1 / ((d.fld (A.AX_BLEND_CFG n) 31 20 : Nat) : Rat)
    let hold := d.injN n + d.fld (A.AX_INJ_CFG n) 7 4
    if s.region = 0 then (if up then d.setRegion n 1 0 else d)
    else if s.region = 1 then
      if dn then d.setRegion n 3 s.beta
      else if 1 ≤ s.beta + inc then d.setRegion n 2 1 else d.setRegion n 1 (s.beta + inc)
    else if s.region = 2 then (if dn then d.setRegion n 3 1 hold else d)
    else if up then d.setRegion n 1 s.beta
    else if 0 < s.refill then d.setRegion n 3 s.beta (s.refill - 1)
    else if s.beta - inc ≤ 0 then d.setRegion n 0 0 else d.setRegion n 3 (s.beta - inc)

/-! ### What is delivered -/

/-- The mean of the first `k` pairs of a list. -/
def meanPair (l : List (Rat × Rat)) (k : Nat) : Rat × Rat :=
  (ratMean ((l.take k).map (·.1)), ratMean ((l.take k).map (·.2)))

/-- The sensing and angle codes of an axis as delivered at the present tick (04 R112, 05 R148): a value that is invalid keeps
the last valid one, and is marked; what rests on a disabled channel is 0 (R150). -/
def Dev.deliver05 (d : Dev) (n : Nat) : Dev :=
  let ia := d.chan n 0
  let ib := d.chan n 1
  let va := d.chan n 2
  let vb := d.chan n 3
  let cur := ia.valid && ib.valid
  let s := d.sns n
  let avg := d.rb (A.AX_POS_CFG n) 6 && d.injOn n
  let dq := if avg then meanPair s.rot (d.injN n) else s.rot.headD (0, 0)
  let bus := (d.grp (n / 4)).busValid
  let inj := if d.injOn n then f32Of (f32Val (d.rd (A.AX_INJ_GAIN n)) * d.demodValue n * (1 - s.beta)) else 0
  let off (c : Nat) : Bool := !bit c (d.rd (A.AX_SD_CFG n))
  let phase := off 0 || off 1
  let zero_ : List Nat := (if off 0 then [1] else []) ++ (if off 1 then [2] else []) ++ (if phase then [3, 4, 5, 0x0B, 0x0C] else []) ++
    (if off 2 then [6] else []) ++ (if off 3 then [7] else [])
  let values : List (Nat × Bool × F32) := [(1, ia.valid, ia.value), (2, ib.valid, ib.value), (3, cur, d.icValue n), (4, cur, f32Of dq.1),
    (5, cur, f32Of dq.2), (6, va.valid, va.value), (7, vb.valid, vb.value), (8, bus, d.busVolt n), (0x0B, cur, inj), (0x0C, cur, d.emfError n), (0x0D, true, f32Of s.theta)]
  d.modAx n (fun c => { c with
    deliv := values.foldl (fun l x =>
      if zero_.contains x.1 then AList.put l x.1 0 else if x.2.1 || x.1 == 8 then AList.put l x.1 x.2.2 else l) c.deliv
    inval := (values.filter (fun x => !x.2.1)).map (·.1) })

/-! ### Catch and initial angle: the samples of a tick -/

/-- The unwrapped angle nearest to the one before. -/
def unwrap (prev a : Rat) : Rat :=
  let k := ratRound ((prev - a) / (2 * Config.pi))
  a + 2 * Config.pi * (k : Rat)

/-- One tick of a catch (R166): the fit window grows, or begins anew below the threshold; invalid outputs are left out.  A tick below the
threshold counts a loop period toward the 20 ms, the first one too (notes/assumptions/154.md). -/
def Dev.catchSample (d : Dev) (n : Nat) : Dev :=
  match (d.sns n).catching with
  | none => d
  | some c =>
    if !((d.chan n 2).valid && (d.chan n 3).valid) then d
    else
      let v := d.vab n
      let m2 := v.1 * v.1 + v.2 * v.2
      let thr := f32Val (d.rd (A.AX_CATCH_VTHR n))
      let low := decide (m2 < thr * thr)
      let t := d.tickTime
      let phi := Config.atan2 v.2 v.1
      let phi := match c.window with | (_, p, _) :: _ => unwrap p phi | [] => phi
      let c := if low then { c with window := [], lowNs := c.lowNs + d.loopPeriod }
        else { c with window := (t, phi, m2) :: c.window, lowNs := 0 }
      d.modSns n (fun s => { s with catching := some c })

/-- The least-squares line of a catch's window (R166): its slope in rad/s and its value at time `t` in ns, the samples taken at
their ticks less the group delay. -/
def fitLine (w : List (Nat × Rat × Rat)) (t : Nat) (gd : Rat) : Rat × Rat :=
  let k : Rat := w.length
  let xs := w.map (fun x => (mkRat ((x.1 : Int) - t) 1000000000 - gd, x.2.1))
  let sx := (xs.map (·.1)).foldl (· + ·) 0
  let sy := (xs.map (·.2)).foldl (· + ·) 0
  let sxx := (xs.map (fun p => p.1 * p.1)).foldl (· + ·) 0
  let sxy := (xs.map (fun p => p.1 * p.2)).foldl (· + ·) 0
  let slope := ratDiv (k * sxy - sx * sy) (k * sxx - sx * sx)
  (slope, ratDiv (sy - slope * sx) k)

/-- One tick of the initial-angle steps (R160): the peaks of |id| over valid outputs in steps 2 and 4. -/
def Dev.initSample (d : Dev) (n : Nat) : Dev :=
  match (d.sns n).init with
  | none => d
  | some i =>
    let id := ratAbs ((d.sns n).rot.headD (0, 0)).1
    let pk (x : Rat) : Rat := if d.currentsValid n && decide (x < id) then id else x
    let i := { i with left := i.left - 1, iPos := if i.step = 2 then pk i.iPos else i.iPos, iNeg := if i.step = 4 then pk i.iNeg else i.iNeg }
    d.modSns n (fun s => { s with init := some i })

/-- An induction motor below 3 Hz in HOLD, MOVE or STOPPING: since when (R163). -/
def Dev.imLow (d : Dev) (n : Nat) : Dev :=
  let cfg := d.rd (A.AX_POS_CFG n)
  let st := (d.ax n).state
  let low := bit 2 cfg && field 1 0 cfg == 0 && (st == .hold || st == .move || st == .stopping) &&
    decide (ratAbs (d.sns n).omega < 6 * Config.pi)
  d.modSns n (fun s => { s with imLowSince := if low then some (s.imLowSince.getD d.time.cnt) else none })

/-- S0 of an axis at a tick: what this chapter delivers (01 R37). -/
def Dev.senseAxis (d : Dev) (n : Nat) : Dev :=
  let d := d.sensingChecks n
  let d := d.countValid n
  let d := d.estimate n
  let d := d.regionStep n
  let d := d.rotStep n
  let d := d.injStep n
  let d := d.catchSample n
  let d := d.initSample n
  let d := d.deliver05 n
  d.imLow n

/-- IM_LOW_EXPIRY (R163): im_low_ms below 3 Hz have passed. -/
def Dev.imLowExpiry (d : Dev) (n : Nat) : Dev :=
  match (d.sns n).imLowSince with
  | none => d
  | some t =>
    if d.past (t + msCnt (d.fld (A.AX_IM_CFG n) 13 0)) then
      ((d.flagAx (A.AX_POS_STATUS n) 8 n 6).modSns n (fun s => { s with imLowSince := none })).faultAxis n 64
    else d

/-- IM_LOW_EXPIRY. -/
def execImLowExpiry (n : Nat) (s : State) : Host.Outcome State Fault Refusal := s.perform (fun d => d.imLowExpiry n)

end Sys2Proof.Machine
end

