-- ==== Sys2Proof/Machine/RefGen.lean ====
section
/-!
DEFINITION. The reference generators as they run at every loop tick (09_motion_gearing.md R240 to R242, R247 to R252, R256, R258
to R262, R266, R269, R271): tables, streams, plans, gear and cam laws with their blends, virtual masters, load shares, pulse
trains, and the values they deliver (R182, R230, R240).
-/

namespace Sys2Proof.Machine

/-! ### Positions -/

/-- σ_d of axis `n` (06 R182). -/
def Dev.sigma (d : Dev) (n : Nat) : Int := if (d.wav n).reversed then -1 else 1

/-- The delivered position of p_ref `p` (06 R182). -/
def Dev.delivered (d : Dev) (n : Nat) (p : Int) : Int := (d.wav n).base + d.sigma n * (p - (d.wav n).refBase)

/-- The count of axis `n` as a tick at time `t` takes it: extrapolated for a serial source that asks for it (08 R222, R230). -/
def Dev.tickCountAt (d : Dev) (n t : Nat) : Int :=
  let f := d.fb n
  if d.fld (A.FB_CFG n) 1 0 = 2 ∧ d.rb (A.FB_CFG n) 7 then
    match f.ser1 with
    | some m => f.count + ratRound (f.speed * mkRat ((t : Int) - m.t) 1000000000)
    | none => f.count
  else f.count

/-- The present position of axis `n`, 48.16 (R242). -/
def Dev.presentPos (d : Dev) (n t : Nat) : Int :=
  if d.rb (A.PROF_CFG n) 3 then
    toPos (ratDiv ((toSigned 32 (d.rd (A.PT_MSTEP n)).toNat : Rat) * ((d.rd (A.PT_SCALE_D n)).toNat : Rat))
      (toSigned 32 (d.rd (A.PT_SCALE_N n)).toNat : Rat))
  else d.tickCountAt n t * pUnit

/-- Flag `i` of PROF_STATUS, with AX_MOTION (R275). -/
def Dev.profFlag (d : Dev) (n i : Nat) : Dev := d.flagAx (A.PROF_STATUS n) i n 11

/-- The `i`-th limit in force: v_max, a_max, j_max, stop a, stop j (R243). -/
def Dev.lim (d : Dev) (n i : Nat) : Rat := f32Val ((d.mo n).lims.getD i 0)

/-- The evaluation lead of axis `n` in ns (R241).  Plans, tables, blends and what follows a local master keep their time origin and are
evaluated at the same lead, which cancels; only a record of a peer is taken to t_eval (notes/assumptions/160.md). -/
def Dev.refLead (d : Dev) (n : Nat) : Nat := d.fld (A.PROF_CFG n) 1 0 * d.loopPeriod

/-- The stop ramp of axis `n` from a state at `t` (R244). -/
def Dev.rampFrom (d : Dev) (n t : Nat) (p : Int) (v a : Rat) : Plan := stopPlan t p v a (d.lim n 3) (d.lim n 4)

/-! ### Knots (R247 to R252) -/

/-- The profile memory window of axis `n` (01 R22). -/
def profWin (n : Nat) : Nat := 0x800000 + 0x20000 * n

/-- A 64-bit number in memory. -/
def Dev.m64 (d : Dev) (a : Nat) : Nat := ofLe (d.mbs a 8)

/-- The address of knot `i`; indices wrap from 2,047 to 0. -/
def knotAddr (n i : Nat) : Nat := profWin n + 32 * (i % 2048)

/-- t, p, v and the end flag of knot `i`. -/
def Dev.knotT (d : Dev) (n i : Nat) : Nat := d.m64 (knotAddr n i)
/-- p of a knot. -/
def Dev.knotP (d : Dev) (n i : Nat) : Int := toSigned 64 (d.m64 (knotAddr n i + 8))
/-- v of a knot. -/
def Dev.knotV (d : Dev) (n i : Nat) : F32 := d.mw (knotAddr n i + 16)
/-- the end flag of a knot. -/
def Dev.knotEnd (d : Dev) (n i : Nat) : Bool := bit 0 (d.mw (knotAddr n i + 20))

/-- Knot `i` as it is read. -/
def Dev.knot (d : Dev) (n i : Nat) : Knot := { t := d.knotT n i, p := d.knotP n i, v := d.knotV n i }

/-- The segment between two knots: its length in seconds, its distance in counts, its velocities. -/
def segment (a b : Knot) : Hermite :=
  { h := dDiv ((b.t : Rat) - a.t) 1000000000, dp := d64Round (ofPos (b.p - a.p)), v0 := f32Val a.v, v1 := f32Val b.v }

/-- A position, as delivered, lies inside the limits of axis `n` (R249 reason 0x02). -/
def Dev.insideLimits (d : Dev) (n : Nat) (p : Int) : Bool :=
  let x := d.delivered n p
  decide (d.rd48 (A.FB_LIM_LO_LO n) * pUnit ≤ x) && decide (x ≤ d.rd48 (A.FB_LIM_HI_LO n) * pUnit) &&
    (!d.rb (A.PROF_CFG n) 2 || (decide (d.rd48 (A.VLIM_LO_LO n) * pUnit ≤ x) && decide (x ≤ d.rd48 (A.VLIM_HI_LO n) * pUnit)))

/-- The reason a segment ending at knot `i` is invalid, 0 when it is valid (R249, reasons 0x01 to 0x05 and 0x07); the places of a relative
table are not judged before it is `placed` (R250).  A velocity that is not finite is reason 0x07 (notes/assumptions/161.md). -/
def Dev.segReason (d : Dev) (n i : Nat) (shift : Int) (placed : Bool := true) : Nat :=
  let t0 := d.knotT n (i + 2047)
  let t1 := d.knotT n i
  let s := segment (d.knot n (i + 2047)) (d.knot n i)
  if ¬ (t0 + 1000 ≤ t1 ∧ t1 ≤ t0 + 4294967296) then 1
  else if placed && !(d.insideLimits n (d.knotP n (i + 2047) + shift) && d.insideLimits n (d.knotP n i + shift)) then 2
  else if !(f32Finite (d.knotV n (i + 2047)) && f32Finite (d.knotV n i)) then 7
  else if d.lim n 0 < s.vPeak then 3
  else if d.lim n 1 < max (ratAbs (s.eval 0).a) (ratAbs (s.eval 1).a) then 4
  else if d.lim n 2 < ratAbs s.jerk then 5
  else 0

/-- The reason a segment of a stream is invalid: those of a segment, and an end knot that is not at rest (R249, 0x09). -/
def Dev.streamReason (d : Dev) (n i : Nat) (shift : Int) : Nat :=
  let r := d.segReason n i shift
  if r ≠ 0 then r else if d.knotEnd n i && f32Val (d.knotV n i) != 0 then 9 else 0

/-- The state at `e` ns into the segment from knot `a` to knot `b`. -/
def segAt (a b : Knot) (shift : Int) (e : Nat) : Int × Rat × Rat :=
  if b.t ≤ e then
    let k := (segment a b).eval 1
    (b.p + shift, k.v, k.a)
  else
    let k := (segment a b).eval (dDiv ((e : Rat) - a.t) ((b.t : Rat) - a.t))
    (a.p + shift + toPos k.p, k.v, k.a)

/-- Knots of a running stream that are published from index `i` on. -/
def Dev.published (d : Dev) (n i : Nat) : Nat := (d.fld (A.PROF_STREAM_WP n) 10 0 + 2048 - i % 2048) % 2048

/-- The buffered-ahead time of a stream `e` ns into it, ns (R252). -/
def Dev.ahead (d : Dev) (n e : Nat) : Nat := d.knotT n (d.fld (A.PROF_STREAM_WP n) 10 0 + 2047) - e

/-! ### What a source gives at a time -/

/-- Position, velocity, acceleration. -/
structure Ref where
  p : Int
  v : Rat
  a : Rat
  deriving DecidableEq, Repr

/-- What happens to a source at a time. -/
inductive SrcEvent where
  | none
  /-- at rest at its end: a table, stream or position plan (flagged done), or a stop ramp -/
  | rest (done : Bool)
  /-- the stream ran out -/
  | underrun
  /-- the next segment of a stream is invalid, with its reason; the stream runs on to its knot -/
  | badKnot (reason : Nat)
  /-- the ramp from the knot before an invalid segment, with its reason if this tick found it -/
  | badStop (reason : Nat)
  deriving DecidableEq, Repr

/-- A stream moves on to the segment that holds `e`, at most `fuel` knots (R251, R252); every segment is judged when it becomes the next
one, or is entered unjudged. -/
def Dev.streamAt (d : Dev) (n : Nat) : Nat → KnotRun → Nat → Ref × Src × SrcEvent
  | 0, k, e => let x := segAt k.start (d.knot n k.cur) k.shift e; (⟨x.1, x.2.1, x.2.2⟩, .stream k, .none)
  | fuel + 1, k, e =>
    let x := segAt k.start (d.knot n k.cur) k.shift e
    let next := (k.cur + 1) % 2048
    let reason := if k.checked then 0 else d.streamReason n next k.shift
    if d.knotT n k.cur ≤ e then
      if d.knotEnd n k.cur then (⟨x.1, 0, 0⟩, .hold, .rest true)
      else
        let ramp := d.rampFrom n (k.t0 + d.knotT n k.cur) x.1 x.2.1 x.2.2
        let y := ramp.eval (k.t0 + e)
        if k.bad then (⟨y.1, y.2.1, y.2.2.1⟩, .ramp ramp, .badStop 0)
        else if d.published n next = 0 then (⟨y.1, y.2.1, y.2.2.1⟩, .ramp ramp, .underrun)
        else if reason ≠ 0 then (⟨y.1, y.2.1, y.2.2.1⟩, .ramp ramp, .badStop reason)
        else d.streamAt n fuel { k with cur := next, start := d.knot n k.cur, checked := false } e
    else if d.knotEnd n k.cur || d.published n next == 0 then (⟨x.1, x.2.1, x.2.2⟩, .stream k, .none)
    else if reason ≠ 0 then (⟨x.1, x.2.1, x.2.2⟩, .stream { k with bad := true, checked := true }, .badKnot reason)
    else (⟨x.1, x.2.1, x.2.2⟩, .stream { k with checked := true }, .none)

/-- The knot that ends the segment of a table `e` ns into it: the first whose time lies beyond, of those left. -/
def Dev.tableKnot (d : Dev) (n : Nat) : Nat → Nat → Nat → Nat
  | 0, i, _ => i
  | left + 1, i, e => if e < d.knotT n i then i else d.tableKnot n left (i + 1) e

/-- A plan that aims at rest. -/
def planRef (q : Plan) (t : Nat) (src : Src) (done : Bool) : Ref × Src × SrcEvent :=
  let x := q.eval t
  if x.2.2.2 then (⟨x.1, 0, 0⟩, .hold, .rest done) else (⟨x.1, x.2.1, x.2.2.1⟩, src, .none)

/-- The base source of a generator at time `t` (R242). -/
def Dev.srcAt (d : Dev) (n : Nat) (m : AxMot) (t : Nat) : Ref × Src × SrcEvent :=
  match m.src with
  | .off => (⟨d.presentPos n t, 0, 0⟩, .off, .none)
  | .hold => (⟨m.hold, 0, 0⟩, .hold, .none)
  | .table k =>
    let e := t - k.t0
    if d.knotT n (k.first + k.count - 1) ≤ e then (⟨d.knotP n (k.first + k.count - 1) + k.shift, 0, 0⟩, .hold, .rest true)
    else
      let i := d.tableKnot n (k.count - 2) (k.first + 1) e
      let x := segAt (d.knot n (i + 2047)) (d.knot n i) k.shift e
      (⟨x.1, x.2.1, x.2.2⟩, .table { k with cur := i % 2048 }, .none)
  | .stream k => d.streamAt n 2048 k (t - k.t0)
  | .move q => planRef q t m.src true
  | .vel q => let x := q.eval t; (⟨x.1, x.2.1, x.2.2.1⟩, m.src, .none)
  | .share => (⟨m.p, m.v, m.a⟩, .share, .none)
  | .ramp q => planRef q t m.src false
  | .catchUp q => planRef q t m.src false

/-! ### Gear and cam laws (R258 to R262) -/

/-- The address of cam point `j` of axis `n` (R261). -/
def camAddr (n j : Nat) : Nat := profWin n + 0x10000 + 32 * j
/-- x of a cam point. -/
def Dev.camX (d : Dev) (n j : Nat) : Int := toSigned 64 (d.m64 (camAddr n j))
/-- y of a cam point. -/
def Dev.camY (d : Dev) (n j : Nat) : Int := toSigned 64 (d.m64 (camAddr n j + 8))
/-- The slope at a cam point. -/
def Dev.camSlope (d : Dev) (n j : Nat) : F32 := d.mw (camAddr n j + 16)

/-- The point that ends the cam segment holding `x`, of the points from `j` on. -/
def Dev.camPoint (d : Dev) (n : Nat) : Nat → Nat → Int → Nat
  | 0, j, _ => j
  | left + 1, j, x => if x < d.camX n j then j else d.camPoint n left (j + 1) x

/-- cam(x), cam′ and cam″ with `pts` points. -/
def Dev.camEval (d : Dev) (n pts : Nat) (x : Int) : Int × Rat × Rat :=
  let j := d.camPoint n (pts - 2) 1 x
  let x0 := d.camX n (j - 1)
  let h := d64Round (ofPos (d.camX n j - x0))
  let s : Hermite := { h, dp := d64Round (ofPos (d.camY n j - d.camY n (j - 1))), v0 := f32Val (d.camSlope n (j - 1)), v1 := f32Val (d.camSlope n j) }
  if x = d.camX n j then (d.camY n j, (s.eval 1).v, (s.eval 1).a)
  else
    let k := s.eval (dDiv (d64Round (ofPos (x - x0))) h)
    (d.camY n (j - 1) + toPos k.p, k.v, k.a)

/-- A law on its master (R260, R261), and whether a one-shot cam has passed its end. -/
def Dev.lawAt (d : Dev) (n : Nat) (g : GearLaw) (m : Ref) : Ref × Bool :=
  if g.cam then
    let last := g.points - 1
    let u := m.p - g.m0
    let sm := d.camX n last - d.camX n 0
    let sy := d.camY n last - d.camY n 0
    if g.cyclic then
      let c := u / sm
      let k := d.camEval n g.points (d.camX n 0 + u - c * sm)
      (⟨g.s0 + c * sy + k.1 - d.camY n 0 + g.phi, k.2.1 * m.v, k.2.2 * m.v * m.v + k.2.1 * m.a⟩, false)
    else if u < 0 then (⟨g.s0 + g.phi, 0, 0⟩, true)
    else if sm < u then (⟨g.s0 + sy + g.phi, 0, 0⟩, true)
    else
      let k := d.camEval n g.points (d.camX n 0 + u)
      (⟨g.s0 + k.1 - d.camY n 0 + g.phi, k.2.1 * m.v, k.2.2 * m.v * m.v + k.2.1 * m.a⟩, false)
  else
    let r : Rat := ratDiv g.n g.d
    (⟨g.s0 + ratRound (ratDiv ((g.n * (m.p - g.m0) : Int) : Rat) g.d) + g.phi, r * m.v, r * m.a⟩, false)

/-- One layer over what lies below it, at time `t` (R262). -/
def Dev.layerAt (d : Dev) (n : Nat) (y : GearLayer) (old m : Ref) (t : Nat) : Ref × GearLayer :=
  let law := (d.lawAt n y.law m).1
  let te : Rat := mkRat y.te 1000
  let x := if y.te = 0 then 1 else (mkRat ((t : Int) - y.t0) 1000000000) / te
  let w := blendW x
  let w1 := if y.te = 0 then 0 else w.2.1 / te
  let w2 := if y.te = 0 then 0 else w.2.2 / (te * te)
  match y.kind with
  | .phase =>
    let k := ofPos y.dphi
    (⟨old.p + toPos (w.1 * k), old.v + w1 * k, old.a + w2 * k⟩, y)
  | .position =>
    if 1 ≤ x then (law, y)
    else
      let dp := ofPos (law.p - old.p)
      (⟨old.p + toPos (w.1 * dp), (1 - w.1) * old.v + w.1 * law.v + w1 * dp,
        (1 - w.1) * old.a + w.1 * law.a + 2 * w1 * (law.v - old.v) + w2 * dp⟩, y)
  | .velocity =>
    let v := (1 - w.1) * old.v + w.1 * law.v
    let a := (1 - w.1) * old.a + w.1 * law.a + w1 * (law.v - old.v)
    let p := y.p + toPos ((y.v + v) / 2 * mkRat ((t : Int) - y.at_) 1000000000)
    (⟨p, v, a⟩, { y with p, v, at_ := t })

/-- The layers of a gearing, newest first, over the base source; `master` gives a layer's master. -/
def Dev.layersAt (d : Dev) (n : Nat) (base : Ref) (master : MasterSt → Ref) (t : Nat) : List GearLayer → Ref × List GearLayer
  | [] => (base, [])
  | y :: l =>
    let r := d.layersAt n base master t l
    let x := d.layerAt n y r.1 (master y.ms) t
    (x.1, x.2 :: r.2)

/-- A layer that has blended in: its law alone is in force, without what lay below (R262). -/
def GearLayer.pure (y : GearLayer) : Bool := y.te == 0 && y.kind == .position

/-! ### A generator at a time -/

/-- A record extrapolated to second order (R266). -/
def MRec.at (r : MRec) (t : Nat) : Ref :=
  let dt := mkRat ((t : Int) - r.ts) 1000000000
  let v := f32Val r.v
  let a := f32Val r.a
  ⟨r.p + toPos (v * dt + a * dt * dt / 2), v + a * dt, a⟩

/-! ### Virtual masters (R269) -/

/-- A virtual master runs in these modes. -/
def vmMode (m : Mode) : Bool := m == .ready || m == .run || m == .inspection || m == .degraded || m == .recovery

/-- The state of virtual master `v` at time `t` by its source. -/
def Dev.vmFree (d : Dev) (v t : Nat) : VmSt :=
  let x := AList.get {} d.mot.vms v
  if !vmMode d.sys.mode then { x with v := 0, a := 0, src := .hold }
  else match x.src with
    | .move q => let e := q.eval t; if e.2.2.2 then { p := e.1, v := 0, a := 0, src := .hold } else { x with p := e.1, v := e.2.1, a := e.2.2.1 }
    | .ramp q => let e := q.eval t; if e.2.2.2 then { p := e.1, v := 0, a := 0, src := .hold } else { x with p := e.1, v := e.2.1, a := e.2.2.1 }
    | .vel q => let e := q.eval t; { x with p := e.1, v := e.2.1, a := e.2.2.1 }
    | _ => { x with v := 0, a := 0 }

/-- The state of virtual master `v` at time `t`, v and a in FP32, and whether its position was clamped at ±2⁴⁷ counts, where it stands. -/
def Dev.vmClamped (d : Dev) (v t : Nat) : VmSt × Bool :=
  let x := d.vmFree v t
  let p := clampI (-(2 ^ 63)) (2 ^ 63 - 1) x.p
  if p = x.p then ({ x with v := f32Val (f32Of x.v), a := f32Val (f32Of x.a) }, false) else ({ p, v := 0, a := 0, src := .hold }, true)

/-- The state of virtual master `v` at time `t`. -/
def Dev.vmAt (d : Dev) (v t : Nat) : VmSt := (d.vmClamped v t).1

/-- One evaluation of virtual master `v`. -/
def Dev.vmStep (d : Dev) (v t : Nat) : Dev :=
  let x := d.vmClamped v t
  let d := d.modMot (fun q => { q with vms := AList.put q.vms v x.1 })
  if x.2 then d.wb (A.VM_STATUS v) 4 true else d

/-- A generator's velocity and acceleration are held in FP32 (R240). -/
def Ref.held (r : Ref) : Ref := { r with v := f32Val (f32Of r.v), a := f32Val (f32Of r.a) }

/-- The generator of axis `n` at time `t`: its next record and what happened to its base source; `master` gives a local master. -/
def Dev.genWith (d : Dev) (master : Dev → Nat → Nat → Bool → Ref) (n t : Nat) : AxMot × SrcEvent :=
  let m := d.mo n
  let st := (d.ax n).state
  if st == .hold || st == .move || st == .stopping then
    let b := d.srcAt n (if m.src = .off then { m with src := .hold } else m) t
    let hold := match b.2.2 with | .rest _ => b.1.p | _ => m.hold
    match m.gear.layers with
    | y :: l =>
      let mr (x : MasterSt) : Ref :=
        let raw := match x.m.remote with
          | some _ => (match x.rec_ with | some r => r.at (t + d.refLead n) | none => ⟨0, 0, 0⟩)
          | none => master d x.m.index t x.m.fb
        { raw with p := raw.p - x.delta }
      let r := d.layersAt n b.1 mr t (y :: l)
      let k := r.1.held
      let age := match y.ms.m.remote, y.ms.rec_ with | some _, some r => t + d.refLead n - r.ts | _, _ => 0
      ({ m with p := k.p, v := k.v, a := k.a, at_ := t, hold, src := b.2.1, gear := { m.gear with layers := r.2, mPos := (mr y.ms).p, age } }, b.2.2)
    | [] => let k := b.1.held; ({ m with p := k.p, v := k.v, a := k.a, at_ := t, hold, src := b.2.1 }, b.2.2)
  else ({ m with p := d.presentPos n t, v := 0, a := 0, at_ := t, src := .off }, .none)

/-- The master of a local gearing at time `t` (R258): an axis's reference or feedback, or a virtual master; `fuel` bounds the
chain, which is at most 4 deep (R264). -/
def Dev.localMaster : Nat → Dev → Nat → Nat → Bool → Ref
  | 0, _, _, _, _ => ⟨0, 0, 0⟩
  | fuel + 1, d, i, t, fb =>
    if 32 ≤ i then let v := d.vmAt (i - 32) t; ⟨v.p, v.v, v.a⟩
    else if fb then ⟨d.tickCountAt i t * pUnit, (d.fb i).speed, (d.mo i).frameA⟩
    else if (d.mo i).at_ = t then ⟨(d.mo i).p, (d.mo i).v, (d.mo i).a⟩
    else
      let m := (d.genWith (Dev.localMaster fuel) i t).1
      ⟨m.p, m.v, m.a⟩

/-- The master of a law of axis `n` at time `t`, in the frame it was engaged in (R259). -/
def Dev.masterRef (d : Dev) (n : Nat) (x : MasterSt) (t : Nat) : Ref :=
  let raw := match x.m.remote with
    | some _ => (match x.rec_ with | some r => r.at (t + d.refLead n) | none => ⟨0, 0, 0⟩)
    | none => Dev.localMaster 5 d x.m.index t x.m.fb
  { raw with p := raw.p - x.delta }

/-- The generator of axis `n` at time `t`. -/
def Dev.genAt (d : Dev) (n t : Nat) : AxMot × SrcEvent := d.genWith (Dev.localMaster 5) n t

/-- How deep the local gearing chain of axis `n` is through any law that still acts, 0 without a local master (R241, R264). -/
def Dev.gearDepth : Nat → Dev → Nat → Nat
  | 0, _, _ => 0
  | fuel + 1, d, n =>
    (d.mo n).gear.layers.foldl (fun k y =>
      max k (if y.ms.m.remote.isSome then 0 else if 32 ≤ y.ms.m.index || y.ms.m.fb then 1 else Dev.gearDepth fuel d y.ms.m.index + 1)) 0

/-! ### Changes of the gearing -/

/-- GEAR_STATUS.state of axis `n` becomes `k` (R275). -/
def Dev.gearTo (d : Dev) (n k : Nat) : Dev :=
  if (d.mo n).gear.state = k then d
  else (d.modMo n (fun m => { m with gear := { m.gear with state := k } })).raiseAx n 11

/-- The commands that wait for the blends of axis `n` complete. -/
def Dev.gearCmds (d : Dev) (n status : Nat) : Dev :=
  let cmds := (d.mo n).gear.layers.filterMap (·.cmd)
  let d := d.modMo n (fun m => { m with gear := { m.gear with layers := m.gear.layers.map (fun y => { y with cmd := none }) } })
  d.doneAll cmds status [(24, 1, (d.mo n).gear.state)]

/-- The gearing of axis `n` ends; its waiting commands complete with `status`. -/
def Dev.gearOff (d : Dev) (n status k : Nat) : Dev :=
  if (d.mo n).gear.layers.isEmpty then (if k = 0 && (d.mo n).gear.state != 5 && (d.mo n).gear.state != 4 then d.gearTo n 0 else d)
  else
    let d := d.gearCmds n status
    let d := d.modMo n (fun m => { m with gear := { m.gear with layers := [] } })
    d.gearTo n k

/-- Axis `n` is no longer a member of its load-share group, without a fade: the home drops it. -/
def Dev.lsDrop (d : Dev) (n : Nat) : Dev :=
  match (d.mo n).ls with
  | none => d
  | some l =>
    let d := d.modMo n (fun m => { m with ls := none })
    if l.localHome then
      d.each (List.range 8) (fun d i =>
        let w := d.rd (A.LS_GRP_MEM l.group i)
        if bit 7 w && field 5 0 w == d.node && field 12 8 w == n then d.wb (A.LS_GRP_STATUS l.group) i false else d)
    else d

/-! ### A tick of one generator, and the stop ramp -/

/-- A generator's record is taken; a position outside ±2⁴⁷ counts, where the rule gives none, is a free value (notes/assumptions/1.md). -/
def Dev.takeGen (d : Dev) (n : Nat) (m : AxMot) : Dev :=
  if -(2 ^ 63) ≤ m.p ∧ m.p < 2 ^ 63 then d.setMo n m
  else let x := d.fresh; x.2.setMo n { m with p := toSigned 64 (x.1 % 2 ^ 64) }

/-- The generator of axis `n` is evaluated at time `t`; what its source's end brings is flagged (R250, R252). -/
def Dev.evalGen (d : Dev) (n t : Nat) : Dev :=
  let g := d.genAt n t
  let d := d.takeGen n g.1
  let bad (d : Dev) (r : Nat) : Dev := (d.setFld (A.PROF_STATUS n) 23 16 r).profFlag n 8
  match g.2 with
  | .none => d
  | .rest done => if done then d.profFlag n 4 else d
  | .underrun => d.profFlag n 6
  | .badKnot r => bad d r
  | .badStop r => if r = 0 then d else bad d r

/-- The base source of axis `n` is a stop ramp that nothing lies over. -/
def Dev.onRamp (d : Dev) (n : Nat) : Bool :=
  (d.mo n).gear.layers.isEmpty && (match (d.mo n).src with | .ramp _ => true | _ => false)

/-- STOP_RAMP_START (R244): the group of axis `n`, in MOVE, starts its stop ramps at time `t` and goes to STOPPING; what the
commands of a gearing then end with is `status`, and the gear state that follows `k`.  A stream that has run out by then is on its ramp
already (R254). -/
def Dev.startRamp (d : Dev) (n t cause : Nat) (status : Nat := Code.done) (k : Nat := 0) : Dev :=
  if (d.ax n).state ≠ .move then d
  else
    let d := d.each (d.members n) (fun d m =>
      let d := d.evalGen m t
      let d := if d.onRamp m then d else d.modMo m (fun g => { g with src := .ramp (d.rampFrom m t g.p g.v g.a) })
      (d.gearOff m status k).lsDrop m)
    d.setState n .stopping cause

/-! ### Re-reference -/

/-- The knots of a run are shifted. -/
def KnotRun.shifted (k : KnotRun) (x : Int) : KnotRun := { k with shift := k.shift + x }

/-- A plan is shifted. -/
def Plan.shifted (q : Plan) (x : Int) : Plan := { q with p0 := q.p0 + x, goal := q.goal.map (· + x) }

/-- A source is shifted. -/
def Src.shifted (s : Src) (x : Int) : Src :=
  match s with
  | .off => .off | .hold => .hold | .share => .share
  | .table k => .table (k.shifted x) | .stream k => .stream (k.shifted x)
  | .move q => .move (q.shifted x) | .vel q => .vel (q.shifted x) | .ramp q => .ramp (q.shifted x) | .catchUp q => .catchUp (q.shifted x)

/-- A re-reference of axis `n` by `delta` counts (08 R224, 09 R259): its reference and hold position, and the delivered position
with them, are shifted in HOLD, MOVE and STOPPING; every slave geared to it goes on in the frame it was engaged in. -/
def Dev.shiftRef (d : Dev) (n : Nat) (delta : Int) : Dev :=
  let x := delta * pUnit
  let st := (d.ax n).state
  let d := if st == .hold || st == .move || st == .stopping then
      let d := d.modWav n (fun w => { w with base := w.base + x, refBase := w.refBase + x })
      d.modMo n (fun m => { m with p := m.p + x, hold := m.hold + x, src := m.src.shifted x, gear := { m.gear with layers := m.gear.layers.map (fun y => { y with p := y.p + x, law := { y.law with s0 := y.law.s0 + x } }) } })
    else d
  let d := d.each d.axisList (fun d s =>
    d.modMo s (fun m => { m with gear := { m.gear with layers := m.gear.layers.map (fun y => if y.ms.m.remote.isNone && y.ms.m.index == n then { y with ms := { y.ms with delta := y.ms.delta + x } } else y) } }))
  d.each (List.range 16) (fun d i =>
    let w := d.rd (A.GEAR_PUB_CFG i)
    if bit 7 w && field 5 0 w == n then
      d.modMot (fun q => { q with pubDelta := AList.put q.pubDelta i (AList.get 0 q.pubDelta i + x) })
    else d)

/-! ### Load share (R271) -/

/-- The torque request of axis `n` last committed (04 R113, destination 0x05). -/
def Dev.torqueRequest (d : Dev) (n : Nat) : F32 :=
  match d.dstIndex (d.activeBank n) (d.memberIndex n) 5 with
  | some i => (d.ax (d.lead n)).uCommitted.getD i 0
  | none => 0

/-- The active members of group `g` homed here: (torque request, weight). -/
def Dev.lsActive (d : Dev) (g : Nat) : List (F32 × Int) :=
  (List.range 8).filterMap (fun i =>
    let w := d.rd (A.LS_GRP_MEM g i)
    if bit i (d.rd (A.LS_GRP_STATUS g)) then
      (if field 5 0 w = d.node then
        match (d.mo (field 12 8 w)).ls with
        | some l => some (d.torqueRequest (field 12 8 w), l.weight)
        | none => none
      else
        let r := AList.get {} d.mot.remotes (8 * g + i)
        some (r.torque, r.weight))
    else none)

/-- The total T of a group and the sum of the weights' magnitudes. -/
def Dev.lsTotal (d : Dev) (g : Nat) : Rat × Int :=
  let l := d.lsActive g
  ((l.map (fun x => f32Val x.1)).foldl (· + ·) 0, (l.map (fun x => (x.2.natAbs : Int))).foldl (· + ·) 0)

/-- The share of a member: wᵢ × T / Σ|wⱼ| (R271, R272). -/
def Dev.shareOf (d : Dev) (l : LsMember) : Rat :=
  if l.localHome then
    let t := d.lsTotal l.group
    ratDiv (l.weight * t.1) t.2
  else ratDiv (mkRat l.weight 4096 * f32Val l.total) (f32Val l.sum)

/-- A fade in progress gives this share at time `t` (R273). -/
def Dev.fadeShare (d : Dev) (g start : Nat) (from_ : Rat) (t : Nat) : Rat :=
  let len : Nat := d.fld (A.LS_GRP_CFG g) 15 8 * 1000000
  let e := t - start
  if len ≤ e then 0 else from_ * (1 - mkRat e len)

/-- The share of axis `n` at a tick, and the totals of the groups homed here. -/
def Dev.lsTick (d : Dev) (t : Nat) : Dev :=
  let d := d.each (List.range 8) (fun d g =>
    if d.rb (A.LS_GRP_CFG g) 0 then d.wr (A.LS_GRP_TOTAL g) (f32Of (d.lsTotal g).1) else d)
  d.each d.axisList (fun d n =>
    match (d.mo n).ls with
    | none => d
    | some l =>
      let s := match l.fade with | some (st, x) => d.fadeShare l.group st x t | none => d.shareOf l
      d.modMo n (fun m => { m with ls := some { l with share := s } }))

/-! ### One tick of every generator -/

/-- What a stream's buffer does at a tick: PROF_STREAM_RP follows the current segment (R251); stream_low at each crossing below 4 frame periods (R252). -/
def Dev.streamLow (d : Dev) (n t : Nat) : Dev :=
  match (d.mo n).src with
  | .stream k =>
    let d := d.setFld (A.PROF_STREAM_RP n) 10 0 k.cur
    let low := decide (d.ahead n (t - k.t0) < 4 * d.framePeriod)
    let was := (d.mo n).low
    let d := d.modMo n (fun m => { m with low })
    if low && !was then d.profFlag n 5 else d
  | _ => d.modMo n (fun m => { m with low := false })

/-- The group of axis `n` is at rest: every member's generator holds, with nothing above its base source. -/
def Dev.groupRests (d : Dev) (n : Nat) : Bool :=
  (d.members n).all (fun m => (d.mo m).src == .hold && (d.mo m).gear.layers.isEmpty)

/-- One evaluation of the generator of axis `n` at time `t`, with what its source's end brings (R242, R250); where a stream ends in a stop
ramp every member of the group stops (R252). -/
def Dev.genStep (d : Dev) (n t : Nat) : Dev :=
  let st := (d.ax n).state
  let was := (d.mo n).src
  let d := d.evalGen n t
  let stream : Bool := match was with | .stream _ => true | _ => false
  let d := if stream && d.onRamp n then d.startRamp n t 2 else d
  let takeover : Bool := match was with | .catchUp _ => (d.mo n).src == .hold | _ => false
  let d := if takeover then (d.modWav n (fun w => { w with takeover := false })).seqTo n 0 else d
  let g := (d.mo n).gear
  let d := match g.layers with
    | y :: _ =>
      if y.law.cam && !y.law.cyclic && y.pure then d.gearTo n (if (d.lawAt n y.law ⟨g.mPos, 0, 0⟩).2 then 6 else 2) else d
    | [] => d
  if st == .hold || st == .move || st == .stopping then d.streamLow n t
  else
    let d := d.modWav n (fun w => { w with base := (d.mo n).p, refBase := (d.mo n).p })
    let status := if d.stoDemanded (stoGroup n) then Code.safetyBlocked else Code.wrongMode
    (d.gearOff n status 0).lsDrop n

/-- The generator's step is what is left of a group that has come to rest: HOLD, and a suspended or lost gear state is kept
(R242, R268). -/
def Dev.restGroup (d : Dev) (n : Nat) : Dev :=
  let st := (d.ax n).state
  if (st == .move || st == .stopping) && d.groupRests n then
    let d := d.each (d.members n) (fun d m =>
      if (d.mo m).gear.suspend then ((d.modMo m (fun x => { x with gear := { x.gear with suspend := false } })).wb (A.GEAR_STATUS m) 13 true).gearTo m 5 else d)
    d.setState n .hold 3
  else d

/-- PULSE_TRAIN_EMIT (R256): M_k against PT_MSTEP, the pulses of the loop period that follows, and what is carried over. -/
def Dev.pulses (d : Dev) (n : Nat) : Dev :=
  if !d.rb (A.PROF_CFG n) 3 then d
  else
    let p := d.delivered n (d.mo n).p
    let num := toSigned 32 (d.rd (A.PT_SCALE_N n)).toNat
    let den := (d.rd (A.PT_SCALE_D n)).toNat
    let ms := toSigned 32 (d.rd (A.PT_MSTEP n)).toNat
    let k : Int := (ratDiv ((p * num : Int) : Rat) ((den : Rat) * (pUnit : Rat)) + mkRat 1 2).floor
    let diff := k - ms
    if diff = 0 then d.modMo n (fun m => { m with carry := 0, ptCount := 0 })
    else
      let up := decide (0 < diff)
      let turn := up != (d.mo n).dirUp
      let ts := if turn then 10 * d.fld (A.PT_CFG n) 25 16 else 0
      let room := (d.loopPeriod - ts) / (20 * d.fld (A.PT_CFG n) 9 0)
      let c := min diff.natAbs room
      let signed : Int := if up then c else -(c : Int)
      let d := d.modMo n (fun m => { m with dirUp := up, carry := diff - signed, ptCount := c, ptSetup := ts })
      let d := d.wr (A.PT_MSTEP n) (BitVec.ofInt 32 (ms + signed))
      let d := if c < diff.natAbs then d.profFlag n 9 else d
      if c = 0 then d else d.emit (.pulses n signed ts)

/-- The codes of feedback and reference as delivered at the present tick (R240, 06 R182, R188, 08 R230). -/
def Dev.deliver09 (d : Dev) (n : Nat) : Dev :=
  let f := d.fb n
  let m := d.mo n
  let s : Rat := d.sigma n
  let origin := d.rd48 (A.FB_ORIGIN_LO n)
  let share := match m.ls with | some l => l.share | none => 0
  let values : List (Nat × F32) := [(0x09, f32Of ((f.tickCount - origin : Int) : Rat)), (0x0A, f32Of f.speed),
    (0x30, f32Of (ofPos (d.delivered n m.p - origin * pUnit))), (0x31, f32Of (s * m.v)), (0x32, f32Of (s * m.a)), (0x33, f32Of (s * share)),
    (0x34, f32Of ((d.wav (d.lead n)).flux * f32Val (d.rd (A.AX_FLUX_NOM n))))]
  d.modAx n (fun c => { c with deliv := values.foldl (fun l x => AList.put l x.1 x.2) c.deliv })

/-- REFERENCE_EVALUATION (R241): virtual masters, then the axes in ascending depth of their chain, then ascending number. -/
def Dev.refTick (d : Dev) (t : Nat) : Dev :=
  let d := d.each [0, 1, 2, 3] (fun d v => d.vmStep v t)
  let order := (List.range 6).flatMap (fun k => d.axisList.filter (fun n => Dev.gearDepth 5 d n == k))
  let d := d.each order (fun d n => d.genStep n t)
  let d := d.each d.axisList Dev.restGroup
  let d := d.lsTick t
  let d := d.each d.axisList Dev.pulses
  d.each d.axisList Dev.deliver09

/-- PROF_AHEAD (R252): the buffered-ahead time of a running stream, 0 otherwise. -/
def Dev.aheadNs (d : Dev) (n : Nat) : Nat :=
  match (d.mo n).src with
  | .stream k => sat 0xFFFFFFFF (d.ahead n ((d.mo n).at_ - k.t0))
  | _ => 0

/-- PROF_STATUS.src (R246). -/
def Dev.profSrc (d : Dev) (n : Nat) : Nat :=
  let m := d.mo n
  match m.gear.layers with
  | y :: _ => if y.law.cam then 7 else 6
  | [] => match m.src with
    | .off => 0 | .hold => 1 | .table _ => 2 | .stream _ => 3 | .move _ => 4 | .vel _ => 5 | .share => 8 | .ramp _ => 9 | .catchUp _ => 10

end Sys2Proof.Machine
end

