-- ==== Sys2Proof/Machine/Feedback.lean ====
section
/-!
DEFINITION. Feedback (08_feedback.md): counting with its limits, re-references, serial encoders, speed, feedback faults, latch and
strobe events, and the feedback commands.  Edges and captures carry timestamps in ns of fabric time.
-/

namespace Sys2Proof.Machine

/-- Something is seen at fabric time `t`: the counter moves on to it, though not past the next tick (notes/assumptions/17.md). -/
def Dev.seenAt (d : Dev) (t : Nat) : Dev :=
  d.advanceTo (min (d.time.edge t) (d.time.edge ((d.sys.tick + 1) * d.loopPeriod)))

/-- A device-level register in force (R218). -/
def Dev.fbReg (d : Dev) (a : Nat) : Word := AList.get (regReset a) d.fbd.cfg a

/-- FB_CFG.src (R221). -/
def Dev.fbSrc (d : Dev) (n : Nat) : Nat := d.fld (A.FB_CFG n) 1 0

/-- Flag `i` of FB_STATUS, with AX_FB (R239). -/
def Dev.fbFlag (d : Dev) (n i : Nat) : Dev := d.flagAx (A.FB_STATUS n) i n 9

/-- The soft limits of axis `n`. -/
def Dev.fbLo (d : Dev) (n : Nat) : Int := d.rd48 (A.FB_LIM_LO_LO n)
/-- The upper soft limit. -/
def Dev.fbHi (d : Dev) (n : Nat) : Int := d.rd48 (A.FB_LIM_HI_LO n)

/-- The feedback fault of an axis in one of the four active states puts it into FAULT (R223, R231). -/
def Dev.fbFaultAxis (d : Dev) (n : Nat) : Dev := if (d.ax n).state.active then d.faultAxis n 32 else d

/-- COUNT_SATURATION (R223): what follows when a count was held at a limit. -/
def Dev.saturated (d : Dev) (n : Nat) (hi : Bool) : Dev :=
  let d := (d.fbFlag n (if hi then 3 else 2)).fbFlag n 1
  if d.rb (A.FB_CFG n) 17 then d.fbFaultAxis n else d

/-- The count of axis `n` goes to `new`, held within the limits, at time `t`; the compare units follow (R223, R232). -/
def Dev.countTo (d : Dev) (n : Nat) (new : Int) (t : Nat) : Dev :=
  let old := (d.fb n).count
  let held := clampI (d.fbLo n) (d.fbHi n) new
  let d := d.modFb n (fun f => { f with count := held })
  let d := d.compare n old held t
  if held < new then d.saturated n true else if new < held then d.saturated n false else d

/-- An update of axis `n`, errored or not (R231). -/
def Dev.fbUpdate (d : Dev) (n : Nat) (errored : Bool) : Dev :=
  let s := A.FB_STATUS n
  if errored then
    let d := d.setFld s 15 12 (sat 15 (d.fld s 15 12 + 1))
    if d.fld (A.FB_CFG n) 23 20 ≤ d.fld s 15 12 then (d.fbFlag n 6).fbFaultAxis n else d
  else (d.setFld s 15 12 0).wb s 6 false

/-! ### Incremental sources -/

/-- The accepting filter's length, in clocks (R220). -/
def Dev.filtN (d : Dev) (n : Nat) : Nat := d.fld (A.FB_CFG n) 13 8

/-- The timestamp of an edge accepted at `at_` (R220). -/
def Dev.edgeStamp (d : Dev) (n at_ : Nat) : Nat := (at_ - (d.filtN n + 1) * 5) / 5 * 5

/-- One counted edge (R221, R223): an edge that leaves the count at a limit counts nothing. -/
def Dev.countEdge (d : Dev) (n : Nat) (up : Bool) (t : Nat) : Dev :=
  let up := up != d.rb (A.FB_CFG n) 2
  let old := (d.fb n).count
  let d := d.countTo n (if up then old + 1 else old - 1) t
  let new := (d.fb n).count
  if new = old then d
  else
    let d := d.wb (A.FB_STATUS n) 8 (!up)
    d.modFb n (fun f => { f with last := some { count := new, t, up }, edges := f.edges + 1,
                                 turned := f.turned || (match f.last with | some e => e.up != up | none => false), lastUp := up })

/-- The place of filtered levels in the quadrature cycle: A leading B counts up. -/
def quadPlace (a b : Bool) : Nat := if a then (if b then 2 else 1) else (if b then 3 else 0)

/-- The filtered level of an input that was `old`, whose ball has held `ball` for `held` clocks (R220). -/
def filtered (n : Nat) (old ball : Bool) (held : Nat) : Bool := if n ≤ held then ball else old

/-- ENCODER_EDGE (R220, R221): in the clock at `at_` the balls of A and B have held the levels `a` and `b` for `ha` and `hb` clocks; what
passes the filter is accepted. -/
def Dev.encoderEdge (d : Dev) (n : Nat) (a b : Bool) (ha hb at_ : Nat) : Dev :=
  if !sdMode d.sys.mode || decide (d.axes ≤ n) then d
  else
    let f := d.fb n
    let a := filtered (d.filtN n) f.a a ha
    let b := filtered (d.filtN n) f.b b hb
    let d := (d.seenAt at_).clockTo n at_
    let t := d.edgeStamp n at_
    let d := d.modFb n (fun f => { f with a, b })
    let src := d.fbSrc n
    if src = 0 then
      if f.a = a ∧ f.b = b then d
      else if f.a ≠ a ∧ f.b ≠ b then
        let d := (d.fbFlag n 4).incSat (A.FB_ERR_COUNT n) 15 0
        d.modFb n (fun f => { f with illNow := true })
      else d.countEdge n ((quadPlace f.a f.b + 1) % 4 == quadPlace a b) t
    else if src = 1 then (if a && !f.a then d.countEdge n f.b t else d)
    else d

/-- Turret's speed channel `c` decodes the balls of its axis on its own path (11 R311, SAF_SPD_CFG): each change of one filtered level
counts, reversed where dir_inv says so; a change of both counts nothing, as in R221. -/
def Dev.speedEdge (d : Dev) (n : Nat) (a b : Bool) (ha hb c : Nat) : Dev :=
  let w := d.rd (A.SAF_SPD_CFG c)
  if !bit 5 w || field 4 0 w != n then d
  else
    let x := AList.get ({} : SpdSt) d.saf.spd c
    let a := filtered (field 13 8 w) x.a a ha
    let b := filtered (field 13 8 w) x.b b hb
    let one : Int := if (x.a != a) == (x.b != b) then 0
      else if ((quadPlace x.a x.b + 1) % 4 == quadPlace a b) != bit 6 w then 1 else -1
    d.modSaf (fun q => { q with spd := AList.put q.spd c { a, b, pos := x.pos + one } })

/-- Keep counts every change of the balls' levels of its overspeed channel's axis (11 R311, SAF_KEEP_OS). -/
def Dev.keepEdge (d : Dev) (n : Nat) (a b : Bool) (g : Nat) : Dev :=
  let w := d.rd (A.SAF_KEEP_OS g)
  if !bit 5 w || field 4 0 w != n then d
  else d.modSg g (fun x => { x with keepA := a, keepB := b, keepEdges := x.keepEdges + b2n (x.keepA != a) + b2n (x.keepB != b) })

/-- An edge as the safety channels count it, whatever FB_CFG of the axis holds (11 R311). -/
def Dev.safetyEdge (d : Dev) (n : Nat) (a b : Bool) (ha hb : Nat) : Dev :=
  (d.each (List.range 8) (fun d c => d.speedEdge n a b ha hb c)).each [0, 1, 2, 3] (fun d g => d.keepEdge n a b g)

/-- ENCODER_EDGE. -/
def execEncoderEdge (n : Nat) (a b : HeldLevel) (at_ : Nat) (s : State) : Host.Outcome State Fault Refusal :=
  s.perform (fun d => (d.encoderEdge n a.level b.level a.held b.held at_).safetyEdge n a.level b.level a.held b.held)

/-- What repeater port `p` drives to ENCOp_A, ENCOp_B and ENCOp_Z (R237): the filtered levels of its source axis, low while it is
disabled. -/
def Dev.repeater (d : Dev) (p : Nat) : Bool × Bool × Bool :=
  let w := d.fbReg (A.FB_REP_CFG p)
  let f := d.fb (field 4 0 w)
  if !bit 5 w then (false, false, false)
  else (if bit 6 w then f.b else f.a, if bit 6 w then f.a else f.b, f.z != bit 7 w)

/-! ### Re-reference (R224) -/

/-- The counts a speed is taken from move with a re-reference (notes/assumptions/18.md). -/
def AxFb.shifted (f : AxFb) (x : Int) : AxFb :=
  { f with last := f.last.map (fun e => { e with count := e.count + x }), prev := f.prev.map (fun e => { e with count := e.count + x })
           tickCount := f.tickCount + x, ser1 := f.ser1.map (fun m => { m with count := m.count + x })
           ser0 := f.ser0.map (fun m => { m with count := m.count + x }) }

/-- A re-reference of axis `n` to `new` at time `t` (R224): Δ on the count written, lost cleared and then set again by a saturation,
the reference shifted. -/
def Dev.reref (d : Dev) (n : Nat) (new : Int) (t : Nat) : Dev :=
  let old := (d.fb n).count
  let d := d.wb (A.FB_STATUS n) 1 false
  let d := d.countTo n new t
  let delta := (d.fb n).count - old
  let d := d.wr48 (A.FB_REF_DELTA_LO n) delta
  let d := d.modFb n (fun f => f.shifted delta)
  (d.fbFlag n 7).shiftRef n delta

/-- The index load of a rising edge of Z at `t` (R224), where z_mode and z_gate ask for it. -/
def Dev.zLoad (d : Dev) (n t : Nat) : Dev :=
  let cfg := d.rd (A.FB_CFG n)
  let z := field 15 14 cfg
  let f := d.fb n
  if (z = 1 ∨ z = 2) ∧ field 1 0 cfg ≠ 3 ∧ (!bit 16 cfg || (f.a && f.b)) then
    let d := d.reref n (d.rd48 (A.FB_REF_VAL_LO n)) t
    if z = 1 then d.setFld (A.FB_CFG n) 15 14 0 else d
  else d

/-- The ball of Z of axis `n` has held the level `z` for `held` clocks in the clock at `at_`: an accepted edge is an event of latch source
`n` (R234) and, when it rises, an index load after it (R224; notes/assumptions/158.md). -/
def Dev.zEdge (d : Dev) (n : Nat) (z : Bool) (held at_ : Nat) : Dev :=
  if !sdMode d.sys.mode || decide (d.axes ≤ n) || decide (held < d.filtN n) || (d.fb n).z == z then d
  else
    let t := d.edgeStamp n at_
    let d := ((d.seenAt at_).clockTo n at_).modFb n (fun f => { f with z })
    let d := d.source n z t
    if z then d.zLoad n t else d

/-- INDEX_LOAD (R224): a rising edge of Z. -/
def execIndexLoad (n : Nat) (x : HeldAt) (s : State) : Host.Outcome State Fault Refusal :=
  s.perform (fun d => d.zEdge n true x.held x.at_)

/-! ### Serial encoders (R225 to R228) -/

/-- The axis a serial port feeds. -/
def Dev.serAxis (d : Dev) (c : Nat) : Option Nat :=
  d.axisList.find? (fun n => d.fbSrc n == 2 && d.fld (A.FB_CFG n) 6 4 == c)

/-- Flag `i` of FB_SER_STATUS. -/
def Dev.serFlag (d : Dev) (c i : Nat) : Dev := d.wb (A.FB_SER_STATUS c) i true

/-- FB_SER_CFG, FB_SER_TIMING and FB_SER_LEAD of port `c` in force. -/
def Dev.serCfg (d : Dev) (c : Nat) : Word := d.fbReg (A.FB_SER_CFG c)
/-- FB_SER_TIMING. -/
def Dev.serTiming (d : Dev) (c : Nat) : Word := d.fbReg (A.FB_SER_TIMING c)
/-- The lead in ns as configured. -/
def Dev.serLeadSet (d : Dev) (c : Nat) : Nat := 10 * field 15 0 (d.fbReg (A.FB_SER_LEAD c))

/-- The lead in ns before the tick, limited to the loop period less 500 ns (R226). -/
def Dev.serLead (d : Dev) (c : Nat) : Nat := min (d.serLeadSet c) (d.loopPeriod - 500)

/-- lead_clip goes to 1 on a port (R226, R239). -/
def Dev.serClip (d : Dev) (c : Nat) : Dev :=
  if d.serLeadSet c ≤ d.loopPeriod - 500 || d.rb (A.FB_SER_STATUS c) 19 then d
  else
    let d := d.serFlag c 19
    match d.serAxis c with | some n => d.raiseAx n 9 | none => d

/-- Port `c` runs, and a frame belongs to loop tick `k` (R226). -/
def Dev.serDue (d : Dev) (c k : Nat) : Bool :=
  sdMode d.sys.mode && bit 2 (d.serCfg c) && decide (c < 8) && k % 2 ^ field 15 14 (d.serTiming c) == 0

/-- The record of a serial port. -/
def Dev.serPort (d : Dev) (c : Nat) : SerPort := AList.get {} d.fbd.ports c

/-- SERIAL_FRAME_START (R226): the frame that belongs to the next tick starts; the encoder latches. -/
def Dev.serialStart (d : Dev) (c : Nat) (busy : Bool) : Dev :=
  let k := d.sys.tick + 1
  if !d.serDue c k || (d.serPort c).latch.isSome || (d.serPort c).served == k then d
  else
    let t := k * d.loopPeriod - d.serLead c
    let d := (d.seenAt t).serClip c
    let d := if busy && field 1 0 (d.serCfg c) == 1 then d.serFlag c 12 else d
    d.modFbd (fun f => { f with ports := AList.put f.ports c { d.serPort c with latch := some t, busy } })

/-- SERIAL_FRAME_START. -/
def execSerialFrameStart (c : Nat) (busy : Bool) (s : State) : Host.Outcome State Fault Refusal := s.perform (fun d => d.serialStart c busy)

/-- The level of a data line `t` ns after the first clock edge of its frame: high before its first change. -/
def lineAt (line : List (Nat × Bool)) (t : Rat) : Bool := line.foldl (fun b x => if (x.1 : Rat) ≤ t then x.2 else b) true

/-- Bits, the first the most significant, as a number. -/
def bitsNat (l : List Bool) : Nat := l.foldl (fun m b => 2 * m + b2n b) 0

/-- The 6-bit CRC of BiSS-C (R225): x⁶ + x + 1, over the data bits, nE and nW (notes/assumptions/159.md). -/
def crc6 (l : List Bool) : Nat := l.foldl (fun c b => Nat.xor (2 * c % 64) (if decide (32 ≤ c) != b then 3 else 0)) 0

/-- The clock period of a port in ns. -/
def serClock (timing : Word) : Rat := mkRat 1000000 (field 13 0 timing)

/-- What SSI samples (R225, R226): bit i at the rising clock edge that ends its bit time plus ssi_dly; the first clock only latches
(notes/assumptions/159.md). -/
def ssiFrame (cfg timing : Word) (line : List (Nat × Bool)) : SerFrame :=
  let tc := serClock timing
  let b := field 13 8 cfg
  let s := field 18 16 cfg
  let at_ (i : Nat) : Bool := lineAt line (tc * (i + 1) + tc / 2 + (5 * field 23 16 timing : Nat))
  let bits := (List.range (b + s)).map at_
  let par := bits.foldl (fun p x => p != x) (at_ (b + s))
  { data := bitsNat (bits.take b), status := maskOf ((List.range s).filter (fun i => at_ (b + i))), crcOk := !(bit 4 cfg && par)
    time := (tc * (b + s + b2n (bit 4 cfg) + 1 : Nat)).ceil.toNat }

/-- What BiSS-C samples (R225, R226): t_ld from the clock edge before the acknowledge to its falling edge, every later bit at its clock
edge plus t_ld; the start bit must come within 64 clocks (R228); nE and nW are active low (notes/assumptions/159.md). -/
def bissFrame (cfg timing : Word) (line : List (Nat × Bool)) : SerFrame :=
  let tc := serClock timing
  let b := field 13 8 cfg
  match line.find? (fun x => !x.2) with
  | none => { start := false, time := (tc * 64).ceil.toNat }
  | some a =>
    let k := ((a.1 : Rat) / tc).floor.toNat
    let ld := (((a.1 : Rat) - tc * k) / 5).ceil.toNat
    let at_ (j : Nat) : Bool := lineAt line (tc * (k + j : Nat) + (5 * ld : Nat))
    match ((List.range 64).map (· + 1)).find? at_ with
    | none => { ld, start := false, time := (tc * (k + 64 : Nat) + (5 * ld : Nat)).ceil.toNat }
    | some j =>
      let bits := (List.range (b + 2)).map (fun i => at_ (j + 2 + i))
      let crc := (List.range 6).map (fun i => at_ (j + 4 + b + i))
      { ld, data := bitsNat (bits.take b), crcOk := bitsNat crc + crc6 bits == 63, nE := !bits.getD b true, nW := !bits.getD (b + 1) true
        time := (tc * (k + j + b + 10 : Nat) + (5 * ld : Nat)).ceil.toNat }

/-- An errored frame (R228). -/
def Dev.serialError (d : Dev) (c : Nat) : Dev :=
  match d.serAxis c with
  | none => d
  | some n => ((d.fbFlag n 5).incSat (A.FB_ERR_COUNT n) 31 16).fbUpdate n true

/-- The binary number of a Gray-coded one of `b` bits. -/
def grayToBin : Nat → Nat → Nat
  | 0, _ => 0
  | b + 1, g => let hi := grayToBin b (g / 2); 2 * hi + (g + hi) % 2

/-- x brought into [−2^(b−1), 2^(b−1)) (R227). -/
def wrapBits (b : Nat) (x : Int) : Int := (x + 2 ^ (b - 1)) % 2 ^ b - 2 ^ (b - 1)

/-- A good frame with data word `p` latched at `t` (R227, R230). -/
def Dev.serialGood (d : Dev) (n c p t : Nat) : Dev :=
  let b := field 13 8 (d.serCfg c)
  let s : Int := if d.rb (A.FB_CFG n) 2 then -1 else 1
  let f := d.fb n
  let first := f.pPrev.isNone
  let ret := d.rb (A.FB_STATUS n) 9
  let new := match f.pPrev with
    | some q => f.count + s * wrapBits b ((p : Int) - q)
    | none =>
      if ret then f.count + wrapBits b (s * p - f.count % 2 ^ b)
      else d.rd48 (A.FB_REF_VAL_LO n) + s * p
  let old := f.count
  let d := d.countTo n new t
  let d := if first && !ret && !f.refSet then d.fbFlag n 1 else d
  let count := (d.fb n).count
  let mark : SerMark := { count, t }
  let v : Rat := match (if first then none else f.ser1) with
    | some m => ratDiv ((count - m.count : Int) : Rat) (mkRat ((t : Int) - m.t) 1000000000)
    | none => 0
  let d := if count = old then d else d.wb (A.FB_STATUS n) 8 (decide (count < old))
  let d := d.modFb n (fun f => { f with pPrev := some p, ser1 := some mark, ser0 := f.ser1, speed := v })
  (d.wb (A.FB_STATUS n) 0 true).fbUpdate n false

/-- The frame of port `c` that belongs to tick `k` has ended. -/
def Dev.serEnd (d : Dev) (c k : Nat) : Dev := d.modFbd (fun x => { x with ports := AList.put x.ports c { served := k } })

/-- A frame that has completed is judged and decoded (R227, R228). -/
def Dev.serialJudge (d : Dev) (c t : Nat) (busy : Bool) (f : SerFrame) : Dev :=
  let cfg := d.serCfg c
  let biss := field 1 0 cfg == 1
  let d := if biss then d.setFld (A.FB_SER_STATUS c) 11 0 f.ld else d
  if biss && busy then d.serialError c
  else if !f.start then (d.serFlag c 13).serialError c
  else
    let d := d.wr64 (A.FB_SER_RAW_LO c) f.data
    let st := !biss && (List.range (field 18 16 cfg)).any (fun i => bit (20 + i) cfg && (nbit i f.status == bit (24 + i) cfg))
    let d := if f.crcOk then d else d.serFlag c 14
    let d := if f.nE then d.serFlag c 15 else d
    let d := if f.nW then d.serFlag c 16 else d
    let d := if st then d.serFlag c 17 else d
    if !f.crcOk || f.nE || st then d.serialError c
    else match d.serAxis c with
      | none => d
      | some n => d.serialGood n c (if bit 3 cfg then grayToBin (field 13 8 cfg) f.data else f.data) t

/-- SERIAL_FRAME (R225 to R228): the data line of the frame in progress, its changes in ns from the first clock edge.  A frame that would
complete after its tick is not over, and late there. -/
def Dev.serialFrame (d : Dev) (c : Nat) (line : List (Nat × Bool)) : Dev :=
  match (d.serPort c).latch with
  | none => d
  | some t =>
    let k := d.sys.tick + 1
    let cfg := d.serCfg c
    let f := if field 1 0 cfg = 1 then bissFrame cfg (d.serTiming c) line else ssiFrame cfg (d.serTiming c) line
    if k * d.loopPeriod < t + f.time then d
    else
      let busy := (d.serPort c).busy
      let d := (d.seenAt (t + f.time)).serEnd c k
      let d := match d.serAxis c with | some n => d.clockTo n (t + f.time) | none => d
      d.serialJudge c t busy f

/-- SERIAL_FRAME. -/
def execSerialFrame (c : Nat) (line : List (Nat × Bool)) (s : State) : Host.Outcome State Fault Refusal :=
  s.perform (fun d => d.serialFrame c line)

/-- A frame that has not completed by its tick is late (R228), also one whose start no row has shown, unless ticks were passed over. -/
def Dev.serialLate (d : Dev) : Dev :=
  let k := d.sys.tick
  let d := d.each (List.range 8) (fun d c =>
    let p := d.serPort c
    if p.latch.isSome || (d.serDue c k && p.served != k && d.fbd.lastTick + 1 == k) then
      let d := if p.latch.isNone then d.serClip c else d
      ((d.serEnd c k).serFlag c 18).serialError c
    else d)
  d.modFbd (fun f => { f with lastTick := k })

/-- The count of axis `n` starts anew from its source (R227, R229): the next valid frame is the first, and no edge has been counted. -/
def Dev.fbRestart (d : Dev) (n : Nat) : Dev :=
  (d.modFb n (fun f => { f with
    pPrev := none, ser1 := none, ser0 := none, last := none, prev := none, edges := 0, turned := false, speed := 0 })).wb (A.FB_STATUS n) 0 false

/-- A port starts at a frame tick at `t` (R218, R227): the next valid frame is the first, and the first frame belongs to a later tick. -/
def Dev.serialPortStart (d : Dev) (c t : Nat) : Dev :=
  let d := d.serEnd c (t / d.loopPeriod)
  match d.serAxis c with
  | none => d
  | some n => d.fbRestart n

/-- The device-level registers written take effect at the frame tick at `t` (R218). -/
def Dev.fbLatch (d : Dev) (t : Nat) : Dev :=
  let keys := (List.range 8).flatMap (fun c => [A.FB_SER_CFG c, A.FB_SER_TIMING c, A.FB_SER_LEAD c, A.FB_LTCH_CFG c]) ++ (List.range 4).map A.FB_REP_CFG
  let starts := (List.range 8).filter (fun c => d.rb (A.FB_SER_CFG c) 2 && !bit 2 (d.serCfg c))
  let d := (keys.filter (fun a => d.rd a != d.fbReg a)).foldl (fun d a => d.modFbd (fun f => { f with cfg := AList.put f.cfg a (d.rd a) })) d
  d.each starts (fun d c => d.serialPortStart c t)

/-! ### A tick (R222, R229 to R231) -/

/-- The speed of an incremental source at a tick at time `t`, `dt` ns after the last (R229). -/
def Dev.tickSpeed (d : Dev) (n t : Nat) : Rat :=
  let f := d.fb n
  let quiet := d.fld (A.FB_CFG n) 31 24 * 1000000
  match f.last with
  | none => 0
  | some e =>
    if f.edges ≠ 0 then
      let whole : Rat := ratDiv ((f.count - f.tickCount : Int) : Rat) (mkRat ((t : Int) - f.tickAt) 1000000000)
      match f.prev with
      | some e' => if f.turned || decide (e.t = e'.t) then whole else ratDiv ((e.count - e'.count : Int) : Rat) (mkRat (e.t - e'.t) 1000000000)
      | none => whole
    else if (quiet : Int) ≤ (t : Int) - e.t then 0
    else
      let lim := ratDiv 1000000000 ((t : Rat) - (e.t : Rat))
      let m := min (ratAbs f.speed) lim
      if e.up then m else -m

/-- S0 of feedback at a tick at time `t`. -/
def Dev.fbTick (d : Dev) (n t : Nat) : Dev :=
  let d := d.clockTo n t
  let src := d.fbSrc n
  let v := if src = 2 then (d.fb n).speed else if src = 3 then 0 else d.tickSpeed n t
  let d := d.modFb n (fun f => { f with speed := v, prev := f.last, turned := false, edges := 0, tickAt := t })
  let d := d.modFb n (fun f => { f with tickCount := d.tickCountAt n t })
  let d := d.wr (A.FB_SPEED n) (f32Of v)
  let d := if src = 3 then d.wb (A.FB_STATUS n) 0 false else if src = 2 then d else d.wb (A.FB_STATUS n) 0 true
  if src = 0 ∨ src = 1 then
    let ill := (d.fb n).illNow
    (d.modFb n (fun f => { f with illNow := false })).fbUpdate n ill
  else d

/-- S0 of feedback of every axis. -/
def Dev.fbTicks (d : Dev) (t : Nat) : Dev := d.serialLate.each d.axisList (fun d n => d.fbTick n t)

/-! ### Latches and the strobe (R234 to R236) -/

/-- LATCH_CAPTURE (R234, R235): an edge of latch source `src`, which its ball has held for `held` clocks at the clock at `at_`: Z by its
filter, a field channel less the transfer delay of the Drum die, LTCH by its own filter and polarity, each at its resolution. -/
def Dev.latchEvent (d : Dev) (src : Nat) (rising : Bool) (held at_ : Nat) : Dev :=
  if src < 32 then d.zEdge src rising held at_
  else if !sdMode d.sys.mode || decide (56 ≤ src) then d
  else
    let cfg := d.fbReg (A.FB_LTCH_CFG (src - 48))
    let n := field 5 0 cfg
    if 48 ≤ src ∧ held < n then d
    else
      let d := (d.seenAt at_).each d.axisList (fun d m => d.clockTo m at_)
      if src < 48 then d.source src rising ((at_ - Config.drumDelay) / 16 * 16)
      else d.source src (rising != bit 6 cfg) ((at_ - (n + 1) * 5) / 5 * 5)

/-- LATCH_CAPTURE. -/
def execLatchCapture (src : Nat) (rising : Bool) (x : HeldAt) (s : State) : Host.Outcome State Fault Refusal :=
  s.perform (fun d => d.latchEvent src rising x.held x.at_)

/-- The strobe fires in the present clock (R236): the units of source 56 capture at its fabric time. -/
def Dev.strobeFire (d : Dev) (stepped : Bool) : Dev :=
  match d.fbd.strobe with
  | none => d
  | some x =>
    let t := d.now
    let d := d.modFbd (fun f => { f with strobe := none })
    let d := ((d.wb A.FB_SYNC_STATUS 0 false).wb A.FB_SYNC_STATUS 1 true).wb A.FB_SYNC_STATUS 2 stepped
    let d := d.source 56 true t stepped
    d.complete x.cmd Code.done t (resultOf [(16, 8, t)])

/-- SYNC_STROBE (R236): fabric time reaches T. -/
def Dev.syncStrobe (d : Dev) : Dev :=
  match d.fbd.strobe with
  | none => d
  | some x => let d := d.seenAt x.t; if x.t ≤ d.now then d.strobeFire false else d

/-- SYNC_STROBE. -/
def execSyncStrobe (s : State) : Host.Outcome State Fault Refusal := s.perform Dev.syncStrobe

/-! ### Commands (R238) -/

/-- The mode and source conditions of FB_SET. -/
def Dev.fbSetCheck (d : Dev) (h : Hdr) : Verdict :=
  if d.sys.mode = .degraded || (maskList 32 h.mask).any (fun n => d.fbSrc n == 3) then some (Code.wrongMode, []) else none

/-- The lowest axis of a mask. -/
def lowest (mask : Nat) : Nat := (maskList 32 mask).headD 0

/-- FB_SET at its frame tick. -/
def Dev.fbSet (d : Dev) (h : Hdr) (add : Bool) (value : Int) : Dev :=
  match d.fbSetCheck h with
  | some v => d.doneAt h v.1 v.2
  | none =>
    let d := d.each (maskList 32 h.mask) (fun d n => (d.clockTo n d.sys.lastFrame).reref n (if add then (d.fb n).count + value else value) d.sys.lastFrame)
    let n := lowest h.mask
    d.doneAt h Code.done (if h.mask = 0 then [] else [(16, 6, ofSigned 48 (d.rd48 (A.FB_REF_DELTA_LO n))), (24, 6, ofSigned 48 (d.fb n).count)])

/-- FB_SET (R224, R238). -/
def execFbSet (h : Hdr) (add : Bool) (value : Int) (s : State) : Host.Outcome State Fault Refusal :=
  s.perform (fun d => d.command 0x020C h (fun d => d.fbSet h add value))

/-- The parameters of FB_CMP_ARM. -/
structure CmpArm where
  unit : Nat
  disarm : Bool
  base : Int
  step : Word
  pre : Nat
  post : Nat
  hits : Nat
  src : Nat
  check : Bool
  fall : Bool
  deriving DecidableEq, Repr

/-- FB_CMP_ARM from the bytes of its entry. -/
def cmpArmOf (b : List Byte) : CmpArm :=
  { unit := byteAt b 16 % 128, disarm := 128 ≤ byteAt b 16, base := toSigned 48 (leAt b 20 6), step := BitVec.ofNat 32 (leAt b 28 4)
    pre := leAt b 32 2, post := leAt b 34 2, hits := leAt b 36 2, src := byteAt b 38, check := nbit 0 (byteAt b 39), fall := nbit 1 (byteAt b 39) }

/-- A check window must be shorter than the step (R233). -/
def winOk (step : Word) (pre post : Nat) : Bool := decide (pre + post < (toSigned 32 step.toNat).natAbs)

/-- A reserved encoding of FB_CMP_ARM. -/
def cmpArmReserved (b : List Byte) : Bool :=
  let p := cmpArmOf b
  decide (1 < p.unit) || (!p.disarm && (p.step == 0 || !winOk p.step p.pre p.post || decide (63 < p.src) || decide (3 < byteAt b 39)))

/-- FB_CMP_ARM's conditions. -/
def Dev.cmpArmCheck (_d : Dev) (b : List Byte) : Verdict := if cmpArmReserved b then some (Code.wrongMode, []) else none

/-- FB_CMP_ARM at its frame tick. -/
def Dev.cmpArm (d : Dev) (h : Hdr) (b : List Byte) : Dev :=
  match d.cmpArmCheck b with
  | some v => d.doneAt h v.1 v.2
  | none =>
    let p := cmpArmOf b
    let u := p.unit
    let hits := d.fld (A.FB_CMP_STATUS (lowest h.mask) u) 15 0
    let d := d.each (maskList 32 h.mask) (fun d n =>
      let d := d.modFb n (fun f => f.setWins u [])
      if p.disarm then d.wb (A.FB_CMP_CTRL n u) 0 false
      else
        let d := d.wr48 (A.FB_CMP_BASE_LO n u) p.base
        let d := (d.wr (A.FB_CMP_STEP n u) p.step).wr (A.FB_CMP_WIN n u) (BitVec.ofNat 32 (p.pre + 65536 * p.post))
        d.wr (A.FB_CMP_CTRL n u) (BitVec.ofNat 32 (1 + 2 * b2n p.check + 4 * p.src + 256 * b2n p.fall + 65536 * p.hits)))
    d.doneAt h Code.done [(16, 2, hits)]

/-- FB_CMP_ARM (R238). -/
def execFbCmpArm (h : Hdr) (b : List Byte) (s : State) : Host.Outcome State Fault Refusal :=
  s.perform (fun d => d.command 0x020D h (fun d => d.cmpArm h b))

/-- FB_LATCH_ARM's conditions. -/
def Dev.latchArmCheck (_d : Dev) (unit src bits : Nat) : Verdict :=
  if 3 < unit || 63 < src || 7 < bits || bits / 2 % 4 = 3 then some (Code.wrongMode, []) else none

/-- Latch unit `u` of axis `n` is armed. -/
def Dev.armLatch (d : Dev) (n u src mode edge : Nat) : Dev :=
  d.wr (A.FB_LAT_CTRL n u) (BitVec.ofNat 32 (1 + 2 * mode + 4 * src + 256 * edge + 1024))

/-- FB_LATCH_ARM at its frame tick. -/
def Dev.latchArm (d : Dev) (h : Hdr) (unit src bits : Nat) : Dev :=
  match d.latchArmCheck unit src bits with
  | some v => d.doneAt h v.1 v.2
  | none =>
    let gen := d.fld (A.FB_LAT_GEN (lowest h.mask) unit) 31 16
    let d := d.each (maskList 32 h.mask) (fun d n => d.armLatch n unit src (bits % 2) (bits / 2))
    d.doneAt h Code.done [(16, 2, gen)]

/-- FB_LATCH_ARM (R238). -/
def execFbLatchArm (h : Hdr) (unit src bits : Nat) (s : State) : Host.Outcome State Fault Refusal :=
  s.perform (fun d => d.command 0x020E h (fun d => d.latchArm h unit src bits))

/-- FB_SYNC_LATCH's conditions at acceptance: one strobe at a time (R236). -/
def Dev.syncLatchCheck (d : Dev) : Verdict := if d.fbd.strobe.isSome then some (Code.wrongMode, []) else none

/-- FB_SYNC_LATCH at its frame tick: the strobe is set, or its time is already past. -/
def Dev.syncLatch (d : Dev) (h : Hdr) (t units : Nat) : Dev :=
  match d.syncLatchCheck with
  | some v => d.doneAt h v.1 v.2
  | none =>
    if t ≤ d.now then d.doneAt h Code.timePast
    else
      let d := d.each (maskList 32 h.mask) (fun d n => d.each (maskList 4 units) (fun d u => d.armLatch n u 56 0 0))
      let d := (d.wr64 A.FB_SYNC_T_LO t).wr A.FB_SYNC_STATUS 1
      d.modFbd (fun f => { f with strobe := some { t, cmd := h } })

/-- FB_SYNC_LATCH (R236, R238). -/
def execFbSyncLatch (h : Hdr) (t units : Nat) (s : State) : Host.Outcome State Fault Refusal :=
  s.perform (fun d => d.command 0x020F h (fun d => d.syncLatch h t units))

/-- FB_QUERY. -/
def Dev.fbQuery (d : Dev) (h : Hdr) : Dev :=
  let n := lowest h.mask
  d.doneNow h Code.done (if h.mask = 0 then [] else [(16, 6, ofSigned 48 (d.fb n).count), (24, 4, (d.rd (A.FB_SPEED n)).toNat), (28, 4, (d.rd (A.FB_STATUS n)).toNat)])

/-- FB_QUERY (R238). -/
def execFbQuery (h : Hdr) (s : State) : Host.Outcome State Fault Refusal := s.perform (fun d => d.command 0x0210 h (fun d => d.fbQuery h))

end Sys2Proof.Machine
end

