-- ==== Sys2Proof/Machine/Wave.lean ====
section
/-!
DEFINITION. The modulator: duties of the three legs in SVM, soft six-step and blend, phase advance, injection and winding shorts
(06_waveforms_reversal.md R171 to R181, R186, R503).
-/

namespace Sys2Proof.Machine

/-- A flag of AX_DRIVE_STATUS is set, with its event (R194). -/
def Dev.driveFlag (d : Dev) (n i : Nat) : Dev := d.flagAx (A.AX_DRIVE_STATUS n) i n 7

/-- PWM periods per loop tick in force, k (07 R197). -/
def Dev.pwmK (d : Dev) (n : Nat) : Nat := 2 ^ field 1 0 (d.pw n).ctrl

/-- The PWM period T in 125 ps units (07 R198, R201). -/
def Dev.pwmT (d : Dev) (n : Nat) : Nat := 8 * d.loopPeriod / d.pwmK n

/-- The handover length L in loop ticks (R173). -/
def Dev.handLen (d : Dev) (n : Nat) : Nat := ceilDiv (d.fld (A.AX_WAVE_CFG n) 6 2) (d.pwmK n)

/-- A rational rounded to the nearest integer, ties toward zero. -/
def roundTowardZero (q : Rat) : Int := if q < 0 then ((-(-q - mkRat 1 2).ceil) : Int) else (q - mkRat 1 2).ceil

/-- The advance A in 1/64 electrical degree at speed `w` (R181). -/
def Dev.advance64 (d : Dev) (n : Nat) (w : Rat) : Int :=
  let tab (i : Nat) : Rat := (toSigned 16 (d.fld (A.AX_ADV_TAB n i) 15 0) : Int)
  let x := ratDiv (ratAbs w * 31) (f32Val (d.rd (A.AX_ADV_SPAN n)))
  if 31 ≤ x then roundTowardZero (tab 31)
  else
    let i := x.floor.toNat
    roundTowardZero (tab i + (x - i) * (tab (i + 1) - tab i))

/-- The sign of a rational. -/
def ratSign (q : Rat) : Rat := if q < 0 then -1 else if 0 < q then 1 else 0

/-- σ_ω × A in rad; 0 while the table is not applied (R177, R181). -/
def Dev.advance (d : Dev) (n : Nat) : Rat :=
  let w := (d.sns n).omega
  if d.rb (A.AX_WAVE_CFG n) 7 then ratSign w * (d.advance64 n w : Rat) * Config.pi / (64 * 180) else 0

/-- The leg duties of SVM (R175). -/
def svm (a b vdc : Rat) : List Rat :=
  let va := a
  let vb := -a / 2 + sqrt3 / 2 * b
  let vc := -a / 2 - sqrt3 / 2 * b
  let v0 := -(ratMax [va, vb, vc] + ratMin [va, vb, vc]) / 2
  [va, vb, vc].map (fun v => mkRat 1 2 + (v + v0) / vdc)

/-- Duties as legs, held within 0 and 1. -/
def legsOf (l : List Rat) : List Leg := l.map (fun q => .duty (if q < 0 then 0 else if 1 < q then 1 else q))

/-- The pattern of a soft six-step sector: high leg and low leg, a = 0 (R177). -/
def sixPattern (s : Nat) : Nat × Nat :=
  if s = 0 then (0, 2) else if s = 1 then (1, 2) else if s = 2 then (1, 0) else if s = 3 then (2, 0) else if s = 4 then (2, 1)
  else (0, 1)

/-- The duty of leg `l` in sector `s`, none when it is released. -/
def sixDuty (s : Nat) (dd : Rat) (l : Nat) : Option Rat :=
  let p := sixPattern s
  if l = p.1 then some dd else if l = p.2 then some 0 else none

/-- The legs of a sector. -/
def sixLegs (s : Nat) (dd : Rat) : List Leg :=
  (List.range 3).map (fun l => match sixDuty s dd l with | some q => .duty q | none => .released)

/-- The legs at handover step `i` of `len` (R178). -/
def handLegs (a b : Nat) (i len : Nat) (dd : Rat) : List Leg :=
  let shared := ((List.range 3).find? (fun l => (sixDuty a dd l).isSome && (sixDuty b dd l).isSome)).getD 0
  let ds := (sixDuty b dd shared).getD 0
  let f : Rat := mkRat i len
  (List.range 3).map (fun l =>
    match sixDuty a dd l, sixDuty b dd l with
    | some _, some y => .duty y
    | some x, none => .duty (x + (ds - x) * f)
    | none, some y => .duty (ds + (y - ds) * f)
    | none, none => .released)

/-- A handover of soft six-step whose step L has run is over, and its new sector is in force (R178); a vertex ramp of the blend mode
is none of it. -/
def AxWave.handEnd (w : AxWave) (len : Nat) : AxWave :=
  match w.vertex, w.handover with
  | some _, _ => { w with vertex := none, handover := none }
  | none, some h => if len ≤ h.step then { w with handover := none, sector := h.toSector } else w
  | none, none => w

/-- A vertex ramp whose step L has run is over (R180); a handover of soft six-step is none of it. -/
def AxWave.rampEnd (w : AxWave) (len : Nat) : AxWave :=
  match w.vertex, w.handover with
  | none, _ => { w with handover := none }
  | some _, some h => if len ≤ h.step then { w with handover := none, vertex := some h.toSector } else w
  | some _, none => w

/-- One tick of soft six-step at sector `s` with duty D (R178, R179). -/
def Dev.softStep (d : Dev) (n s : Nat) (dd : Rat) : Dev :=
  let len := d.handLen n
  let w := (d.wav n).handEnd len
  let put (d : Dev) (l : List Leg) : Dev := d.modPw n (fun p => { p with shadow := l })
  let adjacent := s = (w.sector + 1) % 6 ∨ s = (w.sector + 5) % 6
  match w.handover with
  | some h =>
    if s = h.toSector then
      put (d.setWav n { w with handover := some { h with step := h.step + 1 } }) (handLegs h.fromSector h.toSector (h.step + 1) len dd)
    else
      put ((d.setWav n { w with handover := some { h with step := len } }).driveFlag n 12) (handLegs h.fromSector h.toSector len len dd)
  | none =>
    if s = w.sector ∨ !(d.pw n).on then put (d.setWav n { w with sector := s }) (sixLegs s dd)
    else if adjacent then
      put (d.setWav n { w with handover := some { fromSector := w.sector, toSector := s, step := 1 } }) (handLegs w.sector s 1 len dd)
    else put ((d.setWav n { w with sector := s }).driveFlag n 12) (sixLegs s dd)

/-- The sector of an angle (R177). -/
def sectorOf (th : Rat) : Nat := ((th * 3 / Config.pi).floor % 6).toNat

/-- The duty of leg `l` at hexagon vertex `v` (R180). -/
def vertexDuty (v l : Nat) : Rat :=
  if l = 0 then (if v = 0 ∨ v = 1 ∨ v = 5 then 1 else 0)
  else if l = 1 then (if v = 1 ∨ v = 2 ∨ v = 3 then 1 else 0)
  else (if v = 3 ∨ v = 4 ∨ v = 5 then 1 else 0)

/-- One tick at kappa = 1.0 (R180): the leg that changes between adjacent vertices is ramped over L ticks. -/
def Dev.vertexStep (d : Dev) (n v : Nat) : Dev :=
  let len := d.handLen n
  let w := (d.wav n).rampEnd len
  let ramp (a b i : Nat) : List Leg :=
    (List.range 3).map (fun l => .duty (vertexDuty a l + (vertexDuty b l - vertexDuty a l) * mkRat i len))
  let put (d : Dev) (l : List Leg) : Dev := d.modPw n (fun p => { p with shadow := l })
  match w.handover, w.vertex with
  | some h, _ =>
    let i := if v = h.toSector then h.step + 1 else len
    put (d.setWav n { w with handover := some { h with step := i } }) (ramp h.fromSector h.toSector i)
  | none, some o =>
    if v = o then put (d.setWav n w) (ramp o o len)
    else put (d.setWav n { w with handover := some { fromSector := o, toSector := v, step := 1 } }) (ramp o v 1)
  | none, none => put (d.setWav n { w with vertex := some v }) (ramp v v len)

/-- θ_out of axis `n` at the next tick: the angle and speed last committed, carried on to it (05 R156). -/
def Dev.thetaOut (d : Dev) (n : Nat) : Rat :=
  let s := d.sns n
  s.thetaC + s.omegaC * (f32Val (d.rd (A.AX_POS_ADV n)) + ((d.sys.tick : Rat) - (s.tickC : Rat))) * d.loopSec

/-- The committed pair of axis `n` as αβ at the next tick (R156, R172): rotated by θ_out when it is a dq pair. -/
def Dev.pairAb (d : Dev) (n : Nat) : Rat × Rat :=
  let c := d.ax (d.lead n)
  let us := c.uPending.getD c.uCommitted
  let b := d.activeBank n
  let j := d.memberIndex n
  let u (i : Nat) : Rat := f32Val (us.getD i 0)
  match d.pairIndex b j with
  | none => (0, 0)
  | some (i1, i2) => if (d.dstIndex b j 1).isSome then toAb (u i1) (u i2) (d.thetaOut n) else (u i1, u i2)

/-- The voltage demand of the next tick without the injection: the pair, or the pulse of a polarity step (05 R160). -/
def Dev.demand (d : Dev) (n : Nat) : Rat × Rat :=
  match (d.sns n).init with
  | some i =>
    let a := f32Val (d.rd (A.AX_POL_AMP n))
    if i.step = 2 then toAb a 0 (d.sns n).theta else if i.step = 4 then toAb (-a) 0 (d.sns n).theta else (0, 0)
  | none => d.pairAb n

/-- The injection of the next tick along θ_out (05 R158). -/
def Dev.injection (d : Dev) (n : Nat) : Rat × Rat :=
  if d.injOn n then
    let s : Rat := (injSign (d.injN n) (d.sns n).injTick : Int)
    toAb (s * f32Val (d.rd (A.AX_INJ_AMP n))) 0 (d.thetaOut n)
  else (0, 0)

/-- The duties of the next tick of an axis whose PWM carries a voltage (R172 to R181, R503). -/
def Dev.modulate (d : Dev) (n : Nat) : Dev :=
  let vdcF := d.busVolt n
  let vdc := f32Val vdcF
  let put (d : Dev) (l : List Leg) : Dev := d.modPw n (fun p => { p with shadow := l })
  if !f32Finite vdcF ∨ vdc ≤ 0 then put (d.driveFlag n 20) [.released, .released, .released]
  else
    let v0 := d.demand n
    let inj := d.injection n
    let v : Rat × Rat := (v0.1 + inj.1, v0.2 + inj.2)
    let m2 := v.1 * v.1 + v.2 * v.2
    let lim2 := vdc * vdc / 3
    let mode := d.fld (A.AX_WAVE_CFG n) 1 0
    if mode = 1 then
      let dd := sqrt3 * Config.sqrt m2 / vdc
      let w := (d.sns n).omega
      let th := Config.atan2 v.2 v.1 + d.advance n + w * (d.handLen n : Rat) * d.loopSec / 2
      (d.modWav n (fun x => { x with sixStep := true, kappa := 0 })).softStep n (sectorOf th) (if 1 < dd then 1 else dd)
    else if mode = 2 ∧ lim2 < m2 then
      let m := Config.sqrt m2 * sqrt3 / vdc
      let kq := (m - 1) / mkRat 154701 1000000
      let kappa : Rat := if 1 < kq then 1 else kq
      let th := Config.atan2 v.2 v.1 + d.advance n
      let d := d.modWav n (fun x => { x with kappa, sixStep := decide (kappa = 1) })
      if kappa = 1 then
        let w := (d.sns n).omega
        d.vertexStep n (sectorOf (th + w * (d.handLen n : Rat) * d.loopSec / 2 + Config.pi / 6))
      else
        let s60 := Config.pi / 3
        let thh := s60 * (ratRound (th / s60) : Rat)
        let thb := th + kappa * (thh - th)
        let phi := thb - s60 * ((thb / s60).floor : Rat) - Config.pi / 6
        let r := ratDiv vdc (sqrt3 * Config.cos phi)
        put (d.modWav n (fun x => { x with vertex := none, handover := none })) (legsOf (svm (r * Config.cos thb) (r * Config.sin thb) vdc))
    else
      let d := d.modWav n (fun x => { x with kappa := 0, sixStep := false, vertex := none, handover := none, sector := 0 })
      if lim2 < m2 then
        let d := if v0.1 * v0.1 + v0.2 * v0.2 ≤ lim2 ∧ mode = 0 then d.driveFlag n 11 else d
        let f := ratDiv vdc (sqrt3 * Config.sqrt m2)
        put d (legsOf (svm (v.1 * f) (v.2 * f) vdc))
      else put d (legsOf (svm v.1 v.2 vdc))

/-- The short that runs on the group of axis `n`. -/
def Dev.shortOf (d : Dev) (n : Nat) : Option ShortSt := (d.wav (d.lead n)).short

/-- The PWM of axis `n` is called for (07 R197): in OPEN by the waveform actions or open_pwm, and in HOLD, MOVE and STOPPING. -/
def Dev.pwmWanted (d : Dev) (n : Nat) : Bool :=
  let st := (d.ax n).state
  let w := d.wav n
  st == .hold || st == .move || st == .stopping ||
    (st == .opened && (d.sns n).catching.isNone &&
      ((d.shortOf n).isSome || (d.sns n).init.isSome || w.seqStep == 3 || w.seqStep == 4 || w.seqStep == 5 ||
        (d.rb (A.AX_CFG (d.lead n)) 0 && !w.openOff)))

/-- The modulator of axis `n` carries no vector: nothing of a handover, a vertex ramp or a blend is left (R193). -/
def Dev.modIdle (d : Dev) (n : Nat) : Dev :=
  d.modWav n (fun w => { w with handover := none, vertex := none, kappa := 0, sixStep := false })

/-- The shadow duties of axis `n` for the next tick: a short's zero vector, released legs under R186, or the modulator's. -/
def Dev.shadowStep (d : Dev) (n : Nat) : Dev :=
  if !d.pwmWanted n then (d.modIdle n).modPw n (fun p => { p with shadow := [.released, .released, .released] })
  else match d.shortOf n with
    | some x => (d.modIdle n).modPw n (fun p => { p with shadow := if x.released.contains n then [.released, .released, .released] else [.duty 0, .duty 0, .duty 0] })
    | none => d.modulate n

/-- The duties of the previous tick are kept: those of an axis that is late and has no dq pair (01 R42), and those of an axis whose
commit was suppressed (04 R111).  In every other tick the modulator runs (R172). -/
def Dev.keepsDuties (d : Dev) (n : Nat) : Bool :=
  let c := d.ax (d.lead n)
  d.pwmWanted n && (d.pw n).on && (d.shortOf n).isNone && (d.sns n).init.isNone &&
    (((c.ended == .late || c.ended == .exempt) && !d.hasDq n) || (nbit 1 c.faultNext || nbit 2 c.faultNext))

/-- The shadow duties of axis `n` at the end of a tick. -/
def Dev.shadowTick (d : Dev) (n : Nat) : Dev := if d.keepsDuties n then d else d.shadowStep n

/-- The modulator of axis `n` as it stands. -/
def Dev.modSave (d : Dev) (n : Nat) : ModSave :=
  let w := d.wav n
  { axis := n, shadow := (d.pw n).shadow, handover := w.handover, vertex := w.vertex, kappa := w.kappa, sixStep := w.sixStep, sector := w.sector }

/-- The modulator as it stood before a commit that is abandoned, and the duties without it. -/
def Dev.modBack (d : Dev) (m : ModSave) : Dev :=
  let d := d.modPw m.axis (fun p => { p with shadow := m.shadow })
  let d := d.modWav m.axis (fun w => { w with
    handover := m.handover, vertex := m.vertex, kappa := m.kappa, sixStep := m.sixStep, sector := m.sector })
  d.shadowTick m.axis

/-- The legs of axis `m` are released in this tick of a short, released in the last one or not (R186). -/
def Dev.shortReleases (d : Dev) (m : Nat) (was : Bool) : Bool :=
  let lim := f32Val (d.rd (A.AX_SHORT_ILIM m))
  !(d.currentsValid m && decide (d.currentMax m ≤ if was then lim * 4 / 5 else lim))

/-- SHORT_CURRENT_RELEASE and the end condition of a short at a tick (R186): for each member of the group led by `n` by its own
registers; the short counts a tick at or below AX_SHORT_WEND when every member is. -/
def Dev.shortStep (d : Dev) (n : Nat) : Dev :=
  match (d.wav n).short with
  | none => d
  | some x =>
    let ms := d.members n
    let rel := ms.filter (fun m => d.shortReleases m (x.released.contains m))
    let slow := ms.all (fun m => decide (ratAbs (d.sns m).omega ≤ f32Val (d.rd (A.AX_SHORT_WEND m))))
    let pk := ms.foldl (fun a m => if a < d.currentMax m then d.currentMax m else a) x.peak
    let d := d.each (rel.filter (fun m => !x.released.contains m)) (fun d m => d.driveFlag m 17)
    d.modWav n (fun w => { w with short := some { x with released := rel, endTicks := if slow then x.endTicks + 1 else 0, peak := pk } })

end Sys2Proof.Machine
end

