-- ==== Sys2Proof/Machine/Motion.lean ====
section
/-!
DEFINITION. Profiles (09_motion_gearing.md): PROF_LOAD to PROF_QUERY, the order and the takeover of motion commands (R254, R274), what
DEGRADED permits (11 R320), direction orders (06 R183), and the virtual-limit check (R245).
-/

namespace Sys2Proof.Machine

/-! ### Conditions of motion -/

/-- The first verdict that turns a command away. -/
def firstOf : List Verdict → Verdict
  | [] => none
  | some x :: _ => some x
  | none :: l => firstOf l

/-- Input pair `i` is closed (11 R307): both channels at the closed level of its kind, and not faulted. -/
def Dev.pairClosed (d : Dev) (i : Nat) : Bool :=
  let p := AList.get {} d.saf.pairs i
  let k := d.fld (A.SAF_IN_CFG i) 1 0
  !p.faulted && ((k == 1 && p.a && p.b) || (k == 2 && p.a && !p.b))

/-- The pairs of group `g` with a function. -/
def Dev.pairsOf (d : Dev) (g func : Nat) : List Nat :=
  (List.range 16).filter (fun i =>
    let w := d.rd (A.SAF_IN_CFG i)
    field 1 0 w != 0 && field 27 24 w == func && bit (28 + g) w)

/-- Some pair of group `g` with a function is closed. -/
def Dev.funcClosed (d : Dev) (g func : Nat) : Bool := (d.pairsOf g func).any d.pairClosed

/-- The modes in which an axis may be in MOVE (04 R132). -/
def moveMode (m : Mode) : Bool := m == .run || m == .inspection || m == .degraded || m == .recovery

/-- A park by AX_DISABLE from HOLD, or a rest entry's, runs on the group of axis `n` (06 R190). -/
def Dev.parking (d : Dev) (n : Nat) : Bool := (d.wav (d.lead n)).park.isSome

/-- Some axis of a mask is in an STO group that is demanded. -/
def Dev.stoOf (d : Dev) (mask : Nat) : Bool := (maskList 32 mask).any (fun n => d.stoDemanded (stoGroup n))

/-- The travel axes of group `g` (11 R311, SAF_AX_CFG.role 1). -/
def Dev.travelAxes (d : Dev) (g : Nat) : List Nat :=
  d.axisList.filter (fun n => stoGroup n == g && d.fld (A.SAF_AX_CFG n) 1 0 == 1)

/-- The door axes of a lift group may run (11 R320). -/
def Dev.doorOk (d : Dev) (n : Nat) : Bool :=
  let g := stoGroup n
  d.fld (A.SAF_AX_CFG n) 1 0 == 2 && d.fld (A.SAF_GRP_CFG g) 1 0 == 1 && d.funcClosed g 9 &&
    (d.travelAxes g).all (fun m => (d.ax m).state == .hold) && decide (ratAbs (d.sg g).v ≤ f32Val (d.rd (A.SAF_V_ZERO g)))

/-- A rescue move of a travel axis is permitted in DEGRADED (11 R320). -/
def Dev.rescueOk (d : Dev) (n : Nat) (target : Int) (v : Rat) : Bool :=
  let g := stoGroup n
  let scale := f32Val (d.rd (A.SAF_AX_SCALE n))
  d.fld (A.SAF_AX_CFG n) 1 0 == 1 && d.fld (A.SAF_GRP_CFG g) 1 0 == 1 && (d.ax n).state == .hold && (d.sg g).degStill &&
    (match (d.sg g).degPos.find? (fun x => x.1 == n) with
      | some x => decide (ratAbs (ofPos target - (x.2 : Rat)) * scale ≤ ((d.fld (A.SAF_RESCUE_DIST g) 23 0 : Nat) : Rat))
      | none => false) && decide (v * scale ≤ f32Val (d.rd (A.SAF_V_RESCUE g)))

/-- R274 and R190 for a motion-class command of this chapter, without DEGRADED's conditions. -/
def Dev.motionCheck (d : Dev) (h : Hdr) : Verdict :=
  let axes := maskList 32 h.mask
  if d.splits h.mask then some (Code.groupSplit, [])
  else if !moveMode d.sys.mode then some (Code.wrongMode, [])
  else if d.stoOf h.mask then some (Code.safetyBlocked, [])
  else if axes.any (fun n => let st := (d.ax n).state; !(st == .hold || st == .move || st == .stopping) || d.parking n) then
    some (Code.wrongMode, [])
  else none

/-- R320: every motion-class command but those the table permits. -/
def Dev.degradedCheck (d : Dev) (h : Hdr) (ok : Nat → Bool) : Verdict :=
  if d.sys.mode = .degraded && !(maskList 32 h.mask).all ok then some (Code.degradedOnly, []) else none

/-- R80: motion is refused while a dip has stopped it. -/
def Dev.supplyCheck (d : Dev) : Verdict := if d.pwr.dipStopped then some (Code.supplyLow, []) else none

/-- R274 for every command but PROF_MOVE. -/
def Dev.plainMotion (d : Dev) (h : Hdr) : Verdict :=
  firstOf [d.motionCheck h, d.degradedCheck h (fun _ => false), d.supplyCheck]

/-- R183: whether the direction of axis `n` may change now. -/
def Dev.mayTurn (d : Dev) (n : Nat) : Bool :=
  let m := d.sys.mode
  let st := (d.ax n).state
  if !(m == .ready || m == .run || m == .degraded) || !(st == .opened || st == .hold || st == .move || st == .stopping) then true
  else if (d.sns n).omegaKnown then decide (ratAbs (d.sns n).omega < f32Val (d.rd (A.AX_REV_THR n)))
  else st == .opened || st == .hold

/-- A direction order is refused: rev_refused of the axes it addresses (R183). -/
def Dev.turnRefused (d : Dev) (mask : Nat) : Dev := d.each (maskList 32 mask) (fun d n => if d.mayTurn n then d else d.driveFlag n 19)

/-! ### Orders and takeovers (R254) -/

/-- A motion command takes effect at F: it takes over at F + 1. -/
def Dev.order (d : Dev) (op : Nat) (h : Hdr) (b : List Byte) : Dev :=
  d.modMot (fun q => { q with takeovers := q.takeovers ++ [{ op, h, bytes := b, at_ := d.sys.lastFrame + d.framePeriod }] })

/-- A command at its frame tick: turned away, or ordered for the takeover. -/
def Dev.orderIf (d : Dev) (v : Verdict) (op : Nat) (h : Hdr) (b : List Byte) : Dev :=
  match v with
  | some x => d.doneAt h x.1 x.2
  | none => d.order op h b

/-- The state at a takeover decides again (R254). -/
def Dev.takeoverCheck (d : Dev) (h : Hdr) : Verdict :=
  match d.motionCheck h with
  | some _ => some (if d.stoOf h.mask then Code.safetyBlocked else Code.wrongMode, [])
  | none => d.supplyCheck

/-- The takeover of a caught speed is over (06 R189): a command's own reference replaces it. -/
def Dev.takeoverEnd (d : Dev) (n : Nat) : Dev :=
  if (d.wav n).takeover then (d.modWav n (fun w => { w with takeover := false })).seqTo n 0 else d

/-- What runs on axis `n` gives way to a new source: gearing and load share end (R241), and a takeover of 06 R189. -/
def Dev.newSource (d : Dev) (n t : Nat) (src : AxMot → Src) : Dev :=
  let d := (d.evalGen n t).modMo n (fun g => { g with src := src g })
  ((d.gearOff n Code.done 0).lsDrop n).takeoverEnd n

/-- The groups of a mask are in MOVE. -/
def Dev.toMove (d : Dev) (mask : Nat) : Dev := d.each (maskList 32 mask) (fun d n => d.setState n .move 2)

/-! ### PROF_LOAD and PROF_RUN (R249, R250, R252) -/

/-- The first failure of a knot range, with its knot: reasons 0x08, 0x09 and those of the segments in order. -/
def Dev.rangeReason (d : Dev) (n first count : Nat) (shift : Int) (placed : Bool) : Nat × Nat :=
  if count < 2 ∨ 2048 < count then (8, first)
  else if d.knotT n first ≠ 0 ∨ f32Val (d.knotV n first) ≠ 0 then (9, first)
  else
    let bad := (List.range (count - 1)).filterMap (fun j =>
      let i := (first + j + 1) % 2048
      let r := d.segReason n i shift placed
      let last := decide (j + 2 = count)
      if r ≠ 0 then some (r, i)
      else if j = 0 ∧ d.knotEnd n first then some (9, first)
      else if d.knotEnd n i != last || (last && f32Val (d.knotV n i) != 0) then some (9, i)
      else none)
    bad.headD (0, 0)

/-- PROF_LOAD of a range [16:17], [18:19] with bit 0 of [20] relative: the first axis that fails. -/
def Dev.profLoadCheck (d : Dev) (h : Hdr) (b : List Byte) : Verdict :=
  if d.splits h.mask then some (Code.groupSplit, [])
  else
    let rel := nbit 0 (byteAt b 20)
    (maskList 32 h.mask).foldl (fun (v : Verdict) n =>
      match v with
      | some x => some x
      | none =>
        let r := d.rangeReason n (leAt b 16 2) (leAt b 18 2) 0 (!rel)
        if r.1 = 0 then none else some (Code.profileInvalid, [(16, 1, r.1), (18, 2, r.2)])) none

/-- PROF_LOAD at its frame tick: a range that passes is recorded until a knot in it is written (R250). -/
def Dev.profLoad (d : Dev) (h : Hdr) (b : List Byte) : Dev :=
  match d.profLoadCheck h b with
  | some v => d.doneAt h v.1 v.2
  | none =>
    let first := leAt b 16 2
    let count := leAt b 18 2
    let range := (first, count, nbit 0 (byteAt b 20))
    let d := d.each (maskList 32 h.mask) (fun d n => d.modMo n (fun m => { m with valid := range :: m.valid.filter (· != range) }))
    d.doneAt h Code.done [(20, 8, d.knotT (lowest h.mask) (first + count - 1))]

/-- PROF_LOAD (R250). -/
def execProfLoad (h : Hdr) (b : List Byte) (s : State) : Host.Outcome State Fault Refusal :=
  s.perform (fun d => d.command 0x0301 h (fun d => d.profLoad h b))

/-- PROF_RUN's own conditions: an axis in HOLD, and for a table the exact validated range. -/
def Dev.profRunOwn (d : Dev) (h : Hdr) (b : List Byte) : Verdict :=
  let axes := maskList 32 h.mask
  if axes.any (fun n => (d.ax n).state != .hold) then some (Code.wrongMode, [])
  else if byteAt b 16 = 0 then
    (if axes.all (fun n => (d.mo n).valid.contains (leAt b 18 2, leAt b 20 2, nbit 0 (byteAt b 17))) then none
     else some (Code.profileInvalid, []))
  else none

/-- PROF_RUN's conditions. -/
def Dev.profRunCheck (d : Dev) (h : Hdr) (b : List Byte) : Verdict := firstOf [d.plainMotion h, d.profRunOwn h b]

/-- Where the positions of a run are shifted to (R250). -/
def Dev.runShift (d : Dev) (n : Nat) (b : List Byte) (p : Int) : Int :=
  if nbit 0 (byteAt b 17) then p - d.knotP n (leAt b 18 2) else 0

/-- What a run needs at takeover: reasons 0x02 and 0x06 of a table, the buffer and first segment of a stream. -/
def Dev.runReady (d : Dev) (n : Nat) (b : List Byte) : Nat :=
  let first := leAt b 18 2
  let hold := (d.mo n).hold
  let shift := d.runShift n b hold
  if byteAt b 16 = 0 then
    let r := d.rangeReason n first (leAt b 20 2) shift true
    let rel := nbit 0 (byteAt b 17)
    if r.1 ≠ 0 ∨ (!rel ∧ pUnit < ((d.knotP n first - hold).natAbs : Int)) then Code.profileInvalid else Code.done
  else if d.published n first < 2 ∨ d.ahead n 0 < 4 * d.framePeriod then Code.streamShort
  else if d.knotT n first ≠ 0 ∨ f32Val (d.knotV n first) ≠ 0 ∨ d.streamReason n ((first + 1) % 2048) shift ≠ 0 then Code.profileInvalid
  else Code.done

/-- The fabric time of the loop tick at which the delivered reference has reached the end of a plan that ends at `t` (R254;
notes/assumptions/164.md). -/
def Dev.tickUp (d : Dev) (t : Nat) : Nat := (t + d.loopPeriod - 1) / d.loopPeriod * d.loopPeriod

/-- PROF_RUN takes over at time `t` (R250, R252). -/
def Dev.runTakeover (d : Dev) (h : Hdr) (b : List Byte) (t : Nat) : Dev :=
  let axes := maskList 32 h.mask
  match d.profRunOwn h b with
  | some v => d.complete h v.1 t (resultOf v.2)
  | none =>
    match axes.find? (fun n => d.runReady n b != Code.done) with
    | some n => d.complete h (d.runReady n b) t (resultOf [])
    | none =>
      let first := leAt b 18 2
      let count := leAt b 20 2
      let d := d.each axes (fun d n =>
        let k : KnotRun := { t0 := t, first, count, shift := d.runShift n b (d.mo n).hold, cur := (first + 1) % 2048, start := d.knot n first }
        let d := if byteAt b 16 = 0 then d else d.setFld (A.PROF_STREAM_RP n) 10 0 k.cur
        d.newSource n t (fun _ => if byteAt b 16 = 0 then .table k else .stream k))
      let d := d.toMove h.mask
      d.complete h Code.done t (resultOf [(16, 8, if byteAt b 16 = 0 then d.tickUp (t + d.knotT (lowest h.mask) (first + count - 1)) else 0)])

/-- PROF_RUN (R250, R252). -/
def execProfRun (h : Hdr) (b : List Byte) (s : State) : Host.Outcome State Fault Refusal :=
  s.perform (fun d => d.command 0x0302 h (fun d => d.orderIf (d.profRunCheck h b) 0x0302 h b))

/-! ### PROF_MOVE and PROF_VEL (R253) -/

/-- A command limit that is negative or not finite is a reserved value (R253). -/
def limReserved (w : F32) : Bool := !f32Finite w || decide (f32Rat w < 0)

/-- The effective limit of a command limit against a register value (R253), and whether it was reduced. -/
def effLimit (c r : F32) : Rat × Bool :=
  let x := f32Val c
  if x = 0 then (if f32Finite r then f32Rat r else 0, false)
  else if f32Finite r ∧ f32Rat r < x then (f32Rat r, true) else (x, false)

/-- The effective limits v, a, j of a command on axis `n`: against the limits in force, or the registers as written. -/
def Dev.effLimits (d : Dev) (n : Nat) (written : Bool) (v a j : F32) : List (Rat × Bool) :=
  let r (i : Nat) : F32 := if written then d.rd (A.PROF_V_MAX n + 4 * i) else (d.mo n).lims.getD i 0
  [effLimit v (r 0), effLimit a (r 1), effLimit j (r 2)]

/-- An effective limit that is not greater than 0.0 (R253). -/
def badLimits (l : List (Rat × Bool)) : Bool := l.any (fun x => decide (x.1 ≤ 0))

/-- The FP32 at bytes [a:a+3]. -/
def f32At (b : List Byte) (a : Nat) : F32 := BitVec.ofNat 32 (leAt b a 4)

/-- The target of PROF_MOVE on axis `n` from position `p`. -/
def moveTarget (b : List Byte) (p : Int) : Int := toSigned 64 (leAt b 20 8) + (if nbit 0 (byteAt b 16) then p else 0)

/-- PROF_MOVE's conditions; `written` judges the limit registers as written (R243). -/
def Dev.profMoveCheck (d : Dev) (h : Hdr) (b : List Byte) (written : Bool) : Verdict :=
  let eff (n : Nat) := d.effLimits n written (f32At b 28) (f32At b 32) (f32At b 36)
  firstOf [d.motionCheck h,
    d.degradedCheck h (fun n => d.doorOk n || d.rescueOk n (moveTarget b (d.mo n).p) ((eff n).headD (0, false)).1),
    d.supplyCheck,
    if (maskList 32 h.mask).any (fun n => badLimits (eff n)) then some (Code.profileInvalid, []) else none]

/-- A target clamped to the virtual limits (R245), and whether it was. -/
def Dev.clampTarget (d : Dev) (n : Nat) (p : Int) : Int × Bool :=
  if !d.rb (A.PROF_CFG n) 2 then (p, false)
  else
    let x := d.delivered n p
    let y := clampI (d.rd48 (A.VLIM_LO_LO n) * pUnit) (d.rd48 (A.VLIM_HI_LO n) * pUnit) x
    if x = y then (p, false) else ((d.wav n).refBase + d.sigma n * (y - (d.wav n).base), true)

/-- The result of a plan: its end, and what was clamped or passes through zero (R274). -/
def Dev.planResult (d : Dev) (q : Plan) (limited clamped : Bool) : List (Nat × Nat × Nat) :=
  [(16, 8, d.tickUp q.endTime), (24, 1, b2n limited + 2 * b2n q.throughZero + 4 * b2n clamped)]

/-- Plans start on the axes of a mask under the effective limits `lims`, the result being that of the lowest; a limit that is not greater
than 0.0 by then ends the command without effect (R253). -/
def Dev.startPlans (d : Dev) (h : Hdr) (t : Nat) (lims : Nat → List (Rat × Bool))
    (plan : Dev → Nat → AxMot → List (Rat × Bool) → Plan × Src × Bool × Bool) : Dev :=
  if (maskList 32 h.mask).any (fun n => badLimits (lims n)) then d.complete h Code.profileInvalid t (resultOf [])
  else
    let x := (maskList 32 h.mask).foldl (fun (acc : Dev × List (Nat × Nat × Nat)) n =>
      let d := acc.1.evalGen n t
      let q := plan d n (d.mo n) (lims n)
      let d := if q.2.2.1 || q.2.2.2 then d.profFlag n 11 else d
      let d := d.newSource n t (fun _ => q.2.1)
      (d, if acc.2.isEmpty then d.planResult q.1 q.2.2.1 q.2.2.2 else acc.2)) (d, [])
    let d := x.1.toMove h.mask
    d.complete h Code.done t (resultOf x.2)

/-- PROF_MOVE takes over at time `t`. -/
def Dev.moveTakeover (d : Dev) (h : Hdr) (b : List Byte) (t : Nat) : Dev :=
  d.startPlans h t (fun n => d.effLimits n false (f32At b 28) (f32At b 32) (f32At b 36)) (fun d n g e =>
    let c := d.clampTarget n (moveTarget b g.p)
    let q := movePlan t g.p g.v g.a c.1 (e.getD 0 (0, false)).1 (e.getD 1 (0, false)).1 (e.getD 2 (0, false)).1
    (q, .move q, e.any (·.2), c.2))

/-- PROF_MOVE (R253). -/
def execProfMove (h : Hdr) (b : List Byte) (s : State) : Host.Outcome State Fault Refusal :=
  s.perform (fun d => d.command 0x0303 h (fun d => d.orderIf (d.profMoveCheck h b false) 0x0303 h b))

/-- PROF_VEL's conditions. -/
def Dev.profVelCheck (d : Dev) (h : Hdr) (b : List Byte) (written : Bool) : Verdict :=
  firstOf [d.plainMotion h,
    if (maskList 32 h.mask).any (fun n => badLimits (d.effLimits n written 0 (f32At b 32) (f32At b 36))) then some (Code.profileInvalid, [])
    else none]

/-- A target velocity reduced to a limit with its sign kept, and whether it was. -/
def clampVel (v lim : Rat) : Rat × Bool := if lim < ratAbs v then (sgn v * lim, true) else (v, false)

/-- PROF_VEL takes over at time `t`. -/
def Dev.velTakeover (d : Dev) (h : Hdr) (b : List Byte) (t : Nat) : Dev :=
  d.startPlans h t (fun n => d.effLimits n false 0 (f32At b 32) (f32At b 36)) (fun _ _ g e =>
    let v := clampVel (f32Val (f32At b 20)) (e.getD 0 (0, false)).1
    let q := velPlan t g.p g.v g.a v.1 (e.getD 1 (0, false)).1 (e.getD 2 (0, false)).1
    (q, .vel q, e.any (·.2) || v.2, false))

/-- PROF_VEL (R253). -/
def execProfVel (h : Hdr) (b : List Byte) (s : State) : Host.Outcome State Fault Refusal :=
  s.perform (fun d => d.command 0x0304 h (fun d => d.orderIf (d.profVelCheck h b false) 0x0304 h b))

/-! ### PROF_STOP and PROF_QUERY -/

/-- PROF_STOP's conditions. -/
def Dev.profStopCheck (d : Dev) (h : Hdr) : Verdict :=
  if d.splits h.mask then some (Code.groupSplit, [])
  else if (maskList 32 h.mask).any (fun n => (d.ax n).state == .fault) then some (Code.wrongMode, []) else none

/-- The rest time and position a stop reports for axis `n` at time `t` (R244). -/
def Dev.restOf (d : Dev) (n t : Nat) : Nat × Int :=
  match (d.mo n).src with
  | .ramp q => (d.tickUp q.endTime, q.endPos)
  | _ => (t, (d.genAt n t).1.p)

/-- PROF_STOP at its frame tick, where it takes over (R254). -/
def Dev.profStop (d : Dev) (h : Hdr) : Dev :=
  match d.profStopCheck h with
  | some v => d.doneAt h v.1 v.2
  | none =>
    let d := d.each (maskList 32 h.mask) (fun d n => d.startRamp n d.sys.lastFrame 0)
    let r := d.restOf (lowest h.mask) d.sys.lastFrame
    d.doneAt h Code.done (if h.mask = 0 then [] else [(16, 8, r.1), (24, 8, ofSigned 64 r.2)])

/-- PROF_STOP (R244). -/
def execProfStop (h : Hdr) (s : State) : Host.Outcome State Fault Refusal :=
  s.perform (fun d => d.command 0x0305 h (fun d => d.profStop h))

/-- PROF_STATUS as it reads. -/
def Dev.profStatusWord (d : Dev) (n : Nat) : Word := setField 3 0 (d.profSrc n) (d.rd (A.PROF_STATUS n))

/-- PROF_QUERY. -/
def Dev.profQuery (d : Dev) (h : Hdr) : Dev :=
  let n := lowest h.mask
  d.doneNow h Code.done (if h.mask = 0 then [] else
    [(16, 8, ofSigned 64 (d.mo n).p), (24, 4, (f32Of (d.mo n).v).toNat), (28, 4, (d.profStatusWord n).toNat)])

/-- PROF_QUERY (R274). -/
def execProfQuery (h : Hdr) (s : State) : Host.Outcome State Fault Refusal :=
  s.perform (fun d => d.command 0x0306 h (fun d => d.profQuery h))

/-! ### The frame tick -/

/-- The limits written since are in force (R243). -/
def Dev.latchLims (d : Dev) : Dev :=
  d.each d.axisList (fun d n => d.modMo n (fun m => { m with lims := (List.range 5).map (fun i => d.rd (A.PROF_V_MAX n + 4 * i)) }))

/-- VIRTUAL_LIMIT_STOP (R245): the rest position of a stop ramp started at F + 1 lies at or beyond a limit. -/
def Dev.virtualLimit (d : Dev) (n t : Nat) : Dev :=
  let m := (d.genAt n t).1
  let acts : Bool := match m.gear.layers, m.src with | _ :: _, _ => true | [], .vel _ => true | [], .stream _ => true | _, _ => false
  if (d.ax n).state ≠ .move || !d.rb (A.PROF_CFG n) 2 || m.ls.isSome || !acts then d
  else
    let dt := mkRat d.framePeriod 1000000000
    let v := m.v + m.a * dt
    let q := d.rampFrom n t (m.p + toPos (m.v * dt + m.a * dt * dt / 2)) v m.a
    let rest := d.delivered n q.endPos
    let dir := (d.sigma n : Rat) * v
    if (0 < dir ∧ d.rd48 (A.VLIM_HI_LO n) * pUnit ≤ rest) ∨ (dir < 0 ∧ rest ≤ d.rd48 (A.VLIM_LO_LO n) * pUnit) then
      (d.profFlag n 7).startRamp n t 2
    else d

/-- The speed of feedback masters between frame ticks (R258). -/
def Dev.frameSpeeds (d : Dev) : Dev :=
  d.each d.axisList (fun d n =>
    let v := (d.fb n).speed
    d.modMo n (fun m => { m with frameA := ratDiv (v - m.lastFrameV) (mkRat d.framePeriod 1000000000), lastFrameV := v }))

end Sys2Proof.Machine
end

