-- ==== Sys2Proof/Machine/Admit.lean ====
section
/-!
DEFINITION. Admission (04_cupola_control.md R119 to R127, 01_architecture_tick.md R39, R40), the loss of a cluster (R128 to R131),
and bank swaps (R135, R136).
-/

namespace Sys2Proof.Machine

/-! ### Loads (R39, R123) -/

/-- The admission limit of a loop period in ns: 85 % of the cycles at 600 MHz, rounded down (01 R32). -/
def limitOf (ns : Nat) : Nat := ns * 51 / 100

/-- The loop period of an ft_sel and a loop_mult, ns. -/
def periodOf (ft mult : Nat) : Nat := frameNs ft / 2 ^ mult

/-- The limit an admission must keep: that of the loop period in force and, while a change is pending, of the pending one
(01 R35). -/
def Dev.admLimit (d : Dev) : Nat :=
  let now := limitOf d.loopPeriod
  let here := match d.sys.pending with | some p => min now (limitOf (periodOf p.ftSel p.mult)) | none => now
  match d.sys.rootPending with
  | some p => min here (limitOf (periodOf p.1 ((d.sys.pending.map (·.mult)).getD d.sys.mult)))
  | none => here

/-- The standby cluster is released for capacity (01 R40). -/
def Dev.released (d : Dev) : Bool := d.rb A.SYS_TICK_CFG 8

/-- The admitted model that axis `n` leads. -/
def Dev.mdlOf (d : Dev) (n : Nat) : Mdl :=
  let c := d.ax n
  { lead := n, axes := d.members n, slot := if c.member then some c.slot else none, cost := c.cost, rate := c.rate,
    phase := c.phase, prio := c.prio, cluster := c.cluster }

/-- The admitted models, in ascending lead-axis order. -/
def Dev.mdls (d : Dev) : List Mdl := d.leads.map d.mdlOf

/-- A model is due in schedule tick `t` (R123). -/
def Mdl.dueIn (m : Mdl) (t : Nat) : Bool := t % 2 ^ m.rate == m.phase

/-- The load of schedule tick `t`. -/
def loadIn (ms : List Mdl) (t : Nat) : Nat := (ms.filter (·.dueIn t)).foldl (fun s m => s + m.cost) 0

/-- The loads of the eight schedule ticks. -/
def loads (ms : List Mdl) : List Nat := (List.range 8).map (loadIn ms)

/-- The largest of several numbers. -/
def maxOf (l : List Nat) : Nat := l.foldl max 0

/-- The models of a cluster. -/
def onCluster (c : Nat) (ms : List Mdl) : List Mdl := ms.filter (fun m => m.cluster == c)

/-- The larger of the clusters' peak schedule-tick loads, and the first schedule tick it is reached in. -/
def peakOf (ms : List Mdl) : Nat × Nat :=
  let l := (loads (onCluster 0 ms)).zip (loads (onCluster 1 ms)) |>.map (fun x => max x.1 x.2)
  let p := maxOf l
  (p, (l.findIdx? (fun x => x == p)).getD 0)

/-- The device's choice of a phase: the smallest peak over its due ticks, a tie going to the lowest (R124). -/
def choosePhase (ms : List Mdl) (rate : Nat) : Nat :=
  let peak (p : Nat) : Nat := maxOf (((List.range 8).filter (fun t => t % 2 ^ rate == p)).map (loadIn ms))
  (List.range (2 ^ rate)).foldl (fun best p => if peak p < peak best then p else best) 0

/-- The peak an assignment reaches from two lists of loads. -/
def pairPeak (l0 l1 : List Nat) : Nat := max (maxOf l0) (maxOf l1)

/-- Add a model's cost to the loads of a cluster. -/
def addLoad (l : List Nat) (m : Mdl) : List Nat := l.mapIdx (fun t x => if m.dueIn t then x + m.cost else x)

/-- The assignment that minimises the larger peak, ties placing the lower-numbered lead on cluster 0 (R126). -/
def assignBest (l0 l1 : List Nat) : List Mdl → Nat × List Mdl
  | [] => (pairPeak l0 l1, [])
  | m :: ms =>
    let r0 := assignBest (addLoad l0 m) l1 ms
    let r1 := assignBest l0 (addLoad l1 m) ms
    if r0.1 ≤ r1.1 then (r0.1, { m with cluster := 0 } :: r0.2) else (r1.1, { m with cluster := 1 } :: r1.2)

/-- The models in ascending lead-axis order. -/
def byLead (ms : List Mdl) : List Mdl := (List.range 32).flatMap (fun n => ms.filter (fun m => m.lead == n))

/-- The clusters of a set of models: the primary, or with the standby released the exact assignment over the healthy clusters
(R40, R126). -/
def Dev.place (d : Dev) (ms : List Mdl) : List Mdl :=
  if d.released && d.cup.ok0 && d.cup.ok1 then (assignBest (List.replicate 8 0) (List.replicate 8 0) (byLead ms)).2
  else
    let c := if !d.released then d.cup.primary else if d.cup.ok0 then 0 else 1
    (byLead ms).map (fun m => { m with cluster := c })

/-- The models removed so that the rest fits one cluster: descending priority value, ties in descending lead axis (R130). -/
def shedOrder (ms : List Mdl) : List Mdl :=
  (List.range 256).reverse.flatMap (fun p => (byLead (ms.filter (fun m => m.prio == p))).reverse)

/-- What of `ms` stays within a limit, taking models off the front of `order` until it does. -/
def shedUntil (limit : Nat) : List Mdl → List Mdl → List Mdl
  | [], _ => []
  | m :: order, ms =>
    if maxOf (loads ms) ≤ limit then [] else m :: shedUntil limit order (ms.filter (fun x => x.lead != m.lead))

/-- The axes shed on the loss of a cluster (R130): both plans leave what one cluster can carry. -/
def Dev.shedPlan (d : Dev) (ms : List Mdl) : Nat :=
  if d.released then maskOf ((shedUntil (limitOf d.loopPeriod) (shedOrder ms) ms).flatMap (·.axes)) else 0

/-- The loads as CUPOLA_LOAD0, CUPOLA_LOAD1 and the shed plans report them (R139). -/
def Dev.publishLoads (d : Dev) (plans : Bool) : Dev :=
  let ms := d.mdls
  let l0 := loads (onCluster 0 ms)
  let l1 := loads (onCluster 1 ms)
  let plan := BitVec.ofNat 32 (d.shedPlan ms)
  let ws := (List.range 8).map (fun t => (A.CUPOLA_LOAD0 t, BitVec.ofNat 32 (l0.getD t 0))) ++
    (List.range 8).map (fun t => (A.CUPOLA_LOAD1 t, BitVec.ofNat 32 (l1.getD t 0))) ++
    (if plans then [(A.CUPOLA_SHED_PLAN 0, plan), (A.CUPOLA_SHED_PLAN 1, plan)] else [])
  if ws.any (fun x => decide (d.rd x.1 ≠ x.2)) then (d.wrAll ws).raise Ev.cupAdmissionChanged else d

/-- A model's place in the schedule is in force: its axes take the reservation. -/
def Dev.setMdl (d : Dev) (m : Mdl) : Dev :=
  d.each m.axes (fun d n => d.modAx n (fun c =>
    { c with
        admitted := true, member := m.slot.isSome, lead := m.lead, slot := m.slot.getD 0, cost := m.cost, rate := m.rate, phase := m.phase,
        prio := m.prio, cluster := m.cluster }))

/-- RETENTION_RESTORE of an axis with MSTEP_RETAIN = 1 (03 R104): it takes its retained values, or reports that they are lost. -/
def Dev.retTake (d : Dev) (n : Nat) : Dev :=
  let bs := d.mbs (retAddr n) 16
  let d := d.modMo n (fun m => { m with msLoss := false })
  if byteAt bs 10 = 3 ∧ crc32c (bs.take 12) = leAt bs 12 4 then
    let d := d.wr (A.PT_MSTEP n) (BitVec.ofNat 32 (leAt bs 0 4))
    let delta := toSigned 48 (leAt bs 4 6) - (d.fb n).count
    (d.modFb n (fun f => { f.shifted delta with count := f.count + delta })).wb (A.FB_STATUS n) 9 true
  else
    let d := d.flag A.BELFRY_RET_LOST n Ev.belfryRetentionLost n
    (d.wr (A.PT_MSTEP n) 0).profFlag n 10

/-- Axes pass between OFF and PARKED (03 R104): those with MSTEP_RETAIN = 1 take their retained values as they leave. -/
def Dev.retLeave (d : Dev) (axes : List Nat) : Dev := d.each (axes.filter (fun n => d.rb (A.PROF_CFG n) 4)) Dev.retTake

/-- The model that axis `n` leads loses its reservation and its axes go to OFF (R127, R130). -/
def Dev.withdraw (d : Dev) (n cause : Nat) : Dev :=
  let axes := d.members n
  let d := if (d.ax n).state = .parked then d.retLeave axes else d
  let d := (d.park n .other .off cause).setState n .off cause
  d.each axes (fun d m => d.modAx m (fun c =>
    { c with
        admitted := false, member := false, lead := 0, slot := 0, cost := 0, rate := 0, phase := 0, prio := 0, cluster := 0, ended := .idle,
        late := 0, faultNext := 0, overrun := none }))

/-! ### AX_ADMIT and AX_RELEASE -/

/-- AX_BANK_STATUS of axis `n` after a check (R137): `refused` stays until it is written (notes/assumptions/152.md). -/
def Dev.bankChecked (d : Dev) (n reason : Nat) : Dev :=
  let d := d.setFld (A.AX_BANK_STATUS n) 15 8 reason
  if reason = 0 then d else d.wb (A.AX_BANK_STATUS n) 2 true

/-- The banks an AX_ADMIT names: one for each axis, or the slot's. -/
def Dev.admBanks (d : Dev) (mask bank slot : Nat) : List (Nat × Bank × Option Nat) :=
  if slot = 0xFF then (maskList 32 mask).map (fun n => (n, axisBank n bank, none))
  else
    let ms := d.slotMembers slot
    [(ms.headD 0, slotBank slot bank ms, some slot)]

/-- The model a bank describes. -/
def Dev.mdlFrom (d : Dev) (x : Nat × Bank × Option Nat) : Mdl :=
  { lead := x.1, axes := x.2.1.members, slot := x.2.2, cost := d.bankCost x.2.1, rate := d.bankRate x.2.1, phase := d.bankPhase x.2.1,
    prio := d.bankPrio x.2.1 }

/-- The phases of new models, chosen in order against the load at that moment (R124). -/
def phased (before : List Mdl) : List Mdl → List Mdl
  | [] => []
  | m :: ms =>
    let m := if m.phase = 0xFF then { m with phase := choosePhase before m.rate } else m
    m :: phased (before ++ [m]) ms

/-- The conditions of AX_ADMIT but its banks and the budget (R119, R120, R140). -/
def Dev.admitState (d : Dev) (h : Hdr) (slot : Nat) : Verdict :=
  let axes := maskList 32 h.mask
  let ms := d.slotMembers slot
  if d.splits h.mask then some (Code.groupSplit, [])
  else if d.sys.mode ≠ .configure then some (Code.wrongMode, [])
  else if axes.any (fun n => (d.ax n).state != .off) then some (Code.wrongMode, [])
  else if slot = 0xFF then none
  else if !d.rb (A.CUPOLA_GRP_CFG slot) 31 then some (Code.wrongMode, [])
  else if maskOf ms ≠ h.mask then some (Code.groupSplit, [])
  else if ms.any (fun m => d.owner m != d.owner (ms.headD 0) ||
      maskOf (d.observers m) != maskOf (d.observers (ms.headD 0))) then some (Code.notOwner, [])
  else none

/-- The result of AX_ADMIT (R140): the costs of this command's models, also where nothing is admitted (notes/assumptions/151.md). -/
def admitResult (new all : List Mdl) : List (Nat × Nat × Nat) :=
  let p := peakOf all
  [(16, 4, new.foldl (fun s m => s + m.cost) 0), (20, 4, p.1), (24, 1, p.2)]

/-- The models of an admission take effect, or do not fit (R126, R127). -/
def Dev.admitModels (d : Dev) (h : Hdr) (bank : Nat) (new : List Mdl) : Dev :=
  let all := d.place (d.mdls ++ new)
  let res := admitResult new all
  if d.admLimit < (peakOf all).1 then d.doneAt h Code.budgetExceeded res
  else
    let d := all.foldl Dev.setMdl d
    let d := new.foldl (fun d m =>
      let d := d.each m.axes (fun d n => d.modAx n (fun c => { c with active := bank }))
      ((d.retLeave m.axes).setState m.lead .parked 1).each m.axes Dev.retWrite) d
    (d.publishLoads true).doneAt h Code.done res

/-- AX_ADMIT judged at a frame tick (R126): with the standby released the search follows.  A refusal before the loads are formed reports
no peak (notes/assumptions/151.md). -/
def Dev.admitJudge (d : Dev) (h : Hdr) (bank slot : Nat) : Dev :=
  match d.admitState h slot with
  | some v => d.doneAt h v.1 v.2
  | none =>
    let banks := d.admBanks h.mask bank slot
    match banks.find? (fun x => d.bankReason x.2.1 != 0) with
    | some x => (d.bankChecked x.1 (d.bankReason x.2.1)).doneAt h Code.bankInvalid [(25, 1, d.bankReason x.2.1)]
    | none =>
      let new := phased d.mdls (banks.map d.mdlFrom)
      let d := d.each (banks.map (·.1)) (fun d n => d.bankChecked n 0)
      if d.released then
        (d.modCup (fun c => { c with search := some { cmd := h, bank, models := new, start := d.time.cnt } })).doneAt h Code.accepted
      else d.admitModels h bank new

/-- AX_RELEASE's conditions (R132, R140). -/
def Dev.releaseCheck (d : Dev) (h : Hdr) : Verdict :=
  if d.splits h.mask then some (Code.groupSplit, [])
  else if d.sys.mode ≠ .configure then some (Code.wrongMode, [])
  else if (maskList 32 h.mask).any (fun n => let st := (d.ax n).state; !(st == .parked || st == .fault)) then some (Code.wrongMode, [])
  else none

/-- AX_RELEASE judged at a frame tick; its transition reports cause 0x0, a command (notes/assumptions/152.md). -/
def Dev.releaseJudge (d : Dev) (h : Hdr) : Dev :=
  match d.releaseCheck h with
  | some v => d.doneAt h v.1 v.2
  | none =>
    let d := d.each (d.leads.filter (fun n => nbit n h.mask)) (fun d n => d.withdraw n 0)
    (d.publishLoads true).doneAt h Code.done [(16, 4, (peakOf d.mdls).1)]

/-- Admission commands are handled one at a time: those that come while a search runs wait for its end (R126). -/
def Dev.admissionOrder (d : Dev) (h : Hdr) (x : Option (Nat × Nat)) : Dev :=
  if d.cup.search.isSome then d.modCup (fun c => { c with waiting := c.waiting ++ [(h, x)] })
  else match x with
    | some y => d.admitJudge h y.1 y.2
    | none => d.releaseJudge h

/-- AX_ADMIT at its effective frame tick: bank at byte [16], slot at byte [17] (R126, R140). -/
def execAxAdmit (h : Hdr) (bank slot : Nat) (s : State) : Host.Outcome State Fault Refusal :=
  s.perform (fun d => d.command 0x0201 h (fun d => d.admissionOrder h (some (bank, slot))))

/-- AX_RELEASE at its effective frame tick (R126, R140). -/
def execAxRelease (h : Hdr) (s : State) : Host.Outcome State Fault Refusal :=
  s.perform (fun d => d.command 0x0202 h (fun d => d.admissionOrder h none))

/-- ADMISSION_SEARCH_DONE (R126): the search has ended; the admission takes effect at the next frame tick. -/
def execAdmissionSearchDone (s : State) : Host.Outcome State Fault Refusal :=
  s.perform (fun d => d.modCup (fun c => { c with search := c.search.map (fun x => { x with ended := true }) }))

/-- The admission commands that wait, in order, until one starts a search. -/
def Dev.admissionQueue : Nat → Dev → Dev
  | 0, d => d
  | fuel + 1, d =>
    if d.cup.search.isSome then d
    else match d.cup.waiting with
      | [] => d
      | (h, x) :: rest => Dev.admissionQueue fuel ((d.modCup (fun c => { c with waiting := rest })).admissionOrder h x)

/-- Admission at a frame tick (R126): a search of at most 200 ms that has ended takes effect, then the commands that waited. -/
def Dev.admissionFrame (d : Dev) : Dev :=
  match d.cup.search with
  | none => d
  | some x =>
    if x.ended || d.past (x.start + msCnt 200) then
      let d := (d.modCup (fun c => { c with search := none })).admitModels x.cmd x.bank x.models
      Dev.admissionQueue d.cup.waiting.length d
    else d

/-! ### Clusters (R128 to R131) -/

/-- CUPOLA_STATUS (R139). -/
def Dev.cupolaWord (d : Dev) : Word :=
  let c := d.cup
  BitVec.ofNat 32 (b2n c.ok0 + 2 * b2n c.ok1 + 4 * c.primary + 8 * b2n (c.ok0 && c.ok1 && !d.released) + 16 * b2n d.released +
    2 ^ 8 * c.failCode + 2 ^ 16 * c.failovers)

/-- CUPOLA_LIMIT (R139). -/
def Dev.cupolaLimitWord (d : Dev) : Word := BitVec.ofNat 32 (limitOf d.loopPeriod)

/-- An execution the failure left unstarted or abandoned (R131): the model keeps what the last due tick committed, and is late
with the exemption. -/
def Dev.undo (d : Dev) (n : Nat) : Dev :=
  let c := d.ax n
  match c.save with
  | none => d
  | some s =>
    let d := s.angs.foldl (fun d x => d.modSns x.1 (fun q => { q with thetaC := x.2.1, omegaC := x.2.2.1, tickC := x.2.2.2 })) d
    let d := s.betas.foldl (fun d x => d.modSns x.1 (fun q => { q with betaC := x.2 })) d
    let d := if s.snap then
        let a := A.AX_SNAP_CTRL n
        ((d.wb a 0 true).wb a 1 false).setFld a 31 16 (d.fld a 31 16 + 0xFFFF)
      else d
    let d := d.modAx n (fun c => { c with
      x := s.x, lastY := s.y, lastW := s.w, lastR := s.r, lastU := s.us, uPending := none, commitTick := s.commitTick, save := none, ended := .exempt, overrun := none,
      faultNext := nminus c.faultNext 6 })
    s.mods.foldl Dev.modBack d

/-- Cluster `c` is declared failed with a code (R128 to R131); `undone` are the lead axes whose execution had not committed. -/
def Dev.clusterFailure (d : Dev) (c code : Nat) (undone : List Nat) : Dev :=
  let ok := if c = 0 then d.cup.ok0 else d.cup.ok1
  let other := if c = 0 then d.cup.ok1 else d.cup.ok0
  if !ok then d
  else
    let carries := d.released || d.cup.primary == c
    let d := d.modCup (fun q => { q with
      ok0 := q.ok0 && c != 0, ok1 := q.ok1 && c == 0, failCode := code, failovers := sat 15 (q.failovers + 1) })
    let d := d.wr64 A.CUPOLA_FAIL_TICK_LO d.sys.tick
    let d := d.raise Ev.cupClusterFailed c
    if !carries then d
    else
      let d := d.each (d.leads.filter (fun n => undone.contains n && (d.ax n).cluster == c)) Dev.undo
      if !other then (d.modCup (fun q => { q with failoverDue := false })).each d.leads (fun d n => d.faultAxis n 8)
      else
        let d := if d.released then
            d.modCup (fun q => { q with shedNext := (d.rd (A.CUPOLA_SHED_PLAN c)).toNat, failoverDue := true })
          else d.modCup (fun q => { q with primary := 1 - c, failoverDue := true })
        d.each d.axisList (fun d n => if (d.ax n).admitted then d.modAx n (fun x => { x with cluster := 1 - c }) else d)
          |>.publishLoads false

/-- CLUSTER_FAILURE (R128): the first failure of cluster `c`, with its code of R128. -/
def execClusterFailure (c code : Nat) (undone : List Nat) (s : State) : Host.Outcome State Fault Refusal :=
  s.perform (fun d => d.clusterFailure (c % 2) (code % 256) undone)

/-- The models on the plan are shed at the next tick (R130). -/
def Dev.shedTick (d : Dev) : Dev :=
  if d.cup.shedNext = 0 then d
  else
    let mask := d.cup.shedNext
    let d := d.modCup (fun q => { q with shedNext := 0 })
    let d := d.each (d.leads.filter (fun n => nbit n mask)) (fun d n =>
      let axes := d.members n
      let d := d.withdraw n 7
      d.each axes (fun d m => d.brake m false))
    (d.publishLoads false).raise Ev.cupAxesShed

/-! ### Bank swaps (R135, R136) -/

/-- The swap of the model that axis `n` leads: its status, its reason, and whether admission reruns. -/
def Dev.swapJudge (d : Dev) (n : Nat) (keep : Bool) : Nat × Nat × Bool :=
  let c := d.ax n
  let b := d.bankOf n (1 - c.active)
  let reason := d.bankReason b
  let same := d.bankRate b == c.rate && (d.bankPhase b == c.phase || d.bankPhase b == 0xFF) && decide (d.bankCost b ≤ c.cost)
  if (d.members n).any (fun m => let st := (d.ax m).state; !(st == .opened || st == .off || st == .parked)) then
    (Code.wrongMode, 9, false)
  else if reason ≠ 0 then (Code.bankInvalid, reason, false)
  else if keep && d.bankN b != d.bankN (d.activeBank n) then (Code.bankInvalid, 0x0A, false)
  else if c.admitted && !same then
    if d.sys.mode ≠ .configure then (Code.budgetExceeded, 8, false)
    else
      let rest := d.mdls.filter (fun m => m.lead != n)
      let all := d.place (rest ++ phased rest [{ d.mdlFrom (n, b, (d.mdlOf n).slot) with axes := d.members n }])
      if d.admLimit < (peakOf all).1 then (Code.budgetExceeded, 8, false) else (Code.done, 0, true)
  else (Code.done, 0, false)

/-- The result of AX_BANK_SWAP for axis `n`. -/
def Dev.swapResult (d : Dev) (n reason : Nat) : List (Nat × Nat × Nat) :=
  let b := d.activeBank n
  [(16, 1, (d.ax n).active), (17, 1, reason), (20, 4, d.bankCost b), (24, 4, d.bankTag b)]

/-- The swap of the model that axis `n` leads takes effect. -/
def Dev.swapOne (d : Dev) (n : Nat) (keep rerun : Bool) : Dev :=
  let b := d.bankOf n (1 - (d.ax n).active)
  let d := if rerun then
      let rest := d.mdls.filter (fun m => m.lead != n)
      let all := d.place (rest ++ phased rest [{ d.mdlFrom (n, b, (d.mdlOf n).slot) with axes := d.members n }])
      (all.foldl Dev.setMdl d).publishLoads true
    else d
  let d := d.each (d.members n) (fun d m => d.modAx m (fun c =>
    { c with
        active := 1 - c.active, prio := if c.admitted then d.bankPrio b else c.prio,
        x := if c.x.isEmpty || keep then c.x else d.bankX0 b }))
  let d := (d.bankChecked n 0).incSat (A.AX_BANK_STATUS n) 31 16
  (d.each (d.members n) (fun d m => d.raiseAx m 3)).lanAbortAxis n 5

/-- AX_BANK_SWAP at its frame tick. -/
def Dev.bankSwap (d : Dev) (h : Hdr) (keep : Bool) : Dev :=
  let axes := maskList 32 h.mask
  let d := d.each axes (fun d n => d.modAx n (fun c => { c with swapPending := false }))
  if d.splits h.mask then d.doneAt h Code.groupSplit
  else
    let ls := axes.filter (fun n => d.lead n == n)
    let swapped := ls.foldl (fun (acc : Dev × Option (Nat × Nat × Nat)) n =>
      match acc.2 with
      | some x => (acc.1, some x)
      | none =>
        let j := acc.1.swapJudge n keep
        if j.1 = Code.done then (acc.1.swapOne n keep j.2.2, none) else (acc.1, some (n, j.1, j.2.1))) (d, none)
    match swapped.2 with
    | some x =>
      let d := d.bankChecked x.1 x.2.2
      let d := d.each (d.members x.1) (fun d m => d.raiseAx m 4)
      d.doneAt h x.2.1 (d.swapResult x.1 x.2.2)
    | none => swapped.1.doneAt h Code.done (if axes.isEmpty then [] else swapped.1.swapResult (lowest h.mask) 0)

/-- AX_BANK_SWAP (R136): init at byte [16], 0 load x0, 1 keep x̂. -/
def execAxBankSwap (h : Hdr) (init : Nat) (s : State) : Host.Outcome State Fault Refusal :=
  s.perform (fun d => d.command 0x0207 h (fun d => d.bankSwap h (init == 1)))

/-- AX_BANK_STATUS of axis `n`: group-wide, so 0 in the page of a member that does not lead (R120, R137). -/
def Dev.bankStatusWord (d : Dev) (n : Nat) : Word :=
  let c := d.ax n
  if c.member && c.lead != n then 0
  else setBit 1 c.swapPending (setField 0 0 c.active (d.rd (A.AX_BANK_STATUS n)))

end Sys2Proof.Machine
end

