-- ==== Sys2Proof/Machine/Gear.lean ====
section
/-!
DEFINITION. Gearing, load share and virtual masters (09_motion_gearing.md R258 to R274): their commands, takeovers, blends, records,
misses and losses.
-/

namespace Sys2Proof.Machine

/-! ### Engaging (R262, R264) -/

/-- The master a GEAR_ENGAGE names: index [16], node [17], feedback kind bit 0 of [18]. -/
def Dev.engageMaster (d : Dev) (b : List Byte) : Master :=
  { index := byteAt b 16, fb := nbit 0 (byteAt b 18), remote := if byteAt b 17 = 0xFF ∨ byteAt b 17 = d.node then none else some (byteAt b 17) }

/-- Axis `n` is reached from axis `i` along the local masters of every law that still acts. -/
def Dev.gearReaches : Nat → Dev → Nat → Nat → Bool
  | 0, _, _, _ => false
  | fuel + 1, d, i, n =>
    i == n || (d.mo i).gear.layers.any (fun y => y.ms.m.remote.isNone && decide (y.ms.m.index < 32) && Dev.gearReaches fuel d y.ms.m.index n)

/-- The longest local chain of slaves below axis `n`. -/
def Dev.gearHeight : Nat → Dev → Nat → Nat
  | 0, _, _ => 0
  | fuel + 1, d, n =>
    (d.axisList.filter (fun s =>
      (d.mo s).gear.layers.any (fun y => y.ms.m.remote.isNone && y.ms.m.index == n && !y.ms.m.fb))).foldl (fun m s => max m (Dev.gearHeight fuel d s + 1)) 0

/-- The latest record of a publication of a peer. -/
def Dev.pubRec (d : Dev) (node index : Nat) (fb : Bool) : Option MRec :=
  (d.mot.pubs.find? (fun x => x.1 == node && x.2.1 == index && x.2.2.1 == fb)).map (·.2.2.2)

/-- An engage of axis `n` names a master it may follow (R258, R264). -/
def Dev.masterOk (d : Dev) (n : Nat) (m : Master) : Bool :=
  match m.remote with
  | some node => (d.pubRec node m.index m.fb).isSome
  | none =>
    if 36 ≤ m.index then false
    else if 32 ≤ m.index then !m.fb && decide (1 + Dev.gearHeight 5 d n ≤ 4)
    else decide (m.index < d.axes) && !(m.fb && d.fbSrc m.index == 3) && !Dev.gearReaches 6 d m.index n &&
      decide ((if m.fb then 0 else Dev.gearDepth 5 d m.index) + 1 + Dev.gearHeight 5 d n ≤ 4)

/-- The reason a cam table with `pts` points is invalid, 0 when it is valid (R261). -/
def Dev.camReason (d : Dev) (n pts : Nat) : Nat :=
  if pts < 2 ∨ 512 < pts then 8
  else if (List.range (pts - 1)).any (fun j => decide (d.camX n (j + 1) ≤ d.camX n j)) then 1
  else if (List.range pts).any (fun j => !f32Finite (d.camSlope n j)) then 7
  else 0

/-- The flags of [18]: cam, absolute, cyclic. -/
def engageCam (b : List Byte) : Bool := nbit 1 (byteAt b 18)
/-- The number of cam points. -/
def engagePts (b : List Byte) : Nat := leAt b 20 4 % 1024

/-- The ratio's sign in force on axis `n`, none while it is not engaged with a ratio (R264). -/
def Dev.ratioSign (d : Dev) (n : Nat) : Option Bool :=
  match (d.mo n).gear.layers with
  | y :: _ => if y.law.cam then none else some (decide (y.law.n < 0))
  | [] => none

/-- A new ratio N turns the sign in force. -/
def Dev.turnsRatio (d : Dev) (n : Nat) (num : Int) : Bool :=
  match d.ratioSign n with
  | some s => s != decide (num < 0)
  | none => false

/-- The N of a gear command. -/
def gearN (b : List Byte) : Int := toSigned 32 (leAt b 20 4)
/-- The T_e of a gear command, ms. -/
def gearTe (b : List Byte) : Nat := leAt b 44 2

/-- A direction order of gearing on some axis that may not turn now (06 R183). -/
def Dev.ratioRefused (d : Dev) (h : Hdr) (num : Int) : Bool :=
  (maskList 32 h.mask).any (fun n => d.turnsRatio n num) && (maskList 32 h.mask).any (fun n => !d.mayTurn n)

/-- GEAR_ENGAGE's conditions; the reason of an invalid cam table stands at byte [16], as PROF_LOAD's does (notes/assumptions/166.md). -/
def Dev.engageCheck (d : Dev) (h : Hdr) (b : List Byte) : Verdict :=
  let axes := maskList 32 h.mask
  firstOf [d.plainMotion h,
    if axes.any (fun n => !d.masterOk n (d.engageMaster b)) then some (Code.masterInvalid, []) else none,
    if engageCam b then
      (match axes.find? (fun n => d.camReason n (engagePts b) != 0) with
        | some n => some (Code.profileInvalid, [(16, 1, d.camReason n (engagePts b))])
        | none => none)
    else none,
    if !engageCam b && d.ratioRefused h (gearN b) then some (Code.reversalRefused, []) else none]

/-- A verdict at the frame tick, which marks a refused direction order. -/
def Dev.orderTurn (d : Dev) (v : Verdict) (op : Nat) (h : Hdr) (b : List Byte) : Dev :=
  match v with
  | some x => (if x.1 = Code.reversalRefused then d.turnRefused h.mask else d).doneAt h x.1 x.2
  | none => d.order op h b

/-- GEAR_ENGAGE (R262, R264). -/
def execGearEngage (h : Hdr) (b : List Byte) (s : State) : Host.Outcome State Fault Refusal :=
  s.perform (fun d => d.command 0x0401 h (fun d => d.orderTurn (d.engageCheck h b) 0x0401 h b))

/-- GEAR_RATIO's conditions: engaged with a ratio. -/
def Dev.ratioCheck (d : Dev) (h : Hdr) (b : List Byte) : Verdict :=
  firstOf [d.plainMotion h,
    if (maskList 32 h.mask).any (fun n => (d.ratioSign n).isNone) then some (Code.wrongMode, []) else none,
    if d.ratioRefused h (gearN b) then some (Code.reversalRefused, []) else none]

/-- GEAR_RATIO (R262). -/
def execGearRatio (h : Hdr) (b : List Byte) (s : State) : Host.Outcome State Fault Refusal :=
  s.perform (fun d => d.command 0x0402 h (fun d => d.orderTurn (d.ratioCheck h b) 0x0402 h b))

/-- Every axis of a mask is engaged. -/
def Dev.engaged (d : Dev) (mask : Nat) : Bool := (maskList 32 mask).all (fun n => !(d.mo n).gear.layers.isEmpty)

/-- GEAR_PHASE's and GEAR_DISENGAGE's conditions: engaged. -/
def Dev.engagedCheck (d : Dev) (h : Hdr) : Verdict :=
  firstOf [d.plainMotion h, if d.engaged h.mask then none else some (Code.wrongMode, [])]

/-- GEAR_PHASE (R262). -/
def execGearPhase (h : Hdr) (b : List Byte) (s : State) : Host.Outcome State Fault Refusal :=
  s.perform (fun d => d.command 0x0403 h (fun d => d.orderIf (d.engagedCheck h) 0x0403 h b))

/-- The PROF limits a hand-over at the present velocity runs under (R263, as PROF_VEL without limits of its own). -/
def Dev.keepLimits (d : Dev) (n : Nat) : List (Rat × Bool) := d.effLimits n false 0 0 0

/-- GEAR_DISENGAGE's conditions: engaged, and for the present velocity the PROF limits of R253. -/
def Dev.disengageCheck (d : Dev) (h : Hdr) (b : List Byte) : Verdict :=
  firstOf [d.engagedCheck h,
    if byteAt b 16 ≠ 0 ∧ (maskList 32 h.mask).any (fun n => badLimits (d.keepLimits n)) then some (Code.profileInvalid, []) else none]

/-- GEAR_DISENGAGE (R263). -/
def execGearDisengage (h : Hdr) (b : List Byte) (s : State) : Host.Outcome State Fault Refusal :=
  s.perform (fun d => d.command 0x0404 h (fun d => d.orderIf (d.disengageCheck h b) 0x0404 h b))

/-! ### The end of a blend (R262) -/

/-- A blend has run its length at time `t`. -/
def GearLayer.ended (y : GearLayer) (t : Nat) : Bool := decide (y.t0 + 1000000 * y.te ≤ t)

/-- The layers once the blends that have ended at time `t` are settled, newest first: a law in force alone drops what lies below
it; a relative one is anchored to the master and slave positions of that tick, a phase joins the law below. -/
def Dev.settleLayers (d : Dev) (n t : Nat) : List GearLayer → List GearLayer
  | [] => []
  | y :: l =>
    let l := d.settleLayers n t l
    if y.pure || !y.ended t then y :: l
    else match y.kind with
      | .position => [{ y with te := 0, cmd := none }]
      | .velocity =>
        [{ y with kind := .position, te := 0, cmd := none, law := { y.law with m0 := (d.masterRef n y.ms t).p, s0 := y.p, phi := 0 } }]
      | .phase =>
        match l with
        | [z] => if z.pure then [{ z with law := { z.law with phi := z.law.phi + y.dphi } }] else { y with cmd := none } :: l
        | _ => { y with cmd := none } :: l

/-- GEAR_BLEND_END (R262): what has blended in by the last tick is in force; its commands complete. -/
def Dev.blendEnd (d : Dev) (n : Nat) : Dev :=
  let t := (d.mo n).at_
  let old := (d.mo n).gear.layers
  let due := old.filter (fun y => !y.pure && y.ended t)
  if due.isEmpty then d
  else
    let new := d.settleLayers n t old
    let below := old.drop ((old.findIdx? (fun y => !y.pure && y.ended t)).getD 0)
    let cmds := below.filterMap (fun y => y.cmd.map (fun c => (c, y.t0 + 1000000 * y.te)))
    let d := d.modMo n (fun m => { m with gear := { m.gear with layers := new } })
    let settled := new.all (fun y => y.pure)
    let d := if settled then (d.gearTo n 2).modMo n (fun m => { m with hold := m.p, src := .hold }) else d
    cmds.foldl (fun d c => d.complete c.1 Code.done t (resultOf [(16, 8, c.2), (24, 1, (d.mo n).gear.state)])) d

/-- GEAR_BLEND_END. -/
def execGearBlendEnd (n : Nat) (s : State) : Host.Outcome State Fault Refusal := s.perform (fun d => d.blendEnd n)

/-! ### Takeovers -/

/-- A new layer on axis `n` at time `t`. -/
def Dev.pushLayer (d : Dev) (n t : Nat) (state : Nat) (layer : AxMot → GearLayer) : Dev :=
  let d := (d.evalGen n t).modMo n (fun g => { g with gear := { g.gear with layers := layer g :: g.gear.layers } })
  (d.gearTo n state).blendEnd n

/-- The axis that carries a command's completion: the lowest of its mask. -/
def carries (h : Hdr) (n : Nat) : Option Hdr := if n = lowest h.mask then some h else none

/-- GEAR_ENGAGE takes over at time `t`; an engage of the same frame may have made its master one it cannot follow (R264). -/
def Dev.engageTakeover (d : Dev) (h : Hdr) (b : List Byte) (t : Nat) : Dev :=
  let m := d.engageMaster b
  let abs := nbit 2 (byteAt b 18)
  if (maskList 32 h.mask).any (fun n => !d.masterOk n m) then d.complete h Code.masterInvalid t (resultOf [])
  else
  let d := d.toMove h.mask
  (d.each (maskList 32 h.mask) (fun d n => (d.lsDrop n).takeoverEnd n)).each (maskList 32 h.mask) (fun d n =>
    let d := d.modMo n (fun x => { x with gear := { x.gear with absolute := abs, suspend := false, lostMisses := 0 } })
    d.pushLayer n t 1 (fun g =>
      let ms : MasterSt := { m, rec_ := match m.remote with | some node => d.pubRec node m.index m.fb | none => none }
      let law : GearLaw :=
        { n := if engageCam b then 1 else gearN b, d := if engageCam b then 1 else leAt b 24 4, phi := toSigned 32 (leAt b 40 4) * pUnit
          m0 := if abs then toSigned 48 (leAt b 28 6) * pUnit else (d.masterRef n ms t).p
          s0 := if abs then toSigned 48 (leAt b 34 6) * pUnit else g.p
          cam := engageCam b, cyclic := nbit 3 (byteAt b 18), points := if engageCam b then engagePts b else 0 }
      { ms, law, kind := if abs then .position else .velocity, t0 := t, te := gearTe b, p := g.p, v := g.v, at_ := t, cmd := carries h n }))

/-- The newest law of axis `n` with its master. -/
def Dev.newestLaw (d : Dev) (n : Nat) : Option (MasterSt × GearLaw) :=
  match (d.mo n).gear.layers with
  | y :: _ => some (y.ms, y.law)
  | [] => none

/-- GEAR_RATIO takes over at time `t`. -/
def Dev.ratioTakeover (d : Dev) (h : Hdr) (b : List Byte) (t : Nat) : Dev :=
  if !(maskList 32 h.mask).all (fun n => (d.ratioSign n).isSome) then d.complete h Code.wrongMode t (resultOf [])
  else d.each (maskList 32 h.mask) (fun d n =>
    match d.newestLaw n with
    | none => d
    | some (ms, law) =>
      d.pushLayer n t 3 (fun g =>
        { ms, law := { law with n := gearN b, d := leAt b 24 4, m0 := (d.masterRef n ms t).p, s0 := g.p }, kind := .velocity, t0 := t, te := gearTe b
          p := g.p, v := g.v, at_ := t, cmd := carries h n }))

/-- GEAR_PHASE takes over at time `t`. -/
def Dev.phaseTakeover (d : Dev) (h : Hdr) (b : List Byte) (t : Nat) : Dev :=
  if !d.engaged h.mask then d.complete h Code.wrongMode t (resultOf [])
  else d.each (maskList 32 h.mask) (fun d n =>
    match d.newestLaw n with
    | none => d
    | some (ms, law) =>
      d.pushLayer n t 3 (fun _ =>
        { ms, law, kind := .phase, t0 := t, te := gearTe b, dphi := toSigned 32 (leAt b 40 4) * pUnit, at_ := t, cmd := carries h n }))

/-- GEAR_DISENGAGE takes over at time `t` (R263). -/
def Dev.disengageTakeover (d : Dev) (h : Hdr) (b : List Byte) (t : Nat) : Dev :=
  if !d.engaged h.mask then d.complete h Code.wrongMode t (resultOf [])
  else if byteAt b 16 = 0 then
    let d := d.each (maskList 32 h.mask) (fun d n => d.startRamp n t 0)
    d.complete h Code.done t (resultOf [(16, 8, (d.restOf (lowest h.mask) t).1)])
  else
    if (maskList 32 h.mask).any (fun n => badLimits (d.keepLimits n)) then d.complete h Code.profileInvalid t (resultOf [])
    else
    let d := d.each (maskList 32 h.mask) (fun d n =>
      let d := d.evalGen n t
      let v := clampVel (d.mo n).v (d.lim n 0)
      let d := if v.2 then d.profFlag n 11 else d
      d.newSource n t (fun g => .vel (velPlan t g.p g.v g.a v.1 (d.lim n 1) (d.lim n 2))))
    d.complete h Code.done t (resultOf [(16, 8, 0)])

/-! ### Records and losses (R266 to R268) -/

/-- A record of R265 from its bytes. -/
def recOf (b : List Byte) : MRec := { ts := leAt b 0 8, p := toSigned 64 (leAt b 8 8), v := f32At b 16, a := f32At b 20 }

/-- Record `r` is newer than the one held, if any. -/
def MRec.newer (r : MRec) (o : Option MRec) : Bool := match o with | some x => decide (x.ts < r.ts) | none => true

/-- MASTER_RECORD_ARRIVAL (R266): a publication of a peer; a slave's record waits for its frame tick, and of several the newest. -/
def Dev.masterRecord (d : Dev) (node : Nat) (b : List Byte) : Dev :=
  let index := byteAt b 25
  let fb := nbit 0 (byteAt b 24)
  let r := recOf b
  let d := if r.newer (d.pubRec node index fb) then
      d.modMot (fun q => { q with pubs := (node, index, fb, r) :: q.pubs.filter (fun x => !(x.1 == node && x.2.1 == index && x.2.2.1 == fb)) })
    else d
  d.each d.axisList (fun d n => d.modMo n (fun m => { m with gear := { m.gear with layers := m.gear.layers.map (fun y =>
    if y.ms.m.remote == some node && y.ms.m.index == index && y.ms.m.fb == fb && r.newer y.ms.rec_ && r.newer y.ms.next then { y with ms := { y.ms with next := some r } } else y) } }))

/-- MASTER_RECORD_ARRIVAL. -/
def execMasterRecordArrival (node : Nat) (b : List Byte) (s : State) : Host.Outcome State Fault Refusal :=
  s.perform (fun d => d.masterRecord node b)

/-- Records that have arrived are put into use at a frame tick, and misses counted (R266, R267, R272). -/
def MasterSt.frame (x : MasterSt) : MasterSt :=
  if x.m.remote.isNone then x
  else match x.next with
    | some r => { x with rec_ := some r, next := none, misses := 0 }
    | none => { x with misses := sat 9 (x.misses + 1) }

/-- The frame tick of every record. -/
def Dev.recordFrame (d : Dev) : Dev :=
  let d := d.each d.axisList (fun d n =>
    let d := d.modMo n (fun m => { m with gear := { m.gear with layers := m.gear.layers.map (fun y => { y with ms := y.ms.frame }) } })
    match (d.mo n).ls with
    | some l =>
      if l.localHome then d
      else d.modMo n (fun m => { m with ls := some (match l.nextRec with
        | some r => { l with recTs := r.1, total := r.2.1, sum := r.2.2, nextRec := none, misses := 0 }
        | none => { l with misses := sat 9 (l.misses + 1) }) })
    | none => d)
  d.each (List.range 64) (fun d k =>
    match AList.find d.mot.remotes k with
    | none => d
    | some r =>
      match r.next with
      | some x =>
        let d := d.modMot (fun q => { q with remotes := AList.put q.remotes k { r with ts := x.1, torque := x.2.1, weight := x.2.2, next := none, misses := 0, active := true } })
        d.wb (A.LS_GRP_STATUS (k / 8)) (k % 8) true
      | none => if r.active then d.modMot (fun q => { q with remotes := AList.put q.remotes k { r with misses := sat 9 (r.misses + 1) } }) else d)

/-- MASTER_LOST (R267): the ninth miss has been counted for the master of a law that acts on axis `n`. -/
def Dev.masterLost (d : Dev) (n : Nat) : Dev :=
  if (d.mo n).gear.layers.any (fun y => y.ms.m.remote.isSome && decide (9 ≤ y.ms.misses)) then
    let d := (d.wb (A.GEAR_STATUS n) 12 true).modMo n (fun m => { m with gear := { m.gear with lostMisses := 9 } })
    d.startRamp n d.sys.lastFrame 2 Code.masterLost 4
  else d

/-- MASTER_LOST. -/
def execMasterLost (n : Nat) (s : State) : Host.Outcome State Fault Refusal := s.perform (fun d => d.masterLost n)

/-! ### Load share (R270 to R273) -/

/-- The entry of axis `n` of this device in group `g` homed here. -/
def Dev.lsEntry (d : Dev) (g n : Nat) : Option Nat :=
  (List.range 8).find? (fun i =>
    let w := d.rd (A.LS_GRP_MEM g i)
    bit 7 w && field 5 0 w == d.node && field 12 8 w == n)

/-- LS_JOIN's home is this device. -/
def Dev.lsLocal (d : Dev) (b : List Byte) : Bool := byteAt b 16 == 0xFF || byteAt b 16 == d.node

/-- LS_JOIN names a group that lists axis `n` (R270). -/
def Dev.lsListed (d : Dev) (b : List Byte) (n : Nat) : Bool :=
  if d.lsLocal b then d.rb (A.LS_GRP_CFG (byteAt b 17)) 0 && (d.lsEntry (byteAt b 17) n).isSome
  else d.mot.lsSeen.any (fun x => x.1 == byteAt b 16 && x.2.1 == byteAt b 17 && x.2.2 == n)

/-- The weight of a load-share command. -/
def lsWeight (b : List Byte) : Int := toSigned 16 (leAt b 18 2)

/-- A weight of opposite sign to the one in force (R273). -/
def Dev.turnsWeight (d : Dev) (n : Nat) (w : Int) : Bool :=
  match (d.mo n).ls with
  | some l => decide (l.weight * w < 0)
  | none => false

/-- A direction order of load share on some axis that may not turn now. -/
def Dev.weightRefused (d : Dev) (h : Hdr) (b : List Byte) : Bool :=
  (maskList 32 h.mask).any (fun n => d.turnsWeight n (lsWeight b)) && (maskList 32 h.mask).any (fun n => !d.mayTurn n)

/-- LS_JOIN's conditions. -/
def Dev.lsJoinCheck (d : Dev) (h : Hdr) (b : List Byte) : Verdict :=
  firstOf [d.plainMotion h,
    if (maskList 32 h.mask).any (fun n => !d.lsListed b n) then some (Code.masterInvalid, []) else none,
    if d.weightRefused h b then some (Code.reversalRefused, []) else none]

/-- LS_JOIN (R270). -/
def execLsJoin (h : Hdr) (b : List Byte) (s : State) : Host.Outcome State Fault Refusal :=
  s.perform (fun d => d.command 0x0405 h (fun d => d.orderTurn (d.lsJoinCheck h b) 0x0405 h b))

/-- The share of axis `n` now, N·m. -/
def Dev.shareNow (d : Dev) (n : Nat) : F32 := match (d.mo n).ls with | some l => f32Of l.share | none => 0

/-- The membership of axis `n` changes, and its share with it. -/
def Dev.setLs (d : Dev) (n : Nat) (l : LsMember) : Dev :=
  let d := d.modMo n (fun m => { m with ls := some l })
  d.modMo n (fun m => { m with ls := some { l with share := d.shareOf l } })

/-- LS_JOIN takes over at time `t`. -/
def Dev.lsJoinTakeover (d : Dev) (h : Hdr) (b : List Byte) (t : Nat) : Dev :=
  let g := byteAt b 17
  let here := d.lsLocal b
  let d := d.toMove h.mask
  let d := d.each (maskList 32 h.mask) (fun d n =>
    let d := d.newSource n t (fun _ => .share)
    let d := match (if here then d.lsEntry g n else none) with | some i => d.wb (A.LS_GRP_STATUS g) i true | none => d
    let d := d.modMo n (fun m => { m with ls := some { home := if here then d.node else byteAt b 16, group := g, weight := lsWeight b, localHome := here } })
    d.wb (A.LS_MEMBER n) 12 false)
  let d := d.each (maskList 32 h.mask) (fun d n => match (d.mo n).ls with | some l => d.setLs n l | none => d)
  d.complete h Code.done t (resultOf [(16, 4, (d.shareNow (lowest h.mask)).toNat)])

/-- Axis `n` is a member that is not leaving. -/
def Dev.joined (d : Dev) (n : Nat) : Bool := match (d.mo n).ls with | some l => l.fade.isNone | none => false

/-- LS_SHARE's conditions. -/
def Dev.lsShareCheck (d : Dev) (h : Hdr) (b : List Byte) : Verdict :=
  firstOf [d.plainMotion h,
    if (maskList 32 h.mask).all d.joined then none else some (Code.wrongMode, []),
    if d.weightRefused h b then some (Code.reversalRefused, []) else none]

/-- LS_SHARE (R273). -/
def execLsShare (h : Hdr) (b : List Byte) (s : State) : Host.Outcome State Fault Refusal :=
  s.perform (fun d => d.command 0x0406 h (fun d => d.orderTurn (d.lsShareCheck h b) 0x0406 h b))

/-- LS_SHARE takes over at time `t`. -/
def Dev.lsShareTakeover (d : Dev) (h : Hdr) (b : List Byte) (t : Nat) : Dev :=
  if !(maskList 32 h.mask).all d.joined then d.complete h Code.wrongMode t (resultOf [])
  else
    let d := d.each (maskList 32 h.mask) (fun d n => match (d.mo n).ls with | some l => d.modMo n (fun m => { m with ls := some { l with weight := lsWeight b } }) | none => d)
    let d := d.each (maskList 32 h.mask) (fun d n => match (d.mo n).ls with | some l => d.setLs n l | none => d)
    d.complete h Code.done t (resultOf [(16, 4, (d.shareNow (lowest h.mask)).toNat)])

/-- Axis `n` begins to leave its group at time `t` (R273): its share fades, the home drops it. -/
def Dev.lsLeaving (d : Dev) (n t : Nat) (byLoss : Bool) : Dev :=
  match (d.mo n).ls with
  | none => d
  | some l =>
    if l.fade.isSome then d
    else
      let d := d.modMo n (fun m => { m with ls := some { l with fade := some (t, l.share), byLoss } })
      let d := if l.localHome then (match d.lsEntry l.group n with | some i => d.wb (A.LS_GRP_STATUS l.group) i false | none => d) else d
      if byLoss then (d.wb (A.LS_MEMBER n) 12 true).raiseAx n 11 else d

/-- LS_LEAVE's conditions. -/
def Dev.lsLeaveCheck (d : Dev) (h : Hdr) : Verdict :=
  if d.splits h.mask then some (Code.groupSplit, [])
  else if (maskList 32 h.mask).all d.joined then none else some (Code.wrongMode, [])

/-- LS_LEAVE at its frame tick, where it takes over (R254, R273). -/
def Dev.lsLeave (d : Dev) (h : Hdr) : Dev :=
  match d.lsLeaveCheck h with
  | some v => d.doneAt h v.1 v.2
  | none =>
    let share := d.shareNow (lowest h.mask)
    (d.each (maskList 32 h.mask) (fun d n => d.lsLeaving n d.sys.lastFrame false)).doneAt h Code.done [(16, 4, share.toNat)]

/-- LS_LEAVE (R273). -/
def execLsLeave (h : Hdr) (s : State) : Host.Outcome State Fault Refusal := s.perform (fun d => d.command 0x0407 h (fun d => d.lsLeave h))

/-- A park by de-flux alone starts on the group of axis `n`, which holds (06 R190). -/
def Dev.startDeflux (d : Dev) (n : Nat) (cmds : List Hdr) : Dev :=
  d.modWav (d.lead n) (fun w => { w with park := some { brake := false, start := d.time.cnt, cmds } })

/-- LS_FADE_END (R273): the share has reached 0; the axis is parked with de-flux only. -/
def Dev.lsFadeEnd (d : Dev) (n : Nat) : Dev :=
  match (d.mo n).ls with
  | none => d
  | some l =>
    match l.fade with
    | none => d
    | some (st, _) =>
      let due := st + 1000000 * d.fld (A.LS_GRP_CFG l.group) 15 8
      let d := if d.past (d.time.edge due) then d else d.seenAt due
      if due ≤ d.now then
        let d := d.modMo n (fun m => { m with ls := none, hold := m.p, src := .hold })
        (d.setState n .hold 2).startDeflux n []
      else d

/-- LS_FADE_END. -/
def execLsFadeEnd (n : Nat) (s : State) : Host.Outcome State Fault Refusal := s.perform (fun d => d.lsFadeEnd n)

/-- LS_MEMBER_LOST (R273): the ninth miss of member axis `n` (at the member), or of entry `i` of group `g` (at its home). -/
def Dev.lsMemberLost (d : Dev) (home : Bool) (g i n : Nat) : Dev :=
  if home then
    match AList.find d.mot.remotes (8 * g + i) with
    | some r =>
      if r.active && decide (9 ≤ r.misses) then
        let d := d.modMot (fun q => { q with remotes := AList.put q.remotes (8 * g + i) { r with active := false } })
        (d.wb (A.LS_GRP_STATUS g) i false).wb (A.LS_GRP_STATUS g) (8 + i) true
      else d
    | none => d
  else
    match (d.mo n).ls with
    | some l => if !l.localHome && decide (9 ≤ l.misses) then d.lsLeaving n d.sys.lastFrame true else d
    | none => d

/-- LS_MEMBER_LOST. -/
def execLsMemberLost (home : Bool) (g i n : Nat) (s : State) : Host.Outcome State Fault Refusal :=
  s.perform (fun d => d.lsMemberLost home g i n)

/-- LS_RECORD_ARRIVAL (R272): at the home of group `g`, the record of entry `i`; at a member, that of home `node` for its axis. -/
def Dev.lsRecord (d : Dev) (toHome : Bool) (node g i n : Nat) (b : List Byte) : Dev :=
  if toHome then
    let k := 8 * g + i
    let r := AList.get {} d.mot.remotes k
    if r.ts < leAt b 0 8 then
      d.modMot (fun q => { q with remotes := AList.put q.remotes k { r with next := some (leAt b 0 8, f32At b 8, toSigned 16 (leAt b 12 2)) } })
    else d
  else
    let d := d.modMot (fun q => { q with lsSeen := if q.lsSeen.contains (node, g, n) then q.lsSeen else (node, g, n) :: q.lsSeen })
    match (d.mo n).ls with
    | some l =>
      if !l.localHome && l.home == node && l.group == g && decide (l.recTs < leAt b 0 8) then
        d.modMo n (fun m => { m with ls := some { l with nextRec := some (leAt b 0 8, f32At b 8, f32At b 12) } })
      else d
    | none => d

/-- LS_RECORD_ARRIVAL. -/
def execLsRecordArrival (toHome : Bool) (node g i n : Nat) (b : List Byte) (s : State) : Host.Outcome State Fault Refusal :=
  s.perform (fun d => d.lsRecord toHome node g i n b)

/-! ### Lost synchronisation (R268) -/

/-- The axes that depend on another device's time: geared to a remote master, or joined to a group homed elsewhere. -/
def Dev.remoteAxes (d : Dev) : List Nat :=
  d.axisList.filter (fun n => (d.mo n).gear.layers.any (fun y => y.ms.m.remote.isSome) ||
    (match (d.mo n).ls with | some l => !l.localHome | none => false))

/-- SYNC_LOSS_SUSPEND (R268): the stop at the frame tick after the time unit's report. -/
def Dev.syncLoss (d : Dev) : Dev :=
  if d.time.state ≠ 3 ∨ d.mot.syncHold then d
  else
    let axes := d.remoteAxes
    let d := d.modMot (fun q => { q with syncHold := true, syncAxes := maskOf axes })
    d.each axes (fun d n =>
      if (d.mo n).gear.layers.any (fun y => y.ms.m.remote.isSome) then
        (d.startRamp n d.sys.lastFrame 2 Code.superseded).modMo n (fun m => { m with gear := { m.gear with suspend := true } })
      else d.lsLeaving n d.sys.lastFrame false)

/-- SYNC_LOSS_SUSPEND. -/
def execSyncLossSuspend (s : State) : Host.Outcome State Fault Refusal := s.perform Dev.syncLoss

/-- The signal to the time unit: every such axis is in HOLD or PARKED (R268). -/
def Dev.syncStands (d : Dev) : Bool :=
  (maskList 32 d.mot.syncAxes).all (fun n => let st := (d.ax n).state; st == .hold || st == .parked)

/-! ### Virtual masters (R269) -/

/-- Virtual master `v`. -/
def Dev.vm (d : Dev) (v : Nat) : VmSt := AList.get {} d.mot.vms v

/-- The conditions of VM_MOTION and VM_STOP; `ls` are the limits they give. -/
def Dev.vmCheck (d : Dev) (h : Hdr) (stop : Bool) (ls : List F32) : Verdict :=
  if h.mask ≠ 0 then some (Code.wrongMode, [])
  else if !stop && !moveMode d.sys.mode then some (Code.wrongMode, [])
  else if !stop && d.sys.mode = .degraded then some (Code.degradedOnly, [])
  else if !stop && d.pwr.dipStopped then some (Code.supplyLow, [])
  else if ls.any (fun x => decide (f32Val x ≤ 0)) then some (Code.profileInvalid, []) else none

/-- VM_MOTION's conditions. -/
def Dev.vmMotionCheck (d : Dev) (h : Hdr) (b : List Byte) : Verdict := d.vmCheck h false [f32At b 28, f32At b 32, f32At b 36]

/-- VM_MOTION (R269). -/
def execVmMotion (h : Hdr) (b : List Byte) (s : State) : Host.Outcome State Fault Refusal :=
  s.perform (fun d => d.command 0x0408 h (fun d => d.orderIf (d.vmMotionCheck h b) 0x0408 h b))

/-- VM_STOP's conditions. -/
def Dev.vmStopCheck (d : Dev) (h : Hdr) (b : List Byte) : Verdict := d.vmCheck h true [f32At b 32, f32At b 36]

/-- VM_STOP (R269). -/
def execVmStop (h : Hdr) (b : List Byte) (s : State) : Host.Outcome State Fault Refusal :=
  s.perform (fun d => d.command 0x0409 h (fun d => d.orderIf (d.vmStopCheck h b) 0x0409 h b))

/-- A virtual master takes a source and its command completes. -/
def Dev.vmStart (d : Dev) (h : Hdr) (v t : Nat) (x : VmSt) (q : Plan) (src : Src) : Dev :=
  let d := d.modMot (fun m => { m with vms := AList.put m.vms v { x with src } })
  d.complete h Code.done t (resultOf [(16, 8, d.tickUp q.endTime)])

/-- VM_MOTION takes over at time `t`. -/
def Dev.vmTakeover (d : Dev) (h : Hdr) (b : List Byte) (t : Nat) : Dev :=
  let v := byteAt b 16
  let x := d.vmAt v t
  let vm := f32Val (f32At b 28)
  let a := f32Val (f32At b 32)
  let j := f32Val (f32At b 36)
  if byteAt b 17 = 2 then
    let q := velPlan t x.p x.v x.a (clampVel (f32Val (f32At b 20)) vm).1 a j
    d.vmStart h v t x q (.vel q)
  else
    let q := movePlan t x.p x.v x.a (toSigned 64 (leAt b 20 8) + (if byteAt b 17 = 1 then x.p else 0)) vm a j
    d.vmStart h v t x q (.move q)

/-- VM_STOP takes over at time `t`. -/
def Dev.vmStopTakeover (d : Dev) (h : Hdr) (b : List Byte) (t : Nat) : Dev :=
  let x := d.vmAt (byteAt b 16) t
  let q := stopPlan t x.p x.v x.a (f32Val (f32At b 32)) (f32Val (f32At b 36))
  d.vmStart h (byteAt b 16) t x q (.ramp q)

/-- VM_STATUS.src (R269). -/
def Dev.vmSrc (d : Dev) (v : Nat) : Nat := match (d.vm v).src with | .move _ => 4 | .vel _ => 5 | .ramp _ => 9 | _ => 1

/-! ### What the registers and GEAR_QUERY show -/

/-- GEAR_STATUS as it reads (R264). -/
def Dev.gearStatusWord (d : Dev) (n : Nat) : Word :=
  let g := (d.mo n).gear
  setField 2 0 g.state (setField 11 8 (match g.layers with | y :: _ => y.ms.misses | [] => g.lostMisses) (d.rd (A.GEAR_STATUS n)))

/-- GEAR_MASTER as it reads. -/
def Dev.gearMasterWord (d : Dev) (n : Nat) : Word :=
  match (d.mo n).gear.layers with
  | [] => 0
  | y :: _ =>
    BitVec.ofNat 32 (y.ms.m.index % 64 + 2 ^ 6 * b2n y.ms.m.fb + 2 ^ 7 * b2n y.ms.m.remote.isSome + 2 ^ 8 * (y.ms.m.remote.getD 0 % 64) +
      2 ^ 14 * b2n y.law.cam + 2 ^ 15 * b2n (d.mo n).gear.absolute + 2 ^ 16 * b2n y.law.cyclic)

/-- LS_MEMBER as it reads. -/
def Dev.lsMemberWord (d : Dev) (n : Nat) : Word :=
  let lost := b2n (d.rb (A.LS_MEMBER n) 12)
  match (d.mo n).ls with
  | none => BitVec.ofNat 32 (2 ^ 12 * lost)
  | some l => BitVec.ofNat 32 (l.home % 64 + 2 ^ 8 * (l.group % 8) + 2 ^ 11 * b2n l.fade.isNone + 2 ^ 12 * lost + 2 ^ 16 * ofSigned 16 l.weight)

/-- GEAR_QUERY. -/
def Dev.gearQuery (d : Dev) (h : Hdr) : Dev :=
  let n := lowest h.mask
  d.doneNow h Code.done (if h.mask = 0 then [] else
    [(16, 4, (d.gearStatusWord n).toNat), (20, 4, (d.gearMasterWord n).toNat), (24, 4, (d.lsMemberWord n).toNat), (28, 4, (d.mo n).gear.age)])

/-- GEAR_QUERY (R274). -/
def execGearQuery (h : Hdr) (s : State) : Host.Outcome State Fault Refusal := s.perform (fun d => d.command 0x040A h (fun d => d.gearQuery h))

/-! ### The takeover of an order (R254) -/

/-- The conditions of a virtual master's order at its takeover. -/
def Dev.vmAgain (d : Dev) (op : Nat) (h : Hdr) (b : List Byte) : Verdict :=
  match (if op = 0x0408 then d.vmMotionCheck h b else d.vmStopCheck h b) with
  | some x => some (x.1, [])
  | none => none

/-- One order takes over at time `t`, judged again (R254). -/
def Dev.takeover (d : Dev) (x : Takeover) (t : Nat) : Dev :=
  match (if x.op = 0x0408 ∨ x.op = 0x0409 then d.vmAgain x.op x.h x.bytes else d.takeoverCheck x.h) with
  | some v => d.complete x.h v.1 t (resultOf [])
  | none =>
    if x.op = 0x0302 then d.runTakeover x.h x.bytes t
    else if x.op = 0x0303 then d.moveTakeover x.h x.bytes t
    else if x.op = 0x0304 then d.velTakeover x.h x.bytes t
    else if x.op = 0x0401 then d.engageTakeover x.h x.bytes t
    else if x.op = 0x0402 then d.ratioTakeover x.h x.bytes t
    else if x.op = 0x0403 then d.phaseTakeover x.h x.bytes t
    else if x.op = 0x0404 then d.disengageTakeover x.h x.bytes t
    else if x.op = 0x0405 then d.lsJoinTakeover x.h x.bytes t
    else if x.op = 0x0406 then d.lsShareTakeover x.h x.bytes t
    else if x.op = 0x0408 then d.vmTakeover x.h x.bytes t
    else d.vmStopTakeover x.h x.bytes t

/-- The orders due at frame tick `t` take over, oldest first. -/
def Dev.takeovers (d : Dev) (t : Nat) : Dev :=
  let due := d.mot.takeovers.filter (fun x => decide (x.at_ ≤ t))
  let d := d.modMot (fun q => { q with takeovers := q.takeovers.filter (fun x => decide (t < x.at_)) })
  due.foldl (fun d x => d.takeover x t) d

/-- MOTION_TAKEOVER (R254): the orders due at the last frame tick take over. -/
def execMotionTakeover (s : State) : Host.Outcome State Fault Refusal := s.perform (fun d => d.takeovers d.sys.lastFrame)

end Sys2Proof.Machine
end

