-- ==== Sys2Proof/Machine/Pwm.lean ====
section
/-!
DEFINITION. PWM periods, gate waveforms, dead times and trips (07_pwm.md R195 to R216; the pulse train of 09 R255).
-/

namespace Sys2Proof.Machine

/-- The k_sel of a loop rate that would give a reserved PWM period (R199). -/
def kReserved (loopHz k : Nat) : Bool := (loopHz == 4000 && k == 1) || (loopHz == 64000 && k == 4)

/-- A pulse-train axis (09 R255): the carrier, the dead times and the trips do not act on it. -/
def Dev.pulseTrain (d : Dev) (n : Nat) : Bool := d.rb (A.PROF_CFG n) 3

/-! ### The registers in force (R197) -/

/-- What was written into the page of axis `n` acts from this tick. -/
def Dev.pwmLatch (d : Dev) (n : Nat) : Dev :=
  d.setPw n { d.pw n with
    ctrl := d.rd (A.PWM_CTRL n), dtLim := d.rd (A.PWM_DT_LIM n), dtCfg := d.rd (A.PWM_DT_CFG n), tripCfg := d.rd (A.PWM_TRIP_CFG n)
    tripWin := d.rd (A.PWM_TRIP_WIN n)
    gCfg := if n % 8 = 0 then d.rd (A.PWM_GTRIP_CFG (n / 8)) else 0
    gMask := if n % 8 = 0 then d.rd (A.PWM_GTRIP_MASK (n / 8)) else 0 }

/-- The checks of R208 at a frame tick, by the registers as written: the dead times in order, and two of them with two pulses within
a period. -/
def Dev.deadTimesOk (d : Dev) (n : Nat) : Bool :=
  let mn := d.fld (A.PWM_DT_LIM n) 15 0
  let mx := d.fld (A.PWM_DT_LIM n) 31 16
  let fx := d.fld (A.PWM_DT_CFG n) 15 0
  let p := 16 * d.fld (A.PWM_CTRL n) 15 8
  decide (mn ≤ fx) && decide (fx ≤ mx) && decide (2 * mx + 2 * p ≤ 8 * d.loopPeriod / 2 ^ d.fld (A.PWM_CTRL n) 1 0)

/-- The minimum pulse P in force, in 125 ps units (R201). -/
def Dev.minPulse (d : Dev) (n : Nat) : Nat := 16 * field 15 8 (d.pw n).ctrl

/-- The compare value of a duty after R201, in 125 ps units. -/
def compareOf (t p : Nat) (q : Rat) : Nat :=
  let c := (q * t + mkRat 1 2).floor.toNat
  if 0 < c ∧ c < p then 0 else if t - p < c ∧ c < t then t else c

/-- The leg in force for a shadow leg (R201, R202). -/
def Dev.legInForce (d : Dev) (n : Nat) (l : Leg) : Leg :=
  match l with
  | .released => .released
  | .duty q => .duty (mkRat (compareOf (d.pwmT n) (d.minPulse n) q) (d.pwmT n))

/-- The dead times of a leg at PWM start, in fallback and without adaptation (R207). -/
def Dev.fixedLeg (d : Dev) (n : Nat) : LegDt :=
  { fall := field 15 0 (d.pw n).dtCfg, rise := field 15 0 (d.pw n).dtCfg }

/-- Adaptive dead times are on. -/
def Dev.adaptive (d : Dev) (n : Nat) : Bool := bit 28 (d.pw n).dtCfg

/-- A leg's dead times. -/
def Dev.leg (d : Dev) (n l : Nat) : LegDt := AList.get {} (d.pw n).legs l

/-- Set a leg's dead times. -/
def Dev.setLeg (d : Dev) (n l : Nat) (x : LegDt) : Dev := d.modPw n (fun p => { p with legs := AList.put p.legs l x })

/-- The leg that acts in the present period. -/
def Dev.legNow (d : Dev) (n l : Nat) : Leg := (d.pw n).active.getD l .released

/-- The compare instant of leg `l` in the present period, 125 ps units: 0 without a duty. -/
def Dev.cmpNow (d : Dev) (n l : Nat) : Nat :=
  match d.legNow n l with
  | .released => 0
  | .duty q => (q * d.pwmT n).floor.toNat

/-- How far the present period has run, in 125 ps units. -/
def Dev.sincePeriod (d : Dev) (n : Nat) : Nat := 16 * (d.time.cnt - (d.pw n).startAt)

/-! ### The gates (R195, R196, R200, R204, R210) -/

/-- What a leg commands at the start of a period. -/
def Leg.firstSide : Leg → Side
  | .released => .none
  | .duty q => if 0 < q then .high else .low

/-- What a leg commands `fin` units after the start of its period, with its compare instant `cmp`. -/
def Leg.sideAt (l : Leg) (cmp fin : Nat) : Side :=
  match l with
  | .released => .none
  | .duty q => if 0 < q ∧ (q = 1 ∨ fin ≤ cmp) then .high else .low

/-- An interval, or none when it is empty. -/
def span (a b : Nat) : List (Nat × Nat) := if a < b then [(a, b)] else []

/-- The gates of a leg in a period of `t` units without a trip (R200, R204): a change of the commanded side is followed by the dead
time of its direction. -/
def LegDt.wave (x : LegDt) (l : Leg) (cmp t : Nat) : LegWave :=
  match l with
  | .released => {}
  | .duty q =>
    let from_ := if x.before = l.firstSide then x.gap else if 0 < q then x.riseNow else x.fallNow
    if q ≤ 0 then { low := span from_ t }
    else if 1 ≤ q then { high := span from_ t }
    else { high := span from_ cmp, low := span (cmp + x.fallNow) t }

/-- Intervals cut off at `fin`. -/
def clipTo (fin : Nat) (l : List (Nat × Nat)) : List (Nat × Nat) := l.flatMap (fun i => span i.1 (min i.2 fin))

/-- A trip takes the gates at `from_` (R210): all inactive, or with `low` the low side on after the fall dead time `dt` and held on, a low
side that is on or in its dead time already going on as it does. -/
def LegWave.trip (w : LegWave) (from_ dt t : Nat) (low : Bool) : LegWave :=
  let on := w.low.filter (fun i => decide (i.1 ≤ from_ + dt) && decide (from_ < i.2))
  { high := clipTo from_ w.high
    low := if low then (match on with | i :: _ => span i.1 t | [] => clipTo from_ w.low ++ span (from_ + dt) t) else clipTo from_ w.low }

/-- A trip commands the low sides on: action 1, and no winding short (R210). -/
def Dev.tripLow (d : Dev) (n : Nat) : Bool := bit 13 (d.pw n).tripCfg && (d.shortOf n).isNone

/-- The gates of leg `l` in the present period, planned to its end (R200, R204, R210, R211). -/
def Dev.legWave (d : Dev) (n l : Nat) : LegWave :=
  let p := d.pw n
  let x := d.leg n l
  let w := x.wave (d.legNow n l) (d.cmpNow n l) (d.pwmT n)
  if !p.tripNow then w
  else w.trip p.tripFrom (if x.before = .low ∧ p.tripFrom = 0 then x.gap else x.fallNow) (d.pwmT n) (d.tripLow n)

/-- The gates of a cut period (R203): what still runs ends with it, and a pulse that this would make shorter than P is not emitted. -/
def LegWave.cut (w : LegWave) (fin p : Nat) : LegWave :=
  let f (l : List (Nat × Nat)) : List (Nat × Nat) := (l.filter (fun i => decide (i.2 ≤ fin) || decide (i.1 + p ≤ fin))).flatMap (fun i => span i.1 (min i.2 fin))
  { high := f w.high, low := f w.low }

/-- Step pulse `i`, from 0, of a pulse-train axis in the present loop period: rise and fall, 125 ps units from the tick (09 R256). -/
def Dev.stepPulse (d : Dev) (n i : Nat) : Nat × Nat :=
  let m := d.mo n
  let r : Nat := 8 * m.ptSetup + (mkRat ((8 * i * (d.loopPeriod - m.ptSetup) : Nat) : Int) m.ptCount).floor.toNat
  (r, r + 80 * d.fld (A.PT_CFG n) 9 0)

/-- The gates of leg `l` of a pulse-train axis over the present loop period (09 R255): U step, V direction, W enable on the high
sides; the low sides inactive. -/
def Dev.trainWave (d : Dev) (n l : Nat) : LegWave :=
  let t := 8 * d.loopPeriod
  if l = 0 then { high := (List.range (d.mo n).ptCount).map (d.stepPulse n) }
  else if l = 1 then { high := if (d.mo n).dirUp then span 0 t else [] }
  else { high := if (d.ax n).state.active then span 0 t else [] }

/-- The active times of the gates of leg `l` of axis `n`: none while the STO forces them or the PWM is off (R195, R202, R215); of the
present PWM period, or loop period of a pulse train. -/
def Dev.gates (d : Dev) (n l : Nat) : LegWave :=
  if (d.pw n).sto then {}
  else if d.pulseTrain n then d.trainWave n l
  else if (d.pw n).on then d.legWave n l else {}

/-- The level at the ball of a gate of axis `n`, `x` units into its period (R195, R196): low before PWM_CTRL is written and on an axis
the device does not have, else as PWM_CTRL's inversions make it. -/
def Dev.gateBall (d : Dev) (n l : Nat) (high : Bool) (x : Nat) : Bool :=
  let w := d.gates n l
  if !(d.pw n).ctrlWritten || decide (d.axes ≤ n) then false
  else (if high then w.high else w.low).any (fun i => decide (i.1 ≤ x) && decide (x < i.2)) != bit (if high then 2 else 3) (d.pw n).ctrl

/-! ### Trips -/

/-- The filtered level of TRIPG_g, true when active (R209, R214); the BZG-4016 ignores TRIPG_2 and TRIPG_3 (R196). -/
def Dev.groupLevel (d : Dev) (g : Nat) : Bool :=
  !(d.sys.is4016 && decide (2 ≤ g)) && ((d.pw (8 * g)).gBall != bit 11 (d.pw (8 * g)).gCfg)

/-- The filtered level of AXnn_TRIP, true when active (R209). -/
def Dev.inLevel (d : Dev) (n : Nat) : Bool := (d.pw n).ball != bit 11 (d.pw n).tripCfg

/-- Axis `n` is opted in to its group trip (R213). -/
def Dev.optedIn (d : Dev) (n : Nat) : Bool := bit (n % 8) (d.pw (8 * (n / 8))).gMask

/-- The group trip acts on axis `n`: enabled, active and opted in (R213, R214). -/
def Dev.groupTrip (d : Dev) (n : Nat) : Bool := bit 12 (d.pw (8 * (n / 8))).gCfg && d.groupLevel (n / 8) && d.optedIn n

/-- A trip of the axis input or of its group is active (R211). -/
def Dev.tripLevel (d : Dev) (n : Nat) : Bool := (bit 12 (d.pw n).tripCfg && d.inLevel n) || d.groupTrip n

/-- A group trip with gmode = 1 acts on axis `n`, whose PWM is on (R213). -/
def Dev.groupLatch (d : Dev) (n : Nat) : Bool :=
  d.groupTrip n && bit 13 (d.pw (8 * (n / 8))).gCfg && (d.pw n).on && !(d.pw n).sto && !d.pulseTrain n

/-- The counting window closes (R212). -/
def AxPwm.closeWin (p : AxPwm) : AxPwm := { p with winLeft := 0, winCount := 0 }

/-- A trip holds the outputs in the present period: it is counted once, and the latch_n-th count latches (R212). -/
def Dev.countTrip (d : Dev) (n : Nat) : Dev :=
  let p := d.pw n
  if !p.on || p.sto || p.counted || p.latchDue then d
  else
    let c := if p.winLeft = 0 then 1 else p.winCount + 1
    let d := d.incSat (A.PWM_TRIP_STATUS n) 31 16
    let d := d.setPw n { p with
      counted := true, winCount := c, winLeft := if p.winLeft = 0 then field 15 0 p.tripWin else p.winLeft
      latchDue := decide (field 23 16 p.tripCfg ≤ c) }
    if p.winLeft = 0 then d.raiseAx n 8 else d

/-- TRIP_LATCH_OFF (R212, R213): win_count has reached latch_n, or a group trip latches: the gates go inactive and the axis enters
FAULT.  The STO in the same 500 MHz cycle comes first (R215): the axis is then PARKED and nothing is due. -/
def Dev.tripLatch (d : Dev) (n : Nat) : Dev :=
  let p := d.pw n
  let group := p.groupDue || d.groupLatch n
  if p.on && !p.sto && (p.latchDue || group) then
    let d := if group then d.wb (A.PWM_GTRIP_STATUS (n / 8)) 1 true else d
    let d := d.setPw n { p.off with latched := true }
    (d.raiseAx n 8).faultAxis n 16
  else d

/-- A trip becomes active (R211, R213): it holds the axis's outputs from now to the end of the period, in which a compare instant still
to come is no measured edge (R205); with gmode = 1 the axis is to be latched off.  A period that has run out is not held: the next one
samples the level. -/
def Dev.tripHold (d : Dev) (n : Nat) : Dev :=
  let p := d.pw n
  if !(p.on && !p.sto && !d.pulseTrain n && d.tripLevel n) then d
  else
    let d := d.modPw n (fun p => { p with groupDue := p.groupDue || d.groupLatch n })
    let x := d.sincePeriod n
    if p.tripNow || decide (d.pwmT n ≤ x) then d
    else
      let d := d.modPw n (fun p => { p with tripNow := true, tripFrom := x })
      let d := d.each [0, 1, 2] (fun d l => if x ≤ d.cmpNow n l then d.setLeg n l { d.leg n l with fallEdge := false } else d)
      d.countTrip n

/-- TRIP_WINDOW_CLOSE (R212): the window ends with its W-th period. -/
def Dev.tripWindowClose (d : Dev) (n : Nat) : Dev :=
  if (d.pw n).winLeft = 0 then d.modPw n AxPwm.closeWin else d

/-! ### Dead times -/

/-- Axis leg `l` has reached 64 consecutive measured edges without a seen transition: it enters fallback (R206). -/
def Dev.missCheck (d : Dev) (n l : Nat) : Dev :=
  let x := d.leg n l
  if 64 ≤ x.misses ∧ !x.fallback then
    let f := d.fixedLeg n
    let d := d.setLeg n l { x with fall := f.fall, rise := f.rise, misses := 0, fallback := true }
    (d.wb (A.PWM_STATUS n) (8 + l) true).raiseAx n 8
  else d

/-- The window of the rise edge of leg `l` is over and has seen nothing. -/
def Dev.missRise (d : Dev) (n l : Nat) : Dev :=
  let x := d.leg n l
  if x.riseEdge then (d.setLeg n l { x with riseEdge := false, misses := if x.fallback then 0 else x.misses + 1 }).missCheck n l else d

/-- The window of the fall edge of leg `l` is over and has seen nothing. -/
def Dev.missFall (d : Dev) (n l : Nat) : Dev :=
  let x := d.leg n l
  if x.fallEdge then (d.setLeg n l { x with fallEdge := false, misses := if x.fallback then 0 else x.misses + 1 }).missCheck n l else d

/-- SENSE_TRANSITION (R205, R206): in the window of the fall or rise edge of leg `l` the sense input makes a transition `tm` units after
the outgoing command.  One of the other polarity is ignored, sw_inv inverts the input; it is seen up to the 500 MHz cycle in which the
window closes.  The window of a rise lies before that of a fall. -/
def Dev.senseTransition (d : Dev) (n l : Nat) (fall rising : Bool) (tm : Nat) : Dev :=
  let p := d.pw n
  let x := d.leg n l
  let at_ := p.period * d.pwmT n + (if fall then d.cmpNow n l else 0)
  let seen := decide ((at_ + tm) / 16 ≤ (at_ + (if fall then x.fallNow else x.riseNow)) / 16)
  if !(p.on && d.adaptive n && !p.sto) || (rising != bit 29 p.dtCfg) == fall || !seen || !(if fall then x.fallEdge else x.riseEdge) then d
  else
    let v := clampN (field 15 0 p.dtLim) (field 31 16 p.dtLim) (tm + field 27 16 p.dtCfg)
    let d := if fall then d.missRise n l else d
    let x := d.leg n l
    d.setLeg n l (if fall then { x with fall := v, fallEdge := false, misses := 0, fallback := false }
      else { x with rise := v, riseEdge := false, misses := 0, fallback := false })

/-- DT_FALLBACK (R206): the windows that are over count, and with the 64th miss the leg is in fallback. -/
def Dev.dtFallback (d : Dev) (n l : Nat) : Dev :=
  let x := d.leg n l
  if !d.adaptive n || x.fallback || decide (x.misses + b2n x.riseEdge + b2n x.fallEdge < 64) then d
  else
    let d := (d.missCheck n l).missRise n l
    if (d.leg n l).fallback then d else d.missFall n l

/-! ### Periods -/

/-- The present period of leg `l` ends after `fin` units: a fall edge it did not reach is none, open windows have seen nothing, and
what the leg commands at its end is kept with the rest of its dead time (R200, R203, R206). -/
def Dev.legEnd (d : Dev) (n l fin : Nat) : Dev :=
  let p := d.pw n
  let cmp := d.cmpNow n l
  let d := if fin ≤ cmp then d.setLeg n l { d.leg n l with fallEdge := false } else d
  let d := (d.missRise n l).missFall n l
  let x := d.leg n l
  let side := if p.tripNow then (if d.tripLow n then .low else .none) else (d.legNow n l).sideAt cmp fin
  let changed : Bool := if p.tripNow && decide (p.tripFrom ≤ cmp) then !(x.before == .low && p.tripFrom == 0)
    else (d.legNow n l).firstSide == .high || x.before != .low
  let off := if p.tripNow then min p.tripFrom cmp else cmp
  let gap := if side = .low ∧ changed then off + x.fallNow - fin else 0
  d.setLeg n l { x with before := side, gap }

/-- The present period of axis `n` ends after `fin` units. -/
def Dev.periodEnd (d : Dev) (n fin : Nat) : Dev := d.each [0, 1, 2] (fun d l => d.legEnd n l fin)

/-- Leg `l` starts a period (R200, R204, R205): its edges are measured while no trip holds the outputs. -/
def Dev.legBegin (d : Dev) (n l : Nat) : Dev :=
  let x := d.leg n l
  let lg := d.legNow n l
  let measured := d.adaptive n && !(d.pw n).tripNow
  let cmp := d.cmpNow n l
  d.setLeg n l { x with
    riseNow := x.rise, fallNow := x.fall
    riseEdge := measured && lg.firstSide == .high && x.before == .low
    fallEdge := measured && ((lg.firstSide == .high && decide (cmp < d.pwmT n)) || (lg.firstSide == .low && x.before == .high)) }

/-- A PWM period of axis `n` starts at counter value `c` (R200, R211, R212): a latch that is due comes first, and an active trip holds the
period. -/
def Dev.periodStart (d : Dev) (n c : Nat) : Dev :=
  let d := (d.tripLatch n).tripWindowClose n
  let p := d.pw n
  if !p.on || d.pulseTrain n then d
  else
    let trip := d.tripLevel n
    let d := d.setPw n { p with startAt := c, tripNow := trip, tripFrom := 0, counted := false }
    let d := if trip then d.countTrip n else d
    let d := if 0 < p.winLeft then d.modPw n (fun p => { p with winLeft := p.winLeft - 1 }) else d
    d.each [0, 1, 2] (fun d l => d.legBegin n l)

/-- The counter value at which the next period of axis `n` starts (R198): period i of a tick at B + i × T_pwm of fabric time, on the
local clock after a time step (R203). -/
def Dev.nextPeriodAt (d : Dev) (n : Nat) : Nat :=
  let p := d.pw n
  if d.sys.cutTick then p.startAt + ceilDiv (d.pwmT n) 16 else d.time.edge (d.tickTime + (p.period + 1) * d.pwmT n / 8)

/-- A further period of the present tick is to come: k of them, and after a time step more until the tick fires (R203). -/
def Dev.morePeriods (d : Dev) (n : Nat) : Bool :=
  (d.pw n).on && !d.pulseTrain n && (decide ((d.pw n).period + 1 < d.pwmK n) || d.sys.cutTick)

/-- The next period of axis `n` within the tick starts at its time. -/
def Dev.nextPeriod (d : Dev) (n : Nat) : Dev :=
  let c := d.nextPeriodAt n
  let d := (d.advanceTo c).periodEnd n (d.pwmT n)
  (d.modPw n (fun p => { p with period := p.period + 1 })).periodStart n c

/-- The periods of axis `n` that have started by counter value `c`, at most `fuel` of them. -/
def Dev.periodsTo (d : Dev) (n c : Nat) : Nat → Dev
  | 0 => d
  | fuel + 1 => if d.morePeriods n && decide (d.nextPeriodAt n ≤ c) then (d.nextPeriod n).periodsTo n c fuel else d

/-- PWM_PERIOD_START (R198, R200): an intermediate period; the first of a tick starts with the tick. After a time step further
periods may follow until the tick fires (R203). -/
def Dev.pwmPeriod (d : Dev) (n : Nat) : Dev := if d.morePeriods n then d.nextPeriod n else d

/-- The periods of axis `n` before the tick that fires at counter value `c`: those whose row did not come start at their times, and the
last ends with the tick, cut short after a time step (R198, R203). -/
def Dev.periodsOut (d : Dev) (n c : Nat) : Dev :=
  if !(d.pw n).on || d.pulseTrain n then d
  else
    let d := d.periodsTo n (c - 1) (if d.sys.cutTick then 65536 else 4)
    let fin := min (d.pwmT n) (16 * (c - (d.pw n).startAt))
    if !d.sys.cutTick then d.periodEnd n (d.pwmT n)
    else
      let d := d.modPw n (fun p => { p with cutWaves := [0, 1, 2].map (fun l => (d.legWave n l).cut fin (d.minPulse n)) })
      (d.periodEnd n fin).flagAx (A.PWM_STATUS n) 11 n 8

/-- The PWM of axis `n` at a loop tick (R38, R202): on or off, the shadow duties loaded, and period 0 started. -/
def Dev.pwmLoad (d : Dev) (n : Nat) : Dev :=
  let was := n % 8 = 0 ∧ d.groupLevel (n / 8) = true
  let d := d.pwmLatch n
  let d := if n % 8 = 0 ∧ d.groupLevel (n / 8) ∧ !was then d.incSat (A.PWM_GTRIP_STATUS (n / 8)) 31 16 else d
  let p := d.pw n
  if d.pwmWanted n && !p.sto && !p.offNext then
    let d := if p.on then d
      else d.setPw n { p.off with on := true, shadow := p.shadow, legs := [(0, d.fixedLeg n), (1, d.fixedLeg n), (2, d.fixedLeg n)] }
    (d.modPw n (fun p => { p with active := p.shadow.map (d.legInForce n), period := 0 })).periodStart n d.time.cnt
  else d.setPw n p.off

/-! ### The trip inputs (R209) -/

/-- An input that holds the level `level` for `clocks` clocks of its filter clock passes the filter set by `cfg` (R209). -/
def filterPasses (cfg : Word) (clocks : Nat) : Bool := decide (field 9 0 cfg ≤ clocks)

/-- The filtered level of AXnn_TRIP or TRIPG_g becomes `level`, now: periods that start in this 500 MHz cycle sample the new one
(R211); a rise of the group trip is counted (R214), the filtered trip of an axis that becomes active is an event of Oculus (10 R284), and a
trip that becomes active acts. -/
def Dev.tripInput (d : Dev) (group : Bool) (i : Nat) (level : Bool) : Dev :=
  let axes := if group then d.axisList.filter (fun n => n / 8 == i) else [i]
  let c := d.time.cnt
  let d := d.each axes (fun d n => d.periodsTo n (c - 1) 4)
  let was := d.groupLevel i
  let low := !group && !d.inLevel i
  let d := if group then d.modPw (8 * i) (fun p => { p with gBall := level }) else d.modPw i (fun p => { p with ball := level })
  let d := if low && d.inLevel i then d.ocuEvent (64 + i) true (8 * d.now) else d
  let d := if group && !was && d.groupLevel i then d.incSat (A.PWM_GTRIP_STATUS i) 31 16 else d
  d.each axes (fun d n => (d.periodsTo n c 4).tripHold n)

/-- The level at a trip input, after `after` further 500 MHz cycles, has been `level` for `clocks` clocks of its filter clock: it passes
where the filter is that long and the polarity makes it the wanted one, active or not (R209). -/
def Dev.tripSample (d : Dev) (group : Bool) (i after clocks : Nat) (level active : Bool) : Dev :=
  let cfg := if group then (d.pw (8 * i)).gCfg else (d.pw i).tripCfg
  if (if group then d.sys.is4016 && decide (2 ≤ i) else decide (d.axes ≤ i)) || !filterPasses cfg clocks || (level != bit 11 cfg) != active then d
  else (d.advanceTo (d.time.cnt + after)).tripInput group i level

/-- TRIP_ASSERT of AXnn_TRIP, or of TRIPG_g (R209, R211, R213, R214). -/
def Dev.tripAssert (d : Dev) (group : Bool) (i after clocks : Nat) (level : Bool) : Dev := d.tripSample group i after clocks level true

/-- TRIP_RELEASE (R209): the outputs resume at the next period start. -/
def Dev.tripRelease (d : Dev) (group : Bool) (i after clocks : Nat) (level : Bool) : Dev := d.tripSample group i after clocks level false

/-! ### Registers -/

/-- PWM_ACT of leg `l` (R203). -/
def Dev.pwmActWord (d : Dev) (n l : Nat) : Word :=
  match d.legNow n l with
  | .released => 0x100000
  | .duty _ => BitVec.ofNat 32 (d.cmpNow n l)

/-- PWM_DT_ACT of leg `l` (R207). -/
def Dev.dtActWord (d : Dev) (n l : Nat) : Word :=
  let x := if d.adaptive n then d.leg n l else d.fixedLeg n
  BitVec.ofNat 32 (x.fall + 2 ^ 16 * x.rise)

/-- PWM_STATUS with its computed bits (R203). -/
def Dev.pwmStatusWord (d : Dev) (n : Nat) : Word :=
  let p := d.pw n
  let fb := maskOf ([0, 1, 2].filter (fun l => (d.leg n l).fallback))
  (d.rd (A.PWM_STATUS n) &&& 0xF00) ||| BitVec.ofNat 32 (b2n p.on + 2 * b2n p.sto + 4 * b2n p.tripNow + 16 * fb)

/-- PWM_TRIP_STATUS with its computed bits (R212). -/
def Dev.tripStatusWord (d : Dev) (n : Nat) : Word :=
  let p := d.pw n
  (d.rd (A.PWM_TRIP_STATUS n) &&& 0xFFFF0000) ||| BitVec.ofNat 32 (b2n (d.inLevel n) + 2 * b2n (d.optedIn n && d.groupLevel (n / 8)) +
    4 * b2n (decide (0 < p.winLeft)) + 8 * b2n p.latched + 2 ^ 8 * (if 0 < p.winLeft then p.winCount else 0))

/-- PWM_GTRIP_STATUS with its computed bit (R214). -/
def Dev.groupStatusWord (d : Dev) (g : Nat) : Word := setBit 0 (d.groupLevel g) (d.rd (A.PWM_GTRIP_STATUS g))

/-! ### Commands -/

/-- PWM_PERIOD_START. -/
def execPwmPeriodStart (n : Nat) (s : State) : Host.Outcome State Fault Refusal := s.perform (fun d => d.pwmPeriod n)

/-- TRIP_ASSERT. -/
def execTripAssert (group : Bool) (x : TripIn) (s : State) : Host.Outcome State Fault Refusal :=
  s.perform (fun d => d.tripAssert group x.n x.after x.clocks x.level)

/-- TRIP_LATCH_OFF. -/
def execTripLatchOff (n : Nat) (s : State) : Host.Outcome State Fault Refusal := s.perform (fun d => d.tripLatch n)

/-- TRIP_WINDOW_CLOSE. -/
def execTripWindowClose (n : Nat) (s : State) : Host.Outcome State Fault Refusal := s.perform (fun d => d.tripWindowClose n)

/-- TRIP_RELEASE. -/
def execTripRelease (group : Bool) (x : TripIn) (s : State) : Host.Outcome State Fault Refusal :=
  s.perform (fun d => d.tripRelease group x.n x.after x.clocks x.level)

/-- SENSE_TRANSITION. -/
def execSenseTransition (n leg : Nat) (e : SenseEdge) (tm : Nat) (s : State) : Host.Outcome State Fault Refusal :=
  s.perform (fun d => d.senseTransition n leg e.fall e.rising tm)

/-- DT_FALLBACK. -/
def execDtFallback (n leg : Nat) (s : State) : Host.Outcome State Fault Refusal := s.perform (fun d => d.dtFallback n leg)

end Sys2Proof.Machine
end

