-- ==== Sys2Proof/Machine/Axis.lean ====
section
/-!
DEFINITION. Starting, parking and recovering an axis (04_cupola_control.md R132 to R140; 05 R160, R166, R167; 06 R182 to R194): the
start-up sequence, the drive commands, the snapshot, and the commands of the axis states.
-/

namespace Sys2Proof.Machine

/-! ### Leaving PARKED (R133, 05 R154, 06 R174, 07 R208, 08 R228, 09 R246) -/

/-- The checks of axis `n` on PARKED to OPEN. -/
def Dev.startOk (d : Dev) (n : Nat) : Bool :=
  let cfg := d.rd (A.AX_POS_CFG n)
  let wave := d.rd (A.AX_WAVE_CFG n)
  let enc := d.rd (A.AX_ENC_ANGLE_CFG n)
  let k := d.bankN (d.activeBank n)
  let pos (a : Nat) : Bool := f32Finite (d.rd a) && decide (0 < f32Rat (d.rd a))
  let angle : Bool := field 1 0 cfg != 0 || !d.hasDq n ||
    (field 13 8 cfg != field 21 16 cfg && decide (field 13 8 cfg < k) && decide (field 21 16 cfg < k) &&
      decide (0 < f32Val (d.rd (A.AX_W_RATED n))))
  let vlim : Bool := !d.rb (A.PROF_CFG n) 2 ||
    (decide (d.rd48 (A.FB_LIM_LO_LO n) < d.rd48 (A.VLIM_LO_LO n)) && decide (d.rd48 (A.VLIM_LO_LO n) < d.rd48 (A.VLIM_HI_LO n)) &&
      decide (d.rd48 (A.VLIM_HI_LO n) < d.rd48 (A.FB_LIM_HI_LO n)))
  angle && !(field 1 0 wave == 1 && bit 3 cfg) && (!bit 7 wave || decide (0 < f32Val (d.rd (A.AX_ADV_SPAN n)))) &&
    (d.pulseTrain n || d.deadTimesOk n) && !(bit 8 enc && bit 12 enc && d.fld (A.FB_CFG n) 6 4 != field 11 9 enc) &&
    pos (A.PROF_STOP_A n) && pos (A.PROF_STOP_J n) && vlim

/-- The members of a mask that fail those checks are reported in AX_POS_STATUS.cfg_err. -/
def Dev.cfgErrs (d : Dev) (axes : List Nat) : Dev :=
  d.each (axes.filter (fun n => !d.startOk n)) (fun d n => d.flagAx (A.AX_POS_STATUS n) 9 n 6)

/-- RETENTION_RESTORE of an axis that leaves PARKED (03 R104, 09 R257); without MSTEP_RETAIN a lost microstep position starts at 0. -/
def Dev.retRestore (d : Dev) (n : Nat) : Dev :=
  if d.rb (A.PROF_CFG n) 4 then d.retTake n
  else
    let loss := (d.mo n).msLoss
    let d := d.modMo n (fun m => { m with msLoss := false })
    if loss && d.rb (A.PROF_CFG n) 3 then (d.wr (A.PT_MSTEP n) 0).profFlag n 10 else d

/-- The group of axis `n` enters OPEN from PARKED (R133): x̂ from x0, the flux factor 0, the gates freed (07 R215). -/
def Dev.leaveParked (d : Dev) (n cause : Nat) : Dev :=
  let x0 := d.bankX0 (d.activeBank n)
  let d := d.each (d.members n) (fun d m =>
    let d := d.retRestore m
    let d := d.modPw m (fun p => { p with sto := false })
    let d := d.modAx m (fun c => { c with
      x := if m = n then x0 else []
      yLast := [], wLast := [], uCommitted := [], uPending := none, save := none, late := 0, ended := .idle, faultNext := 0, overrun := none })
    let d := d.modSns m (fun s => { s with
      counts := [], countAt := d.time.cnt, stepsDone := false, catchResult := 0, caught := false, imLowSince := none, init := none })
    let d := d.modWav m (fun w => { w with
      flux := 0, fluxNext := false, leftParked := d.time.cnt, openOff := false, handover := none, vertex := none, takeover := false })
    d.startRegion m none)
  d.setState n .opened cause

/-! ### The catch (05 R166, R167) -/

/-- A catch of axis `n` starts. -/
def Dev.catchStart (d : Dev) (n : Nat) : Dev :=
  let d := d.wb (A.AX_CATCH_GEN n) 0 false
  let d := d.modSns n (fun s => { s with catching := some { start := d.time.cnt }, catchResult := 0 })
  d.seqTo n 1

/-- Axis `n` is caught on leaving PARKED: catch_en, which has no effect on a PMSM with an encoder (R164). -/
def Dev.catches (d : Dev) (n : Nat) : Bool :=
  let cfg := d.rd (A.AX_POS_CFG n)
  bit 5 cfg && (bit 2 cfg || field 1 0 cfg == 0)

/-- How a catch of axis `n` ends now, 0 while it runs: 1 spinning, 2 standstill, 3 slow; an arrival beats the time (01 R47). -/
def Dev.catchCode (d : Dev) (n : Nat) : Nat :=
  match (d.sns n).catching with
  | none => 0
  | some c =>
    let ang := match c.window with
      | (_, a, _) :: _ => ratAbs (a - ((c.window.getLast?.map (fun x => x.2.1)).getD a))
      | [] => 0
    if 20000000 ≤ c.lowNs then 2
    else if d.past (c.start + msCnt 20) && decide (4 * Config.pi ≤ ang) then 1
    else if d.past (c.start + msCnt (d.fld (A.AX_CATCH_CFG n) 11 0)) then 3
    else 0

/-- The catch of axis `n` ends with a result (R167): the result registers, and for a motion found the state and the region. -/
def Dev.catchFinish (d : Dev) (n r : Nat) : Dev :=
  match (d.sns n).catching with
  | none => d
  | some c =>
    let l := d.lead n
    let cfg := d.rd (A.AX_POS_CFG n)
    let f := fitLine c.window d.tickTime (d.groupDelay (n / 4))
    let th := wrapPi (if 0 < f.1 then f.2 - Config.pi / 2 else f.2 + Config.pi / 2)
    let rms := Config.sqrt (ratMean (c.window.map (fun x => x.2.2)))
    let d := d.wrAll [(A.AX_CATCH_ANGLE n, f32Of th), (A.AX_CATCH_SPEED n, f32Of f.1), (A.AX_CATCH_AMPL n, f32Of rms)]
    let d := (d.incWrap (A.AX_CATCH_GEN n) 31 16).wb (A.AX_CATCH_GEN n) 0 true
    let d := d.modSns n (fun s => { s with catching := none, catchResult := r, catchOmega := f.1, caught := r != 2 })
    let d := if r = 2 then d
      else
        let x := (d.ax l).x
        let x := x.set (field 21 16 cfg) (f32Of (ratDiv f.1 (f32Val (d.rd (A.AX_POS_WSCALE n)))))
        let x := x.set (field 13 8 cfg) (f32Of th)
        let d := d.modAx l (fun c => { c with x })
        (d.modWav n (fun w => { w with openOff := true })).startRegion n (some f.1)
    d.raiseAx n 6

/-! ### The steps of a start-up (06 R187) -/

/-- SYS_AX_REST_CFG of the model that axis `n` leads: reflux_ms and brake_lift_ms. -/
def Dev.refluxEnd (d : Dev) (n : Nat) : Nat := (d.wav n).leftParked + msCnt (d.fld (A.SYS_AX_REST_CFG n) 15 8)

/-- Step 6 begins: the valid outputs are counted from here when the axis has left PARKED in this sequence, and enable_to_ms
runs. -/
def Dev.countPhase (d : Dev) (n : Nat) : Dev :=
  let limit := d.time.cnt + msCnt (d.fld (A.AX_CFG n) 15 8)
  let fresh := match (d.ax n).enable with | some e => e.fromParked | none => true
  let d := d.modAx n (fun c => { c with enable := c.enable.map (fun e => { e with deadline := some limit }) })
  d.each (d.members n) (fun d m =>
    let d := if fresh then d.modSns m (fun s => { s with counts := [], countAt := d.time.cnt, stepsDone := true }) else d
    d.seqTo m 5)

/-- Step 5 begins: the assigned brake outputs are energised. -/
def Dev.brakePhase (d : Dev) (n : Nat) : Dev :=
  let d := d.each (d.members n) (fun d m => d.modWav m (fun w => { w with flux := 1 }))
  let fresh := match (d.ax n).enable with | some e => e.fromParked | none => true
  let lift := (d.members n).filter (fun m => (d.brakeOf m).isSome && (fresh || !(d.wav m).brakeLifted))
  if lift.isEmpty then d.countPhase n
  else
    let d := d.each (d.members n) (fun d m => d.seqTo m 4)
    let d := d.each lift (fun d m => d.brake m true)
    if d.fld (A.SYS_AX_REST_CFG n) 27 16 = 0 then d.countPhase n else d

/-- Step 4 begins, or has no length. -/
def Dev.fluxPhase (d : Dev) (n : Nat) : Dev :=
  let d := d.modWav n (fun w => { w with fluxNext := false })
  let d := d.each (d.members n) (fun d m => d.modWav m (fun w => { w with openOff := false }))
  if d.past (d.refluxEnd n) then d.brakePhase n
  else d.each (d.members n) (fun d m => d.seqTo m 3)

/-- The steps of chapter 05 are over: step 4 follows, after a catch in motion at the next tick, since u = 0 and the PWM is off at this one
(R167); or AX_ENABLE to OPEN completes. -/
def Dev.stepsOver (d : Dev) (n : Nat) : Dev :=
  let d := match (d.wav n).recover with
    | some r => d.modWav n (fun w => { w with recover := some { r with step := 5 } })
    | none => d
  match (d.ax n).enable with
  | some e =>
    if e.toHold then
      if (d.members n).any (fun m => (d.wav m).openOff) then d.modWav n (fun w => { w with fluxNext := true }) else d.fluxPhase n
    else
      let d := d.modAx n (fun c => { c with enable := none })
      let d := d.each (d.members n) (fun d m => (d.modSns m (fun s => { s with stepsDone := true, counts := [], countAt := d.time.cnt })).seqTo m 0)
      d.partWait e.cmd Code.done [(16, 1, 2)]
  | none => d

/-- Axis `n` goes through the initial-angle steps (05 R160): a PMSM with injection whose catch did not run or found standstill. -/
def Dev.needsInit (d : Dev) (n : Nat) : Bool :=
  let cfg := d.rd (A.AX_POS_CFG n)
  let r := (d.sns n).catchResult
  !bit 2 cfg && field 1 0 cfg == 0 && bit 3 cfg && (r == 0 || r == 2)

/-- Step 3 begins for the members that need it. -/
def Dev.initPhase (d : Dev) (n : Nat) : Dev :=
  let need := (d.members n).filter d.needsInit
  if need.isEmpty then d.stepsOver n
  else d.each need (fun d m =>
    let left := d.fld (A.AX_INJ_CFG m) 31 24 * d.injN m
    (d.modSns m (fun s => { s with init := some { step := 1, left } })).seqTo m 2)

/-- A recovery ends without success (06 R192): PARKED, the PWM off. -/
def Dev.recoverFail (d : Dev) (n : Nat) : Dev := d.park n .other .parked 0

/-- The catches of the group are over: a recovery may brake it by a winding short (06 R191 step 3). -/
def Dev.catchesOver (d : Dev) (n : Nat) : Dev :=
  match (d.wav n).recover with
  | none => d.initPhase n
  | some r =>
    let last := (d.members n).foldl (fun m k => if ratAbs (d.sns m).catchOmega < ratAbs (d.sns k).catchOmega && (d.sns k).caught then k else m) n
    let r := { r with catchResult := (d.sns last).catchResult, omegaFit := f32Of (d.sns last).catchOmega }
    let fast := (d.members n).any (fun m => (d.sns m).caught && decide (f32Val (d.rd (A.AX_SHORT_WEND m)) < ratAbs (d.sns m).catchOmega))
    let mode : Bool := d.sys.mode == .configure || d.sys.mode == .ready || d.sys.mode == .inspection || d.sys.mode == .recovery
    if r.step = 2 ∧ r.allowShort ∧ mode ∧ fast ∧ (d.members n).all (fun m => decide (0 < f32Val (d.rd (A.AX_SHORT_ILIM m)))) then
      let d := d.modWav n (fun w => { w with recover := some { r with step := 3 }, short := some { start := d.time.cnt } })
      d.each (d.members n) (fun d m => d.seqTo m 6)
    else (d.modWav n (fun w => { w with recover := some r })).initPhase n

/-- Catches of the group that `n` leads that have ended, and what follows the last of them; with the first of them x̂ is loaded from x0
(R167). -/
def Dev.catchTick (d : Dev) (n : Nat) : Dev :=
  let ending := (d.members n).filter (fun m => d.catchCode m != 0)
  let first := (d.members n).all (fun m => (d.sns m).catching.isSome || (d.sns m).catchResult == 0)
  if ending.isEmpty then d
  else
    let d := if first then d.modAx n (fun c => { c with x := d.bankX0 (d.activeBank n) }) else d
    let d := d.each ending (fun d m => d.catchFinish m (d.catchCode m))
    if (d.members n).any (fun m => (d.sns m).catching.isSome) then d else d.catchesOver n

/-- CATCH_END (R166): the catch of axis `n` has met a condition. -/
def execCatchEnd (n : Nat) (s : State) : Host.Outcome State Fault Refusal := s.perform (fun d => d.catchTick (d.lead n))

/-- CATCH_TIMEOUT (R166): catch_max_ms has run out. -/
def execCatchTimeout (n : Nat) (s : State) : Host.Outcome State Fault Refusal :=
  s.perform (fun d =>
    match (d.sns n).catching with
    | none => d
    | some c => (d.advanceTo (c.start + msCnt (d.fld (A.AX_CATCH_CFG n) 11 0))).catchTick (d.lead n))

/-- The start of the model that axis `n` leads from PARKED: the catch of each member that has one, or of all. -/
def Dev.startModel (d : Dev) (n cause : Nat) (all : Bool) : Dev :=
  let d := d.leaveParked n cause
  let ms := (d.members n).filter (fun m => all || d.catches m)
  if ms.isEmpty then d.initPhase n else d.each ms Dev.catchStart

/-! ### The initial-angle steps (05 R160) -/

/-- The polarity of axis `n` is unresolved: flag, PWM off in OPEN, the command ends; the steps of R160 end for the whole group (R169). -/
def Dev.unresolved (d : Dev) (n : Nat) : Dev :=
  let l := d.lead n
  let ran := (d.members l).filter (fun m => (d.sns m).init.isSome)
  let d := (d.wb (A.AX_POS_STATUS n) 7 true).each ran (fun d m => d.raiseAx m 6)
  if (d.wav l).recover.isSome then d.recoverFail l
  else
    let e := (d.ax l).enable
    let d := d.modAx l (fun c => { c with enable := none })
    let d := d.each (d.members l) (fun d m =>
      let d := d.modSns m (fun s => { s with init := none, stepsDone := true, counts := [], countAt := d.time.cnt })
      (d.modWav m (fun w => { w with openOff := true })).seqTo m 0)
    d.partWait (e.bind (·.cmd)) Code.polarityUnresolved [(16, 1, 2)]

/-- The initial-angle steps of axis `n` are over. -/
def Dev.initDone (d : Dev) (n : Nat) : Dev :=
  let d := (d.modSns n (fun s => { s with init := none })).raiseAx n 6
  if (d.members n).any (fun m => (d.sns m).init.isSome) then d else d.stepsOver (d.lead n)

/-- The step of axis `n` that has run its ticks ends (R160). -/
def Dev.initTick (d : Dev) (n : Nat) : Dev :=
  match (d.sns n).init with
  | none => d
  | some i =>
    if 0 < i.left then d
    else
      let p := d.fld (A.AX_INJ_CFG n) 23 16
      if i.step = 1 ∧ !d.rb (A.AX_POS_CFG n) 4 then d.initDone n
      else if i.step < 5 then d.modSns n (fun s => { s with init := some { i with step := i.step + 1, left := p } })
      else
        let mx := if i.iPos < i.iNeg then i.iNeg else i.iPos
        if 20 * ratAbs (i.iPos - i.iNeg) ≤ mx then d.unresolved n
        else
          let flip := decide (i.iPos < i.iNeg)
          let d := d.wb (A.AX_POS_STATUS n) 6 flip
          let l := d.lead n
          let st := d.fld (A.AX_POS_CFG n) 13 8
          let d := if flip then d.modAx l (fun c => { c with x := c.x.set st (f32Of (f32Val (c.x.getD st 0) + Config.pi)) }) else d
          d.initDone n

/-- INIT_ANGLE_STEP_END (R160). -/
def execInitAngleStepEnd (n : Nat) (s : State) : Host.Outcome State Fault Refusal := s.perform (fun d => d.initTick n)

/-! ### Flux, brake, count (06 R187) -/

/-- The flux factor of a running step 4, and its end. -/
def Dev.fluxTick (d : Dev) (n : Nat) : Dev :=
  let w := d.wav n
  if w.seqStep ≠ 3 then d
  else if d.past (d.refluxEnd n) then d.brakePhase n
  else
    let f := ratDiv ((d.time.cnt - w.seqStart : Nat) : Rat) ((d.refluxEnd n - w.seqStart : Nat) : Rat)
    d.each (d.members n) (fun d m => d.modWav m (fun w => { w with flux := f }))

/-- FLUX_STEP_END: reflux_ms has run out. -/
def execFluxStepEnd (n : Nat) (s : State) : Host.Outcome State Fault Refusal :=
  s.perform (fun d => let l := d.lead n; if (d.wav l).seqStep = 3 then (d.advanceTo (d.refluxEnd l)).fluxTick l else d)

/-- The end of step 5. -/
def Dev.brakeEnd (d : Dev) (n : Nat) : Nat := (d.wav n).seqStart + msCnt (d.fld (A.SYS_AX_REST_CFG n) 27 16)

/-- Step 5 has run out. -/
def Dev.brakeTick (d : Dev) (n : Nat) : Dev :=
  if (d.wav n).seqStep = 4 ∧ d.past (d.brakeEnd n) then d.countPhase n else d

/-- BRAKE_LIFT_END: brake_lift_ms has run out. -/
def execBrakeLiftEnd (n : Nat) (s : State) : Host.Outcome State Fault Refusal :=
  s.perform (fun d => let l := d.lead n; if (d.wav l).seqStep = 4 then (d.advanceTo (d.brakeEnd l)).brakeTick l else d)

/-- The speed of an axis's estimate in counts per second (06 R189, R164); without counts per revolution, a free value. -/
def Dev.estimateSpeed (d : Dev) (n : Nat) : Rat × Dev :=
  let w := d.rd (A.AX_ENC_ANGLE_CFG n)
  let cpr := (d.rd (A.AX_ENC_CPR n)).toNat
  let s : Rat := if bit 7 w then -1 else 1
  if cpr = 0 then let x := d.fresh; ((x.1 : Rat), x.2)
  else (s * (d.sns n).omega * (cpr : Rat) / (2 * Config.pi * ((field 6 0 w : Nat) : Rat)), d)

/-- Entry of axis `n` to HOLD from OPEN at a tick (09 R242): the hold position is the present position, or the takeover of R189 ends
at it.  The reference starts at the estimate's speed, so that codes 0x30 to 0x32 deliver it by the sign of R182; the spec states no
acceleration of the estimate, which is a free value (notes/assumptions/1.md). -/
def Dev.holdEntry (d : Dev) (n t : Nat) : Dev :=
  let p := d.presentPos n t
  if (d.sns n).caught then
    let s : Rat := if (d.wav n).reversed then -1 else 1
    let est := d.estimateSpeed n
    let acc := est.2.freshWord
    let v := s * est.1
    let a := s * f32Val acc.1
    let d := acc.2.modSns n (fun s => { s with caught := false })
    let q := d.rampFrom n t p v a
    let d := d.modMo n (fun m => { m with p, v, a, at_ := t, hold := q.endPos, src := .catchUp q })
    (d.modWav n (fun w => { w with takeover := true })).seqTo n 7
  else (d.modMo n (fun m => { m with p, v := 0, a := 0, at_ := t, hold := p, src := .hold })).seqTo n 0

/-- The model that axis `n` leads reaches HOLD (R187 step 7). -/
def Dev.reachHold (d : Dev) (n : Nat) : Dev :=
  let e := (d.ax n).enable
  let r := (d.wav n).recover
  let d := d.modAx n (fun c => { c with enable := none })
  let d := d.modWav n (fun w => { w with recover := none })
  let d := d.each (d.members n) (fun d m => (d.modWav m (fun w => { w with flux := 1, openOff := false })).holdEntry m d.tickTime)
  let d := d.setState n .hold ((e.map (·.cause)).getD 0)
  let d := d.partWait (e.bind (·.cmd)) Code.done [(16, 1, 3)]
  match r with
  | some r => d.partWait r.cmd Code.done [(16, 1, 6), (17, 1, r.catchResult), (20, 4, r.omegaFit.toNat)]
  | none => d

/-- Step 6 at a tick: three valid outputs of every member, which beat the timeout (01 R47). -/
def Dev.countTick (d : Dev) (n : Nat) : Dev :=
  if (d.wav n).seqStep = 5 ∧ (d.ax n).state = .opened ∧ (d.members n).all (fun m => decide (3 ≤ d.validCount m)) then d.reachHold n else d

/-- enable_to_ms has run out in step 6 (R140): AX_ENABLE ends, the axis left in OPEN; a recovery fails (06 R192). -/
def Dev.enableExpired (d : Dev) (n : Nat) : Dev :=
  match (d.ax n).enable with
  | none => d
  | some e =>
    match e.deadline with
    | none => d
    | some t =>
      let d' := d.countTick n
      if !d.past t then d
      else if d'.ax n != d.ax n then d'
      else if (d.wav n).recover.isSome then d.recoverFail n
      else
        let d := d.modAx n (fun c => { c with enable := none })
        let d := d.each (d.members n) (fun d m => d.seqTo m 0)
        d.partWait e.cmd Code.enableTimeout [(16, 1, 2)]

/-- AX_ENABLE_TIMEOUT (R140, R137). -/
def execAxEnableTimeout (n : Nat) (s : State) : Host.Outcome State Fault Refusal :=
  s.perform (fun d =>
    match ((d.ax (d.lead n)).enable).bind (·.deadline) with
    | some t => (d.advanceTo t).enableExpired (d.lead n)
    | none => d)

/-! ### AX_ENABLE, AX_OPEN, AX_DISABLE, AX_FAULT_CLEAR (R132, R140, 06 R190) -/

/-- A refusal that describes the lowest axis that fails, by its state. -/
def Dev.failing (d : Dev) (axes : List Nat) (bad : Nat → Bool) (status : Nat) : Verdict :=
  match axes.find? bad with
  | some n => some (status, [(16, 1, (d.ax n).state.code)])
  | none => none

/-- A mask holds part of an admitted group: the lowest such axis. -/
def Dev.splitCheck (d : Dev) (axes : List Nat) (mask : Nat) : Verdict :=
  d.failing axes (fun n => (d.members n).any (fun m => !nbit m mask)) Code.groupSplit

/-- Something runs on the group of axis `n`: a start-up, short, park or recovery. -/
def Dev.busy (d : Dev) (n : Nat) : Bool :=
  let l := d.lead n
  (d.ax l).enable.isSome || (d.wav l).short.isSome || (d.wav l).park.isSome || (d.wav l).recover.isSome

/-- The modes of PARKED to OPEN and OPEN to HOLD (R132). -/
def enableMode (m : Mode) : Bool :=
  m == .configure || m == .ready || m == .run || m == .inspection || m == .degraded || m == .recovery

/-- AX_ENABLE's conditions but the checks of leaving PARKED. -/
def Dev.enableCheck (d : Dev) (h : Hdr) (target : Nat) : Verdict :=
  let axes := maskList 32 h.mask
  firstOf [d.splitCheck axes h.mask,
    d.failing axes (fun _ => !enableMode d.sys.mode) Code.wrongMode,
    d.failing axes (fun n => let st := (d.ax n).state; !((st == .parked && !d.busy n) || (st == .opened && target == 3 && !d.busy n))) Code.wrongMode,
    d.failing axes (fun n => d.stoDemanded (stoGroup n)) Code.safetyBlocked,
    d.failing axes (fun n => d.sys.mode == .degraded && !d.doorOk n) Code.degradedOnly]

/-- AX_ENABLE at its frame tick (R187). -/
def Dev.enable (d : Dev) (h : Hdr) (target : Nat) : Dev :=
  let axes := maskList 32 h.mask
  let parked := axes.filter (fun n => (d.ax n).state == .parked)
  match d.enableCheck h target with
  | some v => d.doneAt h v.1 v.2
  | none =>
    match d.failing parked (fun n => !d.startOk n) Code.wrongMode with
    | some v => (d.cfgErrs parked).doneAt h v.1 v.2
    | none =>
      let ls := axes.filter (fun n => d.lead n == n)
      if ls.isEmpty then d.doneAt h Code.done
      else
        let d := d.joinStart h ls.length
        d.each ls (fun d n =>
          let from_ := (d.ax n).state == .parked
          let d := d.modAx n (fun c => { c with enable := some { toHold := target == 3, cmd := some h, fromParked := from_ } })
          if from_ then d.startModel n 0 false else d.fluxPhase n)

/-- AX_ENABLE: the target state, 2 OPEN or 3 HOLD, at byte [16]. -/
def execAxEnable (h : Hdr) (target : Nat) (s : State) : Host.Outcome State Fault Refusal :=
  s.perform (fun d => d.command 0x0203 h (fun d => d.enable h target))

/-- AX_OPEN's conditions. -/
def Dev.openCheck (d : Dev) (h : Hdr) : Verdict :=
  let axes := maskList 32 h.mask
  let m := d.sys.mode
  let mode : Bool := m == .configure || m == .ready || m == .run || m == .inspection || m == .recovery
  firstOf [d.splitCheck axes h.mask, d.failing axes (fun n => !mode || (d.ax n).state != .hold || d.parking n) Code.wrongMode]

/-- AX_OPEN at its frame tick: the state x̂ is kept, and valid outputs are counted anew (05 R149). -/
def Dev.openAx (d : Dev) (h : Hdr) : Dev :=
  match d.openCheck h with
  | some v => d.doneAt h v.1 v.2
  | none =>
    let ls := (maskList 32 h.mask).filter (fun n => d.lead n == n)
    let d := d.each ls (fun d n =>
      let d := d.endSeq n .other .opened
      let d := d.each (d.members n) (fun d m => d.modSns m (fun s => { s with counts := [], countAt := d.time.cnt, stepsDone := true, caught := false }))
      d.setState n .opened 0)
    d.doneAt h Code.done (if ls.isEmpty then [] else [(16, 1, 2)])

/-- AX_OPEN. -/
def execAxOpen (h : Hdr) (s : State) : Host.Outcome State Fault Refusal := s.perform (fun d => d.command 0x0204 h (fun d => d.openAx h))

/-- AX_DISABLE's conditions. -/
def Dev.disableCheck (d : Dev) (h : Hdr) : Verdict :=
  let axes := maskList 32 h.mask
  firstOf [d.splitCheck axes h.mask,
    d.failing axes (fun n => let st := (d.ax n).state; !(st == .parked || st == .opened || st == .hold)) Code.wrongMode]

/-- The length of a park from HOLD of the model that axis `n` leads, in counter units (R190). -/
def Dev.parkLen (d : Dev) (n : Nat) (brake : Bool) : Nat :=
  msCnt (if brake then d.fld (A.AX_SEQ_CFG n) 23 12 else d.fld (A.AX_SEQ_CFG n) 11 0)

/-- A park of the model that axis `n` leads ends in PARKED; its commands complete. -/
def Dev.parkDone (d : Dev) (n cause : Nat) (cmds : List Hdr) : Dev :=
  let d := d.modWav n (fun w => { w with park := none })
  let d := d.park n .other .parked cause
  cmds.foldl (fun (d : Dev) h => d.partDone h Code.done [(16, 1, 1)]) d

/-- A park of the model that axis `n` leads, by its brakes or by de-fluxing, with the command it completes and the cause of its
transition (R190). -/
def Dev.parkModel (d : Dev) (n : Nat) (byBrake : Bool) (h : Option Hdr) (cause : Nat) : Dev :=
  let cmds := match h with | some h => [h] | none => []
  let brakes := (d.members n).filter (fun m => byBrake && (d.brakeOf m).isSome)
  if (d.ax n).state = .parked then cmds.foldl (fun (d : Dev) h => d.partDone h Code.done [(16, 1, 1)]) d
  else match (d.wav n).park with
    | some p => d.modWav n (fun w => { w with park := some { p with cmds := p.cmds ++ cmds } })
    | none =>
      let d := d.each brakes (fun d m => d.brake m false)
      if (d.ax n).state = .opened then d.parkDone n cause cmds
      else if d.parkLen n (!brakes.isEmpty) = 0 then d.parkDone n cause cmds
      else d.modWav n (fun w => { w with park := some { brake := !brakes.isEmpty, start := d.time.cnt, cause, cmds } })

/-- AX_DISABLE at its frame tick; byte [16] 0 uses the brake, 1 de-fluxes only. -/
def Dev.disable (d : Dev) (h : Hdr) (mode : Nat) : Dev :=
  match d.disableCheck h with
  | some v => d.doneAt h v.1 v.2
  | none =>
    let ls := (maskList 32 h.mask).filter (fun n => d.lead n == n)
    if ls.isEmpty then d.doneAt h Code.done
    else (d.joinStart h ls.length).each ls (fun d n => d.parkModel n (mode == 0) (some h) 0)

/-- AX_DISABLE. -/
def execAxDisable (h : Hdr) (mode : Nat) (s : State) : Host.Outcome State Fault Refusal :=
  s.perform (fun d => d.command 0x0205 h (fun d => d.disable h mode))

/-- A park at a tick: the flux factor of a de-flux, and the end (R190). -/
def Dev.parkTick (d : Dev) (n : Nat) : Dev :=
  match (d.wav n).park with
  | none => d
  | some p =>
    let len := d.parkLen n p.brake
    if d.past (p.start + len) then d.parkDone n p.cause p.cmds
    else if p.brake then d
    else
      let f := 1 - ratDiv ((d.time.cnt - p.start : Nat) : Rat) (len : Rat)
      d.each (d.members n) (fun d m => d.modWav m (fun w => { w with flux := f }))

/-- PARK_TIMER_END (R190): brake_set_ms or deflux_ms has run out. -/
def execParkTimerEnd (n : Nat) (s : State) : Host.Outcome State Fault Refusal :=
  s.perform (fun d =>
    let l := d.lead n
    match (d.wav l).park with
    | none => d
    | some p => (d.advanceTo (p.start + d.parkLen l p.brake)).parkTick l)

/-- A cause of FAULT of axis `n` is present now: no cluster left, a feedback fault, a persistent loss (R132, 08 R231, 05 R151). -/
def Dev.causeNow (d : Dev) (n : Nat) : Bool :=
  let cfg := d.rd (A.AX_SD_CFG n)
  let g := d.grp (n / 4)
  (!d.cup.ok0 && !d.cup.ok1) || d.rb (A.FB_STATUS n) 6 ||
    (List.range 4).any (fun c => bit c cfg && decide (2 ≤ (d.chan n c).loss)) || (bit 1 g.cfg && decide (2 ≤ g.busLoss))

/-- The modes of AX_FAULT_CLEAR (R132). -/
def clearMode (m : Mode) : Bool := m == .configure || m == .ready || m == .safeHold || m == .recovery

/-- AX_FAULT_CLEAR's conditions; its result describes the lowest axis that fails by its causes. -/
def Dev.clearCheck (d : Dev) (h : Hdr) : Verdict :=
  let axes := maskList 32 h.mask
  let bad (p : Nat → Bool) (status : Nat) : Verdict :=
    match axes.find? p with | some n => some (status, [(16, 4, (d.ax n).faults)]) | none => none
  firstOf [bad (fun n => (d.members n).any (fun m => !nbit m h.mask)) Code.groupSplit,
    bad (fun n => !clearMode d.sys.mode || (d.ax n).state != .fault || d.causeNow n) Code.wrongMode,
    bad (fun n => (d.sg (stoGroup n)).latched) Code.safetyBlocked]

/-- The faults of the model that axis `n` leads are cleared, and it is PARKED. -/
def Dev.clearModel (d : Dev) (n : Nat) : Dev :=
  let d := d.each (d.members n) (fun d m => (d.modAx m (fun c => { c with faults := 0 })).modPw m (fun p => { p with latched := false }))
  d.park n .other .parked 0

/-- AX_FAULT_CLEAR at its frame tick. -/
def Dev.faultClear (d : Dev) (h : Hdr) : Dev :=
  match d.clearCheck h with
  | some v => d.doneAt h v.1 v.2
  | none =>
    let was := (d.ax (lowest h.mask)).faults
    let ls := (maskList 32 h.mask).filter (fun n => d.lead n == n)
    (d.each ls Dev.clearModel).doneAt h Code.done (if ls.isEmpty then [] else [(16, 4, was)])

/-- AX_FAULT_CLEAR. -/
def execAxFaultClear (h : Hdr) (s : State) : Host.Outcome State Fault Refusal :=
  s.perform (fun d => d.command 0x0206 h (fun d => d.faultClear h))

/-- AX_QUERY (R140): the lowest axis in the mask. -/
def Dev.axQuery (d : Dev) (h : Hdr) : Dev :=
  let n := lowest h.mask
  d.doneNow h Code.done (if h.mask = 0 then [] else
    [(16, 4, (d.axStateWord n).toNat), (20, 4, (d.ax n).faults), (24, 4, (d.bankStatusWord n).toNat), (28, 4, (d.axAdmitWord n).toNat)])

/-- AX_QUERY. -/
def execAxQuery (h : Hdr) (s : State) : Host.Outcome State Fault Refusal := s.perform (fun d => d.command 0x0208 h (fun d => d.axQuery h))

/-! ### Direction (06 R182 to R184, R193) -/

/-- σ_d of axis `n` changes at time `t` (R182): the delivered position goes on without a step. -/
def Dev.turn (d : Dev) (n t : Nat) : Dev :=
  let p := (d.genAt n t).1.p
  let base := d.delivered n p
  d.modWav n (fun w => { w with reversed := !w.reversed, base, refBase := p, reversals := sat 0xFFFF (w.reversals + 1) })

/-- AX_DIR of axis `n`. -/
def Dev.axDirWord (d : Dev) (n : Nat) : Word := BitVec.ofNat 32 (b2n (d.wav n).reversed + 2 ^ 16 * (d.wav n).reversals)

/-- AX_REVERSE with byte [16] would change σ_d of axis `n`. -/
def Dev.wouldTurn (d : Dev) (n how : Nat) : Bool := how == 0 || (how == 1 && (d.wav n).reversed) || (how == 2 && !(d.wav n).reversed)

/-- The result of AX_REVERSE for axis `n`. -/
def Dev.reverseResult (d : Dev) (n : Nat) : List (Nat × Nat × Nat) :=
  [(16, 1, b2n (d.wav n).reversed), (20, 4, (f32Of (ratAbs (d.sns n).omega)).toNat)]

/-- AX_REVERSE's conditions: a direction order is tested for every axis it addresses (R183), one that changes no σ_d for none (R193). -/
def Dev.reverseCheck (d : Dev) (h : Hdr) (how : Nat) : Verdict :=
  let axes := maskList 32 h.mask
  let bad (p : Nat → Bool) (status : Nat) : Verdict :=
    match axes.find? p with | some n => some (status, d.reverseResult n) | none => none
  firstOf [bad (fun n => (d.members n).any (fun m => !nbit m h.mask)) Code.groupSplit,
    bad (fun n => (d.ax n).state == .fault || d.parking n) Code.wrongMode,
    if axes.any (fun n => d.wouldTurn n how) then bad (fun n => !d.mayTurn n) Code.reversalRefused else none,
    bad (fun _ => d.sys.mode == .degraded) Code.degradedOnly]

/-- AX_REVERSE at its frame tick. -/
def Dev.reverse (d : Dev) (h : Hdr) (how : Nat) : Dev :=
  let axes := maskList 32 h.mask
  match d.reverseCheck h how with
  | some v =>
    (if v.1 = Code.reversalRefused then d.turnRefused h.mask else d).doneAt h v.1 v.2
  | none =>
    let d := d.each (axes.filter (fun n => d.wouldTurn n how)) (fun d n => d.turn n d.sys.lastFrame)
    d.doneAt h Code.done (if axes.isEmpty then [] else d.reverseResult (lowest h.mask))

/-- AX_REVERSE: 0 toggle, 1 forward, 2 reverse at byte [16]. -/
def execAxReverse (h : Hdr) (how : Nat) (s : State) : Host.Outcome State Fault Refusal :=
  s.perform (fun d => d.command 0x0209 h (fun d => d.reverse h how))

/-! ### Winding short (06 R185, R186) -/

/-- The modes of winding-short braking. -/
def shortMode (m : Mode) : Bool := m == .configure || m == .inspection || m == .recovery

/-- AX_SHORT_BRAKE's conditions. -/
def Dev.shortCheck (d : Dev) (h : Hdr) (start : Bool) : Verdict :=
  let axes := maskList 32 h.mask
  let bad (p : Nat → Bool) (status : Nat) : Verdict := if axes.any p then some (status, []) else none
  firstOf [bad (fun n => (d.members n).any (fun m => !nbit m h.mask)) Code.groupSplit,
    bad (fun _ => !shortMode d.sys.mode) Code.wrongMode,
    if !start then none else bad (fun n =>
      let st := (d.ax n).state
      !(st == .parked || st == .opened) || (d.shortOf n).isSome || !decide (0 < f32Val (d.rd (A.AX_SHORT_ILIM n))) ||
        d.fld (A.AX_SD_CFG n) 1 0 != 3) Code.wrongMode,
    if !start then none else bad (fun n => d.stoDemanded (stoGroup n)) Code.safetyBlocked]

/-- The short of the model that axis `n` leads ends with a code (R186): PARKED, or in a recovery on to the second catch. -/
def Dev.shortFinish (d : Dev) (n code : Nat) : Dev :=
  match (d.wav n).short with
  | none => d
  | some x =>
    let d := d.modWav n (fun w => { w with short := none })
    match (d.wav n).recover with
    | some r =>
      if code = 1 then (d.modWav n (fun w => { w with recover := some { r with step := 4 } })).each (d.members n) Dev.catchStart
      else d.recoverFail n
    | none =>
      let d := d.park n .other .parked 0
      d.partWait x.cmd Code.done [(16, 1, code), (20, 4, d.msSince x.start), (24, 4, (f32Of x.peak).toNat)]

/-- The end condition that the short of axis `n` has met, 0 for none: standstill before the time (01 R47). -/
def Dev.shortCode (d : Dev) (n : Nat) : Nat :=
  match (d.wav n).short with
  | none => 0
  | some x =>
    if d.fld (A.AX_SHORT_CFG n) 23 16 ≤ x.endTicks then 1
    else if d.past (x.start + msCnt (d.fld (A.AX_SHORT_CFG n) 11 0)) then 2 else 0

/-- A short at a tick: its end. -/
def Dev.shortTick (d : Dev) (n : Nat) : Dev := if d.shortCode n = 0 then d else d.shortFinish n (d.shortCode n)

/-- SHORT_END (R186): an end condition of the short of axis `n` is met. -/
def execShortEnd (n : Nat) (s : State) : Host.Outcome State Fault Refusal :=
  s.perform (fun d =>
    let l := d.lead n
    match (d.wav l).short with
    | none => d
    | some x =>
      let d := if d.shortCode l = 0 then d.advanceTo (x.start + msCnt (d.fld (A.AX_SHORT_CFG l) 11 0)) else d
      d.shortTick l)

/-- AX_SHORT_BRAKE at its frame tick. -/
def Dev.shortBrake (d : Dev) (h : Hdr) (start : Bool) : Dev :=
  let axes := maskList 32 h.mask
  let ls := axes.filter (fun n => d.lead n == n)
  let parked := axes.filter (fun n => (d.ax n).state == .parked)
  match d.shortCheck h start with
  | some v => d.doneAt h v.1 v.2
  | none =>
    if !start then
      let x := (d.wav (d.lead (lowest h.mask))).short
      let d := d.each ls (fun d n => d.shortFinish n 3)
      d.doneAt h Code.done (match x with
        | some x => [(16, 1, 3), (20, 4, d.msSince x.start), (24, 4, (f32Of x.peak).toNat)]
        | none => [])
    else if parked.any (fun n => !d.startOk n) then (d.cfgErrs parked).doneAt h Code.wrongMode
    else if ls.isEmpty then d.doneAt h Code.done
    else
      (d.joinStart h ls.length).each ls (fun d n =>
        let d := if (d.ax n).state = .parked then d.leaveParked n 0 else d.endSeq n .other .opened
        let d := d.modWav n (fun w => { w with short := some { start := d.time.cnt, cmd := some h } })
        d.each (d.members n) (fun d m => d.seqTo m 6))

/-- AX_SHORT_BRAKE: 1 start, 0 end at byte [16]. -/
def execAxShortBrake (h : Hdr) (start : Bool) (s : State) : Host.Outcome State Fault Refusal :=
  s.perform (fun d => d.command 0x020A h (fun d => d.shortBrake h start))

/-! ### Recovery (06 R191, R192) -/

/-- AX_RECOVER's conditions. -/
def Dev.recoverCheck (d : Dev) (h : Hdr) : Verdict :=
  let axes := maskList 32 h.mask
  let m := d.sys.mode
  let bad (p : Nat → Bool) (status : Nat) : Verdict := if axes.any p then some (status, []) else none
  firstOf [bad (fun n => (d.members n).any (fun m => !nbit m h.mask)) Code.groupSplit,
    bad (fun n => match (d.ax n).state with
      | .parked => !(m == .configure || m == .ready || m == .inspection || m == .recovery) || d.busy n
      | .fault => !(m == .configure || m == .ready || m == .recovery)
      | _ => true) Code.wrongMode]

/-- The recovery of the model that axis `n` leads begins (R191 steps 1 and 2): with the STO of its group asserted it ends before the
axis leaves PARKED (R132, R192; notes/assumptions/157.md). -/
def Dev.recoverModel (d : Dev) (n : Nat) (h : Hdr) (allowShort : Bool) : Dev :=
  let fail (d : Dev) (step : Nat) : Dev := d.partDone h Code.recoveryFailed [(16, 1, step)]
  let ms := d.members n
  if (d.ax n).state = .fault ∧ (ms.any d.causeNow ∨ (d.sg (stoGroup n)).latched) then fail d 1
  else
    let d := if (d.ax n).state = .fault then d.clearModel n else d
    if ms.any (fun m => d.fld (A.AX_SD_CFG m) 3 2 != 3 || d.stoDemanded (stoGroup m)) then fail d 2
    else if ms.any (fun m => !d.startOk m) then fail (d.cfgErrs ms) 2
    else
      let d := d.modWav n (fun w => { w with recover := some { step := 2, allowShort, cmd := some h } })
      let d := d.modAx n (fun c => { c with enable := some { toHold := true, cmd := none } })
      d.startModel n 0 true

/-- AX_RECOVER at its frame tick. -/
def Dev.recover (d : Dev) (h : Hdr) (allowShort : Bool) : Dev :=
  match d.recoverCheck h with
  | some v => d.doneAt h v.1 v.2
  | none =>
    let ls := (maskList 32 h.mask).filter (fun n => d.lead n == n)
    if ls.isEmpty then d.doneAt h Code.done
    else (d.joinStart h ls.length).each ls (fun d n => d.recoverModel n h allowShort)

/-- AX_RECOVER: bit 0 of byte [16] allows the short. -/
def execAxRecover (h : Hdr) (allowShort : Bool) (s : State) : Host.Outcome State Fault Refusal :=
  s.perform (fun d => d.command 0x020B h (fun d => d.recover h allowShort))

/-- A step of a recovery has exceeded its time (R192). -/
def Dev.recoverTick (d : Dev) (n : Nat) : Dev :=
  if (d.wav n).recover.isNone then d
  else if d.shortCode n = 2 then d.shortFinish n 2
  else match ((d.ax n).enable).bind (·.deadline) with
    | some t => if d.past t then d.enableExpired n else d
    | none => d

/-- RECOVERY_FAILED (R192): a step of the recovery of axis `n` exceeds its time. -/
def execRecoveryFailed (n : Nat) (s : State) : Host.Outcome State Fault Refusal := s.perform (fun d => d.recoverTick (d.lead n))

/-! ### The sequences at a tick -/

/-- What a tick does to the sequences of the model that axis `n` leads, after its sensing (R187, R190, R191). -/
def Dev.seqTick (d : Dev) (n : Nat) : Dev :=
  let d := if (d.wav n).fluxNext then d.fluxPhase n else d
  let d := d.catchTick n
  let d := d.each (d.members n) Dev.initTick
  let d := d.fluxTick n
  let d := d.brakeTick n
  let d := d.countTick n
  let d := d.enableExpired n
  let d := d.parkTick n
  let d := d.shortTick n
  d.recoverTick n

/-! ### The snapshot (04 R138) -/

/-- A snapshot of the model that axis `n` leads is captured: registers beyond the model's dimensions are written 0. -/
def Dev.snapCapture (d : Dev) (n : Nat) (x y w u : List F32) : Dev :=
  let put (a : Nat → Nat) (k : Nat) (l : List F32) : List (Nat × Word) := (List.range k).map (fun i => (a i, l.getD i 0))
  let d := d.wrAll (put (A.AX_SNAP_X n) 64 x ++ put (A.AX_SNAP_Y n) 32 y ++ put (A.AX_SNAP_W n) 32 w ++ put (A.AX_SNAP_U n) 16 u)
  let d := d.wr64 (A.AX_SNAP_TICK_LO n) d.sys.tick
  let a := A.AX_SNAP_CTRL n
  (((d.wb a 0 false).wb a 1 true).incWrap a 31 16)

/-- AX_SNAP_CTRL is written with `v` (R138): a request in FAULT captures the frozen state at once; a member's page that does not
lead holds no snapshot (R120). -/
def Dev.snapRequest (d : Dev) (n : Nat) (v : Word) : Dev :=
  if !bit 0 v || d.lead n != n || d.rb (A.AX_SNAP_CTRL n) 0 then d
  else
    let d := (d.wb (A.AX_SNAP_CTRL n) 0 true).wb (A.AX_SNAP_CTRL n) 1 false
    if (d.ax n).state = .fault then d.snapCapture n (d.ax n).x [] [] ((d.ax n).lastU.getLast?.getD []) else d

/-- AX_POS_STATUS of axis `n` (05 R168). -/
def Dev.posStatusWord (d : Dev) (n : Nat) : Word :=
  let s := d.sns n
  (d.rd (A.AX_POS_STATUS n) &&& 0x3C0) |||
    BitVec.ofNat 32 (s.region + 8 * b2n s.catching.isSome + 16 * s.catchResult + 2 ^ 10 * b2n s.init.isSome +
      2 ^ 16 * (ratRound (s.beta * 32768)).toNat)

/-- AX_DRIVE_STATUS of axis `n` (06 R193). -/
def Dev.driveStatusWord (d : Dev) (n : Nat) : Word :=
  let w := d.wav n
  let m := d.fld (A.AX_WAVE_CFG n) 1 0
  (d.rd (A.AX_DRIVE_STATUS n) &&& 0x1A1800) |||
    BitVec.ofNat 32 (m + 4 * b2n (w.sixStep && m != 0) + 8 * b2n w.handover.isSome + 2 ^ 4 * ((d.handLen n + 15) % 16) +
      2 ^ 8 * (if m = 0 then 0 else w.sector) + 2 ^ 13 * w.seqStep + 2 ^ 16 * b2n (d.shortOf n).isSome + 2 ^ 18 * b2n w.takeover +
      2 ^ 24 * (if m = 2 then (ratRound (w.kappa * 255)).toNat else 0))

end Sys2Proof.Machine
end

