-- ==== Sys2Proof/Machine/BelLog.lean ====
section
/-!
DEFINITION. The retention log, the tail log of the backup-cell domain, the RTC and BELL_N (02_modes_power_wake.md R82 to R85,
03_belfry.md R99 to R102).
-/

namespace Sys2Proof.Machine

/-- Periods of 32.768 kHz in `c` counts of 2 ns (notes/assumptions/7.md). -/
def rtcEdges (c : Nat) : Nat := c * 32768 / 500000000

/-- The RTC (02 R85). -/
def Dev.rtcNow (d : Dev) : Nat := (d.pwr.rtc + rtcEdges d.time.cnt) % 2 ^ 64

/-- Set the RTC to a value now. -/
def Dev.rtcSet (d : Dev) (v : Nat) : Dev := d.modPwr (fun p => { p with rtc := (v + 2 ^ 64 - rtcEdges d.time.cnt % 2 ^ 64) % 2 ^ 64 })

/-- The logic die is off (02 R61, 17 R482). -/
def Dev.logicOff (d : Dev) : Bool := d.sys.mode == .vigil || d.sys.mode == .bypass || d.sys.mode == .backup

/-- An event of Belfry or of the supplies: at once, or once the logic die is powered again (notes/assumptions/112.md). -/
def Dev.raiseOn (d : Dev) (src : Nat) (subj : Nat := 0) : Dev :=
  if d.logicOff then d.modBel (fun b => { b with offEvents := b.offEvents ++ [(src, subj)] }) else d.raise src subj

/-- The first 12 bytes of a log entry (R99). -/
def Dev.logHead (d : Dev) (src idx value mode : Nat) (off : Bool) : List Byte :=
  leBytes 6 d.rtcNow ++ [BitVec.ofNat 8 src, BitVec.ofNat 8 idx] ++ leBytes 2 (sat 0xFFFF value) ++
    [BitVec.ofNat 8 (b2n (d.rb A.BELFRY_BKP_STATUS 4) + 4 * b2n off), BitVec.ofNat 8 mode]

/-- LOG_WRITE (R100, R101): an entry takes the next sequence number at the write pointer; a full log loses its oldest. -/
def Dev.logPut (d : Dev) (head : List Byte) : Dev :=
  let seq := (d.rd A.BELFRY_LOG_SEQ).toNat
  let wp := d.fld A.BELFRY_LOG_WP 10 0
  let full := d.rb A.BELFRY_LOG_WP 11
  let d := d.setMbs (0x20000 + 16 * wp) (head ++ leBytes 4 seq)
  let d := (d.wr A.BELFRY_LOG_SEQ (BitVec.ofNat 32 (seq + 1))).setFld A.BELFRY_LOG_WP 10 0 (wp + 1)
  if full then
    ((d.setFld A.BELFRY_LOG_RP 10 0 (d.fld A.BELFRY_LOG_RP 10 0 + 1)).incSat A.BELFRY_LOG_WP 31 16).raiseOn Ev.belfryLogOverrun
  else d.wb A.BELFRY_LOG_WP 11 (decide (d.fld A.BELFRY_LOG_WP 10 0 = d.fld A.BELFRY_LOG_RP 10 0))

/-- An entry of the main log. -/
def Dev.logWrite (d : Dev) (src idx value : Nat) : Dev := d.logPut (d.logHead src idx value d.sys.mode.code d.logicOff)

/-- BELFRY_LOG_RP (R101): writing wp empties the log. -/
def Dev.logRp (d : Dev) (v : Word) : Dev := (d.setFld A.BELFRY_LOG_RP 10 0 (field 10 0 v)).wb A.BELFRY_LOG_WP 11 false

/-- An entry of the tail log (02 R83): circular, 128 entries. -/
def Dev.tailWrite (d : Dev) (idx : Nat) : Dev :=
  let wp := d.pwr.tailWp
  let n := d.fld A.BELFRY_BKP_STATUS 15 8
  let d := d.setMbs (0x3E000 + 16 * wp) (d.logHead 2 idx 0 d.sys.mode.code true ++ leBytes 4 0)
  let d := d.modPwr (fun p => { p with tailWp := (wp + 1) % 128 })
  if 128 ≤ n then d.wb A.BELFRY_BKP_STATUS 3 true else d.setFld A.BELFRY_BKP_STATUS 15 8 (n + 1)

/-- BKP_MIGRATED (02 R84): the entries of the tail log move to the main log, oldest first. -/
def Dev.migrate (d : Dev) : Dev :=
  let n := d.fld A.BELFRY_BKP_STATUS 15 8
  if n = 0 then d
  else
    let first := (d.pwr.tailWp + 128 - n) % 128
    let d := d.each (List.range n) (fun d i =>
      let e := d.mbs (0x3E000 + 16 * ((first + i) % 128)) 12
      d.logPut (putAt12 e))
    (d.setFld A.BELFRY_BKP_STATUS 15 8 0).raise Ev.bkpMigrated
where
  /-- flags bit 1: the entry migrated -/
  putAt12 (e : List Byte) : List Byte := e.set 10 (BitVec.ofNat 8 (nset 1 (byteAt e 10)))

/-- BELL_N is driven low (R102). -/
def Dev.bellOn (d : Dev) : Bool :=
  d.rb A.BELFRY_BELL 0 || (d.rb A.BELFRY_BKP_STATUS 1 && d.rb A.BELFRY_BKP_ALM_CFG 2) ||
    (d.rb A.BELFRY_BKP_STATUS 2 && d.rb A.BELFRY_BKP_ALM_CFG 6)

/-- BELFRY_BELL. -/
def Dev.bellWord (d : Dev) : Word := setBit 1 d.bellOn (d.rd A.BELFRY_BELL)

/-- ALARM_INPUT (02 R83): alarm input `i` has become active after its debounce. -/
def Dev.alarm (d : Dev) (i : Nat) : Dev :=
  if 2 ≤ i || !d.rb A.BELFRY_BKP_ALM_CFG (4 * i) || (d.pwr.vsysAbsent && !d.pwr.vbatPresent) then d
  else
    let d := d.wb A.BELFRY_BKP_STATUS (1 + i) true
    if d.pwr.vsysAbsent then d.tailWrite i else (d.logWrite 2 i 0).raiseOn Ev.bkpAlarm i

/-- ALARM_INPUT. -/
def execAlarmInput (i : Nat) (s : State) : Host.Outcome State Fault Refusal := s.perform (fun d => d.alarm i)

/-- The staged value is loaded at the next edge of the crystal (02 R85). -/
def Dev.rtcLoad (d : Dev) : Dev :=
  let next := ceilDiv ((rtcEdges d.time.cnt + 1) * 500000000) 32768
  ((d.advanceTo next).rtcSet (d.rd64 A.BELFRY_RTC_SET_LO)).wb A.BELFRY_BKP_STATUS 4 false

/-- VBAT_LOW (02 R78): VBAT has been below 2.0 V for 1 ms; as the only supply its loss takes the domain's contents. -/
def Dev.vbatLow (d : Dev) (vsysAbsent : Bool) : Dev :=
  if vsysAbsent || d.pwr.vsysAbsent then
    let d := (d.modPwr (fun p => { p with vbatPresent := false, tailWp := 0 })).rtcSet 0
    let d := { d with mem := d.mem.filter (fun c => !(0x3E000 ≤ c.1 && c.1 < 0x3F000)) }
    let d := { d with regs := d.regs.filter (fun c => !(0x3F000 ≤ c.1 && c.1 < 0x40000)) }
    d.wb A.BELFRY_BKP_STATUS 5 true
  else if d.rb A.BELFRY_BKP_STATUS 5 then d
  else ((d.wb A.BELFRY_BKP_STATUS 5 true).wb A.SYS_SUPPLY_STATUS 4 true).raiseOn Ev.vbatLow

/-- VBAT_LOW: with VSYS absent or present. -/
def execVbatLow (vsysAbsent : Bool) (s : State) : Host.Outcome State Fault Refusal := s.perform (fun d => d.vbatLow vsysAbsent)

/-- VBAT_RESTORED (02 R78, R81). -/
def execVbatRestored (s : State) : Host.Outcome State Fault Refusal :=
  s.perform (fun d => if d.pwr.vsysAbsent then d else
    ((d.modPwr (fun p => { p with vbatPresent := true })).wb A.BELFRY_BKP_STATUS 5 false).wb A.SYS_SUPPLY_STATUS 4 false)

end Sys2Proof.Machine
end

