-- ==== Sys2Proof/Machine/AccFault.lean ====
section
/-!
DEFINITION. The access fault (01_architecture_tick.md R30): the record of the first, and its event.
-/

namespace Sys2Proof.Machine

/-- The offset in the register space of a register's key: every client page is recorded at its place in CC0's page, at HOST
offset 0. -/
def spaceOffset (a : Nat) : Nat := if 0x1000000 ≤ a then 0xC0000 + a % 0x10000 else a % 0x1000000

/-- SYS_ACC_SRC for an access of `r`. -/
def accSource (r : Req) (write : Bool) : Word :=
  BitVec.ofNat 32 (r.cc % 1024 + 2 ^ 10 * b2n r.dma.isSome + 2 ^ 12 * r.port.code + 2 ^ 14 * b2n write + 2 ^ 16 * (r.dma.getD 0 % 32))

/-- An access of `r` at key `a` faults with a kind: the first is recorded, each raises the access-fault event. -/
def Dev.accFault (d : Dev) (r : Req) (a : Nat) (k : Kind) (write : Bool) : Dev :=
  let d := d.modHost (fun q => { q with accKind := k.code })
  let d := if d.rb A.SYS_ACC_FAULT 31 then d
    else (d.wr A.SYS_ACC_FAULT (BitVec.ofNat 32 (spaceOffset a + 2 ^ 24 * k.code + 2 ^ 31))).wr A.SYS_ACC_SRC (accSource r write)
  d.raise Ev.accessFault

end Sys2Proof.Machine
end

