-- ==== Sys2Proof/Machine/Can.lean ====
section
/-!
DEFINITION. The CAN FD controllers (15_field_io_can.md R440 to R449).  The error counters follow ISO 11898-1 as far as the spec's
states need it (notes/assumptions/30.md).
-/

namespace Sys2Proof.Machine

/-- The major modes in which the CAN controllers and UARTs run (R440, R453). -/
def ioMode (m : Mode) : Bool := !(m == .bypass || m == .backup || m == .booting || m == .vigil)

/-- Controller `k` is on the bus. -/
def Dev.canRuns (d : Dev) (k : Nat) : Bool := ioMode d.sys.mode && d.rb (A.CAN_CTRL k) 0

/-- The address of an entry of controller `k`: of the transmit queue, by its count. -/
def canSlot (k : Nat) (tx : Bool) (count : Nat) : Nat :=
  0x1A0000 + 0x8000 * k + (if tx then 0x6000 + 80 * (count % 64) else 0x1000 + 80 * (count % 256))

/-- How far 16-bit count `a` is dist16 of `b`. -/
def dist16 (a b : Nat) : Nat := (a + 65536 - b % 65536) % 65536

/-- The count in a register of controller `k`. -/
def Dev.cnt16 (d : Dev) (a : Nat) : Nat := d.fld a 15 0

/-- The payload length of a frame (ISO 11898-1): flags FDF, BRS, ESI, RTR in bits 0 to 3. -/
def canLen (dlc flags : Nat) : Nat :=
  if nbit 3 flags then 0
  else if dlc ≤ 8 then dlc
  else if !nbit 0 flags then 8
  else [12, 16, 20, 24, 32, 48, 64].getD (dlc - 9) 64

/-- The state of the controller changes (R445). -/
def Dev.canState (d : Dev) (k st : Nat) : Dev :=
  if d.fld (A.CAN_STATUS k) 1 0 = st then d else (d.setFld (A.CAN_STATUS k) 1 0 st).raise (Ev.canErrState k)

/-- The error counters take values: error passive above 127 (ISO 11898-1). -/
def Dev.canCounts (d : Dev) (k tec rec_ : Nat) : Dev :=
  let d := (d.setFld (A.CAN_STATUS k) 24 16 (sat 511 tec)).setFld (A.CAN_STATUS k) 15 8 (sat 255 rec_)
  if 2 ≤ d.fld (A.CAN_STATUS k) 1 0 then d else d.canState k (if 127 < tec ∨ 127 < rec_ then 1 else 0)

/-! ### Receiving (R443, R446) -/

/-- The filter a frame matches: none where filters are enabled and none matches, 0xFF where none is enabled. -/
def Dev.canFilter (d : Dev) (k : Nat) (id : Nat) (ide : Bool) : Option Nat :=
  let on := (List.range 16).filter (fun i => d.rb (A.CAN_FLT_ID k i) 31)
  if on.isEmpty then some 0xFF
  else on.find? (fun i =>
    let f := d.rd (A.CAN_FLT_ID k i)
    let m := d.rd (A.CAN_FLT_MASK k i)
    (id ^^^ field 28 0 f) &&& field 28 0 m == 0 && (!bit 29 m || ide == bit 29 f))

/-- `n` free bytes: the bytes beyond a received frame's length are undefined. -/
def Dev.drawBytes (d : Dev) (n : Nat) : List Byte × Dev :=
  ((List.range n).map (fun i => BitVec.ofNat 8 (Config.free (d.free + i))), { d with free := d.free + n })

/-- An accepted frame is stored, or dropped with rx_ovr where the queue is full. -/
def Dev.canStore (d : Dev) (k : Nat) (f : CanFrame) : Dev :=
  match d.canFilter k f.id f.ide with
  | none => d
  | some flt =>
    let wp := d.cnt16 (A.CAN_RX_WP k)
    if dist16 wp (d.cnt16 (A.CAN_RX_ACK k)) = 256 then (d.incSat (A.CAN_COUNT k) 15 0).raise (Ev.canRxOvr k)
    else
      let n := canLen f.dlc f.flags
      let x := d.drawBytes (64 - n)
      let e := leBytes 4 (f.id % 2 ^ 29 + 2 ^ 29 * b2n f.ide) ++ leBytes 1 (f.dlc % 16) ++ leBytes 1 (f.flags % 16) ++ leBytes 1 flt ++ [0] ++
        leBytes 8 f.sof ++ bytesAt f.data 0 n ++ x.1
      ((x.2.setMbs (canSlot k false wp) e).setFld (A.CAN_RX_WP k) 15 0 (wp + 1)).raise (Ev.canRx k)

/-- A reception without error lowers the receive counter (ISO 11898-1). -/
def Dev.canRxGood (d : Dev) (k : Nat) : Dev :=
  let rc := d.fld (A.CAN_STATUS k) 15 8
  if 127 < rc then
    let x := d.fresh
    x.2.canCounts k (d.fld (A.CAN_STATUS k) 24 16) (119 + x.1 % 9)
  else d.canCounts k (d.fld (A.CAN_STATUS k) 24 16) (rc - 1)

/-- CAN_RX (R443): a frame on the bus, as the controller receives it. -/
def execCanRx (k : Nat) (f : CanFrame) (s : State) : Host.Outcome State Fault Refusal :=
  s.perform (fun d =>
    if !d.canRuns k || decide (2 ≤ d.fld (A.CAN_STATUS k) 1 0) || d.fld (A.CAN_CTRL k) 2 1 == 2 || (nbit 0 f.flags && !d.rb (A.CAN_CTRL k) 3) then d
    else ((d.seenAt f.sof).canRxGood k).canStore k f)

/-! ### Sending (R442 to R444, R447) -/

/-- A transmit entry that is refused (R442). -/
def Dev.canRefused (d : Dev) (k : Nat) (a : Nat) : Bool :=
  let f := (d.mb (a + 5)).toNat
  (nbit 3 f && nbit 0 f) || (nbit 1 f && !nbit 0 f) || (nbit 0 f && !d.rb (A.CAN_CTRL k) 3)

/-- The entry at CAN_TX_DONE completes: info, retries and the SOF time are written and the index advances. -/
def Dev.canDone (d : Dev) (k info retries : Nat) (sof : Option Nat) : Dev :=
  let n := d.cnt16 (A.CAN_TX_DONE k)
  let a := canSlot k true n
  let t := match sof with | some t => (t, d) | none => d.fresh
  let d := (t.2.setMbs (a + 6) (leBytes 1 info ++ leBytes 1 retries)).setMbs (a + 8) (leBytes 8 t.1)
  (d.setFld (A.CAN_TX_DONE k) 15 0 (n + 1)).raise (Ev.canTxDone k)

/-- The reference message (R447): sequence number with valid, and the SOF time of the one before, most significant byte first. -/
def Dev.canRefBytes (d : Dev) (k : Nat) (valid : Bool) : List Byte :=
  let w := d.rd (A.CAN_TM_CFG k)
  leBytes 4 (d.fld (A.CAN_TM_ID k) 28 0 + 2 ^ 29 * b2n (bit 12 w)) ++ [8] ++ leBytes 1 (b2n (bit 11 w)) ++
    [BitVec.ofNat 8 ((d.can k).seq + 128 * b2n valid)] ++ beBytes 7 ((d.can k).prevSof % 2 ^ 56)

/-- The next frame goes on the bus: a reference that waits, else the entry at CAN_TX_DONE; refused entries complete without being
sent.  `fuel` bounds the refused entries. -/
def Dev.canStart : Nat → Dev → Nat → Dev
  | 0, d, _ => d
  | fuel + 1, d, k =>
    let x := d.can k
    let op := d.fld (A.CAN_CTRL k) 2 1
    if !d.canRuns k || op == 1 || decide (2 ≤ d.fld (A.CAN_STATUS k) 1 0) || x.bus.isSome then d
    else if x.refPending then
      let valid := !x.fresh && !(d.time.state == 0 || d.time.state == 3 || d.time.state == 4)
      let d := d.modCan k (fun x => { x with refPending := false, bus := some .reference, curValid := valid, fresh := false })
      if op = 2 then d else d.emit (.can k (d.canRefBytes k valid))
    else
      let n := d.cnt16 (A.CAN_TX_DONE k)
      if n = d.cnt16 (A.CAN_TX_PUT k) then d
      else
        let a := canSlot k true n
        if d.canRefused k a then Dev.canStart fuel (d.canDone k 3 0 none) k
        else
          let d := d.modCan k (fun x => { x with bus := some .entry, tries := 0 })
          if op = 2 then d else d.emit (.can k (d.mbs a (16 + canLen (d.mb (a + 4)).toNat (d.mb (a + 5)).toNat)))

/-- Entries up to `upto` complete as aborted. -/
def Dev.canAborted : Nat → Dev → Nat → Nat → Dev
  | 0, d, _, _ => d
  | fuel + 1, d, k, upto =>
    if d.cnt16 (A.CAN_TX_DONE k) = upto then d else Dev.canAborted fuel (d.canDone k 2 0 none) k upto

/-- The entry on the bus has ended; an abort takes those behind it. -/
def Dev.canEnd (d : Dev) (k info : Nat) (sof : Nat) : Dev :=
  let x := d.can k
  let d := (d.modCan k (fun x => { x with bus := none, abortTo := none })).canDone k info x.tries (some sof)
  let d := match x.abortTo with | some u => Dev.canAborted 64 d k u | none => d
  Dev.canStart 65 d k

/-- The entry at CAN_TX_DONE as a frame, for internal loopback. -/
def Dev.canOwn (d : Dev) (k sof : Nat) : CanFrame :=
  let a := canSlot k true (d.cnt16 (A.CAN_TX_DONE k))
  let id := (d.mw a).toNat
  { id := id % 2 ^ 29, ide := nbit 29 id, dlc := (d.mb (a + 4)).toNat % 16, flags := (d.mb (a + 5)).toNat % 16, data := d.mbs (a + 16) 64, sof }

/-- The transmitter delay that an FD frame with BRS measures while it is sent (R442): no number is stated. -/
def Dev.canMeasured (d : Dev) (k : Nat) : Dev :=
  let flags := (d.mb (canSlot k true (d.cnt16 (A.CAN_TX_DONE k)) + 5)).toNat
  if d.rb (A.CAN_CTRL k) 4 && nbit 0 flags && nbit 1 flags then d.fresh.2.setFld (A.CAN_TDC k) 23 16 (d.fresh.1 % 256) else d

/-- What was on the bus succeeded, or lost arbitration or met an error (R443, R444, R447). -/
def Dev.canTxDone (d : Dev) (k : Nat) (ok : Bool) (sof : Nat) : Dev :=
  let x := d.can k
  match x.bus with
  | none => d
  | some b =>
    let d := d.seenAt sof
    let good (d : Dev) := d.canCounts k (d.fld (A.CAN_STATUS k) 24 16 - 1) (d.fld (A.CAN_STATUS k) 15 8)
    match b, ok with
    | .reference, true =>
      let d := (good d).modCan k (fun x => { x with bus := none, seq := (x.seq + 1) % 128, lastValid := x.curValid, prevSof := sof })
      Dev.canStart 65 d k
    | .reference, false => if d.fld (A.CAN_CTRL k) 2 1 = 2 then d else d.emit (.can k (d.canRefBytes k x.curValid))
    | .entry, true =>
      let d := (good d).canMeasured k
      let d := if d.fld (A.CAN_CTRL k) 2 1 = 2 then d.canStore k (d.canOwn k sof) else d
      d.canEnd k 1 sof
    | .entry, false =>
      if x.abortTo.isSome then d.canEnd k 2 sof
      else
        let a := canSlot k true (d.cnt16 (A.CAN_TX_DONE k))
        (d.modCan k (fun x => { x with tries := sat 255 (x.tries + 1) })).emit (.can k (d.mbs a (16 + canLen (d.mb (a + 4)).toNat (d.mb (a + 5)).toNat)))

/-- CAN_TX_DONE (R443). -/
def execCanTxDone (k : Nat) (ok : Bool) (sof : Nat) (s : State) : Host.Outcome State Fault Refusal :=
  s.perform (fun d => if d.canRuns k then d.canTxDone k ok sof else d)

/-- abort is written (R444): pending entries that are not on the bus complete as aborted. -/
def Dev.canAbort (d : Dev) (k : Nat) : Dev :=
  let put := d.cnt16 (A.CAN_TX_PUT k)
  match (d.can k).bus with
  | some .entry => d.modCan k (fun x => { x with abortTo := some put })
  | _ => Dev.canAborted 64 d k put

/-! ### Index writes (R443, R472) -/

/-- CAN_TX_PUT takes a value. -/
def Dev.canPut (d : Dev) (r : Req) (k : Nat) (v : Word) : Dev :=
  let n := field 15 0 v
  if 64 < dist16 n (d.cnt16 (A.CAN_TX_ACK k)) ∨ 64 < dist16 n (d.cnt16 (A.CAN_TX_DONE k)) then d.accFault r (A.CAN_TX_PUT k) .notPermitted true
  else Dev.canStart 65 (d.setFld (A.CAN_TX_PUT k) 15 0 n) k

/-- An acknowledge index is written; TEST_CAN_ACK delays its effect. -/
def Dev.canAck (d : Dev) (r : Req) (k : Nat) (tx : Bool) (v : Word) : Dev :=
  let n := field 15 0 v
  let a := if tx then A.CAN_TX_ACK k else A.CAN_RX_ACK k
  let dev := d.cnt16 (if tx then A.CAN_TX_DONE k else A.CAN_RX_WP k)
  if dist16 dev (d.cnt16 a) < dist16 dev n then d.accFault r a .notPermitted true
  else if d.rb A.TEST_CAN_ACK k && d.fld A.TEST_CAN_ACK 23 8 != 0 then
    d.modCan k (fun x => { x with delays := x.delays ++ [{ tx, v := n, at_ := d.time.cnt + usCnt (d.fld A.TEST_CAN_ACK 23 8) }] })
  else d.setFld a 15 0 n

/-- CAN_ACK_DELAY_EXPIRY (16 R472). -/
def execCanAckDelayExpiry (k : Nat) (s : State) : Host.Outcome State Fault Refusal :=
  s.perform (fun d =>
    match (d.can k).delays with
    | [] => d
    | x :: rest =>
      let d := (d.advanceTo x.at_).modCan k (fun c => { c with delays := rest })
      d.setFld (if x.tx then A.CAN_TX_ACK k else A.CAN_RX_ACK k) 15 0 x.v)

/-! ### Errors (R445) -/

/-- CAN_BUS_ERROR (R445): an error of kind `lec`, as transmitter or as receiver. -/
def execCanBusError (k lec : Nat) (tx : Bool) (s : State) : Host.Outcome State Fault Refusal :=
  s.perform (fun d =>
    if !d.canRuns k || decide (2 ≤ d.fld (A.CAN_STATUS k) 1 0) || lec == 0 || decide (6 < lec) then d
    else
      let d := d.setFld (A.CAN_STATUS k) 4 2 lec
      let t := d.fld (A.CAN_STATUS k) 24 16
      let r := d.fld (A.CAN_STATUS k) 15 8
      if tx then d.canCounts k (t + 8) r else d.canCounts k t (r + 1))

/-- CAN_BUS_OFF (R445): TEC is above 255. -/
def execCanBusOff (k : Nat) (s : State) : Host.Outcome State Fault Refusal :=
  s.perform (fun d =>
    if d.canRuns k && decide (255 < d.fld (A.CAN_STATUS k) 24 16) && decide (d.fld (A.CAN_STATUS k) 1 0 < 2) then
      let d := d.modCan k (fun x => { x with bus := none, refPending := x.refPending || x.bus == some .reference, recessive := 0 })
      let d := match (d.can k).abortTo with
        | some u => Dev.canAborted 64 (d.modCan k (fun x => { x with abortTo := none })) k u
        | none => d
      (d.incSat (A.CAN_COUNT k) 31 16).canState k 2
    else d)

/-- CAN_BUS_OFF_RECOVERY (R445): `n` more occurrences of 11 recessive bits; after 128 the controller is error active with both
counters 0. -/
def execCanBusOffRecovery (k n : Nat) (s : State) : Host.Outcome State Fault Refusal :=
  s.perform (fun d =>
    if !d.canRuns k || decide (d.fld (A.CAN_STATUS k) 1 0 < 2) || n == 0 then d
    else
      let m := (d.can k).recessive + n
      let d := d.modCan k (fun x => { x with recessive := m })
      if m < 128 then d.canState k 3
      else
        let d := (d.setFld (A.CAN_STATUS k) 24 16 0).setFld (A.CAN_STATUS k) 15 8 0
        Dev.canStart 65 (d.canState k 0) k)

/-! ### The time master (R447, R449) -/

/-- CAN_TM_STATUS. -/
def Dev.canTmWord (d : Dev) (k : Nat) : Word :=
  let x := d.can k
  BitVec.ofNat 32 (x.seq + 128 * b2n x.lastValid + 2 ^ 16 * x.skips)

/-- CAN_TM_CFG takes a value: references begin at the first multiple of period_ms from now on. -/
def Dev.canTmCfg (d : Dev) (k : Nat) (v : Word) : Dev :=
  let was := d.rb (A.CAN_TM_CFG k) 10
  let d := d.wr (A.CAN_TM_CFG k) v
  let p := 1000000 * field 9 0 v
  if !bit 10 v then d.modCan k (fun x => { x with refPending := false })
  else d.modCan k (fun x => { x with refNext := (d.now / p + 1) * p, fresh := x.fresh || !was })

/-- A reference message is due (R447): sent, or skipped while the one before is unsent. -/
def Dev.canReference (d : Dev) (k : Nat) : Dev :=
  if !d.rb (A.CAN_TM_CFG k) 10 || !d.canRuns k then d
  else
    let t := (d.can k).refNext
    let d := d.seenAt t
    if d.now < t then d
    else
      let d := d.modCan k (fun x => { x with refNext := t + 1000000 * d.fld (A.CAN_TM_CFG k) 9 0 })
      if (d.can k).refPending || (d.can k).bus == some .reference then
        (d.modCan k (fun x => { x with skips := sat 0xFFFF (x.skips + 1), fresh := true })).raise (Ev.canRefSkip k)
      else Dev.canStart 65 (d.modCan k (fun x => { x with refPending := true })) k

/-- CAN_REFERENCE (R447). -/
def execCanReference (k : Nat) (s : State) : Host.Outcome State Fault Refusal := s.perform (fun d => d.canReference k)

/-- A fabric-time step makes the next reference invalid (R447). -/
def Dev.canStepped (d : Dev) : Dev := d.each (List.range 4) (fun d k => d.modCan k (fun x => { x with fresh := true }))

/-- Entry to VIGIL (R440): the controllers leave the bus, and both queues are empty. -/
def Dev.canVigil (d : Dev) : Dev :=
  d.each (List.range 4) (fun d k =>
    (d.modCan k (fun x => { ({} : CanSt) with seq := x.seq, skips := x.skips, lastValid := x.lastValid, prevSof := x.prevSof, refNext := x.refNext })).wrAll
      ([A.CAN_RX_WP k, A.CAN_RX_ACK k, A.CAN_TX_PUT k, A.CAN_TX_DONE k, A.CAN_TX_ACK k].map (fun a => (a, (0 : Word)))))

/-- CAN_TIME_MASTER at its frame tick. -/
def Dev.canTimeMaster (d : Dev) (h : Hdr) (b : List Byte) : Dev :=
  let k := byteAt b 16
  let w := byteAt b 17
  let p := leAt b 18 2
  if h.mask ≠ 0 ∨ 3 < k ∨ 7 < w ∨ p = 0 ∨ 1000 < p ∨ 2 ^ 29 ≤ leAt b 20 4 then d.doneAt h Code.badField
  else if !d.rb (A.CAN_CTRL k) 0 || (nbit 1 w && !d.rb (A.CAN_CTRL k) 3) then d.doneAt h Code.wrongMode [(16, 4, (d.canTmWord k).toNat)]
  else
    let d := d.wr (A.CAN_TM_ID k) (BitVec.ofNat 32 (leAt b 20 4))
    let d := d.canTmCfg k (BitVec.ofNat 32 (p + 2 ^ 10 * w))
    d.doneAt h Code.done [(16, 4, (d.canTmWord k).toNat)]

/-- CAN_TIME_MASTER (R449). -/
def execCanTimeMaster (h : Hdr) (b : List Byte) (s : State) : Host.Outcome State Fault Refusal :=
  s.perform (fun d => d.command 0x0603 h (fun d => d.canTimeMaster h b))

/-- CAN_QUERY. -/
def Dev.canQuery (d : Dev) (h : Hdr) (k : Nat) : Dev :=
  if h.mask ≠ 0 ∨ 3 < k then d.doneNow h Code.badField
  else d.doneNow h Code.done [(16, 4, (d.rd (A.CAN_STATUS k)).toNat), (20, 2, d.cnt16 (A.CAN_RX_WP k)), (22, 2, d.cnt16 (A.CAN_TX_DONE k)),
    (24, 4, (d.rd (A.CAN_COUNT k)).toNat), (28, 4, (d.canTmWord k).toNat)]

/-- CAN_QUERY (R449). -/
def execCanQuery (h : Hdr) (k : Nat) (s : State) : Host.Outcome State Fault Refusal :=
  s.perform (fun d => d.command 0x0604 h (fun d => d.canQuery h k))

end Sys2Proof.Machine
end

