-- ==== Sys2Proof/Machine/Judge.lean ====
section
/-!
DEFINITION. The commit of an execution, and the judgement of a loop tick's executions at the next tick (01_architecture_tick.md R42 to R46; 04_cupola_control.md R111, R134).
-/

namespace Sys2Proof.Machine

/-! ### S2 (01 R37) -/

/-- An angle brought inside [−π, π) by one turn (05 R157). -/
def wrapOnce (v : F32) : F32 :=
  let a := f32Val v
  if a < -Config.pi then f32Of (a + 2 * Config.pi) else if Config.pi ≤ a then f32Of (a - 2 * Config.pi) else v

/-- The angle states of the members wrapped after the last execution (05 R157). -/
def Dev.wrapAngles (d : Dev) (n : Nat) (x : List F32) : List F32 :=
  (d.members n).foldl (fun (x : List F32) m =>
    let cfg := d.rd (A.AX_POS_CFG m)
    let i := field 13 8 cfg
    if field 1 0 cfg = 0 ∧ d.hasDq m then x.set i (wrapOnce (x.getD i 0)) else x) x

/-- The execution `o` of the model that axis `n` leads is committed (R37, R107 step 6): its outputs await the next tick. -/
def Dev.commit (d : Dev) (n : Nat) (o : ExecOut) (save : ExecSave) : Dev :=
  let x := d.wrapAngles n o.x
  let snap := d.rb (A.AX_SNAP_CTRL n) 0
  let d := d.modAx n (fun c => { c with
    x, lastY := o.y, lastW := o.w, lastR := o.r, lastU := o.us, uPending := o.us.getLast?, yLast := o.yLast, wLast := o.wLast
    commitTick := d.sys.tick, save := some { save with snap } })
  let d := d.each (d.members n) (fun d m =>
    d.modSns m (fun s => { s with thetaC := s.theta, omegaC := s.omega, tickC := s.tickK, betaC := s.beta }))
  if snap then d.snapCapture n x o.y o.w (o.us.getLast?.getD []) else d

/-- The execution `o` has reached the end of its tick in time (01 R38, 04 R111): it is committed, unless its numbers suppress that. -/
def Dev.inTime (d : Dev) (n : Nat) (o : ExecOut) (save : ExecSave) : Dev :=
  let d := d.modAx n (fun c => { c with ended := .inTime, overrun := none })
  if o.bad ≠ 0 then d.modAx n (fun c => { c with faultNext := c.faultNext ||| (2 * o.bad) }) else d.commit n o save

/-! ### The length of the tick (01 R38, R42, R46) -/

/-- The length of the present tick in counts of the 500 MHz clock, on the rate in force: to the first edge at or past the next boundary
(R33). -/
def Dev.tickCounts (d : Dev) : Nat := d.time.edge ((d.sys.tick + 1) * d.loopPeriod) - d.sys.tickAt

/-- The length the present tick has had once it is over: a forward step ends it at once (R46). -/
def Dev.tickLength (d : Dev) : Nat := if d.sys.stepTick then d.time.cnt - d.sys.tickAt else d.tickCounts

/-- The cluster cycles S1 has in a tick of `len` counts whose S0 takes `s0` ns. -/
def s1Room (len s0 : Nat) : Nat := (6 * len - 3 * s0) / 5

/-- SYS_S1_PEAK takes the cycles S1 used in a tick of `len` counts (R45). -/
def Dev.s1Peak (d : Dev) (len : Nat) : Dev :=
  let q := d.cup
  d.setFld A.SYS_S1_PEAK 17 0 (max q.s1Before (sat 0x3FFFF (min q.s1Used (s1Room len q.s1S0))))

/-- The execution of the model that axis `n` leads, against the length the tick has had: a commit it left no time for is abandoned, and one
it left time for after all, because the tick was longer than the rate in force gave, is made (R38, R42). -/
def Dev.settleExec (d : Dev) (len n : Nat) : Dev :=
  let c := d.ax n
  if !c.state.active then d
  else if c.ended = .inTime ∧ len < c.finish then (d.undo n).modAx n (fun c => { c with ended := .late })
  else match c.ended, c.overrun, c.save with
    | .late, some o, some save =>
      if c.finish ≤ len then save.mods.foldl Dev.modBack (d.inTime n o save) else d
    | _, _, _ => d

/-! ### Judging the tick before (R42, R43, R46) -/

/-- AX_LATE of the model that axis `n` leads: the event and the count of each of its axes. -/
def Dev.axLate (d : Dev) (n : Nat) : Dev :=
  d.each (d.members n) (fun d m =>
    ((d.raiseAx m 0).incSat A.SYS_OVERRUN 15 0).setFld A.SYS_OVERRUN 20 16 m)

/-- The tick before is judged for the model that axis `n` leads: OVERRUN_FAULT is left in faultNow. -/
def Dev.judgeTick (d : Dev) (step : Bool) (n : Nat) : Dev :=
  let c := d.ax n
  let d := d.modAx n (fun c => { c with ended := .idle, save := none, overrun := none })
  if !c.state.active then d
  else match c.ended with
    | .idle => d
    | .inTime => d.modAx n (fun c => { c with late := 0 })
    | .exempt => d.axLate n
    | .late =>
      let d := d.axLate n
      if step then d
      else if 1 ≤ c.late then d.modAx n (fun c => { c with late := 0, faultNow := c.faultNow ||| 1 })
      else d.modAx n (fun c => { c with late := c.late + 1 })

/-- The causes of FAULT found for axis `n` at this tick take it to FAULT. -/
def Dev.enterFaults (d : Dev) (n : Nat) : Dev :=
  let f := (d.ax n).faultNow
  (d.modAx n (fun c => { c with faultNow := 0 })).faultAxis n f

/-- The faults that a suppressed commit of the tick before has left come due (04 R111). -/
def Dev.faultsDue (d : Dev) (n : Nat) : Dev := d.modAx n (fun c => { c with faultNow := c.faultNow ||| c.faultNext, faultNext := 0 })

/-- The executions of the tick before are judged at the tick's time, once: before the orders of the frame tick that coincides with it
(01 R32, 04 R134). -/
def Dev.closeTick (d : Dev) : Dev :=
  let len := d.tickLength
  let d := if d.cup.s1Used = 0 then d else (d.s1Peak len).modCup (fun q => { q with s1Used := 0 })
  let d := d.each d.leads (Dev.settleExec · len)
  let d := d.each d.leads (Dev.judgeTick · d.sys.stepTick)
  let d := d.each d.axisList Dev.faultsDue
  d.each d.axisList Dev.enterFaults

end Sys2Proof.Machine
end

