-- ==== Sys2Proof/Machine/Upd.lean ====
section
/-!
DEFINITION. Firmware update (16_update_test_debug.md R455 to R464, R467): the boot record, the checks of an image, sessions, and the
choice of the slot at boot.
-/

namespace Sys2Proof.Machine

/-! ### Boot record, slots and registers -/

/-- The boot record in force: the valid copy with the higher sequence number, else slot A active and none pending (R456). -/
def Dev.bootRec (d : Dev) : BootRec :=
  match AList.find d.upd.recs 0, AList.find d.upd.recs 1 with
  | some a, some b => if a.seq < b.seq then b else a
  | some a, none => a
  | none, some b => b
  | none, none => { seq := 0, active := 0, pending := none, trial := false }

/-- The next boot record is written over the older copy. -/
def Dev.putBoot (d : Dev) (f : BootRec → BootRec) : Dev :=
  let r := d.bootRec
  d.modUpd (fun u => { u with recs := AList.put u.recs ((r.seq + 1) % 2) { f r with seq := r.seq + 1 } })

/-- Flash slot `s`. -/
def Dev.slotOf (d : Dev) (s : Nat) : FlashSlot := AList.get {} d.upd.slots s

/-- Set flash slot `s`. -/
def Dev.setSlot (d : Dev) (s : Nat) (x : FlashSlot) : Dev := d.modUpd (fun u => { u with slots := AList.put u.slots s x })

/-- Block 0 of a slot. -/
def FlashSlot.hdr (x : FlashSlot) : List Byte := AList.get [] x.blocks 0

/-- The security version in a slot's header. -/
def FlashSlot.sv (x : FlashSlot) : Nat := leAt x.hdr 36 2

/-- UPD_STATUS. -/
def Dev.updStatusWord (d : Dev) : Word :=
  let u := d.upd
  let r := d.bootRec
  BitVec.ofNat 32 (u.running + 2 * r.active + 4 * b2n r.pending.isSome + 8 * r.pending.getD 0 + 16 * b2n u.trial + 32 * b2n u.finial +
    2 ^ 6 * u.bootSrc + 2 ^ 8 * (match u.session with | some s => s.phase | none => 0) + 2 ^ 16 * u.reason)

/-- The blocks written in a session. -/
def Dev.updReceived (d : Dev) (s : UpdSess) : Nat := (d.slotOf s.slot).blocks.length

/-- UPD_SESSION. -/
def Dev.updSessionWord (d : Dev) : Word :=
  match d.upd.session with
  | some s => BitVec.ofNat 32 (d.updReceived s % 4096 + 2 ^ 16 * (s.blocks % 4096))
  | none => 0

/-- UPD_SLOT[s]. -/
def Dev.updSlotWord (d : Dev) (s : Nat) : Word := BitVec.ofNat 32 ((d.slotOf s).state + 2 ^ 16 * (d.slotOf s).sv)

/-- UPD_SLOT_BUILD[s]. -/
def Dev.updBuildWord (d : Dev) (s : Nat) : Word := BitVec.ofNat 32 (leAt (d.slotOf s).hdr 40 4)

/-- UPD_OTP. -/
def Dev.updOtpWord (d : Dev) : Word :=
  BitVec.ofNat 32 (d.upd.steps + 2 ^ 7 * b2n (d.upd.steps == 64) + 2 ^ 8 * b2n d.upd.keyOk + 2 ^ 9 * d.upd.dbg)

/-- The unit UID (R467). -/
def Dev.uid (d : Dev) : List Byte := (List.range 4).flatMap (fun w => leBytes 4 (d.rd (A.UPD_UID w)).toNat)

/-! ### The checks of an image (R458, R459) -/

/-- Magic, format and reserved bytes of a header are wrong. -/
def badMagic (b : List Byte) : Bool :=
  leAt b 0 4 != 0x46495A42 || leAt b 4 2 != 1 || !zeroAt b 6 2 || decide (1 < byteAt b 12) || !zeroAt b 13 3 || !zeroAt b 38 2 ||
    !((b.drop 44).take 3988).all (· == 0)

/-- The checks of the header but the security version: the reason of the first that fails; that of the length is made where UPD_BEGIN's is
known, not at boot. -/
def Dev.hdrReason (d : Dev) (b : List Byte) (length : Option Nat) : Option Nat :=
  let dev := leAt b 8 4
  let n := leAt b 32 4
  if badMagic b then some 1
  else if dev ≠ (if d.sys.is4016 then 0x4B320A20 else 0x4B320A40) ∧ dev ≠ 0x4B320A00 then some 2
  else if nbit 0 (byteAt b 12) && bytesAt b 16 16 != d.uid then some 3
  else if length.isSome ∧ (n < 8192 ∨ 8388608 < n ∨ n % 4096 ≠ 0 ∨ length ≠ some n) then some 4
  else none

/-- The security version is refused (R459). -/
def Dev.svRefused (d : Dev) (sv : Nat) : Bool := decide (sv < d.upd.steps) || decide (64 < sv)

/-- A refusal with its reason: UPD_STATUS.reason, and the exhausted counter (R459, R467). -/
def Dev.refuse (d : Dev) (reason sv : Nat) : Dev :=
  let d := d.modUpd (fun u => { u with reason })
  if reason = 0x0B ∧ d.upd.steps = 64 ∧ 64 < sv then d.raise Ev.updRollbackExhausted else d

/-- The status of a refusal. -/
def refusedCode (reason : Nat) : Nat := if reason = 0x0B then Code.rollbackRefused else Code.imageRejected

/-- The bytes of an image over which its signature is computed: bytes [4032:4095] of block 0 taken as 0. -/
def signedBytes (x : FlashSlot) : List Byte :=
  let all := (List.range x.blocks.length).flatMap (fun i => AList.get ([] : List Byte) x.blocks i)
  putAt all 4032 (List.replicate 64 0)

/-- The image-verification key. -/
def Dev.updKey (d : Dev) : List Byte := (List.range 16).flatMap (fun i => leBytes 4 (d.rd (A.UPD_KEY i)).toNat)

/-- The signature of a slot's image checks. -/
def Dev.signed (d : Dev) (x : FlashSlot) : Bool :=
  Config.imageSigned (d.updKey ++ bytesAt x.hdr 4032 64) (signedBytes x)

/-- Every block of a slot's image is there. -/
def FlashSlot.whole (x : FlashSlot) : Bool :=
  let n := leAt x.hdr 32 4 / 4096
  x.blocks.length == n && (List.range n).all (fun i => AList.has x.blocks i)

/-- The whole slot's checks at activation (`length` given in UPD_BEGIN) or at boot: the reason of the first that fails. -/
def Dev.slotReason (d : Dev) (s : Nat) (length : Option Nat) : Option Nat :=
  let x := d.slotOf s
  if x.factory then (if !d.upd.keyOk then some 9 else if d.svRefused 0 then some 0x0B else none)
  else match d.hdrReason x.hdr length with
    | some r => some r
    | none =>
      if length.isSome && !x.whole then some 7
      else if !d.signed x then some 8
      else if !d.upd.keyOk then some 9
      else if d.svRefused x.sv then some 0x0B
      else none

/-- The slot boot may run (R463). -/
def Dev.verifies (d : Dev) (s : Nat) : Bool := (d.slotReason s none).isNone

/-- The choice of the slot to run (R463). -/
def Dev.chooseSlot (d : Dev) (recovery : Bool) : Dev :=
  let finial (d : Dev) := d.modUpd (fun u => { u with finial := true, bootSrc := 3, trial := false })
  let run (d : Dev) (s src : Nat) (trial : Bool) :=
    (d.setSlot s { d.slotOf s with state := 4 }).modUpd (fun u => { u with running := s, trial, finial := false, bootSrc := src })
  if recovery then finial d
  else
    let r := d.bootRec
    let d := if r.pending.isSome then d.putBoot (fun r => { r with pending := none, trial := true }) else d
    let o := 1 - r.active
    match r.pending with
    | some p => if d.verifies p then run d p 1 true
        else if d.verifies r.active then run d r.active 0 false
        else if d.verifies o then (run (d.putBoot (fun r => { r with active := o, trial := false })) o 2 false).raise Ev.updFallback
        else finial d
    | none =>
      if d.verifies r.active then run d r.active 0 false
      else if d.verifies o then (run (d.putBoot (fun r => { r with active := o, trial := false })) o 2 false).raise Ev.updFallback
      else finial d

/-! ### Sessions (R460 to R462) -/

/-- Flash and OTP operations proceed: no dip suspends them (02 R79). -/
def Dev.flashRuns (d : Dev) : Bool := !d.pwr.suspended

/-- UPD_BEGIN at its frame tick. -/
def Dev.updBegin (d : Dev) (h : Hdr) (length : Nat) : Dev :=
  let slot := 1 - d.bootRec.active
  let res : List (Nat × Nat × Nat) := [(16, 1, slot), (18, 2, length / 4096)]
  let m := d.sys.mode
  let okMode := m == .configure || m == .ready || m == .run || m == .safeHold || m == .recovery || m == .prodTest
  if h.mask ≠ 0 then d.doneAt h Code.badField
  else if d.upd.session.isSome || d.upd.trial || !okMode then d.doneAt h Code.wrongMode
  else if length < 8192 ∨ 8388608 < length ∨ length % 4096 ≠ 0 then (d.refuse 4 0).doneAt h Code.imageRejected res
  else
    let d := if d.bootRec.pending = some slot then d.putBoot (fun r => { r with pending := none }) else d
    let d := d.setSlot slot {}
    d.modUpd (fun u => { u with session := some { slot, length, blocks := length / 4096, phase := 1, cmd := some h } })

/-- UPD_BEGIN (R460). -/
def execUpdBegin (h : Hdr) (length : Nat) (s : State) : Host.Outcome State Fault Refusal :=
  s.perform (fun d => d.command 0x0A01 h (fun d => d.updBegin h length))

/-- UPD_ERASED (R460): the erase ends. -/
def execUpdErased (s : State) : Host.Outcome State Fault Refusal :=
  s.perform (fun d =>
    match d.upd.session with
    | some x =>
      if x.phase = 1 && d.flashRuns then
        let d := d.setSlot x.slot { state := 1 }
        let d := d.modUpd (fun u => { u with session := some { x with phase := 2, cmd := none } })
        (d.raise Ev.updErased).doneWait x.cmd Code.done [(16, 1, x.slot), (18, 2, x.blocks)]
      else d
    | none => d)

/-- The checks of a block on arrival (R458): the reason of the first that fails. -/
def Dev.blockReason (d : Dev) (x : UpdSess) (index crc : Nat) (b : List Byte) : Option Nat :=
  let hdr := if index = 0 then d.hdrReason b (some x.length) else none
  let have_ := match x.prog.find? (fun p => p.index == index) with
    | some p => some p.bytes
    | none => AList.find (d.slotOf x.slot).blocks index
  if hdr.isSome then hdr
  else if crc32c b ≠ crc then some 5
  else if x.blocks ≤ index ∨ (have_.isSome ∧ have_ ≠ some b) then some 6
  else if index = 0 && d.svRefused (leAt b 36 2) then some 0x0B
  else none

/-- UPD_BLOCK at its frame tick: `block` the 4,096 bytes as the device read them. -/
def Dev.updBlock (d : Dev) (h : Hdr) (index crc : Nat) (block : Option (List Byte)) : Dev :=
  if h.mask ≠ 0 then d.doneAt h Code.badField
  else match d.upd.session with
    | none => d.doneAt h Code.wrongMode
    | some x =>
      if x.phase ≠ 2 then d.doneAt h Code.wrongMode
      else match block with
        | none => d.doneAt h Code.hostMemory [(16, 2, d.updReceived x)]
        | some b =>
          let b := bytesAt b 0 4096
          match d.blockReason x index crc b with
          | some r => (d.refuse r (leAt b 36 2)).doneAt h (refusedCode r) [(16, 2, d.updReceived x), (18, 1, r)]
          | none =>
            if x.prog.any (fun p => p.index == index) || AList.has (d.slotOf x.slot).blocks index then
              d.doneAt h Code.done [(16, 2, d.updReceived x)]
            else d.modUpd (fun u => { u with session := some { x with prog := x.prog ++ [{ index, bytes := b, cmd := h }] } })

/-- UPD_BLOCK (R461). -/
def execUpdBlock (h : Hdr) (index crc : Nat) (block : Option (List Byte)) (s : State) : Host.Outcome State Fault Refusal :=
  s.perform (fun d => d.command 0x0A02 h (fun d => d.updBlock h index crc block))

/-- A block's last page is written (R461). -/
def Dev.blockWritten (d : Dev) (index : Nat) : Dev :=
  match d.upd.session with
  | none => d
  | some x =>
    match x.prog.find? (fun p => p.index == index) with
    | none => d
    | some p =>
      let s := d.slotOf x.slot
      let s := { s with blocks := AList.put s.blocks index p.bytes }
      let d := d.setSlot x.slot { s with state := if s.blocks.length = x.blocks then 3 else 2 }
      let x := { x with prog := x.prog.filter (fun q => q.index != index) }
      (d.modUpd (fun u => { u with session := some x })).doneNow p.cmd Code.done [(16, 2, d.updReceived x)]

/-- UPD_BLOCK_PROGRAMMED (R461). -/
def execUpdBlockProgrammed (index : Nat) (s : State) : Host.Outcome State Fault Refusal :=
  s.perform (fun d => if d.flashRuns then d.blockWritten index else d)

/-- The result of UPD_ACTIVATE (R464). -/
def Dev.actRes (d : Dev) (slot reason : Nat) : List (Nat × Nat × Nat) :=
  [(16, 1, slot), (17, 1, reason), (20, 2, (d.slotOf slot).sv), (22, 1, d.upd.steps)]

/-- UPD_ACTIVATE, action 0, at its frame tick: the verification of the whole slot begins. -/
def Dev.updActivate (d : Dev) (h : Hdr) : Dev :=
  if h.mask ≠ 0 then d.doneAt h Code.badField
  else match d.upd.session with
    | none => d.doneAt h Code.wrongMode
    | some x =>
      if x.phase ≠ 2 then d.doneAt h Code.wrongMode
      else if d.updReceived x ≠ x.blocks then (d.refuse 7 0).doneAt h Code.imageRejected (d.actRes x.slot 7)
      else d.modUpd (fun u => { u with session := some { x with phase := 3, cmd := some h } })

/-- UPD_ACTIVATE (R462). -/
def execUpdActivate (h : Hdr) (s : State) : Host.Outcome State Fault Refusal :=
  s.perform (fun d => d.command 0x0A03 h (fun d => d.updActivate h))

/-- The verification ends (R462): the slot is verified and pending, or refused; the session closes. -/
def Dev.updVerified (d : Dev) : Dev :=
  match d.upd.session with
  | none => d
  | some x =>
    if x.phase ≠ 3 then d
    else
      let s := d.slotOf x.slot
      let d := d.modUpd (fun u => { u with session := none })
      match d.slotReason x.slot (some x.length) with
      | some r => ((d.setSlot x.slot { s with state := 5 }).refuse r s.sv).doneWait x.cmd (refusedCode r) (d.actRes x.slot r)
      | none =>
        let d := (d.setSlot x.slot { s with state := 4 }).putBoot (fun r => { r with pending := some x.slot })
        (d.raise Ev.updVerified).doneWait x.cmd Code.done (d.actRes x.slot 0)

/-- UPD_VERIFIED (R462). -/
def execUpdVerified (s : State) : Host.Outcome State Fault Refusal := s.perform (fun d => if d.flashRuns then d.updVerified else d)

/-- UPD_ACTIVATE, action 1, at its frame tick: the OTP steps begin. -/
def Dev.updCommit (d : Dev) (h : Hdr) : Dev :=
  if h.mask ≠ 0 then d.doneAt h Code.badField
  else if !d.upd.trial || d.upd.commit.isSome then d.doneAt h Code.wrongMode
  else d.modUpd (fun u => { u with commit := some h })

/-- UPD_COMMIT (R462). -/
def execUpdCommit (h : Hdr) (s : State) : Host.Outcome State Fault Refusal :=
  s.perform (fun d => d.command 0x0A03 h (fun d => d.updCommit h))

/-- UPD_COMMITTED (R462): c is min(sv, 64) and the boot record names the running slot active. -/
def Dev.updCommitted (d : Dev) : Dev :=
  match d.upd.commit with
  | none => d
  | some h =>
    let run := d.upd.running
    let c := max d.upd.steps (min 64 (d.slotOf run).sv)
    let d := d.modUpd (fun u => { u with steps := c, commit := none, trial := false })
    let d := d.putBoot (fun r => { r with active := run, trial := false })
    (d.raise Ev.updCommitted).doneNow h Code.done (d.actRes run 0)

/-- UPD_COMMITTED. -/
def execUpdCommitted (s : State) : Host.Outcome State Fault Refusal := s.perform (fun d => if d.flashRuns then d.updCommitted else d)

/-- UPD_ACTIVATE, action 2, at its frame tick. -/
def Dev.updCancel (d : Dev) (h : Hdr) : Dev :=
  if h.mask ≠ 0 then d.doneAt h Code.badField
  else match d.bootRec.pending with
    | none => d.doneAt h Code.wrongMode
    | some p => (d.putBoot (fun r => { r with pending := none })).doneAt h Code.done (d.actRes p 0)

/-- UPD_CANCEL (R462). -/
def execUpdCancel (h : Hdr) (s : State) : Host.Outcome State Fault Refusal :=
  s.perform (fun d => d.command 0x0A03 h (fun d => d.updCancel h))

/-- UPD_QUERY. -/
def Dev.updQuery (d : Dev) (h : Hdr) : Dev :=
  if h.mask ≠ 0 then d.doneNow h Code.badField
  else d.doneNow h Code.done [(16, 4, d.updStatusWord.toNat), (20, 4, (d.updSlotWord 0).toNat), (24, 4, (d.updSlotWord 1).toNat), (28, 4, d.updOtpWord.toNat)]

/-- UPD_QUERY (R464). -/
def execUpdQuery (h : Hdr) (s : State) : Host.Outcome State Fault Refusal := s.perform (fun d => d.command 0x0A04 h (fun d => d.updQuery h))

/-- A flash operation fails (R458, reason 0x0A): the erase of the session, or the program of a block. -/
def Dev.flashFail (d : Dev) (erase : Bool) (index : Nat) : Dev :=
  match d.upd.session with
  | none => d
  | some x =>
    if erase then
      if x.phase ≠ 1 then d
      else
        let d := (d.setSlot x.slot { state := 5 }).modUpd (fun u => { u with session := none })
        ((d.refuse 0x0A 0).raise Ev.updFlashError).doneWait x.cmd Code.imageRejected [(16, 1, x.slot), (18, 2, x.blocks)]
    else match x.prog.find? (fun p => p.index == index) with
      | none => d
      | some p =>
        let d := d.modUpd (fun u => { u with session := some { x with prog := x.prog.filter (fun q => q.index != index) } })
        ((d.refuse 0x0A 0).raise Ev.updFlashError).doneNow p.cmd Code.imageRejected [(16, 2, d.updReceived x), (18, 1, 0x0A)]

/-- FLASH_OPERATION_TIMEOUT (R458). -/
def execFlashOperationTimeout (erase : Bool) (index : Nat) (s : State) : Host.Outcome State Fault Refusal :=
  s.perform (fun d => if d.flashRuns then d.flashFail erase index else d)

/-- A device reset ends the session (R461): the slot is marked loading. -/
def Dev.updReset (d : Dev) : Dev :=
  match d.upd.session with
  | none => d
  | some x => (d.setSlot x.slot { d.slotOf x.slot with state := 2 }).modUpd (fun u => { u with session := none })

end Sys2Proof.Machine
end

