-- ==== Sys2Proof/Machine/FabTime.lean ====
section
/-!
DEFINITION. Fabric time (14_spire_ring_time.md R417 to R425, R427, R428): markers, the servo, holdover, loss and steps, PTP, and the
commands of time; with them the tick grid under a step (01_architecture_tick.md R46) and a change of tick settings taking effect
(R35, R36).
-/

namespace Sys2Proof.Machine

/-- The logic die runs. -/
def Dev.running (d : Dev) : Bool :=
  let m := d.sys.mode
  !(m == .bypass || m == .backup || m == .vigil)

/-- 200 ppm and 1 ppm as rates in 2⁻⁴⁰ (R417, R421). -/
def rateMax : Int := 219902325
/-- 1 ppm. -/
def ratePpm : Int := 1099511

/-- The time unit enters a state (R420, R429). -/
def Dev.timeTo (d : Dev) (k : Nat) : Dev :=
  if d.time.state = k then d
  else
    let d := d.modTime (fun t => { t with state := k })
    if k = 1 then d.raise Ev.timeLock else if k = 3 then d.raise Ev.timeLost else if k = 4 then d.raise Ev.timeStepWait else d

/-- TIME_STATUS. -/
def Dev.timeStatusWord (d : Dev) : Word :=
  setField 4 3 (if d.isRoot then d.time.source else 0) (setField 2 0 d.time.state (d.rd A.TIME_STATUS))

/-- The step threshold in units of 2⁻⁴⁰ ns. -/
def Dev.stepThr (d : Dev) : Int := (d.fld A.TIME_CFG 15 0 : Int) * q40

/-- The rate the servo's answer gives under its limits (R421): 1 ppm a frame, 200 ppm in all. -/
def rateLimited (r want : Int) : Int := clampI (-rateMax) rateMax (clampI (r - ratePpm) (r + ratePpm) want)

/-- The servo at an error e (R421); while the rate is held after a path change it asks for none. -/
def Dev.servo (d : Dev) (e : Int) : Dev :=
  if 0 < d.time.holdFrames then d
  else
    let sum := d.time.integral + e
    d.modTime (fun t => { t with integral := sum, rateNext := some (rateLimited t.rate (Config.servo e sum t.rate)) })

/-- A rate takes effect at a frame tick, fabric time being continuous (R417). -/
def Dev.rateTick (d : Dev) : Dev :=
  match d.time.rateNext with
  | none => d
  | some r => d.modTime (fun t => { t with offset := t.offset + 2 * t.cnt * (t.rate - r), rate := r, rateNext := none })

/-- Re-acquisition after 8 valid markers in a row (R422). -/
def Dev.reacquire (d : Dev) : Dev :=
  let t := d.time
  match t.stepWait with
  | none => d
  | some e =>
    if (t.state ≠ 0 ∧ t.state ≠ 3) ∨ t.goodMarkers < 8 then d
    else if t.state = 3 ∧ (e.natAbs : Int) ≤ d.stepThr then
      ((d.modTime (fun t => { t with stepWait := none, largeErr := 0 })).modMot (fun q => { q with syncHold := false, syncAxes := 0 })).timeTo 1
    else d.timeTo 4

/-- The error of a marker (R419, R421), 2⁻⁴⁰ ns: its stamp is referred to the ball by 38.4 ns. -/
def Dev.markerErr (d : Dev) (m : MarkerIn) : Int :=
  let own := (d.time.offset * 256 + m.stamp * (q40 + d.time.rate)) / 256 - 384 * q40 / 10
  let din : Int := if d.rb A.FAB_STATUS 11 then d.fld (A.FAB_LINK_DELAY m.port) 19 0 else d.ring.monitorDelay + 256
  (leAt m.bytes 4 8 : Int) * q40 + ((leAt m.bytes 24 4 : Int) + din) * 2 ^ 32 - own

/-- What a valid marker's error does to fabric time in the present state (R420 to R422). -/
def Dev.markerTime (d : Dev) (e : Int) : Dev :=
  let d := d.wr A.TIME_ERR (BitVec.ofNat 32 (ofSigned 32 (clampI (-(2 ^ 31)) (2 ^ 31 - 1) (e / 2 ^ 36))))
  let large := decide (1000 * q40 < (e.natAbs : Int))
  let d := d.modTime (fun t => { t with missing := 0, markerSeen := true, goodMarkers := t.goodMarkers + 1 })
  if d.time.state = 2 then (d.timeTo 1).servo e
  else if d.time.state = 1 then (d.modTime (fun t => { t with largeErr := if large then t.largeErr + 1 else 0 })).servo e
  else (d.modTime (fun t => { t with stepWait := some e })).reacquire

/-- The flags and epochs a marker carries (R397, R402, R403, R407, R409, R422). -/
def Dev.markerFlags (d : Dev) (m : MarkerIn) : Dev :=
  let b := m.bytes
  let root := byteAt b 2
  let d := if d.fld A.FAB_STATUS 17 12 ≠ root then (d.setFld A.FAB_STATUS 17 12 root).raise Ev.fabRootChange root else d
  let topo := leAt b 12 2
  let d := if topo ≠ d.ring.epoch then
      (d.modRing (fun r => { r with epoch := topo })).modTime (fun t => { t with holdFrames := 8 })
    else d
  let d := d.modRing (fun r => { r with slotEpoch := leAt b 14 2 })
  let d := if nbit 1 (byteAt b 3) then
      (if d.ring.stepSeen then d
       else (d.modRing (fun r => { r with stepSeen := true })).modTime (fun t => { t with rootStep := some (leAt b 4 8, toSigned 64 (leAt b 16 8) * 2 ^ 24) }))
    else d.modRing (fun r => { r with stepSeen := false })
  d.wb A.FAB_STATUS 10 false

/-- What arrives at port `p` turns back, since the other end is down and wraps (R407). -/
def Dev.turns (d : Dev) (p : Nat) : Bool := (d.link (1 - p)).wrapped

/-- The marker as the device sends it on: the delays it adds, and a new CRC (R397); a turn puts the frame on its wrapped leg or takes it back
to its own ring (R407; notes/assumptions/170.md). -/
def Dev.markerOn (d : Dev) (m : MarkerIn) : List Byte :=
  let corr := leAt m.bytes 24 4 + d.fld (A.FAB_LINK_DELAY m.port) 19 0 + m.residence
  let ring := byteAt m.bytes 1
  let b := putAt m.bytes 24 (leBytes 4 corr)
  let b := if d.turns m.port then putAt b 1 (leBytes 1 (if nbit 1 ring then ring - 2 else ring + 2)) else b
  putAt b 28 (leBytes 4 (crc32c (bytesAt b 1 27)))

/-- A frame that arrives at port `p` goes on: by the other port, or back where that end wraps (R407). -/
def Dev.passOn (d : Dev) (m : MarkerIn) (ok : Bool) : Dev :=
  d.emit (.packet (if d.turns m.port then m.port else 1 - m.port) 0 0xFF (if ok then d.markerOn m else m.bytes))

/-- A start marker is received (R397, R421): one that is invalid is passed on and not used; the first valid one of a frame is used
for time.  The root absorbs a frame, but on its wrapped leg lets it pass (R407). -/
def Dev.startMarker (d : Dev) (m : MarkerIn) : Dev :=
  let ok := !m.codeErr && leAt m.bytes 28 4 == (crc32c (bytesAt m.bytes 1 27))
  if !d.running then d
  else if d.isRoot then (if d.rb A.FAB_STATUS 9 && nbit 1 (byteAt m.bytes 1) then d.passOn m ok else d)
  else
    let d := d.advanceTo (min (m.stamp / 512) (d.time.edge ((d.sys.tick + 1) * d.loopPeriod)))
    let d := if ok && !d.time.markerSeen then (d.markerFlags m).markerTime (d.markerErr m) else d
    let d := if d.rb A.FAB_STATUS 11 then d.passOn m ok else d
    if ok && nbit 0 (byteAt m.bytes 3) && !nbit 0 (byteAt m.bytes 1) && d.ring.ready && !d.rb A.FAB_STATUS 11 && d.ring.insertAt.isNone then
      if d.ring.joinSkip = 0 then
        let d := d.modRing (fun r => { r with joinSent := true })
        d.sendOut 0x12 0xFF (d.uid ++ List.replicate 28 0)
      else d.modRing (fun r => { r with joinSkip := r.joinSkip - 1 })
    else d

/-- START_MARKER (R421). -/
def execStartMarker (m : MarkerIn) (s : State) : Host.Outcome State Fault Refusal := s.perform (fun d => d.startMarker m)

/-- MARKER_MISSING (R420): no valid marker arrived in the frame that has ended. -/
def Dev.markerMissing (d : Dev) : Dev :=
  if !d.running || d.isRoot || d.time.markerSeen then d
  else
    let d := d.modTime (fun t => { t with missing := t.missing + 1, goodMarkers := 0 })
    if d.time.state = 1 then d.timeTo 2 else if d.time.state = 4 then (d.modTime (fun t => { t with stepWait := none })).timeTo 3 else d

/-- MARKER_MISSING. -/
def execMarkerMissing (s : State) : Host.Outcome State Fault Refusal := s.perform Dev.markerMissing

/-- TIME_LOST (R420, R422): synchronisation is lost. -/
def Dev.timeLost (d : Dev) : Dev :=
  let t := d.time
  if (t.state = 1 ∨ t.state = 2) ∧ (d.fld A.TIME_CFG 23 16 ≤ t.missing ∧ t.missing ≠ 0 ∨ 4 ≤ t.largeErr) then
    (d.modTime (fun t => { t with goodMarkers := 0, largeErr := 0, stepWait := none, rateNext := none })).timeTo 3
  else d

/-- TIME_LOST. -/
def execTimeLost (s : State) : Host.Outcome State Fault Refusal := s.perform Dev.timeLost

/-- TIME_STEP_WAIT (R422). -/
def execTimeStepWait (s : State) : Host.Outcome State Fault Refusal := s.perform Dev.reacquire

/-- Fabric time steps by `delta` (R422) and the tick grid moves (01 R46): a forward step that crosses boundaries leaves one tick to
fire at once.  Where it crosses a frame boundary and the latest boundary crossed is a later loop tick, the latest frame tick crossed fires
too, late: the model's choice (notes/assumptions/144.md). -/
def Dev.stepTime (d : Dev) (delta : Int) : Dev :=
  let d := d.modTime (fun t => { t with offset := t.offset + delta })
  let b := d.now / d.loopPeriod
  let f := d.now / d.framePeriod
  let d := d.modSys (fun s => { s with
    tick := if s.tick < b then b - 1 else s.tick
    lastFrame := if s.lastFrame / d.framePeriod < f then (f - 1) * d.framePeriod else s.lastFrame
    stepTick := s.stepTick || decide (0 < delta)
    cutTick := s.cutTick || delta != 0
    resync := (s.resync ++ List.range 8).eraseDups })
  let d := d.modSaf (fun q => { q with insp := q.insp.map (fun i => { i with stepped := true }) })
  let d := (d.canStepped.wb A.TIME_STATUS 5 true).incSat A.TIME_STATUS 15 8
  let d := (d.raise Ev.timeStepDone).wb A.SYS_TICK_STATUS 10 true
  let d := d.raise Ev.timeStep
  match d.fbd.strobe with
  | some x => if x.t ≤ d.now && decide (0 < delta) then d.strobeFire true else d
  | none => d

/-- FABRIC_STEP (R422, R424): the step a re-acquisition waits for, once every axis geared across devices stands; or the step of
the root's markers. -/
def Dev.fabricStep (d : Dev) : Dev :=
  match d.time.rootStep, d.time.stepWait with
  | some x, _ => (d.modTime (fun t => { t with rootStep := none })).stepTime x.2
  | none, some e =>
    if d.time.state = 4 && d.syncStands then
      let d := (d.modTime (fun t => { t with stepWait := none, goodMarkers := 0, integral := 0 })).stepTime e
      (d.modMot (fun q => { q with syncHold := false, syncAxes := 0 })).timeTo 1
    else d
  | none, none => d

/-- FABRIC_STEP. -/
def execFabricStep (s : State) : Host.Outcome State Fault Refusal := s.perform Dev.fabricStep

/-- PEER_DELAY (R419): an exchange of link `p`, its four times in 2⁻⁸ ns; the delay is the mean of the last 16. -/
def Dev.peerDelay (d : Dev) (p t1 t2 t3 t4 : Nat) : Dev :=
  let x : Int := ((t4 : Int) - t1 - ((t3 : Int) - t2)) / 2
  let l := d.link p
  let ds := (x.toNat :: l.delays).take 16
  (d.setLink p { l with delays := ds }).setFld (A.FAB_LINK_DELAY p) 19 0 (ds.foldl (· + ·) 0 / ds.length)

/-- PEER_DELAY. -/
def execPeerDelay (p t1 t2 t3 t4 : Nat) (s : State) : Host.Outcome State Fault Refusal := s.perform (fun d => d.peerDelay p t1 t2 t3 t4)

/-! ### Tick settings (01 R35, R36) -/

/-- New tick settings take effect: the index of the last tick fired is recomputed (the tick that coincides may still be to fire), and
decimators resynchronise.  Where the root goes to 16 kHz while loop_mult is 0b11 here, the settings take effect and loop_mult is kept: the
model's choice (notes/assumptions/143.md). -/
def Dev.tickApply (d : Dev) (ft mult : Nat) : Dev :=
  let d := if d.sys.ftSel = ft then d else d.modHost (fun q => { q with tokens := [] })
  let unfired := b2n (decide (d.sys.tick < d.now / d.loopPeriod))
  let d := d.modSys (fun s => { s with ftSel := ft, mult })
  let d := d.modSys (fun s => { s with tick := d.now / d.loopPeriod - unfired, resync := (s.resync ++ List.range 8).eraseDups })
  let d := (((d.setFld A.SYS_TICK_STATUS 1 0 ft).setFld A.SYS_TICK_STATUS 5 4 mult).wb A.SYS_TICK_STATUS 8 (d.sys.pending.isSome || d.sys.rootPending.isSome))
  let d := d.setFld A.SYS_TICK_CFG 1 0 (match d.sys.rootPending with | some x => x.1 | none => ft)
  let d := d.ocuStop 2
  d.raise Ev.tickCfgApplied

/-- The pending changes that are due at a frame tick of time `t` take effect (R35): at a multiple of 1,000,000 ns at or past their time, so
that a change whose time a step has passed over waits for the next such tick (notes/assumptions/143.md). -/
def Dev.tickChanges (d : Dev) (t : Nat) : Dev :=
  let ready (at_ : Nat) : Bool := decide (at_ ≤ t) && t % 1000000 == 0
  let d := match d.sys.pending with
    | some p => if ready p.at_ then (d.modSys (fun s => { s with pending := none })).tickApply p.ftSel p.mult else d
    | none => d
  match d.sys.rootPending with
  | some p => if ready p.2 then (d.modSys (fun s => { s with rootPending := none })).tickApply p.1 d.sys.mult else d
  | none => d

/-- On another node than the root, the root has accepted a change of ft_sel at fabric time `t` (01 R34, R35): the field reads it from then on,
and it is pending here as there. -/
def Dev.rootTickCfg (d : Dev) (ft t : Nat) : Dev :=
  if d.isRoot ∨ 2 < ft ∨ ft = d.fld A.SYS_TICK_CFG 1 0 then d
  else
    let at_ := ceilDiv (t + 8 * d.framePeriod) 1000000 * 1000000
    ((d.setFld A.SYS_TICK_CFG 1 0 ft).wb A.SYS_TICK_STATUS 8 true).modSys (fun s => { s with rootPending := some (ft, at_) })

/-- TICK_CFG_APPLIED (R35): the earliest pending change of this device; on another node than the root that learns only now of a change of
the root, that one. -/
def Dev.tickCfgApplied (d : Dev) (root : Option Nat) : Dev :=
  let times := (match d.sys.pending with | some p => [p.at_] | none => []) ++ (match d.sys.rootPending with | some p => [p.2] | none => [])
  match times.min?, root with
  | some t, _ =>
    let d := d.advanceTo (d.time.edge t)
    (if d.sys.tick * d.loopPeriod < t then d.closeTick else d).tickChanges t
  | none, some ft => if d.isRoot || decide (2 < ft) then d else d.tickApply ft d.sys.mult
  | none, none => d

/-- TICK_CFG_APPLIED. -/
def execTickCfgApplied (root : Option Nat) (s : State) : Host.Outcome State Fault Refusal := s.perform (fun d => d.tickCfgApplied root)

/-! ### PTP (R424, R425) -/

/-- The PTP instance of Ethernet port `p`. -/
def Dev.ptpOf (d : Dev) (p : Nat) : PtpSt := AList.get {} d.ring.ptp p

/-- Set it; PTP_STATE when its role changes (R429). -/
def Dev.setPtp (d : Dev) (p : Nat) (x : PtpSt) : Dev :=
  let was := (d.ptpOf p).role
  let d := d.modRing (fun r => { r with ptp := AList.put r.ptp p x })
  let d := d.setFld A.TIME_PTP_STATUS (2 * p + 1) (2 * p) x.role
  if was = x.role then d else d.raise Ev.ptpState p

/-- TIME_PTP_STATUS.locked changes. -/
def Dev.ptpLocked (d : Dev) (on : Bool) : Dev :=
  if d.rb A.TIME_PTP_STATUS 4 = on then d else (d.wb A.TIME_PTP_STATUS 4 on).raise Ev.ptpState

/-- Every node of the root's map reports CONFIGURE, this device included. -/
def Dev.allConfigure (d : Dev) : Bool :=
  d.sys.mode == .configure && d.ring.nodes.all (fun x => x.1 == d.node || x.2.state != 1 || x.2.mode == Mode.configure.code)

/-- The offset of the slave instance is known (R424): the root's time follows it by rate, or by a step of the whole fabric. -/
def Dev.ptpOffset (d : Dev) (p : Nat) (off : Int) : Dev :=
  let d := d.setFld A.TIME_PTP_STATUS 31 16 (ofSigned 16 (clampI (-32768) 32767 off))
  let d := d.ptpLocked (decide ((off.natAbs : Int) * q40 ≤ d.stepThr))
  if !d.isRoot || d.time.source ≠ p + 1 then d
  else if d.stepThr < (off.natAbs : Int) * q40 && d.allConfigure then
    if 0 < d.ring.stepLeft then d
    else (d.modRing (fun r => { r with stepLeft := 8, step := -off * 65536 })).modTime (fun t => { t with rootStep := some (d.nextFrame, -off * q40) })
  else d.servo (-off * q40)

/-- A message of PTP instance `p` (R425). -/
def Dev.ptpMessage (d : Dev) (p : Nat) (m : PtpIn) : Dev :=
  let x := d.ptpOf p
  match m with
  | .announce rank =>
    if x.cfgRole = 2 ∧ (x.best.isNone ∨ rank ≤ x.best.getD 0) then d.setPtp p { x with best := some rank, role := 2 } else d
  | .sync origin stamp =>
    if x.role ≠ 2 then d
    else d.setPtp p { x with t2 := some (stamp - x.rxDelay), t1 := origin, t3 := none }
  | .followUp origin => if x.role ≠ 2 then d else d.setPtp p { x with t1 := some origin }
  | .delayReqSent stamp => if x.role ≠ 2 then d else d.setPtp p { x with t3 := some (stamp + x.txDelay) }
  | .delayResp t4 =>
    match x.t1, x.t2, x.t3 with
    | some t1, some t2, some t3 =>
      if x.role ≠ 2 then d else (d.setPtp p { x with t1 := none, t2 := none, t3 := none }).ptpOffset p (((t2 - t1) - (t4 - t3)) / 2)
    | _, _, _ => d
  | .delayReq stamp who =>
    if x.role ≠ 1 then d else d.emit (.eth p (leBytes 8 (ofSigned 64 (stamp - x.rxDelay)) ++ who))

/-- PTP_MESSAGE (R425). -/
def execPtpMessage (p : Nat) (m : PtpIn) (s : State) : Host.Outcome State Fault Refusal := s.perform (fun d => d.ptpMessage p m)

/-- PTP_SOURCE_LOSS (R424): the root holds r; the instance listens again. -/
def execPtpSourceLoss (p : Nat) (s : State) : Host.Outcome State Fault Refusal :=
  s.perform (fun d =>
    let x := d.ptpOf p
    if x.role ≠ 2 then d
    else
      let d := (d.setPtp p { x with role := 3, best := none, t1 := none, t2 := none, t3 := none }).ptpLocked false
      d.modTime (fun t => { t with rateNext := none }))

/-- ARP_REQUEST (R425): the device answers for its own address. -/
def execArpRequest (p target : Nat) (sender : List Byte) (s : State) : Host.Outcome State Fault Refusal :=
  s.perform (fun d =>
    if target = (d.rd (A.HOST_ETH_IP p)).toNat ∧ target ≠ 0 then
      d.emit (.eth p (beBytes 2 1 ++ beBytes 2 0x0800 ++ [6, 4] ++ beBytes 2 2 ++ (List.range 6).map (Config.mac p) ++ leBytes 4 target ++ bytesAt sender 0 10))
    else d)

/-! ### Commands (R428) -/

/-- TIME_QUERY. -/
def Dev.timeQuery (d : Dev) (h : Hdr) : Dev :=
  if h.mask ≠ 0 then d.doneNow h Code.badField
  else d.doneNow h Code.done [(16, 8, d.now), (24, 4, d.timeStatusWord.toNat), (28, 4, (d.rd A.TIME_ERR).toNat)]

/-- TIME_QUERY (R428). -/
def execTimeQuery (h : Hdr) (s : State) : Host.Outcome State Fault Refusal := s.perform (fun d => d.command 0x0901 h (fun d => d.timeQuery h))

/-- TIME_SRC at its frame tick: only on the acting root, to an instance configured as slave. -/
def Dev.timeSrc (d : Dev) (h : Hdr) (src : Nat) : Dev :=
  if h.mask ≠ 0 ∨ 2 < src ∨ !d.isRoot then d.doneAt h Code.badField
  else if src ≠ 0 && (d.ptpOf (src - 1)).cfgRole != 2 then d.doneAt h Code.wrongMode [(16, 1, d.time.source)]
  else (d.modTime (fun t => { t with source := src })).doneAt h Code.done [(16, 1, src)]

/-- TIME_SRC (R424). -/
def execTimeSrc (h : Hdr) (src : Nat) (s : State) : Host.Outcome State Fault Refusal := s.perform (fun d => d.command 0x0902 h (fun d => d.timeSrc h src))

/-- TIME_PTP_CFG at its frame tick. -/
def Dev.timePtpCfg (d : Dev) (h : Hdr) (b : List Byte) : Dev :=
  let p := byteAt b 16
  let role := byteAt b 17
  let flags := byteAt b 19
  let ip := d.rd (A.HOST_ETH_IP p)
  if h.mask ≠ 0 ∨ 1 < p ∨ 2 < role ∨ 127 < byteAt b 18 ∨ 3 < flags then d.doneAt h Code.badField
  else if (role = 2 ∧ !d.isRoot) ∨ (role ≠ 0 ∧ !nbit 1 flags ∧ ip = 0) then d.doneAt h Code.wrongMode [(16, 4, (d.rd A.TIME_PTP_STATUS).toNat)]
  else
    let x : PtpSt := { cfgRole := role, role := if role = 2 then 3 else role, domain := byteAt b 18, flags, rxDelay := leAt b 20 4, txDelay := leAt b 24 4, prio1 := byteAt b 28, prio2 := byteAt b 29, configured := true }
    let d := d.setPtp p x
    let d := if role ≠ 2 ∧ d.time.source = p + 1 then d.modTime (fun t => { t with source := 0 }) else d
    d.doneAt h Code.done [(16, 4, (d.rd A.TIME_PTP_STATUS).toNat)]

/-- TIME_PTP_CFG (R428). -/
def execTimePtpCfg (h : Hdr) (b : List Byte) (s : State) : Host.Outcome State Fault Refusal :=
  s.perform (fun d => d.command 0x0903 h (fun d => d.timePtpCfg h b))

end Sys2Proof.Machine
end

