-- ==== Sys2Proof/Machine/Ring.lean ====
section
/-!
DEFINITION. The Spire ring (14_spire_ring_time.md R394 to R416, R428, R429): links, the root's map, discovery, insertion and removal,
roles, cyclic slots, and the fabric commands.
-/

namespace Sys2Proof.Machine

/-! ### Packets and links (R400, R404, R406) -/

/-- Link `p` is down. -/
def Dev.linkDown (d : Dev) (p : Nat) : Bool := (d.link p).state == 0

/-- No link carries traffic, and none will within the wait of R406. -/
def Dev.noPath (d : Dev) : Bool := d.linkDown 0 && d.linkDown 1

/-- Send a packet to a node; a command with no path completes. -/
def Dev.sendPkt (d : Dev) (kind node : Nat) (bytes : List Byte) (cmd : Option Hdr := none) (reserved : Bool := false) : Dev :=
  if d.rb A.FAB_STATUS 11 && d.noPath then d.doneWait cmd Code.linkNotReady else d.sendOut kind node bytes cmd reserved

/-- FAB_LINK_STATUS of link `p`. -/
def Dev.linkWord (d : Dev) (p : Nat) : Word :=
  let l := d.link p
  let q := if l.queue.isEmpty then 0 else min 16 ((d.time.at40 d.time.cnt - d.time.at40 l.since) / (q40 * d.framePeriod)).toNat
  setField 2 0 l.state (setBit 3 l.wrapped (setBit 4 l.los (setField 15 8 q (d.rd (A.FAB_LINK_STATUS p)))))

/-- A link enters a state; FAB_LINK (R429). -/
def Dev.linkTo (d : Dev) (p k : Nat) : Dev :=
  if (d.link p).state = k then d
  else (d.setLink p { d.link p with state := k, since := d.time.cnt }).raise Ev.fabLink p

/-- A fabric-window access fails (12 R336, R359): the first is recorded. -/
def Dev.fabErr (d : Dev) (node off : Nat) (write : Bool) (status : Nat) : Dev :=
  let d := if d.rb A.HOST_FAB_ERR 31 then d
    else (d.wr A.HOST_FAB_ERR (BitVec.ofNat 32 (node % 64 * 2 ^ 24 + off % 2 ^ 24 + 2 ^ 30 * b2n write + 2 ^ 31))).wr A.HOST_FAB_ERR_INFO
      (BitVec.ofNat 32 (2 ^ 16 * status))
  d.raise Ev.hostFabErr

/-- A read of a node that awaits its answer is given up: it reads all ones. -/
def Dev.readGone (d : Dev) (node off status : Nat) : Dev :=
  if !d.host.reads.any (fun x => x.1 == node && x.2.1 == off) then d
  else
    let d := d.modHost (fun q => { q with reads := q.reads.eraseP (fun x => x.1 == node && x.2.1 == off) })
    (d.fabErr node off false status).emit (.read Req.manager (node * 2 ^ 24 + off) 0xFFFFFFFF)

/-- What waits at a link that goes down fails with LINK_NOT_READY: a command, or an access of the fabric window. -/
def Dev.queueGone (d : Dev) (q : QueuedPkt) : Dev :=
  if q.kind = 4 then d.readGone q.node (leAt q.bytes 0 4) Code.linkNotReady
  else if q.kind = 6 then d.fabErr q.node (leAt q.bytes 0 4) true Code.linkNotReady
  else d.doneWait q.cmd Code.linkNotReady

/-- A link goes down (R406, R407): what waits at it fails, and this end wraps. -/
def Dev.linkFail (d : Dev) (p : Nat) : Dev :=
  let l := d.link p
  let d := (d.setLink p { l with queue := [], wrapped := d.rb A.FAB_STATUS 11 }).linkTo p 0
  let d := l.queue.foldl Dev.queueGone d
  if d.isRoot && d.rb A.FAB_STATUS 11 && !d.rb A.FAB_STATUS 9 then
    ((d.wb A.FAB_STATUS 9 true).modRing (fun r => { r with epochNext := true, discovering := true })).raise Ev.fabWrap
  else d

/-- LINK_LOSS_OF_SIGNAL (R406). -/
def execLinkLossOfSignal (p : Nat) (s : State) : Host.Outcome State Fault Refusal :=
  s.perform (fun d =>
    let d := d.setLink p { d.link p with los := true }
    if d.linkDown p then d else d.linkFail p)

/-- LINK_SIGNAL_DETECTED (R406): a down link trains. -/
def execLinkSignalDetected (p : Nat) (s : State) : Host.Outcome State Fault Refusal :=
  s.perform (fun d =>
    let d := d.setLink p { d.link p with los := false }
    if d.linkDown p then d.linkTo p 1 else d)

/-- LINK_LOCK (R406): the CDR is locked; while the bypass is closed the link listens in monitor, otherwise calibration runs. -/
def execLinkLock (p : Nat) (s : State) : Host.Outcome State Fault Refusal :=
  s.perform (fun d => if (d.link p).state = 1 then d.linkTo p (if d.rb A.FAB_STATUS 11 then 3 else 2) else d)

/-- A link carries traffic: its queue is sent in order, its wrap ends. -/
def Dev.linkUp (d : Dev) (p : Nat) : Dev :=
  let l := d.link p
  if l.state ≠ 3 ∧ l.state ≠ 5 then d
  else
    let d := (d.setLink p { l with queue := [], wrapped := false }).linkTo p 4
    let d := l.queue.foldl (fun (d : Dev) q => d.sendOut q.kind q.node q.bytes q.cmd q.reserved) d
    if d.isRoot && d.rb A.FAB_STATUS 9 && !(d.link 0).wrapped && !(d.link 1).wrapped then
      (d.wb A.FAB_STATUS 9 false).modRing (fun r => { r with epochNext := true, discovering := true }) |>.raise Ev.fabUnwrap
    else d

/-- LINK_UP (R406). -/
def execLinkUp (p : Nat) (s : State) : Host.Outcome State Fault Refusal := s.perform (fun d => d.linkUp p)

/-- LINK_RECALIBRATE (R406): 16 code errors in one frame while up. -/
def execLinkRecalibrate (p : Nat) (s : State) : Host.Outcome State Fault Refusal :=
  s.perform (fun d =>
    if (d.link p).state = 4 then (d.setFld (A.FAB_LINK_STATUS p) 31 16 (sat 0xFFFF (d.fld (A.FAB_LINK_STATUS p) 31 16 + 16))).linkTo p 5 else d)

/-- LINK_LOCK_TIMEOUT (R406): 16 frame periods without reaching up. -/
def execLinkLockTimeout (p : Nat) (s : State) : Host.Outcome State Fault Refusal :=
  s.perform (fun d =>
    let l := d.link p
    if l.state = 1 ∨ l.state = 3 ∨ l.state = 5 then (d.advanceTo (l.since + 16 * d.framePeriod / 2)).linkFail p else d)

/-! ### The root's map (R402, R405) -/

/-- FAB_NODE of a node, on the root and the standby root. -/
def Dev.fabNodeWord (d : Dev) (id : Nat) : Word :=
  if d.isRoot || d.rb A.FAB_STATUS 8 then
    let x := d.nodeSt id
    BitVec.ofNat 32 (x.state + 8 * b2n x.vigil + 16 * x.pos)
  else 0

/-- FAB_NODE_UID of a node. -/
def Dev.uidWord (d : Dev) (id w : Nat) : Word :=
  if d.isRoot || d.rb A.FAB_STATUS 8 then BitVec.ofNat 32 (leAt (d.nodeSt id).uid (4 * w) 4) else 0

/-- FAB_STATUS.nodes follows the map. -/
def Dev.countNodes (d : Dev) : Dev := if d.isRoot then d.setFld A.FAB_STATUS 24 18 d.activeCount else d

/-- The ID of a UID in the map. -/
def Dev.idOf (d : Dev) (uid : List Byte) : Option Nat := (d.ring.nodes.find? (fun x => x.2.uid == uid)).map (·.1)

/-- The lowest ID without a map entry. -/
def Dev.freeId (d : Dev) : Nat := ((List.range 64).find? (fun i => (d.nodeSt i).uid.isEmpty)).getD 63

/-- The longest run of bypassed or lost nodes in ring-A order (R395). -/
def bypassRun (states : List Nat) : Nat :=
  (states.foldl (fun (acc : Nat × Nat) k => let r := if k = 2 ∨ k = 3 then acc.1 + 1 else 0; (r, max acc.2 r)) (0, 0)).2

/-- The bypass of `id` keeps every run within the limit. -/
def Dev.bypassOk (d : Dev) (id : Nat) : Bool :=
  let order := (List.range 64).flatMap (fun p => (d.ring.nodes.filter (fun x => x.2.pos == p && x.2.state != 0)).map (fun x => if x.1 == id then 2 else x.2.state))
  decide (bypassRun (order ++ order) ≤ d.fld A.FAB_CFG 1 0)

/-- The discovery's packet has returned with the ring's order (R402): IDs are assigned and announced with a new epoch. -/
def Dev.assignAll (d : Dev) (found : List (List Byte × Nat)) : Dev :=
  let d := if d.ring.renumber then d.modRing (fun r => { r with nodes := [], renumber := false }) else d
  let all := (d.uid, 0) :: found.filter (fun x => x.1 != d.uid)
  let d := (all.zipIdx).foldl (fun (d : Dev) (x, pos) =>
    let id := match d.idOf x.1 with | some i => i | none => d.freeId
    let n := d.nodeSt id
    let d := d.setNode id { n with uid := x.1, pos, state := 1, links := x.2, vigil := false }
    if pos = 0 then (d.setFld A.FAB_STATUS 5 0 id).wb A.FAB_STATUS 6 true else d.sendPkt 0x11 id (leBytes 1 id ++ x.1)) d
  let d := d.modRing (fun r => { r with discovering := false, epochNext := true })
  let d := (d.setFld A.FAB_STATUS 17 12 d.node).countNodes
  match d.ring.discoverCmd with
  | some h =>
    (d.modRing (fun r => { r with discoverCmd := none })).doneNow h Code.done [(16, 1, d.activeCount), (17, 1, d.ring.epoch + 1)]
  | none => d

/-- The UIDs and link states in a discover packet, 17 bytes a device (notes/assumptions/27.md). -/
def discovered (b : List Byte) : List (List Byte × Nat) :=
  (List.range (b.length / 17)).map (fun i => (bytesAt b (17 * i) 16, byteAt b (17 * i + 16)))

/-- DISCOVER (R402): the root takes the packet that returns; another device appends its own UID and link states. -/
def execDiscover (b : List Byte) (s : State) : Host.Outcome State Fault Refusal :=
  s.perform (fun d =>
    if d.isRoot then (if d.ring.discovering then d.assignAll (discovered b) else d)
    else if d.running then d.sendOut 0x10 0xFF (b ++ d.uid ++ leBytes 1 ((d.link 0).state + 8 * (d.link 1).state))
    else d)

/-- ASSIGN (R402). -/
def execAssign (id : Nat) (uid : List Byte) (s : State) : Host.Outcome State Fault Refusal :=
  s.perform (fun d => if !d.isRoot && d.running && uid == d.uid then (d.setFld A.FAB_STATUS 5 0 id).wb A.FAB_STATUS 6 true else d)

/-- MAP_MIRROR (R402, R404, R419): the standby's copy of the map, the order by which every device counts hops, and the neighbour's delay for
a device in monitor. -/
def execMapMirror (m : List MirrorEnt) (delay : Nat) (s : State) : Host.Outcome State Fault Refusal :=
  s.perform (fun d =>
    if d.isRoot then d
    else
      let active := m.filter (fun e => e.state == 1)
      let order := (List.range 64).flatMap (fun p => (active.filter (fun e => e.pos == p)).map (·.id))
      let d := d.modRing (fun r => { r with monitorDelay := delay, order })
      if d.rb A.FAB_STATUS 8 then
        m.foldl (fun (d : Dev) e => d.setNode e.id { d.nodeSt e.id with uid := e.uid, state := e.state, pos := e.pos }) d
      else d)

/-- STATUS_SLOT (R398, R405): a node's status slot, as the root reads it. -/
def Dev.statusSlot (d : Dev) (node : Nat) (b : List Byte) : Dev :=
  let x := d.nodeSt node
  if leAt b 12 4 ≠ (crc32c (bytesAt b 0 12)) then d
  else d.setNode node { x with seen := true, missed := 0, mode := byteAt b 1, links := byteAt b 2, state := if x.state = 3 then 1 else x.state }

/-- STATUS_SLOT. -/
def execStatusSlot (node : Nat) (b : List Byte) (s : State) : Host.Outcome State Fault Refusal := s.perform (fun d => d.statusSlot node b)

/-- The commands in flight to a node complete with NODE_LOST (R354, R413). -/
def Dev.nodeGone (d : Dev) (node : Nat) : Dev :=
  let gone := d.host.forwarded.filter (fun f => f.h.node == node)
  let d := d.modHost (fun q => { q with forwarded := q.forwarded.filter (fun f => f.h.node != node) })
  let d := gone.foldl (fun (d : Dev) f => d.doneNow f.h Code.nodeLost) d
  (d.host.reads.filter (fun x => x.1 == node)).foldl (fun (d : Dev) x => d.readGone node x.2.1 Code.nodeLost) d

/-- NODE_LOST_DETECT (R405, R413): a status slot missed on both rings in 3 frames in a row. -/
def Dev.nodeLost (d : Dev) (node : Nat) : Dev :=
  let x := d.nodeSt node
  if !d.isRoot || x.state != 1 || decide (x.missed < 3) || node == d.node then d
  else
    let d := (d.setNode node { x with state := 3 }).countNodes
    let d := (d.modRing (fun r => { r with discovering := true })).raise Ev.fabNodeLost node
    d.nodeGone node

/-- NODE_LOST_DETECT. -/
def execNodeLostDetect (node : Nat) (s : State) : Host.Outcome State Fault Refusal := s.perform (fun d => d.nodeLost node)

/-- CYCLIC_SLOT (R398): the first valid copy of a slot in a frame. -/
def Dev.cyclicSlot (d : Dev) (c : SlotIn) : Dev :=
  match c with
  | .publication node b =>
    let key := (1, node, byteAt b 25, b2n (nbit 0 (byteAt b 24)))
    if leAt b 28 4 ≠ (crc32c (bytesAt b 0 28)) ∨ d.ring.slotSeen.contains key then d
    else (d.modRing (fun r => { r with slotSeen := key :: r.slotSeen })).masterRecord node b
  | .share toHome node g i n b =>
    let key := (if toHome then 2 else 3, node, 8 * g + i, n)
    if leAt b 16 4 ≠ (crc32c (bytesAt b 0 16)) ∨ d.ring.slotSeen.contains key then d
    else (d.modRing (fun r => { r with slotSeen := key :: r.slotSeen })).lsRecord toHome node g i n b

/-- CYCLIC_SLOT. -/
def execCyclicSlot (c : SlotIn) (s : State) : Host.Outcome State Fault Refusal := s.perform (fun d => if d.running then d.cyclicSlot c else d)

/-! ### Joining and leaving (R408 to R412) -/

/-- The frame that answers a join request, ns. -/
def Dev.answerFrame (d : Dev) : Nat := d.nextFrame

/-- The root orders the insertion of a joining node. -/
def Dev.orderInsert (d : Dev) (id : Nat) (cmd : Option Hdr) : Dev :=
  let x := d.nodeSt id
  let fi := d.answerFrame + 4 * d.framePeriod
  (d.setNode id { x with insertAt := some fi, cmd }).sendOut 0x13 id (leBytes 1 id ++ leBytes 8 fi ++ x.uid)

/-- JOIN_REQUEST (R409, R410): the joiner's place follows from the devices its request passed. -/
def Dev.joinRequest (d : Dev) (uid : List Byte) (hops : Nat) : Dev :=
  if !d.isRoot then d
  else
    let id := match d.idOf uid with | some i => i | none => d.freeId
    let x := d.nodeSt id
    if x.removed == some d.sys.lastFrame || x.state == 1 then d
    else
      let d := d.setNode id { x with uid, state := 4, pos := d.activeCount - hops, vigil := false, insertAt := none }
      if d.rb A.FAB_CFG 2 then d.orderInsert id none else d

/-- JOIN_REQUEST. -/
def execJoinRequest (uid : List Byte) (hops : Nat) (s : State) : Host.Outcome State Fault Refusal := s.perform (fun d => d.joinRequest uid hops)

/-- JOIN_RETRY (R409): no answer came; a random 1 to 8 polls pass first. -/
def execJoinRetry (s : State) : Host.Outcome State Fault Refusal :=
  s.perform (fun d =>
    if d.ring.joinSent && d.ring.insertAt.isNone then
      let x := d.fresh
      x.2.modRing (fun r => { r with joinSent := false, joinSkip := 1 + x.1 % 8 })
    else d)

/-- INSERT_ORDER (R410). -/
def execInsertOrder (id fi : Nat) (s : State) : Host.Outcome State Fault Refusal :=
  s.perform (fun d =>
    if d.ring.ready && !d.rb A.FAB_STATUS 11 then
      ((d.modRing (fun r => { r with insertAt := some fi, joinSent := false })).setFld A.FAB_STATUS 5 0 id).wb A.FAB_STATUS 6 true
    else d)

/-- The bypass switches open and the device is in the path: its links calibrate (R394, R406, R410). -/
def Dev.insert (d : Dev) : Dev :=
  let d := (d.modRing (fun r => { r with insertAt := none, ready := false, joinSent := false })).wb A.FAB_STATUS 11 true
  let d := d.modTime (fun t => { t with holdFrames := 8 })
  d.each [0, 1] (fun d p => if (d.link p).state = 2 then d.linkTo p 3 else d)

/-- INSERTION (R410): frame F_i; with a link down at the insertion point it is abandoned. -/
def execInsertion (s : State) : Host.Outcome State Fault Refusal :=
  s.perform (fun d =>
    match d.ring.insertAt with
    | none => d
    | some fi =>
      if (d.link 0).state ≠ 2 ∨ (d.link 1).state ≠ 2 then d.modRing (fun r => { r with insertAt := none })
      else (d.advanceTo (d.time.edge fi)).insert)

/-- The device closes its bypass switches. -/
def Dev.bypass (d : Dev) : Dev :=
  let d := ((d.wb A.FAB_STATUS 11 false).wb A.FAB_STATUS 9 false).wb A.FAB_STATUS 10 false
  d.modRing (fun r => { r with insertAt := none, ready := false, joinSent := false })

/-- BYPASS_REQUEST (R395, R412): `answer` 0 a request that reaches the root, 1 its grant, 2 its refusal. -/
def Dev.bypassRequest (d : Dev) (node answer : Nat) : Dev :=
  if answer = 0 then
    if !d.isRoot then d
    else if d.bypassOk node && node != d.node && d.ring.standby != some node then
      ((d.setNode node { d.nodeSt node with state := 2, vigil := true }).countNodes).sendOut 0x16 node [1]
    else (d.raise Ev.fabBypassRefused node).sendOut 0x16 node [2]
  else if d.wake.asked then d.modWake (fun w => { w with bypassGrant := some (answer == 1) }) else d

/-- BYPASS_REQUEST. -/
def execBypassRequest (node answer : Nat) (s : State) : Host.Outcome State Fault Refusal := s.perform (fun d => d.bypassRequest node answer)

/-! ### Loss of the root and isolation (R413, R414) -/

/-- Isolation (R413): no valid marker for iso_frames; a rank-3 stop of every axis in MOVE, fabric time runs at r = 0. -/
def Dev.isolation (d : Dev) : Dev :=
  if d.isRoot || !d.rb A.FAB_STATUS 11 || d.rb A.FAB_STATUS 10 || decide (d.time.missing < d.fld A.FAB_CFG 15 8) then d
  else
    let d := (d.wb A.FAB_STATUS 10 true).raise Ev.fabIsolated
    let d := d.each d.axisList (fun d n => d.startRamp n d.sys.lastFrame 2)
    let d := d.modTime (fun t => { t with offset := t.offset + 2 * t.cnt * t.rate, rate := 0, rateNext := none, goodMarkers := 0, stepWait := none })
    d.timeTo 0

/-- ISOLATION. -/
def execIsolation (s : State) : Host.Outcome State Fault Refusal := s.perform Dev.isolation

/-- This device becomes the acting root. -/
def Dev.takeRoot (d : Dev) (old : Option Nat) : Dev :=
  let d := match old with | some o => d.setNode o { d.nodeSt o with state := 3 } | none => d
  let d := ((d.wb A.FAB_STATUS 7 true).wb A.FAB_STATUS 8 false).setFld A.FAB_STATUS 17 12 d.node
  let d := (d.modRing (fun r => { r with standby := none, discovering := true, epochNext := true })).countNodes
  (d.timeTo 5).raise Ev.fabRootChange d.node

/-- ROOT_LOSS (R414): the standby saw no marker for 3 frames and takes over. -/
def Dev.rootLoss (d : Dev) : Dev :=
  if d.isRoot || !d.rb A.FAB_STATUS 8 || decide (d.time.missing < 3) then d
  else d.takeRoot (some (d.fld A.FAB_STATUS 17 12))

/-- ROOT_LOSS. -/
def execRootLoss (s : State) : Host.Outcome State Fault Refusal := s.perform Dev.rootLoss

/-! ### Cyclic slots (R399) -/

/-- The cyclic limit of the frame tick in force (R396). -/
def Dev.cyclicLimit (d : Dev) : Nat := if d.sys.ftSel = 0 then 18736 else if d.sys.ftSel = 1 then 9360 else 4672

/-- FAB_SLOT. -/
def Dev.fabSlotWord (d : Dev) : Word :=
  setField 15 0 d.cyclicUsed (setField 23 16 (sat 255 (d.ring.refused.filter (fun e => e.owner == d.node)).length) (d.rd A.FAB_SLOT))

/-- A change of the slot table is used from a frame tick at least 2 frame periods on. -/
def Dev.slotFrom (d : Dev) : Nat := d.sys.lastFrame + 3 * d.framePeriod

/-- The first offset at which `size` bytes fit between the slots held. -/
def slotOffset (slots : List SlotEnt) (base size limit : Nat) : Option Nat :=
  let starts := base :: slots.map (fun e => e.off + e.size)
  (starts.filter (fun o => decide (base ≤ o) && decide (o + size ≤ limit) && slots.all (fun e => decide (o + size ≤ e.off) || decide (e.off + e.size ≤ o)))).foldl
    (fun best o => match best with | none => some o | some b => some (min b o)) none

/-- A request for a slot: on the root by the limit, elsewhere as the root answered. -/
def Dev.slotRequest (d : Dev) (e : SlotEnt) (granted : Bool) : Dev :=
  let fits := decide (d.cyclicUsed + e.size ≤ d.cyclicLimit)
  let off := slotOffset d.ring.slots (16 * d.activeCount) e.size d.cyclicLimit
  let ok := if d.isRoot then fits else granted
  if ok then
    let d := d.modRing (fun r => { r with
      slots := { e with off := off.getD (16 * d.activeCount), from_ := d.slotFrom } :: r.slots.filter (fun x => !(x.owner == e.owner && x.kind == e.kind && x.index == e.index && x.sub == e.sub))
      refused := r.refused.filter (fun x => !(x.owner == e.owner && x.kind == e.kind && x.index == e.index && x.sub == e.sub)) })
    if d.isRoot then d.modRing (fun r => { r with slotNext := some d.slotFrom }) else d
  else
    let d := d.modRing (fun r => { r with refused := e :: r.refused.filter (fun x => !(x.owner == e.owner && x.kind == e.kind && x.index == e.index && x.sub == e.sub)) })
    (d.wb A.FAB_SLOT 24 true).raise Ev.fabSlotRefused

/-- The slots of a kind and index are released. -/
def Dev.slotRelease (d : Dev) (kind index : Nat) : Dev :=
  let drop (l : List SlotEnt) := l.filter (fun x => !(x.owner == d.node && x.kind == kind && x.index == index))
  d.modRing (fun r => { r with slots := drop r.slots, refused := drop r.refused, slotNext := if d.isRoot then some d.slotFrom else r.slotNext })

/-- Publication `i` has its slot. -/
def Dev.pubActive (d : Dev) (i : Nat) : Bool :=
  d.ring.slots.any (fun e => e.owner == d.node && e.kind == 1 && e.index == i && decide (e.from_ ≤ d.sys.lastFrame))

/-- GEAR_PUB_CFG[i] takes a value: en written to 1 requests the slot, to 0 releases it. -/
def Dev.pubWritten (d : Dev) (i : Nat) (was : Word) (granted : Bool) : Dev :=
  let now := d.rd (A.GEAR_PUB_CFG i)
  if bit 7 now && !bit 7 was then (d.modMot (fun q => { q with pubDelta := AList.put q.pubDelta i 0 })).slotRequest { owner := d.node, kind := 1, index := i, size := 32 } granted
  else if !bit 7 now && bit 7 was then d.slotRelease 1 i
  else d

/-- The remote entries of load-share group `g` homed here. -/
def Dev.lsRemotes (d : Dev) (g : Nat) : List Nat :=
  (List.range 8).filter (fun i => let w := d.rd (A.LS_GRP_MEM g i); bit 7 w && field 5 0 w != d.node)

/-- LS_GRP_CFG[g] takes a value: en written to 1 requests a pair of slots for each remote entry. -/
def Dev.lsWritten (d : Dev) (g : Nat) (was : Word) (granted : Nat) : Dev :=
  let now := d.rd (A.LS_GRP_CFG g)
  if bit 0 now && !bit 0 was then
    d.each (d.lsRemotes g) (fun d i => d.slotRequest { owner := d.node, kind := 2, index := g, sub := i, size := 64 } (nbit i granted))
  else if !bit 0 now && bit 0 was then d.slotRelease 2 g
  else d

/-! ### The root's work at a frame tick -/

/-- The insertions whose step 5 is reached (R410). -/
def Dev.insertsDone (d : Dev) : Dev :=
  d.each (d.nodesIn 4) (fun d id =>
    let x := d.nodeSt id
    match x.insertAt with
    | some fi =>
      if fi + 8 * d.framePeriod ≤ d.sys.lastFrame then
        let d := (d.setNode id { x with state := 1, insertAt := none, cmd := none, missed := 0, seen := true }).countNodes
        let d := (d.raise Ev.fabNodeJoined id).modRing (fun r => { r with discovering := true })
        d.partWait x.cmd Code.done [(16, 1, 1), (20, 8, fi)]
      else if fi = d.sys.lastFrame then d.modRing (fun r => { r with epochNext := true })
      else d
    | none => d)

/-- The start markers of frame tick F (R396, R397): ring A leaves by D, ring B by U. -/
def Dev.markers (d : Dev) : Dev :=
  let r := d.ring
  let flags := b2n (r.frames % 8 == 0) + 2 * b2n (decide (0 < r.stepLeft)) + 4 * b2n (decide (0 < r.wakeLeft))
  let x := d.spoil 2 1
  let y := x.2.spoil 2 0
  let d := y.2
  let m (ring : Nat) (bad : Bool) : List Byte :=
    let b := [0x3C] ++ leBytes 1 ring ++ leBytes 1 d.node ++ leBytes 1 flags ++ leBytes 8 d.sys.lastFrame ++ leBytes 2 r.epoch ++ leBytes 2 r.slotEpoch ++
      leBytes 8 (if 0 < r.stepLeft then ofSigned 64 r.step else 0) ++ leBytes 4 0
    b ++ leBytes 4 (if bad then 0xFFFFFFFF - crc32c (b.drop 1) else crc32c (b.drop 1))
  ((d.emit (.packet 1 0 0xFF (m 0 x.1))).emit (.packet 0 0 0xFF (m 1 y.1))).modRing (fun r => { r with
    stepLeft := r.stepLeft - 1, wakeLeft := r.wakeLeft - 1 })

/-- A cyclic slot is written into the frames of both rings (R398): its content, its CRC, and what fills its size; with TEST_RING's wrong CRC
at the ports it selects (16 R472). -/
def Dev.sendSlot (d : Dev) (index : Nat) (b : List Byte) (fill : Nat := 0) : Dev :=
  let x := d.spoil 1 0
  let y := x.2.spoil 1 1
  let out (bad : Bool) : Out :=
    .slot index (b ++ leBytes 4 (if bad then 0xFFFFFFFF - crc32c b else crc32c b) ++ List.replicate fill 0)
  let d := y.2.emit (out x.1)
  if x.1 = y.1 then d else d.emit (out y.1)

/-- The device's own status slot (R398). -/
def Dev.statusOut (d : Dev) : Dev :=
  let b := leBytes 1 d.node ++ leBytes 1 d.sys.mode.code ++ leBytes 1 ((d.link 0).state + 8 * (d.link 1).state) ++ leBytes 1 d.time.state ++
    leBytes 2 d.ring.epoch ++ List.replicate 6 0
  d.sendSlot d.node b

/-- The publications of this device at frame tick F (09 R265). -/
def Dev.publish (d : Dev) : Dev :=
  d.each (List.range 16) (fun d i =>
    let w := d.rd (A.GEAR_PUB_CFG i)
    if !bit 7 w || !d.pubActive i then d
    else
      let n := field 5 0 w
      let r := Dev.localMaster 5 d n d.sys.lastFrame (bit 6 w)
      let p := r.p - AList.get 0 d.mot.pubDelta i
      let b := leBytes 8 d.sys.lastFrame ++ leBytes 8 (ofSigned 64 p) ++ leBytes 4 (f32Of r.v).toNat ++ leBytes 4 (f32Of r.a).toNat ++
        leBytes 1 (b2n (bit 6 w)) ++ leBytes 1 n ++ leBytes 2 0
      d.sendSlot (0x100 + i) b)

/-- The load-share records of frame tick F (09 R272): of the members here whose home is remote, and to the remote entries of the groups
homed here whose slots are held. -/
def Dev.shareSlots (d : Dev) : Dev :=
  let d := d.each d.axisList (fun d n =>
    match (d.mo n).ls with
    | some l =>
      if l.localHome || l.fade.isSome then d
      else d.sendSlot (0x300 + n) (leBytes 8 d.sys.lastFrame ++ leBytes 4 (d.torqueRequest n).toNat ++ leBytes 2 (ofSigned 16 l.weight) ++
        leBytes 1 l.group ++ [0]) 12
    | none => d)
  d.each (List.range 8) (fun d g =>
    if !d.rb (A.LS_GRP_CFG g) 0 then d
    else
      let t := d.lsTotal g
      d.each (d.lsRemotes g) (fun d i =>
        if d.ring.slots.any (fun x => x.owner == d.node && x.kind == 2 && x.index == g && x.sub == i && decide (x.from_ ≤ d.sys.lastFrame)) then
          d.sendSlot (0x200 + 8 * g + i) (leBytes 8 d.sys.lastFrame ++ leBytes 4 (f32Of t.1).toNat ++ leBytes 4 (f32Of (mkRat t.2 4096)).toNat) 12
        else d))

/-- TEST_RING's stall counts its frames (16 R472); what waited at a link that is up is sent when it is over. -/
def Dev.stallFrame (d : Dev) : Dev :=
  if d.upd.stallLeft = 0 then d
  else
    let d := d.modUpd (fun u => { u with stallLeft := u.stallLeft - 1 })
    if d.upd.stallLeft ≠ 0 then d
    else d.each [0, 1] (fun d p =>
      let l := d.link p
      if l.state ≠ 4 then d
      else l.queue.foldl (fun (d : Dev) q => d.sendOut q.kind q.node q.bytes q.cmd q.reserved) (d.setLink p { l with queue := [] }))

/-- The class in which a device inserts a packet that waits (R400, R404): a command within reserved capacity, or any the root forwards on
ring B; completions and events; all others. -/
def Dev.insertClass (d : Dev) (q : QueuedPkt) : Nat :=
  if q.reserved || (d.isRoot && q.kind == 1 && d.ringWay q.node == 0) then 0 else if q.kind == 2 || q.kind == 3 then 1 else 2

/-- A new frame has its whole segments; what waited for it is inserted, class by class, oldest first. -/
def Dev.frameRoom (d : Dev) : Dev :=
  let l := d.ring.waits
  let d := d.modRing (fun r => { r with usedA := 0, usedRes := 0, usedB := 0, waits := [] })
  if !d.rb A.FAB_STATUS 11 then d
  else
    let ordered := [0, 1, 2].flatMap (fun k => l.filter (fun q => d.insertClass q == k))
    ordered.foldl (fun (d : Dev) q => if d.noPath then d.queueGone q else d.sendOut q.kind q.node q.bytes q.cmd q.reserved) d

/-- A list in parts of `n`, at most `k` of them: the map mirror takes as many packets as payloads of 256 bytes ask for (R400, R402). -/
def inParts {α : Type} (n : Nat) : Nat → List α → List (List α)
  | 0, _ => []
  | k + 1, l => if l.isEmpty then [] else l.take n :: inParts n k (l.drop n)

/-- The ring at a frame tick: the rate that waits, epochs, the slots received, and as root the markers, missed nodes and
insertions. -/
def Dev.ringFrame (d : Dev) : Dev :=
  let d := d.rateTick
  let d := d.modTime (fun t => { t with markerSeen := false, holdFrames := t.holdFrames - 1 })
  let d := (d.modRing (fun r => { r with frames := r.frames + 1, slotSeen := [] })).frameRoom
  let d := if d.isRoot then
      let d := match d.ring.handover with
        | some h =>
          let to_ := d.ring.standby.getD 0
          let d := ((d.wb A.FAB_STATUS 7 false).setFld A.FAB_STATUS 17 12 to_).modRing (fun r => { r with handover := none, standby := none })
          let d := (d.modTime (fun t => { t with markerSeen := true })).timeTo 1
          (d.raise Ev.fabRootChange to_).doneAt h Code.done [(16, 1, 0xFF), (17, 1, to_)]
        | none => d
      let d := d.insertsDone
      let d := if d.ring.epochNext then d.modRing (fun r => { r with epoch := (r.epoch + 1) % 65536, epochNext := false }) else d
      let d := match d.ring.slotNext with
        | some t => if t ≤ d.sys.lastFrame then d.modRing (fun r => { r with slotEpoch := (r.slotEpoch + 1) % 65536, slotNext := none }) else d
        | none => d
      let d := d.each (d.nodesIn 1) (fun d id => let x := d.nodeSt id; d.setNode id { x with missed := if x.seen || id == d.node then 0 else x.missed + 1, seen := false })
      let d := d.each (d.nodesIn 1) (fun d id => if 3 ≤ (d.nodeSt id).missed then d.nodeLost id else d)
      let d := if d.ring.discovering && d.activeCount != 0 then d.sendOut 0x10 0xFF [] else d
      let d := match d.ring.standby with
        | some s => if d.ring.frames % 8 = 0 then
            (inParts 13 5 d.ring.nodes).foldl (fun (d : Dev) (part : List (Nat × NodeSt)) =>
              d.sendOut 0x17 s (part.flatMap (fun (x : Nat × NodeSt) => leBytes 1 x.1 ++ leBytes 1 x.2.state ++ leBytes 1 x.2.pos ++ x.2.uid))) d
          else d
        | none => d
      if d.isRoot then d.markers else d
    else d
  let d := if d.rb A.FAB_STATUS 11 then d.statusOut.publish.shareSlots else d
  if d.rb A.FAB_STATUS 11 && d.ring.frames % 8 = 0 then (d.packetOn 0 0x15 0 [0]).packetOn 1 0x15 0 [1] else d

/-! ### Commands (R428) -/

/-- The FAB_ commands act on the acting root alone, with axis mask 0. -/
def Dev.fabCheck (d : Dev) (h : Hdr) : Bool := h.mask != 0 || !d.isRoot

/-- FAB_DISCOVER at its frame tick: it completes when the discovery has. -/
def Dev.fabDiscover (d : Dev) (h : Hdr) (renumber : Nat) : Dev :=
  if d.fabCheck h ∨ 2 ≤ renumber then d.doneAt h Code.badField
  else if renumber = 1 && !d.allConfigure then d.doneAt h Code.wrongMode [(16, 1, d.activeCount), (17, 1, d.ring.epoch)]
  else
    let old := d.ring.discoverCmd
    let d := d.modRing (fun r => { r with discovering := true, discoverCmd := some h, renumber := renumber == 1 })
    let d := d.doneWait old Code.done [(16, 1, d.activeCount), (17, 1, d.ring.epoch)]
    d.sendOut 0x10 0xFF []

/-- FAB_DISCOVER (R402). -/
def execFabDiscover (h : Hdr) (renumber : Nat) (s : State) : Host.Outcome State Fault Refusal :=
  s.perform (fun d => d.command 0x0801 h (fun d => d.fabDiscover h renumber))

/-- FAB_INSERT at its frame tick. -/
def Dev.fabInsert (d : Dev) (h : Hdr) (id : Nat) : Dev :=
  let ids := if id = 0xFF then d.nodesIn 4 else if (d.nodeSt id).state = 4 then [id] else []
  if d.fabCheck h ∨ (64 ≤ id ∧ id ≠ 0xFF) then d.doneAt h Code.badField
  else if ids.isEmpty then d.doneAt h Code.wrongMode
  else (d.joinStart h ids.length).each ids (fun d i => d.orderInsert i (some h))

/-- FAB_INSERT (R410). -/
def execFabInsert (h : Hdr) (id : Nat) (s : State) : Host.Outcome State Fault Refusal :=
  s.perform (fun d => d.command 0x0802 h (fun d => d.fabInsert h id))

/-- FAB_REMOVE at its frame tick: whether an axis of the target is outside OFF and PARKED the root judges by the mode the target's
status slot reports (notes/assumptions/28.md). -/
def Dev.fabRemove (d : Dev) (h : Hdr) (id : Nat) : Dev :=
  let x := d.nodeSt id
  let moving := x.mode == Mode.run.code || x.mode == Mode.inspection.code || x.mode == Mode.degraded.code
  if d.fabCheck h ∨ 64 ≤ id then d.doneAt h Code.badField
  else if x.state = 3 ∨ x.state = 0 then d.doneAt h Code.nodeLost
  else if id = d.node || d.ring.standby == some id || moving then d.doneAt h Code.wrongMode
  else if !d.bypassOk id then (d.raise Ev.fabBypassRefused id).doneAt h Code.budgetExceeded
  else
    let t := d.sys.lastFrame + 2 * d.framePeriod
    let d := (d.setNode id { x with state := 2, vigil := false, removed := some d.sys.lastFrame }).countNodes
    let d := (d.sendOut 0x14 id (leBytes 8 t)).modRing (fun r => { r with epochNext := true })
    (d.nodeGone id).doneAt h Code.done [(16, 8, t)]

/-- FAB_REMOVE (R411). -/
def execFabRemove (h : Hdr) (id : Nat) (s : State) : Host.Outcome State Fault Refusal :=
  s.perform (fun d => d.command 0x0803 h (fun d => d.fabRemove h id))

/-- FAB_STANDBY at its frame tick. -/
def Dev.fabStandby (d : Dev) (h : Hdr) (id handover : Nat) : Dev :=
  let res := [(16, 1, d.ring.standby.getD 0xFF), (17, 1, d.node)]
  if d.fabCheck h ∨ (64 ≤ id ∧ id ≠ 0xFF) ∨ 2 ≤ handover then d.doneAt h Code.badField
  else if id ≠ 0xFF && (!(d.nodeSt id).host || id == d.node) then d.doneAt h Code.wrongMode res
  else if handover = 1 && id = 0xFF then d.doneAt h Code.wrongMode res
  else
    let s : Option Nat := if id = 0xFF then none else some id
    let d := d.modRing (fun r => { r with standby := s })
    if handover = 1 then d.modRing (fun r => { r with handover := some h })
    else d.doneAt h Code.done [(16, 1, s.getD 0xFF), (17, 1, d.node)]

/-- FAB_STANDBY (R415). -/
def execFabStandby (h : Hdr) (id handover : Nat) (s : State) : Host.Outcome State Fault Refusal :=
  s.perform (fun d => d.command 0x0804 h (fun d => d.fabStandby h id handover))

/-- Move the slots down so that none is left between them. -/
def compacted (base : Nat) (l : List SlotEnt) : List SlotEnt :=
  (l.foldl (fun (acc : Nat × List SlotEnt) e => (acc.1 + e.size, acc.2 ++ [{ e with off := acc.1 }])) (base, [])).2

/-- FAB_SLOT_ALLOC at its frame tick. -/
def Dev.fabSlotAlloc (d : Dev) (h : Hdr) (action : Nat) : Dev :=
  let res (d : Dev) := [(16, 2, d.cyclicUsed), (18, 2, d.cyclicLimit), (20, 1, d.ring.refused.length)]
  if d.fabCheck h ∨ 2 < action then d.doneAt h Code.badField
  else if action = 2 && !d.allConfigure then d.doneAt h Code.wrongMode (res d)
  else
    let d := if action = 1 then d.ring.refused.reverse.foldl (fun (d : Dev) e => d.slotRequest e false) d
      else if action = 2 then
        d.modRing (fun r => { r with slots := compacted (16 * d.activeCount) r.slots, slotNext := some d.slotFrom })
      else d
    d.doneAt h Code.done (res d)

/-- FAB_SLOT_ALLOC (R399). -/
def execFabSlotAlloc (h : Hdr) (action : Nat) (s : State) : Host.Outcome State Fault Refusal :=
  s.perform (fun d => d.command 0x0805 h (fun d => d.fabSlotAlloc h action))

/-- FAB_QUERY. -/
def Dev.fabQuery (d : Dev) (h : Hdr) : Dev :=
  if h.mask ≠ 0 then d.doneNow h Code.badField
  else d.doneNow h Code.done [(16, 4, (d.rd A.FAB_STATUS).toNat), (20, 4, (d.linkWord 0).toNat), (24, 4, (d.linkWord 1).toNat), (28, 4, d.fabSlotWord.toNat)]

/-- FAB_QUERY (R428). -/
def execFabQuery (h : Hdr) (s : State) : Host.Outcome State Fault Refusal := s.perform (fun d => d.command 0x0806 h (fun d => d.fabQuery h))

end Sys2Proof.Machine
end

