-- ==== Sys2Proof/Machine/SafFn.lean ====
section
/-!
DEFINITION. The safety channels (11_safety.md R303 to R322): group SS1, the functions of a safety cycle, input pairs, channel faults,
DEGRADED, and the expiries of R317.
-/

namespace Sys2Proof.Machine

/-- The standstill speed of group `g`. -/
def Dev.vZero (d : Dev) (g : Nat) : Rat := f32Val (d.rd (A.SAF_V_ZERO g))

/-- The machine of group `g`. -/
def Dev.machine (d : Dev) (g : Nat) : Nat := d.fld (A.SAF_GRP_CFG g) 1 0

/-- The machine's speed channel is used. -/
def Dev.speedOn (d : Dev) (g : Nat) : Bool := d.machine g != 0 && d.rb (A.SAF_SPD_CFG (d.fld (A.SAF_GRP_CFG g) 6 4)) 5

/-- The modes in which both channels evaluate (R308, R315). -/
def Dev.safetyRuns (d : Dev) : Bool :=
  let m := d.sys.mode
  !(m == .bypass || m == .backup || m == .vigil || m == .booting)

/-- Turret evaluates its functions. -/
def Dev.turretRuns (d : Dev) : Bool := d.safetyRuns && d.saf.turretOk && !d.saf.turretHalted

/-- The parameter block of the test in progress on group `g` of type `ty` (R325). -/
def Dev.testOn (d : Dev) (g ty : Nat) : Option (List Byte) :=
  match d.saf.insp with
  | some i => if byteAt i.block 0 = ty ∧ byteAt i.block 1 = g then some i.block else none
  | none => none

/-! ### Group reactions -/

/-- Turret orders FAULT with cause safety on the axes a function supervises (R309). -/
def Dev.safetyFaults (d : Dev) (g : Nat) : Dev :=
  if d.turretRuns then d.each (d.travelAxes g) (fun d n => d.faultAxis n 128) else d

/-- A group STO that is not latched starts (R308, R309); `f` records its demand. -/
def Dev.stoDemand (d : Dev) (g code : Nat) (byT byK : Bool) (f : GrpSt → GrpSt) : Dev :=
  let d := d.modSg g f
  if d.sys.mode = .rest then d.deviceReaction code byT byK
  else
    let late : Bool := match (d.sg g).ss1 with | some y => y.latch | none => false
    let d := (d.inspReaction g code).safCause code (2 ^ g) byT byK
    let d := (d.modSg g GrpSt.dropSs1).modSaf (fun q => { q with resetOk := false })
    let d := (d.applySto g).raise Ev.safGroupReaction g
    if late then d.safetyFaults g else d

/-- The stop ramps of an SS1 start at the next loop tick (R312, 09 R244). -/
def Dev.ss1Begin (d : Dev) (g code : Nat) (latch rescue deg : Bool) : Dev :=
  let t := d.tickTime + d.loopPeriod
  let x : Ss1St := { start := max d.time.cnt (d.time.edge t), v0 := ratAbs (d.sg g).v, code, latch, rescue, deg }
  let d := d.modSg g (fun s => { s with ss1 := some x })
  d.each (d.axisList.filter (fun n => stoGroup n == g)) (fun d n => d.startRamp n t 5)

/-- Keep has detected the demand of an SS1 and times ss1_max on its own from then on (R312, R316). -/
def Dev.ss1Keep (d : Dev) (g : Nat) : Dev :=
  if !d.saf.keepOk then d
  else d.modSg g (fun x => { x with ss1 := x.ss1.map (fun y => { y with keepAt := y.keepAt.or (some d.time.cnt) }) })

/-- A group SS1 starts (R308). -/
def Dev.startSs1 (d : Dev) (g code : Nat) (latch deg byT byK : Bool) : Dev :=
  if d.sys.mode = .rest then d.deviceReaction code byT byK
  else
    let d := (d.inspReaction g code).modSaf (fun q => { q with resetOk := false })
    let d := (d.safCause code (2 ^ g) byT byK).raise Ev.safGroupReaction g
    let d := d.each (d.axisList.filter (fun n => stoGroup n == g)) (fun d n => d.lanAbortAxis n 3)
    match (d.sg g).ss1 with
    | some y =>
      d.modSg g (fun s => { s with ss1 := some { y with latch := y.latch || latch, deg := y.deg || deg, rescue := y.rescue && !latch, code } })
    | none => d.ss1Begin g code latch false deg

/-- An SS1 ends in STO and SBC (R312): `breach` for the monitored speed or ss1_max. -/
def Dev.ss1Sto (d : Dev) (g : Nat) (breach byT byK : Bool) : Dev :=
  match (d.sg g).ss1 with
  | none => d
  | some y =>
    let d := if breach then
        ((d.inspReaction g 0x0B).safCause 0x0B (2 ^ g) byT byK).modSaf (fun q => { q with resetOk := false })
      else d
    let d := (d.modSg g GrpSt.dropSs1).applySto g
    if y.latch then d.safetyFaults g else d

/-- A violation of a function of R314: latched, by STO or by SS1. -/
def Dev.violate (d : Dev) (g code : Nat) (byT byK ss1 : Bool) : Dev :=
  let x := d.sg g
  let late : Bool := match x.ss1 with | some y => y.latch | none => false
  if x.latched && x.causes.contains code then d
  else if ss1 && !x.latched then (if late then d else d.startSs1 g code true false byT byK)
  else if x.latched then d.groupReaction g code byT byK
  else (d.groupReaction g code byT byK).safetyFaults g

/-! ### Input pairs (R307, R309) -/

/-- The groups a fault of pair `i` reacts in: its grp field; for a feedback pair those of the outputs it belongs to. -/
def Dev.pairGroups (d : Dev) (i : Nat) : List Nat :=
  let w := d.rd (A.SAF_IN_CFG i)
  let func := field 27 24 w
  if func = 0 ∨ func = 3 then []
  else if func = 13 then
    (List.range 4).filter (fun g => (List.range 8).any (fun j =>
      let o := d.rd (A.SAF_OUT_CFG j)
      bit 13 o && field 12 8 o == i && bit (4 + g) o))
  else maskList 4 (field 31 28 w)

/-- The demands of group `g`'s STO and SS1 pairs (R314): they start when a pair opens and end when every pair is closed. -/
def Dev.demandPairs (d : Dev) (g : Nat) : Dev :=
  let open1 := (d.pairsOf g 1).any (fun i => !d.pairClosed i)
  let open2 := (d.pairsOf g 2).any (fun i => !d.pairClosed i)
  let d := if open1 && !(d.sg g).pairSto then d.stoDemand g 0x01 true true (fun x => { x with pairSto := true })
    else d.modSg g (fun x => { x with pairSto := open1 })
  let own : Bool := match (d.sg g).ss1 with | some y => !y.latch && !y.rescue && !y.deg | none => false
  let d := if open2 then (if own || (d.sg g).ss1Sto then d else (d.startSs1 g 0x02 false false true true).ss1Keep g)
    else d.modSg g (fun x => { x with ss1Sto := false, ss1 := if own then none else x.ss1 })
  d.refreshOuts

/-- A pair is faulted (R307, R309): latched reactions of its groups. -/
def Dev.pairFault (d : Dev) (i : Nat) : Dev :=
  if (AList.get ({} : PairSt) d.saf.pairs i).faulted then d
  else
    let d := d.modSaf (fun q => { q with pairs := AList.put q.pairs i { AList.get {} q.pairs i with faulted := true, disc := none } })
    let d := d.raise Ev.safInputFault i
    let d := d.each (d.pairGroups i) (fun d g => d.groupReaction g 0x0D true true)
    d.each [0, 1, 2, 3] Dev.demandPairs

/-- Set pair `i`. -/
def Dev.setPair (d : Dev) (i : Nat) (p : PairSt) : Dev := d.modSaf (fun q => { q with pairs := AList.put q.pairs i p })

/-- The counter value at which the discrepancy of pair `i` becomes a fault. -/
def Dev.discEnd (d : Dev) (i : Nat) : Option Nat :=
  (AList.get ({} : PairSt) d.saf.pairs i).disc.map (fun t => t + msCnt (10 * d.fld (A.SAF_IN_CFG i) 23 16))

/-- The channels of pair `i` disagree. -/
def Dev.discrepant (d : Dev) (i : Nat) : Bool :=
  let p := AList.get ({} : PairSt) d.saf.pairs i
  let k := d.fld (A.SAF_IN_CFG i) 1 0
  (k == 1 && p.a != p.b) || (k == 2 && p.a == p.b)

/-- The fault of pair `i` is due (R317: the expiry is judged before what arrives). -/
def Dev.discTick (d : Dev) (i : Nat) : Dev :=
  match d.discEnd i with
  | some e => if d.past e then d.pairFault i else d
  | none => d

/-! ### Outputs with feedback (R314) -/

/-- The feedback of output `j` does not show what its level awaits. -/
def Dev.fbBad (d : Dev) (j : Nat) : Bool := d.pairClosed (d.fld (A.SAF_OUT_CFG j) 12 8) == (d.outp j).on

/-- The counter value at which the timing of output `j` runs out. -/
def Dev.timingEnd (d : Dev) (j : Nat) : Option Nat :=
  (d.outp j).timing.map (fun t => t + msCnt (if (d.outp j).on then d.fld (A.SAF_OUT_TIME j) 23 12 else d.fld (A.SAF_OUT_TIME j) 11 0))

/-- fb_fault of output `j` is set. -/
def Dev.outFault (d : Dev) (j : Nat) : Dev := d.flag A.SAF_OUT_STATE j Ev.safOutputFault j

/-- A brake timing fault: the groups of the output react and every output of them is de-energised. -/
def Dev.brakeFault (d : Dev) (j : Nat) : Dev :=
  let d := (d.setOutp j { d.outp j with timing := none }).outFault j
  d.each (maskList 4 (d.fld (A.SAF_OUT_CFG j) 7 4)) (fun d g => d.groupReaction g 0x0C true true)

/-- The timing of output `j`: run out, or ended by the feedback awaited. -/
def Dev.timingTick (d : Dev) (j : Nat) : Dev :=
  match d.timingEnd j with
  | some e => if d.past e then d.brakeFault j else if d.fbBad j then d else d.setOutp j { d.outp j with timing := none }
  | none => d

/-! ### Functions of a safety cycle (R314) -/

/-- The index of the SLS limit selected by the pairs with func 4 and 5. -/
def Dev.slsIndex (d : Dev) (g : Nat) : Nat := b2n (d.funcClosed g 4) + 2 * b2n (d.funcClosed g 5)

/-- The SLS limit in force. -/
def Dev.slsLimit (d : Dev) (g : Nat) : Option Rat :=
  match d.sys.mode with
  | .ready => some (f32Val (d.rd (A.SAF_V_SLS g (d.slsIndex g))))
  | .run => some (f32Val (d.rd (A.SAF_V_SLS g (d.slsIndex g))))
  | .inspection => some (f32Val (d.rd (A.SAF_V_INSP g)))
  | .degraded => if (d.sg g).degStill then some (f32Val (d.rd (A.SAF_V_RESCUE g))) else none
  | _ => none

/-- The overspeed limit in force on Turret. -/
def Dev.osLimit (d : Dev) (g : Nat) : Rat :=
  match d.testOn g 2 with
  | some b => f32Val (f32At b 8)
  | none => f32Val (d.rd (A.SAF_V_OS g))

/-- The functions that compare the speed: OS and SLS. -/
def Dev.speedLimits (d : Dev) (g : Nat) : Dev :=
  let v := ratAbs (d.sg g).v
  let d := if d.rb (A.SAF_FN_EN g) 4 && decide (d.osLimit g < v) then d.violate g 0x04 true false false else d
  match d.slsLimit g with
  | some l => if d.rb (A.SAF_FN_EN g) 0 && decide (l < v) then d.violate g 0x05 true false (d.rb (A.SAF_FN_EN g) 16) else d
  | none => d

/-- An axis is energised: its PWM is or may be on. -/
def Dev.energised (d : Dev) (n : Nat) : Bool := (d.ax n).state.active

/-- SOS: armed after 2 cycles in which every energised axis is in HOLD, until an axis enters MOVE (notes/assumptions/21.md). -/
def Dev.sosCycle (d : Dev) (g : Nat) : Dev :=
  let slip := d.testOn g 1
  let live := d.axisList.filter (fun n => stoGroup n == g && d.energised n)
  let x := d.sg g
  if !(d.rb (A.SAF_FN_EN g) 1 || slip.isSome) || live.isEmpty || live.any (fun n => (d.ax n).state == .move) then
    d.modSg g (fun x => { x with sosCycles := 0, sosAt := none })
  else
    let d := if x.sosAt.isSome then d
      else if live.all (fun n => (d.ax n).state == .hold) then
        d.modSg g (fun x => { x with sosCycles := x.sosCycles + 1, sosAt := if 1 ≤ x.sosCycles then some x.pos else none })
      else d.modSg g (fun x => { x with sosCycles := 0 })
    let tol : Nat := match slip with | some b => leAt b 20 4 | none => d.fld (A.SAF_POS_TOL g) 15 0
    match (d.sg g).sosAt with
    | some p =>
      if tol < (x.pos - p).natAbs then (d.modSg g (fun x => { x with sosCycles := 0, sosAt := none })).violate g 0x06 true false false
      else d
    | none => d

/-- A function that watches the direction of motion: the furthest position in direction `dir` from `far`, and whether the motion
against it exceeds the tolerance. -/
def Dev.against (d : Dev) (g : Nat) (dir far : Int) : Int × Bool :=
  let pos := (d.sg g).pos
  let far' := if dir * far < dir * pos then pos else far
  (far', decide ((d.fld (A.SAF_POS_TOL g) 31 16 : Int) < dir * (far' - pos)))

/-- SDI. -/
def Dev.sdiCycle (d : Dev) (g : Nat) : Dev :=
  let x := d.sg g
  if !d.rb (A.SAF_FN_EN g) 2 || x.sdi == 0 then d
  else
    let r := d.against g (if x.sdi = 1 then 1 else -1) x.sdiFrom
    if r.2 then (d.modSg g (fun x => { x with sdiFrom := x.pos })).violate g 0x07 true false (d.rb (A.SAF_FN_EN g) 16)
    else d.modSg g (fun x => { x with sdiFrom := r.1 })

/-- Unintended reversal. -/
def Dev.revCycle (d : Dev) (g : Nat) : Dev :=
  let x := d.sg g
  if !d.rb (A.SAF_FN_EN g) 5 || d.machine g != 2 then d
  else if ratAbs x.v ≤ d.vZero g then
    match x.revZero with
    | none => d.modSg g (fun x => { x with revZero := some d.time.cnt })
    | some t => if t + msCnt 1000 ≤ d.time.cnt then d.modSg g (fun x => { x with revDir := 0 }) else d
  else
    let d := d.modSg g (fun x => { x with revZero := none })
    if x.revDir = 0 then
      if f32Val (d.rd (A.SAF_V_OS g)) / 5 < ratAbs x.v then d.modSg g (fun x => { x with revDir := if 0 < x.v then 1 else -1, revPos := x.pos })
      else d
    else
      let r := d.against g x.revDir x.revPos
      if r.2 then (d.modSg g (fun x => { x with revDir := 0 })).violate g 0x07 true false false
      else d.modSg g (fun x => { x with revPos := r.1 })

/-- Unintended car movement. -/
def Dev.ucmCycle (d : Dev) (g : Nat) : Dev :=
  let x := d.sg g
  if !d.rb (A.SAF_FN_EN g) 3 || d.machine g != 1 then d
  else
    let doorOpen := !d.funcClosed g 10 || (d.testOn g 3).isSome
    let zone := d.funcClosed g 9
    if !doorOpen then d.modSg g (fun x => { x with ucmAt := none })
    else match x.ucmAt with
      | none => if zone && decide (ratAbs x.v ≤ d.vZero g) then d.modSg g (fun x => { x with ucmAt := some x.pos }) else d
      | some p =>
        if !zone || decide (d.fld (A.SAF_UCM_DIST g) 23 0 < (x.pos - p).natAbs) then
          (d.modSg g (fun x => { x with ucmAt := none })).violate g 0x08 true false false
        else d

/-- Missing step: the count since the last pulse. -/
def Dev.stepCycle (d : Dev) (g : Nat) : Dev :=
  let x := d.sg g
  if !d.rb (A.SAF_FN_EN g) 7 || d.machine g != 2 || decide (ratAbs x.v < d.vZero g) then d
  else match x.msAt with
    | none => d.modSg g (fun x => { x with msAt := some x.pos })
    | some p =>
      if d.fld (A.SAF_MS_CFG g) 15 0 + d.fld (A.SAF_MS_CFG g) 27 16 ≤ (x.pos - p).natAbs then
        (d.modSg g (fun x => { x with msAt := none })).violate g 0x0A true false false
      else d

/-- The counter value at which the deviation of handrail pair `k` of group `g` becomes a violation. -/
def Dev.hrEnd (d : Dev) (g k : Nat) : Option Nat :=
  ((d.sg g).hr.getD k none).map (fun t => t + msCnt (1000 * d.fld (A.SAF_HR_CFG g) 15 8))

/-- The set time of a handrail deviation runs out (R317). -/
def Dev.hrTick (d : Dev) (g k : Nat) : Dev :=
  match d.hrEnd g k with
  | some e => if d.past e then (d.modSg g (fun x => { x with hr := x.hr.set k none })).violate g 0x09 true false true else d
  | none => d

/-- Handrail deviation: the pulse rate of either handrail pair over the rate window. -/
def Dev.hrCycle (d : Dev) (g : Nat) : Dev :=
  let x := d.sg g
  let v := ratAbs x.v
  let on := d.rb (A.SAF_FN_EN g) 6 && d.machine g == 2 && decide (f32Val (d.rd (A.SAF_V_OS g)) / 5 ≤ v)
  let win := msCnt (100 * d.fld (A.SAF_HR_CFG g) 23 16)
  let least := (1 - mkRat (d.fld (A.SAF_HR_CFG g) 7 0) 100) * f32Val (d.rd (A.SAF_HR_RATIO g)) * v
  d.each (List.range (min 2 (d.pairsOf g 12).length)) (fun d k =>
    let pulses := ((d.sg g).hrPulses.getD k []).filter (fun t => decide (d.time.cnt < t + win))
    let d := d.modSg g (fun x => { x with hrPulses := x.hrPulses.set k pulses })
    let rate : Rat := mkRat (500000000 * pulses.length) win
    if on && decide (rate < least) then
      (if ((d.sg g).hr.getD k none).isSome then d else d.modSg g (fun x => { x with hr := x.hr.set k (some d.time.cnt) })).hrTick g k
    else d.modSg g (fun x => { x with hr := x.hr.set k none }))

/-- The first standstill of a lift group in DEGRADED (R319, R320). -/
def Dev.degStandstill (d : Dev) (g : Nat) : Dev :=
  d.modSg g (fun x => { x with
    ss1 := none
    degStill := true
    degPos := (d.travelAxes g).map (fun n => (n, (d.fb n).count)) })

/-- The monitoring of an SS1 by Turret (R312). -/
def Dev.ss1Cycle (d : Dev) (g : Nat) : Dev :=
  match (d.sg g).ss1 with
  | none => d
  | some y =>
    let v := ratAbs (d.sg g).v
    let t := mkRat ((d.time.cnt : Int) - y.start) 500000000
    if y.brakeAt.isSome || decide (d.time.cnt < y.start) || !d.speedOn g then d
    else if y.v0 - f32Val (d.rd (A.SAF_A_MON g)) * t + f32Val (d.rd (A.SAF_V_TOL g)) < v then d.ss1Sto g true true false
    else if d.vZero g < v then d.modSg g (fun x => { x with ss1 := some { y with still := 0 } })
    else if y.still = 0 then d.modSg g (fun x => { x with ss1 := some { y with still := 1 } })
    else if y.rescue then d.degStandstill g
    else (d.modSg g (fun x => { x with ss1 := some { y with still := 2, brakeAt := some d.time.cnt } })).dropOuts g

/-- The end of sbc_lead_ms of group `g`. -/
def Dev.sbcEnd (d : Dev) (g : Nat) : Option Nat :=
  match (d.sg g).ss1 with
  | some y => y.brakeAt.map (fun t => t + msCnt (d.fld (A.SAF_GRP_CFG g) 15 8))
  | none => none

/-- STO follows sbc_lead_ms after the brakes (R312). -/
def Dev.sbcTick (d : Dev) (g : Nat) : Dev :=
  match d.sbcEnd g with
  | some e => if d.past e then d.ss1Sto g false true true else d
  | none => d

/-- The end of ss1_max of group `g`: the first of Turret's, from the ramp's start, and Keep's, from its own detection of the demand. -/
def Dev.ss1End (d : Dev) (g : Nat) : Option Nat :=
  (d.sg g).ss1.map (fun y => (match y.keepAt with | some k => min k y.start | none => y.start) + msCnt (50 * d.fld (A.SAF_GRP_CFG g) 23 16))

/-- ss1_max runs out before standstill (R312), in Keep or in Turret. -/
def Dev.ss1Tick (d : Dev) (g : Nat) : Dev :=
  match d.ss1End g, (d.sg g).ss1 with
  | some e, some y =>
    let keep : Bool := match y.keepAt with | some k => decide (k < y.start) | none => false
    if y.brakeAt.isNone && d.past e then d.ss1Sto g true (!keep) keep else d
  | _, _ => d

/-! ### Channel faults and DEGRADED (R305, R318, R319) -/

/-- T_ST in counter units. -/
def Dev.tSt (d : Dev) : Nat := msCnt (d.fld A.SAF_CFG_GEN 12 0)

/-- A channel's last passed self-test is at most `limit` old. -/
def Dev.testWithin (d : Dev) (t : Option Nat) (limit : Nat) : Bool :=
  match t with
  | some x => decide (d.time.cnt ≤ x + limit)
  | none => false

/-- The device enters DEGRADED for channel `ch`: 1 Turret, 2 Keep. -/
def Dev.enterDegraded (d : Dev) (ch : Nat) : Dev :=
  let d := (d.safCause 0x10 0xF (ch != 1) (ch != 2)).abortInsp
  let d := d.modSaf (fun q => { q with failed := ch, degStart := d.time.cnt, degWarned := false, resetOk := false })
  let d := (d.enterMode .degraded 2).raise Ev.safDegraded ch
  d.each [0, 1, 2, 3] (fun d g =>
    let d := d.modSg g (fun x => { x with degStill := false, degPos := [] })
    if d.machine g = 1 then (if (d.sg g).ss1.isSome then d else d.ss1Begin g 0x10 false true false)
    else if 2 ≤ d.machine g then d.startSs1 g 0x10 false true (ch != 1) (ch != 2)
    else d)

/-- A fault attributable to channel `ch` (R318). -/
def Dev.channelFault (d : Dev) (ch : Nat) : Dev :=
  let q := d.saf
  let okNow := if ch = 1 then q.turretOk else q.keepOk
  let otherOk := if ch = 1 then q.keepOk else q.turretOk
  let other := if ch = 1 then q.keepTest else q.turretTest
  if !okNow then d
  else
    let d := d.modSaf (fun q => if ch = 1 then { q with turretOk := false } else { q with keepOk := false })
    let d := d.raise Ev.safChannelFault ch
    let m := d.sys.mode
    if (m == .ready || m == .run || m == .inspection) && d.rb A.SAF_CFG_GEN 26 && otherOk && d.testWithin other (d.tSt + 2 * usCnt 250) then
      d.enterDegraded ch
    else d.deviceReaction 0x10 (ch != 1) (ch != 2)

/-- A self-test of channel `ch` has passed: its age begins again, and outside DEGRADED the channel is healthy. -/
def Dev.selfTestPass (d : Dev) (ch : Nat) : Dev :=
  d.modSaf (fun q =>
    let q := if ch = 1 then { q with turretTest := some d.time.cnt } else { q with keepTest := some d.time.cnt }
    if d.sys.mode = .degraded then q
    else
      let q := if q.failed = ch then { q with failed := 0 } else q
      if ch = 1 then { q with turretOk := true } else { q with keepOk := true })

/-- The self-test age of channel `ch` exceeds T_ST (R305). -/
def Dev.ageTick (d : Dev) (ch : Nat) : Dev :=
  if ch = 1 && d.saf.turretHalted then d
  else if d.testWithin (if ch = 1 then d.saf.turretTest else d.saf.keepTest) d.tSt then d else d.channelFault ch

/-- DEG_MAX and the warning 10 s before it (R321). -/
def Dev.degTick (d : Dev) : Dev :=
  if d.sys.mode ≠ .degraded then d
  else
    let stop := d.saf.degStart + msCnt (1000 * d.fld A.SAF_CFG_GEN 24 16)
    let d := if !d.saf.degWarned && decide (stop ≤ d.time.cnt + msCnt 10000) then
        (d.modSaf (fun q => { q with degWarned := true })).raise Ev.safDegWarn
      else d
    if d.past stop then d.deviceReaction 0x11 true true else d

/-! ### SAFETY_CYCLE -/

/-- The expiries of R317 that have been passed. -/
def Dev.safExpiries (d : Dev) : Dev :=
  let d := d.each (List.range 16) Dev.discTick
  let d := d.each (List.range 8) Dev.timingTick
  let d := d.each [0, 1, 2, 3] (fun d g => (d.ss1Tick g).sbcTick g)
  if d.safetyRuns then ((d.ageTick 1).ageTick 2).degTick else d

/-- What Turret evaluates for group `g`. -/
def Dev.groupCycle (d : Dev) (g : Nat) : Dev :=
  let d := if d.speedOn g then
      (((((((d.speedLimits g).sosCycle g).sdiCycle g).revCycle g).ucmCycle g).stepCycle g).hrCycle g)
    else d
  d.ss1Cycle g

/-- In DEGRADED without Turret, a lift group stands still when no travel axis of it moves (notes/assumptions/22.md). -/
def Dev.degWithoutTurret (d : Dev) (g : Nat) : Dev :=
  if d.sys.mode = .degraded && d.saf.failed == 1 && d.machine g == 1 && !(d.sg g).degStill &&
    (d.travelAxes g).all (fun n => (d.ax n).state != .move && (d.ax n).state != .stopping) then d.degStandstill g
  else d

/-- Turret takes the count of group `g`'s speed channel. -/
def Dev.takePos (d : Dev) (g : Nat) : Dev :=
  d.modSg g (fun x => { x with pos := (AList.get ({} : SpdSt) d.saf.spd (d.fld (A.SAF_GRP_CFG g) 6 4)).pos })

/-- One safety cycle. -/
def Dev.safetyCycle (d : Dev) (i : SafIn) : Dev :=
  let d := d.seenAt i.at_
  if d.sys.mode = .bypass ∨ d.sys.mode = .backup ∨ d.sys.mode = .vigil then d
  else
    let d := if i.turretPass && !d.saf.turretHalted then d.selfTestPass 1 else d
    let d := if i.keepPass then d.selfTestPass 2 else d
    let d := d.safExpiries
    let d := if i.readback then d.deviceReaction 0x0E true true else d
    let d := d.modSaf (fun q => { q with causeAt := none })
    if d.turretRuns then
      let d := i.speeds.foldl (fun (d : Dev) s => d.modSg s.grp (fun x => { x with v := f32Val s.v })) d
      let d := d.each [0, 1, 2, 3] Dev.takePos
      d.each [0, 1, 2, 3] Dev.groupCycle
    else d.each [0, 1, 2, 3] Dev.degWithoutTurret

/-- SAFETY_CYCLE (R303). -/
def execSafetyCycle (i : SafIn) (s : State) : Host.Outcome State Fault Refusal := s.perform (fun d => d.safetyCycle i)

/-- CROSS_COMPARE_FAIL (R305): the channels disagreed in 4 consecutive exchanges. -/
def execCrossCompareFail (s : State) : Host.Outcome State Fault Refusal := s.perform (fun d => d.deviceReaction 0x0F true true)

/-- HEARTBEAT_LOSS (R305, R329): a channel's heartbeat was missing for 2 cycles; a halted Turret's is not counted. -/
def execHeartbeatLoss (turret : Bool) (s : State) : Host.Outcome State Fault Refusal :=
  s.perform (fun d => if turret && d.saf.turretHalted then d else d.channelFault (if turret then 1 else 2))

/-- SELF_TEST_FAIL (R305). -/
def execSelfTestFail (turret : Bool) (s : State) : Host.Outcome State Fault Refusal :=
  s.perform (fun d => d.channelFault (if turret then 1 else 2))

/-- SELF_TEST_AGE_EXPIRY (R305). -/
def execSelfTestAgeExpiry (turret : Bool) (s : State) : Host.Outcome State Fault Refusal :=
  s.perform (fun d =>
    let t := if turret then d.saf.turretTest else d.saf.keepTest
    if !d.safetyRuns then d
    else (match t with | some x => d.advanceTo (x + d.tSt + 1) | none => d).ageTick (if turret then 1 else 2))

/-- SBC_LEAD_EXPIRY (R312). -/
def execSbcLeadExpiry (g : Nat) (s : State) : Host.Outcome State Fault Refusal :=
  s.perform (fun d => match d.sbcEnd g with | some e => (d.advanceTo e).sbcTick g | none => d)

/-- SS1_MAX_EXPIRY (R312). -/
def execSs1MaxExpiry (g : Nat) (s : State) : Host.Outcome State Fault Refusal :=
  s.perform (fun d => match d.ss1End g, d.sbcEnd g with | some e, none => (d.advanceTo e).ss1Tick g | _, _ => d)

/-- HANDRAIL_TIME_EXPIRY (R314). -/
def execHandrailTimeExpiry (g k : Nat) (s : State) : Host.Outcome State Fault Refusal :=
  s.perform (fun d => match d.hrEnd g k with | some e => if d.turretRuns then (d.advanceTo e).hrTick g k else d | none => d)

/-- DISCREPANCY_EXPIRY (R307). -/
def execDiscrepancyExpiry (i : Nat) (s : State) : Host.Outcome State Fault Refusal :=
  s.perform (fun d => match d.discEnd i with | some e => (d.advanceTo e).discTick i | none => d)

/-- BRAKE_TIMING_EXPIRY (R314). -/
def execBrakeTimingExpiry (j : Nat) (s : State) : Host.Outcome State Fault Refusal :=
  s.perform (fun d => match d.timingEnd j with | some e => (d.advanceTo e).timingTick j | none => d)

/-- DEG_WARN (R321). -/
def execDegWarn (s : State) : Host.Outcome State Fault Refusal :=
  s.perform (fun d =>
    if d.sys.mode = .degraded && !d.saf.degWarned then
      (d.advanceTo (d.saf.degStart + msCnt (1000 * d.fld A.SAF_CFG_GEN 24 16) - msCnt 10000)).degTick
    else d)

/-- DEG_MAX_EXPIRY (R321). -/
def execDegMaxExpiry (s : State) : Host.Outcome State Fault Refusal :=
  s.perform (fun d =>
    if d.sys.mode = .degraded then (d.advanceTo (d.saf.degStart + msCnt (1000 * d.fld A.SAF_CFG_GEN 24 16))).degTick else d)

/-- DEG_VOTE_TIMER_EXPIRY (R319): the independent timer of DEG_MAX + 1 s returns the vote. -/
def execDegVoteTimerExpiry (s : State) : Host.Outcome State Fault Refusal :=
  s.perform (fun d =>
    if d.sys.mode = .degraded then
      (d.advanceTo (d.saf.degStart + msCnt (1000 * (d.fld A.SAF_CFG_GEN 24 16 + 1)))).deviceReaction 0x11 true true
    else d)

/-! ### Keep's gates, dark tests and test pulses -/

/-- Keep's limit for group `g` per gate, and the cause of a trip (R314). -/
def Dev.keepLimit (d : Dev) (g : Nat) : Nat × Nat :=
  let os := d.fld (A.SAF_KEEP_OS g) 31 10
  let rsc := d.fld (A.SAF_KEEP_RSC g) 21 0
  let m := d.sys.mode
  match d.testOn g 2 with
  | some b => ((f32Val (f32At b 8) * mkRat (2 ^ d.fld (A.SAF_KEEP_OS g) 9 6) 1000).floor.toNat, 0x04)
  | none =>
    if rsc != 0 && (m == .inspection || (m == .degraded && (d.machine g != 1 || (d.sg g).degStill))) then (rsc, 0x05) else (os, 0x04)

/-- A gate window of Keep's overspeed channel ends (R314, R316): the edges counted in it are compared with the limit; a breach of the
limit of DEGRADED and INSPECTION reacts as SLS does. -/
def Dev.keepGate (d : Dev) (g : Nat) : Dev :=
  let count := (d.sg g).keepEdges
  let d := d.modSg g (fun x => { x with keepEdges := 0 })
  if !d.safetyRuns || !d.saf.keepOk || !d.rb (A.SAF_KEEP_OS g) 5 then d
  else
    let l := d.keepLimit g
    let d := d.modSg g (fun x => { x with keepCount := count, keepLimit := l.1 })
    if l.1 < count then d.violate g l.2 false true (l.2 == 0x05 && d.rb (A.SAF_FN_EN g) 16) else d

/-- KEEP_GATE_END (R314), with the fabric time at which the window ends. -/
def execKeepGateEnd (g at_ : Nat) (s : State) : Host.Outcome State Fault Refusal := s.perform (fun d => (d.seenAt at_).keepGate g)

/-- DARK_TEST (R305, R311): an energised pair's switches were opened for 300 µs and read back. -/
def execDarkTest (j : Nat) (ok : Bool) (s : State) : Host.Outcome State Fault Refusal :=
  s.perform (fun d =>
    if d.rb (A.SAF_OUT_CFG j) 3 && (d.outp j).on && !ok then (d.outFault j).deviceReaction 0x0E true true else d)

/-- The test pulse of channel `c` (2 × pair, plus 1 for B): 0 none, 1 to 4. -/
def Dev.pulseOf (d : Dev) (c : Nat) : Nat := if c % 2 = 0 then d.fld (A.SAF_IN_CFG (c / 2)) 4 2 else d.fld (A.SAF_IN_CFG (c / 2)) 7 5

/-- The level of channel `c`. -/
def Dev.chanLevel (d : Dev) (c : Nat) : Bool :=
  let p := AList.get ({} : PairSt) d.saf.pairs (c / 2)
  if c % 2 = 0 then p.a else p.b

/-- TEST_PULSE (R307): output TP`k` pulses; the channels it feeds hold their level, and those that are high await it. -/
def execTestPulse (k : Nat) (s : State) : Host.Outcome State Fault Refusal :=
  s.perform (fun d =>
    let fed := (List.range 32).filter (fun c => d.fld (A.SAF_IN_CFG (c / 2)) 1 0 != 0 && d.pulseOf c == k + 1)
    d.modSaf (fun q => { q with
      tpAt := AList.put q.tpAt k d.time.cnt
      tpWait := q.tpWait.filter (fun c => !fed.contains c) ++ fed.filter d.chanLevel }))

/-- The pulse that feeds channel `c` runs now. -/
def Dev.pulsing (d : Dev) (c : Nat) : Bool :=
  let k := d.pulseOf c
  if k = 0 then false
  else match AList.find d.saf.tpAt (k - 1) with
    | some t => decide (d.time.cnt < t + usCnt (50 * d.fld A.SAF_TP_CFG 12 8))
    | none => false

/-- TEST_PULSE_TIMEOUT (R307): the pulse did not appear at its input. -/
def execTestPulseTimeout (i : Nat) (chB : Bool) (s : State) : Host.Outcome State Fault Refusal :=
  s.perform (fun d =>
    let c := 2 * i + b2n chB
    if d.saf.tpWait.contains c then
      let t := AList.get 0 d.saf.tpAt (d.pulseOf c - 1)
      let d := d.advanceTo (t + usCnt (50 * d.fld A.SAF_TP_CFG 12 8 + 100))
      (d.modSaf (fun q => { q with tpWait := q.tpWait.filter (· != c) })).pairFault i
    else d)

end Sys2Proof.Machine
end

