-- ==== Sys2Proof/Machine/Wake.lean ====
section
/-!
DEFINITION. Rest and wake (02_modes_power_wake.md R61 to R77): claims and budgets, exit latencies, the choice of rest states, entry,
waking, and the power commands.
-/

namespace Sys2Proof.Machine

/-! ### Claims and latencies (R64 to R68) -/

/-- The clients that hold a claim, ascending: their SYS_WAKE_BUDGET is held with bit 31. -/
def Dev.claims (d : Dev) : List Nat :=
  (d.regs.filter (fun x => 0x1000 ≤ x.1 && x.1 < 0x2000 && x.1 % 8 == 0 && bit 31 x.2)).map (fun x => (x.1 - 0x1000) / 8)

/-- The smallest of a list of budgets, none where it is empty. -/
def minOf : List Nat → Option Nat
  | [] => none
  | b :: bs => some (bs.foldl min b)

/-- The device budget in µs (R65). -/
def Dev.deviceBudget (d : Dev) : Option Nat := minOf (d.claims.map (fun cc => d.fld (A.SYS_WAKE_BUDGET cc) 23 0))

/-- The device budget as SYS_WAKE_STATE reports it. -/
def Dev.budgetField (d : Dev) : Nat := (d.deviceBudget).getD 0xFFFFFF

/-- The budget of axis `n` in µs. -/
def Dev.axisBudget (d : Dev) (n : Nat) : Option Nat :=
  minOf ((d.claims.filter (fun cc => d.rb (A.SYS_WAKE_AXES cc) n)).map (fun cc => d.fld (A.SYS_WAKE_BUDGET cc) 23 0))

/-- A time in ns fits a budget in µs. -/
def fits (t : Nat) (b : Option Nat) : Bool := match b with | none => true | some u => decide (t ≤ 1000 * u)

/-- The band in use at a temperature (R67): within 5 °C of a boundary the one with the larger times. -/
def tjBand (t : Int) : Nat := if t ≤ 5 then 0 else if 80 ≤ t then 2 else 1

/-- The band in use: of the hotter die (17 R496). -/
def Dev.band (d : Dev) : Nat := tjBand (max d.pwr.tjLogic d.pwr.tjDrum)

/-- The device exit latency in ns (R67). -/
def exitNs (vigil : Bool) (band : Nat) : Nat :=
  if vigil then (if band = 0 then 25000000 else if band = 1 then 19000000 else 22000000)
  else if band = 0 then 60000 else if band = 1 then 48000 else 55000

/-- The axis term of a rest state in ns (R68). -/
def Dev.restTerm (d : Dev) (n st : Nat) : Nat :=
  let w := d.rd (A.SYS_AX_REST_CFG n)
  if st = 3 then 1000000 * (field 15 8 w + field 27 16 w) + 3 * d.loopPeriod
  else if st = 2 then 1000000 * field 15 8 w + 3 * d.loopPeriod
  else 0

/-! ### The choice of R69 -/

/-- The deepest rest state of axis `n` that is allowed, possible and fits: 3 brake-held, 2 de-fluxed, 1 energised hold. -/
def Dev.axisRest (d : Dev) (vigil : Bool) (n : Nat) : Option Nat :=
  let w := d.rd (A.SYS_AX_REST_CFG n)
  [3, 2, 1].find? (fun st => bit (st - 1) w && (st == 3 || !vigil) && fits (exitNs vigil d.band + d.restTerm n st) (d.axisBudget n))

/-- The axes that are not OFF. -/
def Dev.notOff (d : Dev) : List Nat := d.axisList.filter (fun n => (d.ax n).state != .off)

/-- The axes of an admitted group rest in the shallowest of their members' states (notes/assumptions/32.md). -/
def Dev.groupRest (d : Dev) (l : List (Nat × Nat)) : List (Nat × Nat) :=
  l.map (fun x => (x.1, (d.members x.1).foldl (fun s m => min s (AList.get s l m)) x.2))

/-- The rest states that a device state gives its axes, where it fits. -/
def Dev.restFit (d : Dev) (vigil : Bool) : Option (List (Nat × Nat)) :=
  let l := d.notOff.map (fun n => (n, d.axisRest vigil n))
  if !fits (exitNs vigil d.band) d.deviceBudget || l.any (fun x => x.2.isNone) then none
  else some (d.groupRest (l.map (fun x => (x.1, x.2.getD 1))))

/-- A rule that took the device out of VIGIL stays true (03 R97). -/
def Dev.rulesHold (d : Dev) : Bool := d.wake.rules.any (fun r => d.rb A.BELFRY_RULE_STATE r)

/-- VIGIL is possible but for the root's answer (R70). -/
def Dev.vigilPossible (d : Dev) : Bool :=
  d.rb A.SYS_WAKE_CFG 1 && !d.isRoot && !d.rb A.FAB_STATUS 8 && !d.rulesHold

/-- The root must answer: the device is in the ring's path. -/
def Dev.asksRoot (d : Dev) : Bool := d.rb A.FAB_STATUS 11

/-- No command is in flight to the device but the one given (R69). -/
def Dev.quiet (d : Dev) (own : Option Hdr) : Bool :=
  d.host.accepted.all (fun q => own == some q.h) &&
    d.host.inflight.all (fun f => f.node != d.node || (match own with | some h => h.flightSq == f.sq && h.tag == f.tag | none => false))

/-- The conditions of R69 apart from the idle time. -/
def Dev.restOk (d : Dev) (own : Option Hdr) : Bool :=
  d.rb A.SYS_WAKE_CFG 0 && d.sys.mode == .ready && d.quiet own && d.wake.run.isNone &&
    d.axisList.all (fun n => let st := (d.ax n).state; st == .off || st == .parked || st == .hold)

/-! ### STO at rest (R63) -/

/-- The groups whose every axis that is not OFF is brake-held; all of them in VIGIL. -/
def Dev.restGroups (d : Dev) : Nat :=
  if d.sys.mode = .vigil then 0xF
  else if d.sys.mode = .rest && d.wake.run.isNone then
    maskOf ((List.range 4).filter (fun g =>
      let l := d.notOff.filter (fun n => stoGroup n == g)
      !l.isEmpty && l.all (fun n => AList.get 0 d.wake.rests n == 3 && (d.ax n).state == .parked)))
  else 0

/-- The rest assertion follows the rest states of the axes. -/
def Dev.restStoRefresh (d : Dev) : Dev :=
  let old := d.wake.restSto
  let new := d.restGroups
  if old = new then d
  else
    let d := (d.modWake (fun w => { w with restSto := new })).refreshOuts
    let d := d.each (maskList 4 (nminus new old)) Dev.applySto
    d.each ((d.axisList).filter (fun n => nbit (stoGroup n) old && !nbit (stoGroup n) new)) (fun d n =>
      d.modPw n (fun p => { p with sto := d.stoDemanded (stoGroup n) }))

/-! ### Entry -/

/-- The axes take their rest states: de-fluxed and brake-held axes leave HOLD for PARKED (R62, 06 R190). -/
def Dev.restAxes (d : Dev) : Dev :=
  d.each (d.wake.rests.map (·.1)) (fun d n =>
    let st := AList.get 0 d.wake.rests n
    if d.lead n ≠ n ∨ st < 2 ∨ (d.ax n).state ≠ .hold then d else d.parkModel n (st == 3) none 6)

/-- The models that a rest entry is taking out of HOLD, where no command has joined their park. -/
def Dev.entryParks (d : Dev) : List Nat :=
  d.leads.filter (fun n => (d.ax n).state == .hold &&
    match (d.wav n).park with | some p => p.cause == 6 && p.cmds.isEmpty | none => false)

/-- The device goes into VIGIL: its bypass closes, CAN leaves the bus, the modulator clocks are held low, Turret is off (R61, 05 R144,
14 R412, 15 R447). -/
def Dev.intoVigil (d : Dev) : Dev :=
  let d := (d.enterMode .vigil 3).canVigil.sdStops
  let d := if d.asksRoot then d.bypass else d
  let d := d.each d.axisList (fun d n => (d.modMo n (fun m => { m with msLoss := true })).wr (A.PT_MSTEP n) 0)
  d.modSaf (fun q => { q with turretOk := false })

/-- REST deepens to VIGIL once every axis has left HOLD (R54, 06 R190). -/
def Dev.restDeepen (d : Dev) : Dev :=
  if d.sys.mode = .rest ∧ d.wake.deepen ∧ d.wake.run.isNone ∧ d.notOff.all (fun n => (d.ax n).state == .parked) then
    ((d.modWake (fun w => { w with deepen := false })).intoVigil).restStoRefresh
  else d

/-- The device enters REST, and VIGIL after it, with rest states for its axes. -/
def Dev.restEnter (d : Dev) (vigil : Bool) (l : List (Nat × Nat)) : Dev :=
  let d := d.modWake (fun w => { w with rests := l, entryBudget := d.budgetField, bypassGrant := none, asked := false, deepen := vigil })
  let d := d.raise Ev.restEntered
  ((d.restAxes.enterMode .rest 3).restStoRefresh).restDeepen

/-- The outcome of the choice: no state fits, the root must be asked first, or a device state with its axes' states. -/
inductive RestChoice where
  | stay
  | ask
  | enter (vigil : Bool) (l : List (Nat × Nat))
  deriving DecidableEq, Repr

/-- The choice of R69, as deep as VIGIL where `deep`. -/
def Dev.restChoice (d : Dev) (deep : Bool) : RestChoice :=
  let shallow : RestChoice := match d.restFit false with | some l => .enter false l | none => .stay
  if deep && d.vigilPossible then
    match d.restFit true with
    | some l =>
      if !d.asksRoot then .enter true l
      else match d.wake.bypassGrant with
        | none => .ask
        | some true => .enter true l
        | some false => shallow
    | none => shallow
  else shallow

/-- The root's answer is used up; a refusal of the bypass shows (R70). -/
def Dev.vigilBlocked (d : Dev) : Dev :=
  let refused := d.wake.bypassGrant == some false
  let d := d.modWake (fun w => { w with bypassGrant := none, asked := false })
  if refused then d.flag A.SYS_WAKE_STATE 5 Ev.vigilRefused else d

/-- The device carries the choice out; a PWR_REST that is answered completes with the mode it entered. -/
def Dev.restDo (d : Dev) (deep : Bool) (cmd : Option Hdr) : Dev :=
  match d.restChoice deep with
  | .ask =>
    let was := d.wake.asked
    let d := d.modWake (fun w => { w with asked := true, restCmd := cmd.map (fun h => (h, if deep then 2 else 3)) })
    if was then d else d.sendPkt 0x16 (d.fld A.FAB_STATUS 17 12) [0]
  | .stay => (d.vigilBlocked).doneWait cmd Code.done [(16, 1, 6)]
  | .enter vigil l => ((d.vigilBlocked).doneWait cmd Code.done [(16, 1, if vigil then 2 else 3)]).restEnter vigil l

/-- REST_ENTRY (R69): the idle time has run out, or a PWR_REST waits for the root's answer that has come. -/
def Dev.restEntry (d : Dev) : Dev :=
  match d.wake.restCmd with
  | some (h, deepest) =>
    let d := d.modWake (fun w => { w with restCmd := none })
    if d.restOk (some h) then d.restDo (deepest == 2) (some h) else d.doneNow h Code.wrongMode
  | none =>
    if d.restOk none && d.past (d.wake.idleSince + msCnt (d.fld A.SYS_WAKE_CFG 23 8)) then d.restDo true none else d

/-- REST_ENTRY. -/
def execRestEntry (s : State) : Host.Outcome State Fault Refusal := s.perform Dev.restEntry

/-- The idle time starts anew while the conditions of R69 do not hold, and an entry that waits for the root's answer is abandoned (R56, R70). -/
def Dev.idleTick (d : Dev) : Dev :=
  let own := d.wake.restCmd.map (·.1)
  if d.restOk own then d
  else (d.modWake (fun w => { w with idleSince := d.time.cnt, restCmd := none, asked := false, bypassGrant := none })).doneWait own Code.wrongMode

/-! ### Waking (R73 to R75) -/

/-- The device is in REST or VIGIL. -/
def Dev.resting (d : Dev) : Bool := d.sys.mode == .rest || d.sys.mode == .vigil

/-- A cause wakes the device from the mode it is in (R73). -/
def wakesFrom (m : Mode) (cause : Nat) : Bool :=
  if m = .rest then cause == 0 || cause == 1 || cause == 2 || cause == 4
  else m == .vigil && (cause == 2 || cause == 3 || cause == 4 || cause == 5)

/-- The logic die is powered again (R67, 14 R408): Turret passes its start-up self-test, the device is ready to join the ring. -/
def Dev.outOfVigil (d : Dev) : Dev :=
  let d := (d.selfTestPass 1).modRing (fun r => { r with ready := true })
  let d := d.each (maskList 32 d.bel.offFlags) (fun d r => d.raise Ev.belfryRuleFlag r)
  let d := d.bel.offEvents.foldl (fun (d : Dev) x => d.raise x.1 x.2) d
  d.modBel (fun b => { b with offFlags := 0, offEvents := [] })

/-- The model that axis `n` leads starts to HOLD from PARKED, as AX_ENABLE does, where its conditions hold (R68, 06 R187); a setting it
cannot start with shows (06 R174, 07 R208). -/
def Dev.restStart (d : Dev) (n : Nat) : Dev :=
  if d.lead n ≠ n ∨ (d.ax n).state ≠ .parked ∨ d.busy n then d
  else if (d.members n).any (fun m => d.stoDemanded (stoGroup m)) then d
  else if (d.members n).any (fun m => !d.startOk m) then d.cfgErrs (d.members n)
  else (d.modAx n (fun c => { c with enable := some { toHold := true, cmd := none, cause := 6 } })).startModel n 6 false

/-- The time of a wake since its cause, µs. -/
def Dev.wakeTime (d : Dev) (r : WakeRun) : Nat := sat 0xFFFFFF ((d.time.cnt - r.start) / 500)

/-- SYS_WAKE_LAST takes the measured time and is judged against the budget at entry (R76). -/
def Dev.wakeLast (d : Dev) (r : WakeRun) : Dev :=
  let t := d.wakeTime r
  let d := d.setFld A.SYS_WAKE_LAST 23 0 t
  if r.budget < t && r.budget ≠ 0xFFFFFF then d.flag A.SYS_WAKE_LAST 31 Ev.wakeOverBudget else d

/-- The measured time ends with the last claimed axis in HOLD (R76). -/
def Dev.wakeMeasure (d : Dev) : Dev :=
  match d.wake.run with
  | some r =>
    match r.awaiting with
    | some l =>
      if l.any (fun n => (d.ax n).state != .hold && d.busy n) then d
      else (d.wakeLast r).modWake (fun w => { w with run := none })
    | none => d
  | none => d

/-- WAKE_DONE (R75): the device is in READY and the axes at rest leave PARKED. -/
def Dev.wakeDone (d : Dev) : Dev :=
  match d.wake.run with
  | some r =>
    if r.awaiting.isSome || !d.resting then d
    else
      let vigil : Bool := d.sys.mode == .vigil
      let back := (d.wake.rests.filter (fun x => decide (2 ≤ x.2))).map (·.1)
      let d := d.enterMode .ready 3
      let d := if vigil then d.outOfVigil.each [0, 1, 2, 3] Dev.demandPairs else d
      let d := (d.modWake (fun w => { w with rests := [], idleSince := d.time.cnt, deepen := false })).restStoRefresh.heldReaction
      let d := d.each back Dev.restStart
      let d := r.cmds.foldl (fun (d : Dev) h => d.doneNow h Code.done [(16, 4, d.wakeTime r)]) d
      let claimed := back.filter (fun n => (d.axisBudget n).isSome)
      let d := d.modWake (fun w => { w with run := some { r with cmds := [], awaiting := some claimed } })
      (d.raise Ev.wakeDone).wakeMeasure
  | none => d

/-- WAKE_DONE. -/
def execWakeDone (s : State) : Host.Outcome State Fault Refusal := s.perform Dev.wakeDone

/-- A cause of a wake during rest entry, while the root's answer is awaited (R77): the entry is aborted and the device stays in READY. -/
def Dev.entryAbort (d : Dev) (cause : Nat) : Dev :=
  let cmd := d.wake.restCmd.map (·.1)
  let d := d.modWake (fun w => { w with restCmd := none, asked := false, bypassGrant := none, idleSince := d.time.cnt })
  ((d.doneWait cmd Code.done [(16, 1, 6)]).setFld A.SYS_WAKE_LAST 27 24 cause).setFld A.SYS_WAKE_LAST 23 0 0

/-- A park of a rest entry is undone: the axis is held at full flux again, its brake lifted (notes/assumptions/150.md). -/
def Dev.parkAbort (d : Dev) (n : Nat) : Dev :=
  let braked := (match (d.wav n).park with | some p => p.brake | none => false)
  let d := d.modWav n (fun w => { w with park := none })
  d.each (d.members n) (fun d m => (if braked then d.brake m true else d).modWav m (fun w => { w with flux := 1 }))

/-- A wake begins (R63, R73): in REST the rest assertion of every group is withdrawn, and an entry still under way is aborted (R77).  A
change at a safety input takes over the cause of a wake from VIGIL. -/
def Dev.wakeUp (d : Dev) (cause : Nat) : Dev :=
  if d.sys.mode = .ready ∧ d.wake.asked then (if cause ≤ 5 then d.entryAbort cause else d)
  else if !wakesFrom d.sys.mode cause then d
  else match d.wake.run with
    | some r =>
      if cause = 5 ∧ r.awaiting.isNone then (d.modWake (fun w => { w with run := some { r with cause } })).setFld A.SYS_WAKE_LAST 27 24 cause
      else d
    | none =>
      let parks := d.entryParks
      let d := d.modWake (fun w => { w with deepen := false, run := some { cause, start := d.time.cnt, budget := w.entryBudget } })
      let d := ((d.setFld A.SYS_WAKE_LAST 27 24 cause).restStoRefresh).each parks Dev.parkAbort
      if parks.isEmpty then d else d.wakeDone

/-- WAKE. -/
def execWake (cause : Nat) (s : State) : Host.Outcome State Fault Refusal := s.perform (fun d => d.wakeUp cause)

/-- RING_WAKE_PATTERN (R73): in VIGIL; while the root's answer to an entry is awaited, the entry is given up (14 R412). -/
def execRingWakePattern (s : State) : Host.Outcome State Fault Refusal := s.perform (fun d => d.wakeUp 3)

/-! ### The choice while resting (R71) -/

/-- From VIGIL to REST (R71, 03 R97): the axes rest as deep as REST lets them, and one in energised hold starts to HOLD. -/
def Dev.vigilToRest (d : Dev) (l : List (Nat × Nat)) : Dev :=
  let d := (d.enterMode .rest 3).outOfVigil
  let d := ((d.modWake (fun w => { w with rests := l })).restStoRefresh).heldReaction
  if d.sys.mode = .rest then d.each ((l.filter (fun x => x.2 == 1)).map (·.1)) Dev.restStart else d

/-- An axis at rest comes to a shallower state; energised hold starts it to HOLD. -/
def Dev.shallower (d : Dev) (l : List (Nat × Nat)) : Dev :=
  let old := d.wake.rests
  let l := l.map (fun x => (x.1, min x.2 (AList.get x.2 old x.1)))
  if l = old then d
  else
    let d := (d.modWake (fun w => { w with rests := l })).restStoRefresh
    let up := (l.filter (fun x => x.2 == 1 && decide (2 ≤ AList.get 1 old x.1))).map (·.1)
    ((d.each up Dev.restStart).setFld A.SYS_WAKE_LAST 27 24 4).raise Ev.restEntered

/-- REST_RECHOICE (R71): a claim or the band in use has changed. -/
def Dev.restRechoice (d : Dev) : Dev :=
  if d.wake.run.isSome || !d.resting then d
  else if d.sys.mode = .vigil then
    match d.restFit true with
    | some _ => d
    | none => match d.restFit false with
      | some l => ((d.vigilToRest l).setFld A.SYS_WAKE_LAST 27 24 4).raise Ev.restEntered
      | none => d.wakeUp 4
  else
    let d := if d.wake.deepen && (d.restFit true).isNone then d.modWake (fun w => { w with deepen := false }) else d
    match d.restFit false with
    | some l => d.shallower l
    | none => d.wakeUp 4

/-- REST_RECHOICE. -/
def execRestRechoice (s : State) : Host.Outcome State Fault Refusal := s.perform Dev.restRechoice

/-! ### Reports and commands (R76, R77) -/

/-- SYS_WAKE_STATE. -/
def Dev.wakeStateWord (d : Dev) : Word :=
  let chosen := if d.sys.mode = .vigil then 2 else if d.sys.mode = .rest then 1 else 0
  BitVec.ofNat 32 (chosen + 4 * d.band + 16 * b2n d.resting + 32 * b2n (d.rb A.SYS_WAKE_STATE 5) + 256 * d.budgetField)

/-- SYS_AX_REST_LO and SYS_AX_REST_HI. -/
def Dev.restWord (d : Dev) (hi : Bool) : Word :=
  if !d.resting then 0
  else BitVec.ofNat 32 ((List.range 16).foldl (fun s i => s + 4 ^ i * AList.get 0 d.wake.rests (i + if hi then 16 else 0)) 0)

/-- PWR_CLAIM at its frame tick: the sender's own pair (R64, R77). -/
def Dev.pwrClaim (d : Dev) (h : Hdr) (budget axes claim : Nat) : Dev :=
  if 2 ^ 24 ≤ budget ∨ 1 < claim ∨ 2 ^ d.axes ≤ axes then d.doneAt h Code.badField
  else
    let d := d.wr (A.SYS_WAKE_BUDGET h.cc) (BitVec.ofNat 32 (budget + 2 ^ 31 * claim))
    let d := d.wr (A.SYS_WAKE_AXES h.cc) (BitVec.ofNat 32 axes)
    (d.doneAt h Code.done [(16, 4, d.budgetField)]).restRechoice

/-- PWR_CLAIM. -/
def execPwrClaim (h : Hdr) (budget axes claim : Nat) (s : State) : Host.Outcome State Fault Refusal :=
  s.perform (fun d => d.command 0x0B01 h (fun d => d.pwrClaim h budget axes claim))

/-- PWR_REST at its frame tick. -/
def Dev.pwrRest (d : Dev) (h : Hdr) (deepest : Nat) : Dev :=
  if (deepest ≠ 2 ∧ deepest ≠ 3) then d.doneAt h Code.badField
  else if !d.restOk (some h) then d.doneAt h Code.wrongMode
  else d.restDo (deepest == 2) (some h)

/-- PWR_REST. -/
def execPwrRest (h : Hdr) (deepest : Nat) (s : State) : Host.Outcome State Fault Refusal :=
  s.perform (fun d => d.command 0x0B02 h (fun d => d.pwrRest h deepest))

/-- PWR_WAKE at its frame tick: DONE when READY is reached; at once where the device does not rest. -/
def Dev.pwrWake (d : Dev) (h : Hdr) (pattern : Nat) : Dev :=
  if 1 < pattern then d.doneAt h Code.badField
  else
    let d := if pattern = 1 && d.isRoot then d.modRing (fun r => { r with wakeLeft := 16 }) else d
    let d := d.wakeUp 0
    match d.wake.run with
    | some r =>
      if r.awaiting.isNone && d.resting then d.modWake (fun w => { w with run := some { r with cmds := r.cmds ++ [h] } })
      else d.doneAt h Code.done [(16, 4, d.wakeTime r)]
    | none => d.doneAt h Code.done [(16, 4, d.fld A.SYS_WAKE_LAST 23 0)]

/-- PWR_WAKE. -/
def execPwrWake (h : Hdr) (pattern : Nat) (s : State) : Host.Outcome State Fault Refusal :=
  s.perform (fun d => d.command 0x0B03 h (fun d => d.pwrWake h pattern))

/-- PWR_QUERY. -/
def Dev.pwrQuery (d : Dev) (h : Hdr) : Dev :=
  d.doneNow h Code.done [(16, 4, d.wakeStateWord.toNat), (20, 4, (d.restWord false).toNat), (24, 4, (d.restWord true).toNat),
    (28, 4, (d.rd A.SYS_WAKE_LAST).toNat)]

/-- PWR_QUERY (R77). -/
def execPwrQuery (h : Hdr) (s : State) : Host.Outcome State Fault Refusal := s.perform (fun d => d.command 0x0B04 h (fun d => d.pwrQuery h))

end Sys2Proof.Machine
end

