-- ==== Sys2Proof/Machine/Belfry.lean ====
section
/-!
DEFINITION. Belfry's inputs, filters, rules and snapshot (03_belfry.md R87 to R98, R105).
-/

namespace Sys2Proof.Machine

/-- Slot `i` of Belfry. -/
def Dev.belSlot (d : Dev) (i : Nat) : BelSlot := AList.get {} d.bel.slots i
/-- Set slot `i`. -/
def Dev.setBelSlot (d : Dev) (i : Nat) (x : BelSlot) : Dev := d.modBel (fun b => { b with slots := AList.put b.slots i x })
/-- Rule `r` of Belfry. -/
def Dev.belRule (d : Dev) (r : Nat) : BelRule := AList.get {} d.bel.rules r
/-- Set rule `r`. -/
def Dev.setBelRule (d : Dev) (r : Nat) (x : BelRule) : Dev := d.modBel (fun b => { b with rules := AList.put b.rules r x })

/-! ### Filters (R91 to R93) -/

/-- The raw code of an analogue input of `uv` µV (R92). -/
def adcCode (uv : Nat) : Nat := min 1023 (uv * 1024 / 1800000)

/-- One step of the first-order filter (R93). -/
def iirStep (y x k : Nat) : Nat := ((y : Int) + ((x : Int) - y) / 2 ^ k).toNat

/-- A digital slot takes one sample `x`, inversion applied; a slot whose filter is rewritten while it is enabled keeps its level and its
last IIR value (notes/assumptions/149.md). -/
def digitalStep (w : Word) (s : BelSlot) (x : Bool) : BelSlot :=
  let v := if x then 1023 else 0
  if !s.started then { started := true, count := 0, level := x, y := v }
  else if bit 7 w then
    let y := iirStep s.y v (field 18 16 w)
    { s with y, level := if 768 ≤ y then true else if y ≤ 256 then false else s.level }
  else if x = s.level then { s with count := 0 }
  else if field 15 8 w ≤ s.count + 1 then { s with level := x, count := 0 }
  else { s with count := s.count + 1 }

/-- An analogue slot takes one raw code. -/
def analogueStep (w : Word) (s : BelSlot) (x : Nat) : BelSlot :=
  if !s.started || !bit 7 w then { s with started := true, y := x } else { s with y := iirStep s.y x (field 18 16 w) }

/-- Slot `i` filters its sample. -/
def Dev.slotSample (d : Dev) (ana0 ana1 : Nat) (i : Nat) : Dev :=
  let w := d.rd (A.BELFRY_IN_CFG i)
  let s := d.belSlot i
  if !bit 5 w then d.setBelSlot i { s with started := false, count := 0 }
  else if i < 16 then
    let c := field 4 0 w
    if d.isOutput c then
      let d := if d.rb A.BELFRY_IN_VAL (16 + i) then d else (d.wb A.BELFRY_IN_VAL (16 + i) true).raiseOn Ev.belfryInputError i
      d
    else
      let s := digitalStep w s (d.rb A.FIELD_RAW c != bit 6 w)
      (d.setBelSlot i s).wb A.BELFRY_IN_VAL i s.level
  else
    let s := analogueStep w s (adcCode (if i = 16 then ana0 else ana1))
    let d := d.setBelSlot i s
    if i = 16 then d.setFld A.BELFRY_ANA_VAL 9 0 s.y else d.setFld A.BELFRY_ANA_VAL 25 16 s.y

/-! ### Rules (R94 to R97) -/

/-- The value of a slot: its level, or its code. -/
def Dev.slotValue (d : Dev) (i : Nat) : Nat := if i < 16 then b2n (d.belSlot i).level else (d.belSlot i).y

/-- The sample period in force, ms (R90). -/
def Dev.belPeriod (d : Dev) : Nat := if d.fld A.BELFRY_CFG 2 1 = 0 then 1 else if d.fld A.BELFRY_CFG 2 1 = 1 then 4 else 10

/-- The own condition of a rule after a sample, with its working state (R95).  The level before the first sample of a slot counts as low
for the edges of COUNT (notes/assumptions/149.md). -/
def Dev.ownCondition (d : Dev) (w : Word) (x : BelRule) : BelRule :=
  let slot := field 4 0 w
  let v := d.slotValue slot
  let lv := (d.belSlot slot).level
  let ty := field 6 5 w
  let thr := field 17 8 w
  let h := field 27 18 w
  if ty = 0 then { x with own := lv == bit 8 w }
  else if ty = 1 then { x with own := if thr ≤ v then true else if v + h < thr then false else x.own }
  else if ty = 2 then { x with own := if v ≤ thr then true else if thr + h < v then false else x.own }
  else
    let n := field 15 8 w
    let edge := if bit 16 w then x.lastLevel && !lv else !x.lastLevel && lv
    let left := match x.winLeft with | some k => some (k - d.belPeriod) | none => if edge then some (100 * field 27 18 w) else none
    let edges := x.edges + b2n edge
    let nth : Bool := edge && edges == n
    let closing : Bool := left == some 0
    let own : Bool := left.isSome && decide (n ≤ edges) && (!closing || nth)
    { x with own, lastLevel := lv, winLeft := if closing then none else left, edges := if left.isNone ∨ closing then 0 else edges }

/-- RULE_FIRE (R95, R97, R98): the log, bell and flag actions of rule `r`; the wake is the sample's. -/
def Dev.ruleFire (d : Dev) (r value : Nat) : Dev :=
  let act := d.rd (A.BELFRY_RULE_ACT r)
  let d := if bit 2 act then d.logWrite 1 r value else d
  let d := if bit 3 act then d.wb A.BELFRY_BELL 0 true else d
  if bit 4 act then
    let d := d.wb A.BELFRY_FLAGS r true
    if d.logicOff then d.modBel (fun b => { b with offFlags := nset r b.offFlags }) else d.raise Ev.belfryRuleFlag r
  else d

/-- The rules in order (R96): the rules that have fired so far, and the device. -/
def Dev.ruleStep (acc : List Nat × Dev) (r : Nat) : List Nat × Dev :=
  let d := acc.2
  let w := d.rd (A.BELFRY_RULE_COND r)
  let x := d.belRule r
  if !bit 31 w then (acc.1, (d.setBelRule r { lastLevel := (d.belSlot (field 4 0 w)).level }).wb A.BELFRY_RULE_STATE r false)
  else
    let edge := if bit 16 w then x.lastLevel && !(d.belSlot (field 4 0 w)).level else !x.lastLevel && (d.belSlot (field 4 0 w)).level
    let y := d.ownCondition w x
    let eff := y.own && (!bit 7 w || (decide (0 < r) && d.rb A.BELFRY_RULE_STATE (r - 1)))
    let d := (d.setBelRule r { y with prev := eff }).wb A.BELFRY_RULE_STATE r eff
    if eff && !x.prev then
      (acc.1 ++ [r], d.ruleFire r (if field 6 5 w = 3 then x.edges + b2n edge else d.slotValue (field 4 0 w)))
    else (acc.1, d)

/-- The wake of a sample's rules (R97): the deeper wake of those that fired. -/
def Dev.ruleWake (d : Dev) (fired : List Nat) : Dev :=
  if fired.any (fun r => d.fld (A.BELFRY_RULE_ACT r) 1 0 == 2) then d.wakeUp 2
  else
    let rest := fired.filter (fun r => d.fld (A.BELFRY_RULE_ACT r) 1 0 == 1)
    if rest.isEmpty || d.sys.mode != .vigil || d.wake.run.isSome then d
    else
      let l := match d.restFit false with | some l => l | none => d.wake.rests
      let d := (d.modWake (fun w => { w with rules := rest })).setFld A.SYS_WAKE_LAST 27 24 2
      (d.vigilToRest l).raise Ev.restEntered

/-- BELFRY_SAMPLE (R96): Belfry filters its enabled slots and evaluates its rules in order. -/
def Dev.belSample (d : Dev) (ana0 ana1 : Nat) : Dev :=
  if !d.rb A.BELFRY_CFG 0 || d.bel.stopped || d.pwr.vsysAbsent then d
  else
    let d := d.each (List.range 18) (Dev.slotSample · ana0 ana1 ·)
    let x := (List.range 32).foldl Dev.ruleStep ([], d)
    let d := x.2.modWake (fun w => { w with rules := w.rules.filter (fun r => x.2.rb A.BELFRY_RULE_STATE r) })
    d.ruleWake x.1

/-- BELFRY_SAMPLE: the µV of BAIN0 and BAIN1 as the converter sees them. -/
def execBelfrySample (ana0 ana1 : Nat) (s : State) : Host.Outcome State Fault Refusal := s.perform (fun d => d.belSample ana0 ana1)

/-! ### Snapshot (R105) -/

/-- The snapshot at a VSYS warning crossing. -/
def Dev.snapshot (d : Dev) : Dev :=
  let b := d.bel
  ({ d with bel := { b with snap := some (b.slots, b.rules, d.rd A.BELFRY_LOG_WP, d.rd A.BELFRY_LOG_RP) } }).wb A.BELFRY_SNAP_STATUS 0 true

/-- The dip has ended: the snapshot is discarded. -/
def Dev.snapDrop (d : Dev) : Dev := (d.modBel (fun b => { b with snap := none })).wb A.BELFRY_SNAP_STATUS 0 false

/-- Belfry resumes from its snapshot: every COUNT window closes. -/
def Dev.snapResume (d : Dev) : Dev :=
  match d.bel.snap with
  | none => d.modBel (fun b => { b with stopped := false })
  | some (slots, rules, wp, rp) =>
    let rules := rules.map (fun x => (x.1, { x.2 with edges := 0, winLeft := none }))
    let d := d.modBel (fun b => { b with slots, rules, snap := none, stopped := false, restoredPending := true })
    let d := (d.wr A.BELFRY_LOG_WP wp).wr A.BELFRY_LOG_RP rp
    (d.wb A.BELFRY_SNAP_STATUS 0 false).wb A.BELFRY_SNAP_STATUS 1 true

/-- A power-on reset of the Belfry retention domain (R88): its registers at their reset values, the log empty, the contents of the
retention area free and its entries invalid. -/
def Dev.belPor (d : Dev) : Dev :=
  let d := { d with regs := d.regs.filter (fun c => !(0x30000 ≤ c.1 && c.1 < 0x3E000)), bel := {} }
  let d := { d with mem := d.mem.filter (fun c => !(0x20000 ≤ c.1 && c.1 < 0x30000)) }
  d

end Sys2Proof.Machine
end

