-- ==== Sys2Proof/Machine/SafCfg.lean ====
section
/-!
DEFINITION. The safety configuration and its unlock (11_safety.md R311, R330).
-/

namespace Sys2Proof.Machine

/-- Word of the image at an offset of the SAFETY block. -/
def imgW (img : List Byte) (off : Nat) : Word := BitVec.ofNat 32 (leAt img (off - 0x1000) 4)

/-- A field lies outside a range. -/
def outside (lo hi x : Nat) : Bool := decide (x < lo) || decide (hi < x)

/-- The index of `off` in an array of `n` entries from `base` on, `stride` apart. -/
def arrayIx (base stride n off : Nat) : Option Nat :=
  if base ≤ off ∧ off < base + stride * n ∧ (off - base) % stride = 0 then some ((off - base) / stride) else none

/-- The word at `off` of an image's words holds a reserved encoding or lies at an undefined offset and is not 0 (R311, reason 0x02). -/
def safReserved (img : Nat → Word) (off : Nat) : Bool :=
  let w := img off
  let f (hi lo : Nat) := field hi lo w
  if off = 0x1000 then outside 300 5000 (f 12 0) || f 15 13 != 0 || outside 1 300 (f 24 16) || f 31 27 != 0
  else if (arrayIx 0x1040 4 16 off).isSome then
    f 1 0 == 3 || decide (4 < f 4 2) || decide (4 < f 7 5) || (f 1 0 != 0 && f 23 16 == 0) || decide (13 < f 27 24)
  else if off = 0x1080 then outside 10 255 (f 7 0) || outside 2 16 (f 12 8) || f 31 13 != 0
  else if (arrayIx 0x10A0 4 8 off).isSome then bit 2 w || decide (15 < f 12 8) || f 31 14 != 0
  else match arrayIx 0x10C0 4 8 off with
  | some j => f 31 24 != 0 || (bit 13 (img (0x10A0 + 4 * j)) && (f 11 0 == 0 || f 23 12 == 0))
  | none =>
    if (arrayIx 0x1100 4 4 off).isSome then f 3 2 != 0 || bit 7 w || f 31 24 != 0 || (f 1 0 != 0 && f 23 16 == 0)
    else if (arrayIx 0x1120 8 8 off).isSome then bit 7 w || f 31 14 != 0
    else if (arrayIx 0x1124 8 8 off).isSome then false
    else if (arrayIx 0x1160 8 4 off).isSome then decide (6 < f 9 6) || (bit 5 w && f 31 10 == 0)
    else if (arrayIx 0x1164 8 4 off).isSome then f 31 22 != 0
    else if (arrayIx 0x1180 4 4 off).isSome then f 15 8 != 0 || f 31 17 != 0
    else if 0x1200 ≤ off ∧ off < 0x1300 then
      let g := (off - 0x1200) / 0x40
      let k := (off - 0x1200) % 0x40
      if k = 0x2C ∨ k = 0x3C then f 31 24 != 0
      else if k = 0x30 then f 31 28 != 0
      else if k = 0x38 then
        f 31 24 != 0 || (bit 6 (img (0x1180 + 4 * g)) && (outside 1 50 (f 7 0) || outside 1 60 (f 15 8) || f 23 16 == 0))
      else false
    else if (arrayIx 0x1300 4 32 off).isSome then f 31 6 != 0
    else if (arrayIx 0x1380 4 32 off).isSome ∨ off = 0x1FFC then false
    else w != 0

/-- The word at `off` fails a consistency check (R311, reason 0x03). -/
def safInconsistent (is4016 : Bool) (img : Nat → Word) (off : Nat) : Bool :=
  let w := img off
  let f (hi lo : Nat) := field hi lo w
  let grpCfg (g : Nat) := img (0x1100 + 4 * g)
  let val (a : Nat) : Rat := f32Val (img a)
  let par (g k : Nat) : Rat := val (0x1200 + 0x40 * g + k)
  let pairs (func g : Nat) : Bool := (List.range 16).any (fun i =>
    let x := img (0x1040 + 4 * i)
    field 1 0 x != 0 && field 27 24 x == func && bit (28 + g) x)
  if (arrayIx 0x1040 4 16 off).isSome then is4016 && f 1 0 != 0 && f 31 30 != 0
  else if (arrayIx 0x10A0 4 8 off).isSome then
    (is4016 && f 1 0 != 0 && f 7 6 != 0) || (bit 13 w && field 27 24 (img (0x1040 + 4 * f 12 8)) != 13)
  else match arrayIx 0x1100 4 4 off with
  | some g => is4016 && decide (2 ≤ g) && f 1 0 != 0
  | none => match arrayIx 0x1120 8 8 off with
  | some _ => is4016 && bit 5 w && decide (16 ≤ f 4 0)
  | none => match arrayIx 0x1160 8 4 off with
  | some g => is4016 && bit 5 w && (decide (16 ≤ f 4 0) || decide (2 ≤ g))
  | none => match arrayIx 0x1180 4 4 off with
  | some g => f 7 0 != 0 && (field 1 0 (grpCfg g) == 0 || (is4016 && decide (2 ≤ g)))
  | none =>
    if 0x1200 ≤ off ∧ off < 0x1300 then
      let g := (off - 0x1200) / 0x40
      let k := (off - 0x1200) % 0x40
      if 0x08 ≤ k ∧ k < 0x18 then
        let i := (k - 8) / 4
        let chosen := (i % 2 == 0 || pairs 4 g) && (decide (i < 2) || pairs 5 g)
        bit 0 (img (0x1180 + 4 * g)) && chosen && !(decide (par g 0 < par g k) && decide (par g k ≤ par g 4))
      else if k = 0x18 ∨ k = 0x1C then decide (par g 4 < par g k)
      else false
    else match arrayIx 0x1300 4 32 off with
    | some n => (bit 5 w && field 1 0 (img (0x10A0 + 4 * f 4 2)) != 1) || (is4016 && decide (16 ≤ n) && w != 0)
    | none => match arrayIx 0x1380 4 32 off with
      | some n =>
        let m := field 1 0 (grpCfg (n / 8))
        field 1 0 (img (0x1300 + 4 * n)) == 1 && (m == 1 || m == 2) && !(f32Finite w && decide (0 < f32Rat w))
      | none => false

/-- The offsets of the image's words. -/
def safOffsets : List Nat := (List.range 1024).map (fun i => 0x1000 + 4 * i)

/-- The reason an image is refused, with the offset of the first word at fault, and its CRC (R311). -/
def Dev.safJudge (d : Dev) (image : Option (List Byte)) (keepSame : Bool) : Option (Nat × Nat) × Nat :=
  match image with
  | none => (some (0x05, 0), 0)
  | some img =>
    let crc := ofLe (leBytes 4 (crc32c (img.take 0xFFC)))
    if leAt img 0xFFC 4 ≠ crc then (some (0x01, 0x1FFC), crc)
    else if !keepSame then (some (0x04, 0), crc)
    else match safOffsets.find? (safReserved (imgW img)) with
      | some o => (some (0x02, o), crc)
      | none => match safOffsets.find? (safInconsistent d.sys.is4016 (imgW img)) with
        | some o => (some (0x03, o), crc)
        | none => (none, crc)

/-- The unlock window is open. -/
def Dev.windowOpen (d : Dev) : Bool :=
  match d.saf.windowEnd with
  | some e => decide (d.time.cnt < e)
  | none => false

/-- The unlock window closes. -/
def Dev.windowClose (d : Dev) : Dev := (d.modSaf (fun q => { q with windowEnd := none })).wb A.SAF_UNLOCK_STATUS 0 false

/-- SAF_CFG_LOAD's conditions. -/
def Dev.safCfgCheck (d : Dev) (h : Hdr) : Verdict :=
  firstFail [(h.mask != 0, Code.badField),
    (d.sys.mode != .configure || d.axisList.any (fun n => (d.ax n).state != .off && (d.ax n).state != .parked), Code.wrongMode),
    (!d.windowOpen, Code.safetyBlocked)]

/-- Both channels switch to an image (R311): pairs and demands are judged anew. -/
def Dev.safSwitch (d : Dev) (img : List Byte) : Dev :=
  let d := d.wrAll (safOffsets.filterMap (fun o => if safReserved (imgW img) o then none else some (0x140000 + o, imgW img o)))
  let d := d.wb A.SAF_STATUS 0 true
  let d := d.each (List.range 16) (fun d i =>
    let p := AList.get ({} : PairSt) d.saf.pairs i
    d.setPair i { p with disc := if d.discrepant i && !p.faulted then some d.time.cnt else none })
  let d := d.each [0, 1, 2, 3] Dev.demandPairs
  d.raise Ev.safCfgLoaded

/-- SAF_CFG_LOAD at its frame tick: `image` as the device read it, `keepSame` that Keep's copy gave Turret's result. -/
def Dev.safCfgLoad (d : Dev) (h : Hdr) (image : Option (List Byte)) (keepSame : Bool) : Dev :=
  match d.safCfgCheck h with
  | some v => d.doneAt h v.1 v.2
  | none =>
    let r := d.safJudge image keepSame
    let d := d.windowClose
    match r.1 with
    | some x => d.doneAt h Code.cfgRejected [(16, 4, r.2), (20, 2, x.2), (22, 1, x.1)]
    | none => (match image with | some img => d.safSwitch img | none => d).doneAt h Code.done [(16, 4, r.2)]

/-- SAF_CFG_LOAD (R311). -/
def execSafCfgLoad (h : Hdr) (image : Option (List Byte)) (keepSame : Bool) (s : State) : Host.Outcome State Fault Refusal :=
  s.perform (fun d => d.command 0x0701 h (fun d => d.safCfgLoad h image keepSame))

/-! ### The unlock (R330) -/

/-- A sequence is void: fails advances; at 8 the unlock is locked. -/
def Dev.unlockFail (d : Dev) : Dev :=
  let d := (d.modSaf (fun q => { q with keyAt := none })).incSat A.SAF_UNLOCK_STATUS 5 2
  if 8 ≤ d.fld A.SAF_UNLOCK_STATUS 5 2 then
    (d.setFld A.SAF_UNLOCK_STATUS 5 2 8).flag A.SAF_UNLOCK_STATUS 1 Ev.safUnlockFault
  else d

/-- A write of SAF_UNLOCK: `within` that it falls within 256 cycles of the port's clock of the first value. -/
def Dev.safUnlock (d : Dev) (v : Word) (within : Bool) : Dev :=
  let k := field 15 0 v
  if d.rb A.SAF_UNLOCK_STATUS 1 then d
  else match d.saf.keyAt with
    | none => if k = 0xC35A then d.modSaf (fun q => { q with keyAt := some d.time.cnt }) else d.unlockFail
    | some _ =>
      if k = 0x5AC3 ∧ within then
        (d.modSaf (fun q => { q with keyAt := none, windowEnd := some (d.time.cnt + msCnt 10000) })).wb A.SAF_UNLOCK_STATUS 0 true
      else d.unlockFail

/-- The unlock window runs out. -/
def Dev.safWindowTick (d : Dev) : Dev := if d.saf.windowEnd.isSome && !d.windowOpen then d.windowClose else d

/-- Turret or a command processor is halted inside the window: the sequence is void and fails does not advance. -/
def Dev.unlockVoid (d : Dev) : Dev := (d.modSaf (fun q => { q with keyAt := none })).windowClose

/-! ### The debug halt of Turret (R329) -/

/-- Something the halt must de-energise first: a PWM on, or an output pair energised. -/
def Dev.anyEnergised (d : Dev) : Bool := d.axisList.any (fun n => (d.pw n).on) || d.outMask != 0

/-- Turret is halted by the debug port, after a device reaction where something is energised. -/
def Dev.turretHalt (d : Dev) : Dev :=
  if d.saf.turretHalted then d
  else
    let d := if d.anyEnergised then d.deviceReaction 0x14 true true else d
    let d := (d.unlockVoid).modSaf (fun q => { q with turretHalted := true })
    (d.each d.axisList Dev.stoAxis).refreshOuts.raise Ev.safTurretHalted 1

/-- Turret resumes: it reruns its self-test. -/
def Dev.turretResume (d : Dev) (pass : Bool) : Dev :=
  if !d.saf.turretHalted then d
  else
    let d := d.modSaf (fun q => { q with turretHalted := false })
    let d := if pass then d.selfTestPass 1 else d.channelFault 1
    d.refreshOuts.raise Ev.safTurretHalted 0

/-- TURRET_RESUME (R329). -/
def execTurretResume (pass : Bool) (s : State) : Host.Outcome State Fault Refusal := s.perform (fun d => d.turretResume pass)

end Sys2Proof.Machine
end

