-- ==== Sys2Proof/Machine/SafCmd.lean ====
section
/-!
DEFINITION. Safety resets (11_safety.md R313), the safety commands (R331), the inspection pendant (R324) and inspection tests
(R325 to R328).
-/

namespace Sys2Proof.Machine

/-! ### Status registers -/

/-- The group reaction of `g` is latched (R309). -/
def Dev.grpLatched (d : Dev) (g : Nat) : Bool :=
  (d.sg g).latched || (match (d.sg g).ss1 with | some y => y.latch | none => false)

/-- SAF_STATUS. -/
def Dev.safStatusWord (d : Dev) : Word :=
  let q := d.saf
  BitVec.ofNat 32 (b2n (d.rb A.SAF_STATUS 0) + 2 * b2n q.turretOk + 4 * b2n q.keepOk + 8 * b2n (d.sys.mode == .degraded) +
    16 * b2n q.resetOk + 32 * b2n q.key + 64 * b2n q.insp.isSome + 128 * b2n q.turretHalted + 2 ^ 8 * d.stoMask +
    2 ^ 12 * maskOf ((List.range 4).filter d.grpLatched) + 2 ^ 16 * d.outMask)

/-- The age of a self-test in ms, saturated; 0xFFFF before the first. -/
def Dev.testAge (d : Dev) (t : Option Nat) : Nat :=
  match t with
  | some x => sat 0xFFFF ((d.time.cnt - x) / 500000)
  | none => 0xFFFF

/-- SAF_CH_STATUS. -/
def Dev.safChWord (d : Dev) : Word := BitVec.ofNat 32 (d.testAge d.saf.turretTest + 2 ^ 16 * d.testAge d.saf.keepTest)

/-- SAF_IN_STATE. -/
def Dev.safInWord (d : Dev) : Word :=
  BitVec.ofNat 32 (maskOf ((List.range 16).filter d.pairClosed) +
    2 ^ 16 * maskOf ((List.range 16).filter (fun i => (AList.get ({} : PairSt) d.saf.pairs i).faulted)))

/-- SAF_OUT_STATE. -/
def Dev.safOutWord (d : Dev) : Word := setField 15 8 d.stoLines (d.rd A.SAF_OUT_STATE)

/-- SAF_DEG. -/
def Dev.safDegWord (d : Dev) : Word :=
  let stop := d.saf.degStart + msCnt (1000 * d.fld A.SAF_CFG_GEN 24 16)
  BitVec.ofNat 32 (d.saf.failed + (if d.sys.mode = .degraded then 2 ^ 16 * ((stop - d.time.cnt) / msCnt 1000) else 0))

/-! ### Safety resets (R313) -/

/-- A cause of a reaction of group `g` is present now (notes/assumptions/23.md). -/
def Dev.causePresent (d : Dev) (g code : Nat) : Bool :=
  let v := ratAbs (d.sg g).v
  let x := d.sg g
  let moving := d.speedOn g && decide (d.vZero g < v)
  if code = 0x04 then (d.rb (A.SAF_FN_EN g) 4 && decide (d.osLimit g < v)) || decide (x.keepLimit < x.keepCount)
  else if code = 0x05 then
    decide (x.keepLimit < x.keepCount) || (match d.slsLimit g with | some l => d.rb (A.SAF_FN_EN g) 0 && decide (l < v) | none => false)
  else if 0x06 ≤ code ∧ code ≤ 0x08 ∨ code = 0x0A then moving
  else if code = 0x09 then x.hr.any (·.isSome)
  else if code = 0x0C then
    (List.range 8).any (fun j => d.rb (A.SAF_OUT_CFG j) 13 && bit (4 + g) (d.rd (A.SAF_OUT_CFG j)) && d.fbBad j)
  else if code = 0x0D then (List.range 16).any (fun i => (d.pairGroups i).contains g && d.discrepant i)
  else false

/-- A cause of a reaction arose in the safety cycle that runs (R317): no cycle has run since, and 250 µs have not passed. -/
def Dev.newCause (d : Dev) : Bool :=
  match d.saf.causeAt with
  | some t => decide (d.time.cnt < t + usCnt 250)
  | none => false

/-- What every reset needs: both channels healthy and tested, a valid image, Turret running, and no new cause in the same safety cycle. -/
def Dev.resetReady (d : Dev) : Bool :=
  !d.newCause &&
  d.saf.turretOk && d.saf.keepOk && !d.saf.turretHalted && d.testWithin d.saf.turretTest d.tSt && d.testWithin d.saf.keepTest d.tSt &&
    d.rb A.SAF_STATUS 0

/-- Both channels of pair `i` stand at the closed level of its kind, whether or not its fault is still latched. -/
def Dev.levelsClosed (d : Dev) (i : Nat) : Bool :=
  let p := AList.get ({} : PairSt) d.saf.pairs i
  let k := d.fld (A.SAF_IN_CFG i) 1 0
  (k == 1 && p.a && p.b) || (k == 2 && p.a && !p.b)

/-- Group `g` can be reset: its demand pairs are closed and no cause is present. -/
def Dev.groupClear (d : Dev) (g : Nat) : Bool :=
  (d.pairsOf g 1).all d.levelsClosed && (d.pairsOf g 2).all d.levelsClosed && !(d.sg g).causes.any (d.causePresent g)

/-- SAFE_HOLD can be reset; in RECOVERY the hold of every STO group (16 R465). -/
def Dev.holdClear (d : Dev) : Bool := [0, 1, 2, 3].all d.groupClear

/-- There is a hold to reset. -/
def Dev.holding (d : Dev) : Bool := (d.sys.mode == .safeHold && !d.saf.resetOk) || (d.sys.mode == .recovery && d.saf.deviceSto)

/-- The reaction of group `g` is reset: its demands, its faulted pairs and its outputs' faults whose causes are gone. -/
def Dev.groupReset (d : Dev) (g : Nat) : Dev :=
  let late : Bool := match (d.sg g).ss1 with | some y => y.latch || y.deg || y.rescue | none => false
  let d := d.modSg g (fun x => { x with latched := false, causes := [], latT := false, latK := false, degSto := false, ss1 := if late then none else x.ss1 })
  let d := d.each (List.range 16) (fun d i =>
    if (d.pairGroups i).contains g && !d.discrepant i then d.setPair i { AList.get {} d.saf.pairs i with faulted := false } else d)
  d.each (List.range 8) (fun d j =>
    if bit (4 + g) (d.rd (A.SAF_OUT_CFG j)) && !(d.rb (A.SAF_OUT_CFG j) 13 && d.fbBad j) then d.wb A.SAF_OUT_STATE j false else d)

/-- A safety reset of groups, and of SAFE_HOLD; a pair or output of no group goes with it. -/
def Dev.resetActs (d : Dev) (groups : List Nat) (hold : Bool) : Dev :=
  let d := d.each groups Dev.groupReset
  let d := d.each (List.range 16) (fun d i =>
    if (d.pairGroups i).isEmpty && !d.discrepant i then d.setPair i { AList.get {} d.saf.pairs i with faulted := false } else d)
  let d := d.each (List.range 8) (fun d j => if d.fld (A.SAF_OUT_CFG j) 7 4 = 0 && hold then d.wb A.SAF_OUT_STATE j false else d)
  let d := if hold then
      (if d.sys.mode = .recovery then d.modSaf (fun q => { q with deviceSto := false }) else d.modSaf (fun q => { q with resetOk := true }))
    else d
  let d := d.each [0, 1, 2, 3] Dev.demandPairs
  let d := d.each d.axisList (fun d n => d.modPw n (fun p => { p with sto := d.stoDemanded (stoGroup n) }))
  d.raise Ev.safResetDone

/-- The groups latched whose causes are gone. -/
def Dev.resettable (d : Dev) : List Nat := [0, 1, 2, 3].filter (fun g => d.grpLatched g && d.groupClear g)

/-- The RESET input, or SAF_RESET: SAFE_HOLD and every latched group whose causes are gone; whether it acts. -/
def Dev.fullReset (d : Dev) : Option Dev :=
  let hold := d.holding
  if !d.resetReady then none
  else if hold && !d.holdClear then none
  else if !hold && d.resettable.isEmpty then none
  else some (d.resetActs d.resettable hold)

/-- SAF_RESET at its frame tick. -/
def Dev.safReset (d : Dev) (h : Hdr) : Dev :=
  if h.mask ≠ 0 then d.doneAt h Code.badField
  else if !d.holding && !([0, 1, 2, 3].any d.grpLatched) then d.doneAt h Code.wrongMode [(16, 4, d.safStatusWord.toNat)]
  else match (if d.rb A.SAF_CFG_GEN 25 then d.fullReset else none) with
    | none => d.doneAt h Code.safetyBlocked [(16, 4, d.safStatusWord.toNat)]
    | some d => d.doneAt h Code.done [(16, 4, d.safStatusWord.toNat)]

/-- SAF_RESET (R313). -/
def execSafReset (h : Hdr) (s : State) : Host.Outcome State Fault Refusal := s.perform (fun d => d.command 0x0702 h (fun d => d.safReset h))

/-- SAF_GRP_RESET at its frame tick. -/
def Dev.safGrpReset (d : Dev) (h : Hdr) (mask : Nat) : Dev :=
  let gs := (maskList 4 mask).filter d.grpLatched
  if h.mask ≠ 0 ∨ 16 ≤ mask then d.doneAt h Code.badField
  else if !d.rb A.SAF_CFG_GEN 25 || !d.resetReady || !(maskList 4 mask).all d.groupClear then d.doneAt h Code.safetyBlocked
  else if gs.isEmpty then d.doneAt h Code.done [(16, 1, 0)]
  else (d.resetActs gs false).doneAt h Code.done [(16, 1, maskOf gs)]

/-- SAF_GRP_RESET (R313). -/
def execSafGrpReset (h : Hdr) (mask : Nat) (s : State) : Host.Outcome State Fault Refusal :=
  s.perform (fun d => d.command 0x0703 h (fun d => d.safGrpReset h mask))

/-! ### SAF_STO, SAF_SDI, SAF_RESCUE_DONE, SAF_QUERY, SAF_KEY_SIGN -/

/-- SAF_STO at its frame tick: a demand that is not latched, or its withdrawal. -/
def Dev.safSto (d : Dev) (h : Hdr) (mask on : Nat) : Dev :=
  if h.mask ≠ 0 ∨ 16 ≤ mask ∨ 2 ≤ on then d.doneAt h Code.badField
  else
    let d := d.each (maskList 4 mask) (fun d g =>
      if on = 0 then d.modSg g (fun x => { x with cmdSto := false })
      else if (d.sg g).cmdSto then d
      else d.stoDemand g 0x12 true true (fun x => { x with cmdSto := true }))
    let d := d.refreshOuts
    let d := d.each d.axisList (fun d n => d.modPw n (fun p => { p with sto := d.stoDemanded (stoGroup n) }))
    d.doneAt h Code.done [(16, 1, maskOf ((List.range 4).filter (fun g => (d.sg g).cmdSto)))]

/-- SAF_STO (R314). -/
def execSafSto (h : Hdr) (mask on : Nat) (s : State) : Host.Outcome State Fault Refusal :=
  s.perform (fun d => d.command 0x0704 h (fun d => d.safSto h mask on))

/-- SAF_SDI at its frame tick. -/
def Dev.safSdi (d : Dev) (h : Hdr) (g dir : Nat) : Dev :=
  if h.mask ≠ 0 ∨ 4 ≤ g ∨ 3 ≤ dir then d.doneAt h Code.badField
  else if !d.rb (A.SAF_FN_EN g) 2 then d.doneAt h Code.wrongMode
  else (d.modSg g (fun x => { x with sdi := dir, sdiFrom := x.pos })).doneAt h Code.done [(16, 1, dir)]

/-- SAF_SDI (R314). -/
def execSafSdi (h : Hdr) (g dir : Nat) (s : State) : Host.Outcome State Fault Refusal :=
  s.perform (fun d => d.command 0x0705 h (fun d => d.safSdi h g dir))

/-- SAF_RESCUE_DONE at its frame tick: DEGRADED ends in SAFE_HOLD (R321). -/
def Dev.safRescueDone (d : Dev) (h : Hdr) : Dev :=
  if h.mask ≠ 0 then d.doneAt h Code.badField
  else if d.sys.mode ≠ .degraded then d.doneAt h Code.wrongMode
  else
    let ms := d.msSince d.saf.degStart
    (d.deviceReaction 0x15 true true).doneAt h Code.done [(16, 4, ms)]

/-- SAF_RESCUE_DONE. -/
def execSafRescueDone (h : Hdr) (s : State) : Host.Outcome State Fault Refusal :=
  s.perform (fun d => d.command 0x0706 h (fun d => d.safRescueDone h))

/-- SAF_QUERY. -/
def Dev.safQuery (d : Dev) (h : Hdr) : Dev :=
  if h.mask ≠ 0 then d.doneNow h Code.badField
  else d.doneNow h Code.done [(16, 4, d.safStatusWord.toNat), (20, 4, (d.rd A.SAF_CAUSE).toNat), (24, 4, d.safDegWord.toNat), (28, 4, d.safChWord.toNat)]

/-- SAF_QUERY (R331). -/
def execSafQuery (h : Hdr) (s : State) : Host.Outcome State Fault Refusal := s.perform (fun d => d.command 0x0709 h (fun d => d.safQuery h))

/-- The 64 bytes of a signature r, s over a message with the unit key, little-endian (R327, R328). -/
def unitSign (m : List Byte) : List Byte := (List.range 64).map (Config.signByte m)

/-- SAF_KEY_SIGN at its frame tick: a challenge of 32 bytes signed with the unit key. -/
def Dev.safKeySign (d : Dev) (h : Hdr) (challenge : List Byte) (dest : Nat) : Dev :=
  if h.mask ≠ 0 then d.doneAt h Code.badField
  else if !d.saf.key then d.doneAt h Code.wrongMode
  else (d.hostPut dest (unitSign (bytesAt challenge 0 32))).doneAt h Code.done

/-- SAF_KEY_SIGN (R328). -/
def execSafKeySign (h : Hdr) (challenge : List Byte) (dest : Nat) (s : State) : Host.Outcome State Fault Refusal :=
  s.perform (fun d => d.command 0x0708 h (fun d => d.safKeySign h challenge dest))

/-! ### The pendant (R324) -/

/-- The key of group `g` is closed. -/
def Dev.keyClosed (d : Dev) (g : Nat) : Bool := d.funcClosed g 6

/-- The order of group `g`'s pendant: 1 up, -1 down, 0 stop. -/
def Dev.pendantOrder (d : Dev) (g : Nat) : Int :=
  match d.funcClosed g 7, d.funcClosed g 8 with
  | true, false => 1
  | false, true => -1
  | _, _ => 0

/-- The pendant of axis `n`'s group orders motion or a stop at this frame tick: it outranks every command (01 R48). -/
def Dev.pendantHeld (d : Dev) (n : Nat) : Bool :=
  let g := stoGroup n
  d.sys.mode == .inspection && d.fld (A.SAF_AX_CFG n) 1 0 == 1 && d.keyClosed g && (d.pendantOrder g != 0 || (d.sg g).pendant != 0)

/-- PROF_VEL of one axis as the pendant orders it, at dir × V_INSP / SAF_AX_SCALE. -/
def Dev.pendantVel (d : Dev) (g n : Nat) (dir : Int) : Dev :=
  let h : Hdr := { mask := 2 ^ n, pendant := true }
  let v := ratDiv ((dir : Rat) * f32Val (d.rd (A.SAF_V_INSP g))) (f32Val (d.rd (A.SAF_AX_SCALE n)))
  let b := putAt (List.replicate 64 (0 : Byte)) 20 (leBytes 4 (f32Of v).toNat)
  match d.profVelCheck h b false with
  | some _ => d
  | none => d.order 0x0304 h b

/-- The pendants and keys of INSPECTION at a frame tick. -/
def Dev.pendantFrame (d : Dev) : Dev :=
  d.each [0, 1, 2, 3] (fun d g =>
    let x := d.sg g
    let key := d.sys.mode == .inspection && d.keyClosed g
    let o := if key then d.pendantOrder g else 0
    let d := if d.sys.mode ≠ .inspection then d
      else if x.keyWas && !key then d.each (d.axisList.filter (fun n => stoGroup n == g)) (fun d n => d.startRamp n d.sys.lastFrame 0)
      else if !key || o = x.pendant then d
      else if o = 0 then d.each (d.travelAxes g) (fun d n => d.startRamp n d.sys.lastFrame 0)
      else d.each (d.travelAxes g) (fun d n => d.pendantVel g n o)
    d.modSg g (fun x => { x with pendant := o, keyWas := key }))

/-! ### Inspection tests (R325) -/

/-- The conditions of SAF_INSP_TEST on its parameter block. -/
def Dev.inspCheck (d : Dev) (h : Hdr) (block : Option (List Byte)) : Verdict :=
  match block with
  | none => some (Code.hostMemory, [])
  | some b =>
    let ty := byteAt b 0
    let g := byteAt b 1
    let n := byteAt b 2
    let c := d.ax n
    firstFail [(h.mask != 0, Code.badField),
      (d.sys.mode != .inspection || d.saf.insp.isSome || !d.saf.key, Code.wrongMode),
      (ty == 0 || decide (4 < ty) || decide (4 ≤ g) || decide (d.axes ≤ n) || byteAt b 3 != 0 || (ty == 1 && decide (8 ≤ byteAt b 8)) ||
        (ty == 4 && decide (2 ≤ byteAt b 8)), Code.badField),
      (!d.keyClosed g || (ty == 1 && c.state != .hold) || (ty == 4 && c.state != .move) ||
        (ty == 3 && !(d.funcClosed g 9 && decide (ratAbs (d.sg g).v ≤ d.vZero g))), Code.wrongMode),
      (ty == 2 && !(decide (d.vZero g < f32Val (f32At b 8)) && decide (f32Val (f32At b 8) ≤ f32Val (d.rd (A.SAF_V_OS g)))), Code.badField)]

/-- SAF_INSP_TEST at its frame tick: Oculus is configured and the test begins. -/
def Dev.safInspTest (d : Dev) (h : Hdr) (block : Option (List Byte)) (dest : Nat) : Dev :=
  match d.inspCheck h block, block with
  | some v, _ => d.doneAt h v.1 v.2
  | none, none => d
  | none, some b =>
    let n := byteAt b 2
    let g := byteAt b 1
    let sel (k : Nat) : Word := BitVec.ofNat 32 (k + 2 ^ 8 * n)
    let d := d.wrAll [(A.OCU_CH 0, sel 0x1A), (A.OCU_CH 1, sel 0x1B), (A.OCU_CH 2, sel 0x05), (A.OCU_CH 3, BitVec.ofNat 32 (0x40 + 2 ^ 16))]
    let d := d.setFld A.OCU_CFG 31 16 0xF
    let i : InspSt := { cmd := h, block := bytesAt b 0 128, dest, start := d.time.cnt, startTime := d.sys.lastFrame }
    let d := d.modSaf (fun q => { q with insp := some i })
    match byteAt b 0 with
    | 1 => (d.setOutp (byteAt b 8) { d.outp (byteAt b 8) with wish := false }).refreshOuts
    | 4 => if byteAt b 8 = 0 then d.groupReaction g 0x12 true true else d.startSs1 g 0x02 true false true true
    | _ => d

/-- SAF_INSP_TEST. -/
def execSafInspTest (h : Hdr) (block : Option (List Byte)) (dest : Nat) (s : State) : Host.Outcome State Fault Refusal :=
  s.perform (fun d => d.command 0x0707 h (fun d => d.safInspTest h block dest))

/-- The ramp of a brake-torque test: it begins once the feedback of its output has closed, and the pair is energised again at its
end. -/
def Dev.inspTick (d : Dev) : Dev :=
  match d.saf.insp with
  | none => d
  | some i =>
    if byteAt i.block 0 ≠ 1 ∨ i.lifted then d
    else
      let j := byteAt i.block 8
      match i.rampAt with
      | none => if (d.outp j).on || (d.rb (A.SAF_OUT_CFG j) 13 && d.fbBad j) then d
        else d.modSaf (fun q => { q with insp := some { i with rampAt := some d.time.cnt } })
      | some t =>
        if t + msCnt (2 * leAt i.block 16 2 + leAt i.block 18 2) ≤ d.time.cnt then
          let d := d.modSaf (fun q => { q with insp := some { i with lifted := true } })
          (d.setOutp j { d.outp j with wish := true }).refreshOuts
        else d

/-- Metric `k` as a number; an unused or missing one reads 0x7FC0_0000. -/
def metric (m : List F32) (k : Nat) : F32 := m.getD k f32NanPattern

/-- The failed checks of a test from its metrics (R325). -/
def Dev.inspChecks (d : Dev) (b : List Byte) (m : List F32) : Nat :=
  let g := byteAt b 1
  let v (k : Nat) : Rat := f32Val (metric m k)
  let none_ (k : Nat) : Bool := !f32Finite (metric m k)
  let lim : Rat := f32Val (f32At b 8)
  let tg := mkRat (2 ^ d.fld (A.SAF_KEEP_OS g) 9 6) 1
  match byteAt b 0 with
  | 1 => b2n (decide (((d.fld (A.SAF_OUT_TIME (byteAt b 8)) 11 0 : Nat) : Rat) < v 0)) + 2 * b2n (decide (v 2 < f32Val (f32At b 28))) +
      4 * b2n (decide (((leAt b 20 4 : Nat) : Rat) < v 3))
  | 2 => b2n (none_ 0) + 2 * b2n (none_ 1) + 4 * b2n (!none_ 0 && decide (mkRat 51 100 + ratDiv 1000 lim < v 2)) +
      8 * b2n (!none_ 1 && decide (2 * tg + mkRat 11 1000 < v 3))
  | 3 => b2n (decide ((((d.fld (A.SAF_UCM_DIST g) 23 0 + 1 : Nat)) : Rat) < v 0)) + 2 * b2n (decide (((leAt b 8 4 : Nat) : Rat) < v 1))
  | _ => b2n (decide (v 1 < f32Val (f32At b 12))) + 2 * b2n (decide (f32Val (f32At b 16) < v 1))

/-- `n` free bytes. -/
def Dev.freeBytes (d : Dev) (n : Nat) : List Byte := (List.range n).map (fun i => BitVec.ofNat 8 (Config.free (d.free + i)))

/-- The first 1984 bytes of an inspection record (R326); what the Oculus record gives is free (notes/assumptions/24.md). -/
def Dev.inspRecord (d : Dev) (i : InspSt) (aborted : Bool) (seq : Nat) (m : List F32) (verdict checks : Nat) : List Byte :=
  let slot := d.upd.running
  let flags := b2n (d.rb A.BELFRY_BKP_STATUS 4) + 2 * b2n i.stepped + 4 * b2n aborted
  let open_ := d.freeBytes 1560
  let metrics := (List.range 32).flatMap (fun k => leBytes 4 (metric m k).toNat)
  leBytes 4 0x52495A42 ++ leBytes 2 1 ++ leBytes 2 0x0800 ++ leBytes 6 seq ++ leBytes 2 0 ++
    d.uid ++ leBytes 4 (d.rd A.SYS_DEV_ID).toNat ++
    leBytes 4 (d.rd A.SYS_REV).toNat ++ leBytes 4 (d.slotOf slot).sv ++ leBytes 4 (d.updBuildWord slot).toNat ++
    leBytes 4 (d.rd A.SAF_CFG_CRC).toNat ++ leBytes 1 d.node ++ leBytes 1 flags ++ leBytes 1 (byteAt i.block 0) ++ leBytes 1 (byteAt i.block 1) ++
    leBytes 8 i.startTime ++ leBytes 8 d.now ++ leBytes 8 d.pwr.rtc ++ leBytes 1 verdict ++ leBytes 1 (byteAt i.block 2) ++ leBytes 2 0 ++
    leBytes 4 checks ++ bytesAt i.block 0 128 ++ metrics ++ leBytes 4 (d.rd A.OCU_REC_SEQ).toNat ++ open_.take 24 ++
    leBytes 4 0 ++ open_.drop 24 ++ List.replicate 72 0

/-- INSP_TEST_END (R325 to R327): the test's sequence has run to its end (`finished`), or it is cut by its time limit or by what
aborts it; `commitOk` that the record number was committed. -/
def Dev.inspEnd (d : Dev) (metrics : List F32) (finished commitOk : Bool) : Dev :=
  match d.saf.insp with
  | none => d
  | some i =>
    let late := decide (i.start + msCnt (leAt i.block 4 4) ≤ d.time.cnt)
    if (finished && i.aborted) || (!finished && !i.aborted && !late) then d
    else
      let d := d.modSaf (fun q => { q with insp := none, recSeq := (q.recSeq + 1) % 2 ^ 48 })
      let j := byteAt i.block 8
      let d := if byteAt i.block 0 = 1 && !i.lifted && d.energised (byteAt i.block 2) then (d.setOutp j { d.outp j with wish := true }).refreshOuts
        else d
      let seq := d.saf.recSeq
      let checks := if finished then d.inspChecks i.block metrics else 0
      let verdict := if !finished then 2 else if checks = 0 then 0 else 1
      let res : List (Nat × Nat × Nat) := [(16, 6, seq), (22, 1, verdict), (24, 4, checks)]
      let d := if !commitOk then d.doneNow i.cmd Code.recordFailed res
        else
          let body := d.inspRecord i (!finished) seq metrics verdict checks
          let rec_ := body ++ unitSign body
          let d := ({ d with free := d.free + 1560 } : Dev).setMbs 0x17F800 rec_
          let d := (d.wr64 A.SAF_REC_SEQ_LO seq).wb A.SAF_REC_GEN 0 true
          let d := (d.incWrap A.SAF_REC_GEN 31 16).raise Ev.safRecord
          let d := if i.dest = 0 then d else d.hostPut i.dest rec_
          d.doneNow i.cmd (if finished then Code.done else Code.testAborted) res
      if d.sys.mode = .inspection && d.axisList.all (fun n => let st := (d.ax n).state; st == .off || st == .parked || st == .hold) then
        d.enterMode .ready 0
      else d

/-- INSP_TEST_END. -/
def execInspTestEnd (metrics : List F32) (finished commitOk : Bool) (s : State) : Host.Outcome State Fault Refusal :=
  s.perform (fun d => d.inspEnd metrics finished commitOk)

end Sys2Proof.Machine
end

