-- ==== Sys2Proof/Machine/Reset.lean ====
section
/-!
DEFINITION. Device resets, boot, supplies and dips (02_modes_power_wake.md R54, R57 to R60, R78 to R81; 14_spire_ring_time.md R401, R411,
R424; 17_electrical_package.md R481, R482).
-/

namespace Sys2Proof.Machine

/-! ### The device reset (R58) -/

/-- A register that a device reset keeps: the Belfry retention domain and the backup-cell domain; and the levels at the comparators,
which no register holds (03 R87; 15 R438). -/
def keptReg (a : Nat) : Bool := (decide (0x20000 ≤ a) && decide (a < 0x40000)) || a == A.FIELD_RAW

/-- A byte of memory that it keeps: those of the two domains. -/
def keptMem (a : Nat) : Bool := decide (0x20000 ≤ a) && decide (a < 0x40000)

/-- The device is held in reset: in BYPASS or BACKUP. -/
def Dev.inReset (d : Dev) : Bool := d.sys.mode == .bypass || d.sys.mode == .backup

/-- SYS_RST_CAUSE after a reset with these causes (R57): more causes of a reset in progress add to it, but none to a power-on. -/
def Dev.rstCauses (d : Dev) (bits : Nat) : Word :=
  if !d.inReset then BitVec.ofNat 32 bits
  else if d.rb A.SYS_RST_CAUSE 0 then d.rd A.SYS_RST_CAUSE
  else d.rd A.SYS_RST_CAUSE ||| BitVec.ofNat 32 bits

/-- Firmware update over a device reset: slots, boot record, OTP and TAPs stay; a commit in progress leaves the steps it has made,
which nothing states (16 R459, R461, R463, R475). -/
def Dev.updKept (d : Dev) : Dev :=
  let d := d.updReset
  let d := match d.upd.commit with
    | some _ =>
      let goal := max d.upd.steps (min 64 (d.slotOf d.upd.running).sv)
      let x := d.fresh
      x.2.modUpd (fun u => { u with steps := u.steps + x.1 % (goal - u.steps + 1) })
    | none => d
  d.modUpd (fun u => { ({} : UpdSt) with
    slots := u.slots, recs := u.recs, running := u.running, steps := u.steps, keyOk := u.keyOk, dbg := u.dbg,
    tapLogic := u.tapLogic, tapDrum := u.tapDrum, challenge := u.challenge })

/-- The tick grid begins at the present fabric time (01 R33). -/
def Dev.setGrid (d : Dev) : Dev :=
  d.modSys (fun s => { s with lastFrame := d.now / d.framePeriod * d.framePeriod, tick := d.now / d.loopPeriod })

/-- DEVICE_RESET (R58): commands in flight are gone, every STO line is asserted, the bypass switches close, and every register outside
the two domains is at its reset value. -/
def Dev.deviceReset (d : Dev) (bits : Nat) : Dev :=
  let cause := d.rstCauses bits
  let live := (d.rd A.SYS_SUPPLY_STATUS).toNat % 8 + 16 * b2n (d.rb A.SYS_SUPPLY_STATUS 4)
  let raw := d.rd A.FIELD_RAW
  let vf := field 4 2 (d.rd A.FIELD_STATUS)
  let d := d.updKept
  let n : Dev := {
    regs := d.regs.filter (fun c => keptReg c.1)
    mem := d.mem.filter (fun c => keptMem c.1)
    sys := { is4016 := d.sys.is4016, mode := d.sys.mode, prevMode := d.sys.prevMode, modeCause := d.sys.modeCause, resetN := d.sys.resetN,
             orderedOut := d.sys.orderedOut, recoveryLow := d.sys.recoveryLow }
    time := { cnt := d.time.cnt }
    pwr := { d.pwr with dipOrder := false, suspended := false }
    bel := d.bel
    host := { spi := d.host.spi, attached := d.host.attached, hostNode := d.host.hostNode }
    saf := { recSeq := d.saf.recSeq, scan := d.saf.scan,
             pairs := d.saf.pairs.map (fun x => (x.1, { a := x.2.a, b := x.2.b }))
             groups := d.saf.groups.map (fun x => (x.1, { keepA := x.2.keepA, keepB := x.2.keepB }))
             spd := d.saf.spd.map (fun x => (x.1, { a := x.2.a, b := x.2.b })) }
    pwm := d.pwm.map (fun x => (x.1, { ball := x.2.ball, gBall := x.2.gBall }))
    fbs := d.fbs.map (fun x => (x.1, { a := x.2.a, b := x.2.b, z := x.2.z }))
    ring := { ports := d.ring.ports.map (fun x => (x.1, { los := x.2.los })) }
    upd := d.upd
    free := d.free
    out := d.out }
  let n := ((n.wr A.SYS_RST_CAUSE cause).wr A.SYS_SUPPLY_STATUS (BitVec.ofNat 32 live)).wr A.FIELD_LEVEL raw
  (n.setFld A.FIELD_STATUS 4 2 vf).setGrid

/-- The mode changes with a reset: nothing of the device is left to tell of it. -/
def Dev.resetTo (d : Dev) (m : Mode) (cause : Nat) : Dev :=
  if d.sys.mode = m then d else d.modSys (fun s => { s with mode := m, prevMode := s.mode, modeCause := cause })

/-- A device reset that boots again (R54): from every mode but BYPASS and BACKUP. -/
def Dev.reboot (d : Dev) (bits : Nat) : Dev := if d.inReset then d else (d.deviceReset bits).resetTo .booting 1

/-- DEVICE_RESET: by an order of SYS_RESET (cause bit 5), which waits for a commit in progress (16 R464), of the root (6), or of the
debug port (7). -/
def execDeviceReset (cause : Nat) (s : State) : Host.Outcome State Fault Refusal :=
  s.perform (fun d =>
    if cause = 5 then
      match d.host.resetAt with
      | some t => if d.upd.commit.isSome then d else (d.advanceTo t).reboot (2 ^ 5)
      | none => d
    else if cause = 6 ∨ cause = 7 then d.reboot (2 ^ cause) else d)

/-- WATCHDOG_EXPIRY (R57): 100 ms without service; suspended while a command processor is halted (16 R477). -/
def execWatchdogExpiry (s : State) : Host.Outcome State Fault Refusal :=
  s.perform (fun d => if d.upd.halted ≠ 0 ∨ d.sys.mode = .vigil then d else d.reboot (2 ^ 4))

/-- A completion ring holds the completion of a command. -/
def Dev.holdsFor (d : Dev) (h : Hdr) : Bool := d.host.cqs.any (fun c => c.2.held.any (fun x => leAt x.bytes 5 2 == h.sq && x.tag == h.tag))

/-- SYS_RESET at its frame tick (R59): the reset follows the write of the completion, at once where no ring takes one. -/
def Dev.sysReset (d : Dev) (h : Hdr) : Dev :=
  let m := d.sys.mode
  if m == .configure || m == .ready || m == .safeHold || m == .recovery || m == .prodTest then
    let d := (d.modHost (fun q => { q with resetWait := some (h.flightSq, h.tag) })).doneAt h Code.done
    if d.host.resetWait.isNone || d.holdsFor h then d
    else d.modHost (fun q => { q with resetWait := none, resetAt := some (d.time.cnt + usCnt 10) })
  else d.doneAt h Code.wrongMode

/-- SYS_RESET. -/
def execSysReset (h : Hdr) (s : State) : Host.Outcome State Fault Refusal := s.perform (fun d => d.command 0x0102 h (fun d => d.sysReset h))

/-! ### Boot (R60) -/

/-- The three conditions of a boot hold (17 R482): the device reports BOOTING. -/
def Dev.tryBoot (d : Dev) : Dev :=
  if d.inReset && d.sys.resetN && !d.pwr.vsysAbsent && !d.pwr.vcoreLow && !d.sys.orderedOut then
    (d.modSys (fun s => { s with booted := false, bootReaction := false })).resetTo .booting 1
  else d

/-- A channel's start-up self-test (R60, 11 R305). -/
def Dev.startTest (d : Dev) (ch : Nat) (pass : Bool) : Dev :=
  if pass then d.selfTestPass ch else (d.raise Ev.safChannelFault ch).deviceReaction 0x10 (ch != 1) (ch != 2)

/-- Flags and a resumption of Belfry from before the logic die was powered (03 R98, R105). -/
def Dev.belfryPending (d : Dev) : Dev :=
  let d := d.each (maskList 32 d.bel.offFlags) (fun d r => d.raise Ev.belfryRuleFlag r)
  let d := if d.bel.restoredPending then d.raise Ev.belfrySnapshotRestored else d
  let d := d.bel.offEvents.foldl (fun (d : Dev) x => d.raise x.1 x.2) d
  d.modBel (fun b => { b with offFlags := 0, offEvents := [], restoredPending := false })

/-- BOOT: steps 1 to 6 of R60.  With Turret running, the unit key that production test left in OTP shows (11 R328;
notes/assumptions/8.md). -/
def Dev.boot (d : Dev) (recoveryN turretPass keepPass : Bool) : Dev :=
  if d.sys.mode ≠ .booting ∨ d.sys.booted then d
  else
    let d := d.modSys (fun s => { s with recoveryLow := !recoveryN })
    let d := d.startTest 2 keepPass
    let d := (d.chooseSlot (!recoveryN)).migrate.belfryPending
    let d := (d.startTest 1 turretPass).modSaf (fun q => { q with key := true })
    let d := d.modSys (fun s => { s with booted := true, selfTest := turretPass && keepPass })
    let d := { d with upd := { d.upd with challenge := d.free }, free := d.free + 32 }
    if d.upd.finial then d else d.modRing (fun r => { r with ready := true })

/-- BOOT: RECOVERY_N as sampled, and whether the start-up self-tests pass. -/
def execBoot (recoveryN turretPass keepPass : Bool) (s : State) : Host.Outcome State Fault Refusal :=
  s.perform (fun d => d.boot recoveryN turretPass keepPass)

/-- The device has a host attached (14 R401). -/
def Dev.hostAttached (d : Dev) : Bool := d.host.attached && (d.host.spi || d.host.linkUp)

/-- The device becomes root where it has a host attached and no ring runs (14 R401 to R403, R424): it is in the path, and fabric time
begins at the RTC. -/
def Dev.becomeRoot (d : Dev) : Dev :=
  if !d.hostAttached || d.isRoot || d.upd.finial || d.rb A.FAB_STATUS 11 || d.time.markerSeen || decide (0 < d.time.goodMarkers) || !d.running then d
  else
    let start := if d.rb A.BELFRY_BKP_STATUS 4 then 0 else d.rtcNow * 1000000000 / 32768
    let d := d.modTime (fun t => { t with offset := (start : Int) * q40 - 2 * t.cnt * (q40 + t.rate) })
    let d := d.setGrid
    let d := ((d.setFld A.FAB_STATUS 5 0 0).wb A.FAB_STATUS 6 true)
    let d := d.setNode 0 { ({} : NodeSt) with state := 1, uid := d.uid, host := true }
    (d.insert).takeRoot none

/-- BOOT_COMPLETE: step 7 of R60, under R54. -/
def Dev.bootComplete (d : Dev) : Dev :=
  if d.sys.mode ≠ .booting ∨ !d.sys.booted then d
  else if d.upd.finial then d.enterMode .recovery 1
  else if d.sys.bootReaction then
    (((d.modSys (fun s => { s with bootReaction := false })).enterMode .safeHold 1).raise Ev.safSafeHold (d.fld A.SAF_CAUSE 7 0)).becomeRoot
  else
    let d := (d.enterMode .configure 1).modSaf (fun q => { q with deviceSto := false })
    let d := d.each d.axisList (fun d n => d.modPw n (fun p => { p with sto := d.stoDemanded (stoGroup n) }))
    d.refreshOuts.becomeRoot

/-- BOOT_COMPLETE. -/
def execBootComplete (s : State) : Host.Outcome State Fault Refusal := s.perform Dev.bootComplete

/-! ### Pins, supplies (R54, R78; 17 R481, R482) -/

/-- RESET_N_LOW: the device is held in BYPASS. -/
def Dev.resetNLow (d : Dev) : Dev :=
  let d := d.modSys (fun s => { s with resetN := false })
  if d.pwr.vsysAbsent then d
  else if d.inReset then (d.wr A.SYS_RST_CAUSE (d.rstCauses (2 ^ 3))).resetTo .bypass 1
  else (d.deviceReset (2 ^ 3)).resetTo .bypass 1

/-- RESET_N_LOW. -/
def execResetNLow (s : State) : Host.Outcome State Fault Refusal := s.perform Dev.resetNLow

/-- RESET_N_RELEASE: HOSTSEL is sampled (12 R333), and a boot may begin. -/
def execResetNRelease (spi : Bool) (s : State) : Host.Outcome State Fault Refusal :=
  s.perform (fun d =>
    if d.sys.resetN then d
    else ((d.modSys (fun s => { s with resetN := true, orderedOut := false })).modHost (fun q => { q with spi := spi })).tryBoot)

/-- VBAT_APPLIED (R54): with VSYS absent the device is in BACKUP. -/
def execVbatApplied (s : State) : Host.Outcome State Fault Refusal :=
  s.perform (fun d =>
    let d := (d.modPwr (fun p => { p with vbatPresent := true })).wb A.BELFRY_BKP_STATUS 5 false
    if d.pwr.vsysAbsent then (d.resetTo .backup 4).wb A.BELFRY_BKP_STATUS 0 true else d)

/-- VSYS_LOW (R78): below 2.40 V; BACKUP on the cell, Belfry stops. -/
def Dev.vsysLow (d : Dev) : Dev :=
  if d.pwr.vsysAbsent then d
  else
    let cell := d.pwr.vbatPresent && !d.rb A.BELFRY_BKP_STATUS 5
    let was := d.sys.mode
    let d := if d.inReset then d.wr A.SYS_RST_CAUSE (d.rstCauses (2 ^ 1)) else d.deviceReset (2 ^ 1)
    let d := ((d.modBel (fun b => { b with stopped := true })).wb A.SYS_SUPPLY_STATUS 0 true).wb A.SYS_SUPPLY_STATUS 2 false
    let d := d.modPwr (fun p => { p with vsysAbsent := true, dipStart := none, dipStopped := false })
    if cell then (if was = .bypass then d else d.resetTo .backup 4).wb A.BELFRY_BKP_STATUS 0 true
    else (d.vbatLow true).resetTo .bypass 4

/-- VSYS_LOW. -/
def execVsysLow (s : State) : Host.Outcome State Fault Refusal := s.perform Dev.vsysLow

/-- VSYS_RELEASE (R78, R88, R105): VSYS rises through 2.50 V; from below 1.8 V it is a power-on, which the counter starts with. -/
def Dev.vsysRelease (d : Dev) (por : Bool) : Dev :=
  if !d.pwr.vsysAbsent then d
  else
    let d := d.modPwr (fun p => { p with vsysAbsent := false })
    let d := d.modSys (fun s => { s with orderedOut := false })
    let d := if por then
        let rtc := d.rtcNow
        let d := { d.belPor with time := {} }
        ((d.rtcSet rtc).setGrid).wr A.SYS_RST_CAUSE 1
      else
        let d := if d.sys.resetN then d else (d.wr A.SYS_RST_CAUSE (d.rstCauses (2 ^ 3))).resetTo .bypass 1
        d.snapResume
    d.tryBoot

/-- VSYS_RELEASE. -/
def execVsysRelease (por : Bool) (s : State) : Host.Outcome State Fault Refusal := s.perform (fun d => d.vsysRelease por)

/-- VCORE_WARN (17 R481). -/
def execVcoreWarn (s : State) : Host.Outcome State Fault Refusal :=
  s.perform (fun d => if d.pwr.vsysAbsent then d else d.flag A.SYS_SUPPLY_STATUS 1 Ev.vcoreWarn)

/-- VCORE_RESET (17 R481, R54). -/
def execVcoreReset (s : State) : Host.Outcome State Fault Refusal :=
  s.perform (fun d =>
    if d.pwr.vsysAbsent || d.pwr.vcoreLow then d
    else
      let d := d.modPwr (fun p => { p with vcoreLow := true })
      let d := if d.inReset then d.wr A.SYS_RST_CAUSE (d.rstCauses (2 ^ 2)) else d.deviceReset (2 ^ 2)
      d.resetTo .bypass 4)

/-- VCORE_RELEASE (17 R481): above the warning threshold too. -/
def execVcoreRelease (s : State) : Host.Outcome State Fault Refusal :=
  s.perform (fun d => ((d.modPwr (fun p => { p with vcoreLow := false })).wb A.SYS_SUPPLY_STATUS 1 false).tryBoot)

/-! ### Dips (R79 to R81) -/

/-- VSYS_WARN: VSYS crosses 2.62 V, downwards where it stood above and upwards where it stood below (notes/assumptions/109.md).  Below it
a dip begins, and a fall during the confirmation belongs to it; above it only vsys_warn ends (R81).  The axes' positions are kept where
their feedback is powered (03 R104). -/
def Dev.vsysWarn (d : Dev) : Dev :=
  if d.pwr.vsysAbsent then d
  else if d.rb A.SYS_SUPPLY_STATUS 0 then d.wb A.SYS_SUPPLY_STATUS 0 false
  else
    let d := ((d.wb A.SYS_SUPPLY_STATUS 0 true).wb A.SYS_SUPPLY_STATUS 2 true).snapshot
    let d := if d.logicOff then d else d.each d.axisList Dev.retWrite
    if d.pwr.dipStart.isSome then d
    else d.modPwr (fun p => { p with dipStart := some d.time.cnt, suspended := true })

/-- VSYS_WARN. -/
def execVsysWarn (s : State) : Host.Outcome State Fault Refusal := s.perform Dev.vsysWarn

/-- The dip has lasted dip_stop_ms (R80): the stop of every axis in MOVE is an order of the next frame tick. -/
def Dev.dipStopNow (d : Dev) : Dev :=
  if d.pwr.dipStopped then d
  else ((d.modPwr (fun p => { p with dipStopped := true, dipOrder := true })).wb A.SYS_SUPPLY_STATUS 3 true).raise Ev.dipStop

/-- dip_stop_ms in counter units. -/
def Dev.dipLimit (d : Dev) : Nat := msCnt (d.fld A.SYS_DIP_CFG 9 0)

/-- DIP_STOP. -/
def execDipStop (s : State) : Host.Outcome State Fault Refusal :=
  s.perform (fun d =>
    match d.pwr.dipStart with
    | some t => if d.logicOff then d else (d.advanceTo (t + d.dipLimit)).dipStopNow
    | none => d)

/-- DIP_END: VSYS has stayed above 2.70 V for 1 ms since `rise` µs after the warning crossing. -/
def Dev.dipEnd (d : Dev) (rise : Nat) : Dev :=
  match d.pwr.dipStart with
  | none => (d.wb A.SYS_SUPPLY_STATUS 0 false).wb A.SYS_SUPPLY_STATUS 2 false |>.snapDrop
  | some t =>
    let d := if d.dipLimit < usCnt rise && !d.logicOff then d.dipStopNow else d
    let d := d.advanceTo (t + usCnt rise + msCnt 1)
    let d := (d.wb A.SYS_SUPPLY_STATUS 0 false).wb A.SYS_SUPPLY_STATUS 2 false
    let d := d.modPwr (fun p => { p with dipStart := none, dipStopped := false, suspended := false })
    let d := (d.setFld A.SYS_DIP_LAST 23 0 (sat 0xFFFFFF rise)).incSat A.SYS_DIP_LAST 30 24
    (d.snapDrop.logWrite 3 0 (rise / 1000)).raiseOn Ev.vsysDip

/-- DIP_END. -/
def execDipEnd (rise : Nat) (s : State) : Host.Outcome State Fault Refusal := s.perform (fun d => d.dipEnd rise)

/-- TJ_SAMPLE (17 R496, R497): the dies' temperatures, °C; a change of the band in use re-runs the rest choice (R71). -/
def Dev.tjSample (d : Dev) (logic drum : Int) : Dev :=
  let was := d.band
  let armed := !d.pwr.tjHot
  let logic := if d.logicOff then d.pwr.tjLogic else logic
  let d := d.modPwr (fun p => { p with tjLogic := logic, tjDrum := drum })
  let hot : Bool := decide (125 ≤ max logic drum)
  let d := d.modPwr (fun p => { p with tjHot := if hot then true else if logic < 120 ∧ drum < 120 then false else p.tjHot })
  let d := if hot && armed then (d.wb A.SYS_TJ 16 true).raiseOn Ev.tjHigh else d
  if d.band = was then d else d.restRechoice

/-- TJ_SAMPLE. -/
def execTjSample (logic drum : Int) (s : State) : Host.Outcome State Fault Refusal := s.perform (fun d => d.tjSample logic drum)

/-- SYS_TJ. -/
def Dev.tjWord (d : Dev) : Word := setField 7 0 (ofSigned 8 d.pwr.tjLogic) (setField 15 8 (ofSigned 8 d.pwr.tjDrum) (d.rd A.SYS_TJ))

end Sys2Proof.Machine
end

