-- ==== Sys2Proof/Machine/TestDbg.lean ====
section
/-!
DEFINITION. Boundary scan, the debug port, the unlock of PRODUCTION_TEST and the perturbations (16_update_test_debug.md R468 to R478).
-/

namespace Sys2Proof.Machine

/-! ### TAPs (R468 to R470) -/

/-- EXTEST, CLAMP, HIGHZ, EXTEST_PULSE and EXTEST_TRAIN. -/
def scanControl (op : Nat) : Bool := op == 0x00 || op == 0x03 || op == 0x04 || op == 0x05 || op == 0x06

/-- What an opcode acts as (R469): every other one acts as BYPASS; DBG and DBG_AUTH are on the logic die only; DBG is available as
R475 says. -/
def Dev.tapActs (d : Dev) (drum : Bool) (op : Nat) : Nat :=
  if scanControl op || op == 0x01 || op == 0x02 then op
  else if op = 0x11 ∧ !drum then op
  else if op = 0x10 && !drum && (d.upd.dbg == 0 || (d.upd.dbg == 1 && d.upd.tokenOk)) then op
  else 0xFF

/-- A TAP holds a scan-control instruction. -/
def UpdSt.scans (u : UpdSt) : Bool := scanControl u.tapLogic || scanControl u.tapDrum

/-- A TAP loads an instruction (R469, R470): the first scan-control instruction causes a device reaction, whose cause code the spec does
not give; with the last gone the device resets. -/
def Dev.tapLoad (d : Dev) (drum : Bool) (op : Nat) : Dev :=
  let was := d.upd.scans
  let act := d.tapActs drum (op % 256)
  let d := d.modUpd (fun u => if drum then { u with tapDrum := act } else { u with tapLogic := act })
  let now := d.upd.scans
  if now && !was then
    let x := d.fresh
    let d := (x.2.deviceReaction (x.1 % 256) false true).modSaf (fun q => { q with scan := true })
    (d.each d.axisList Dev.stoAxis).refreshOuts
  else if was && !now then ((d.modSaf (fun q => { q with scan := false })).reboot (2 ^ 7)).refreshOuts
  else d

/-- TAP_INSTRUCTION_LOAD. -/
def execTapInstructionLoad (drum : Bool) (op : Nat) (s : State) : Host.Outcome State Fault Refusal :=
  s.perform (fun d => d.tapLoad drum op)

/-- SCAN_CONTROL_EXIT: the load of another instruction by which no TAP holds a scan-control instruction any longer. -/
def execScanControlExit (drum : Bool) (op : Nat) (s : State) : Host.Outcome State Fault Refusal :=
  s.perform (fun d => if d.upd.scans then d.tapLoad drum op else d)

/-! ### The debug port (R475 to R477) -/

/-- The DBG instruction is loaded and available: the debug port reaches the registers. -/
def Dev.debugOpen (d : Dev) : Bool := d.upd.tapLogic == 0x10

/-- The challenge of 32 bytes, fresh after each device reset. -/
def Dev.challenge (d : Dev) : List Byte := (List.range 32).map (fun i => BitVec.ofNat 8 (Config.free (d.upd.challenge + i)))

/-- DBG_AUTH (R475): a token opens the debug port in state 1 where it is the authority's signature over the UID and the challenge. -/
def Dev.dbgAuth (d : Dev) (token : List Byte) : Dev :=
  if d.upd.tapLogic = 0x11 && d.upd.dbg = 1 && Config.tokenSigned d.uid d.challenge (bytesAt token 0 64) then
    d.modUpd (fun u => { u with tokenOk := true })
  else d

/-- DBG_AUTH. -/
def execDbgAuth (token : List Byte) (s : State) : Host.Outcome State Fault Refusal := s.perform (fun d => d.dbgAuth token)

/-- Every unlock sequence that a debug halt interrupts is void (R477). -/
def Dev.unlocksVoid (d : Dev) : Dev :=
  ((d.unlockVoid).modUpd (fun u => { u with keyAt := none, windowEnd := none })).wb A.TEST_UNLOCK_STATUS 0 false

/-- CP_HALT (R477): command processor `cp` is halted or resumed. -/
def Dev.cpHalt (d : Dev) (cp : Nat) (halt : Bool) : Dev :=
  if 4 ≤ cp || !d.debugOpen || nbit cp d.upd.halted == halt then d
  else
    let d := d.modUpd (fun u => { u with halted := if halt then nset cp u.halted else nclr cp u.halted })
    let d := if halt then d.unlocksVoid else d.each (d.host.cqs.map (·.1)) (fun d q =>
      d.cqRelease ((match AList.find d.host.cqs q with | some c => c.held.length | none => 0)) q)
    d.raise Ev.dbgHalt cp

/-- CP_HALT. -/
def execCpHalt (cp : Nat) (halt : Bool) (s : State) : Host.Outcome State Fault Refusal := s.perform (fun d => d.cpHalt cp halt)

/-- TURRET_HALT_REQUEST (11 R329). -/
def execTurretHaltRequest (s : State) : Host.Outcome State Fault Refusal :=
  s.perform (fun d => if d.debugOpen then d.turretHalt.unlocksVoid else d)

/-- The debug-halt flag (R476). -/
def Dev.haltFlag (d : Dev) : Bool := d.upd.halted != 0 || d.saf.turretHalted

/-- DBG_CTRL. -/
def Dev.dbgCtrlWord (d : Dev) : Word :=
  BitVec.ofNat 32 (b2n (d.rb A.DBG_CTRL 0) + 2 * d.upd.halted + 32 * b2n d.saf.turretHalted + 64 * b2n d.haltFlag)

/-- A read by the debug port takes the shadow path without side effects (R476). -/
def Dev.shadowRead (d : Dev) (r : Req) : Bool := r.port == .debug && !d.rb A.DBG_CTRL 0

/-! ### The unlock of PRODUCTION_TEST (R474) -/

/-- The window of PRODUCTION_TEST is open. -/
def Dev.testOpen (d : Dev) : Bool :=
  match d.upd.windowEnd with
  | some e => decide (d.time.cnt < e)
  | none => false

/-- The window closes. -/
def Dev.testClose (d : Dev) : Dev := (d.modUpd (fun u => { u with windowEnd := none })).wb A.TEST_UNLOCK_STATUS 0 false

/-- A sequence is void: fails advances; at 8 the unlock is locked. -/
def Dev.testUnlockFail (d : Dev) : Dev :=
  let d := (d.modUpd (fun u => { u with keyAt := none })).incSat A.TEST_UNLOCK_STATUS 5 2
  if 8 ≤ d.fld A.TEST_UNLOCK_STATUS 5 2 then
    (d.setFld A.TEST_UNLOCK_STATUS 5 2 8).flag A.TEST_UNLOCK_STATUS 1 Ev.testUnlockFault
  else d

/-- A write of TEST_UNLOCK: `within` that it falls within 256 cycles of the port's clock of the first value. -/
def Dev.testUnlock (d : Dev) (v : Word) (within : Bool) : Dev :=
  let k := field 15 0 v
  if d.rb A.TEST_UNLOCK_STATUS 1 then d
  else match d.upd.keyAt with
    | none => if k = 0x7E5A then d.modUpd (fun u => { u with keyAt := some d.time.cnt }) else d.testUnlockFail
    | some _ =>
      if k = 0x5A7E ∧ within then
        (d.modUpd (fun u => { u with keyAt := none, windowEnd := some (d.time.cnt + msCnt 10000) })).wb A.TEST_UNLOCK_STATUS 0 true
      else d.testUnlockFail

/-- UNLOCK_WINDOW_EXPIRY (11 R330, R474): 10 s have passed. -/
def execUnlockWindowExpiry (test : Bool) (s : State) : Host.Outcome State Fault Refusal :=
  s.perform (fun d =>
    if test then (match d.upd.windowEnd with | some e => (d.advanceTo e).testClose | none => d)
    else match d.saf.windowEnd with
      | some e => (d.advanceTo e).safWindowTick
      | none => d)

/-! ### Perturbations (R471 to R473) -/

/-- The axis of a TEST_SD_FLIP register. -/
def sdFlipAxis (a : Nat) : Option Nat := if 0x700200 ≤ a ∧ a < 0x700280 then some ((a - 0x700200) / 4) else none

/-- A perturbation register. -/
def isPerturbation (a : Nat) : Bool := testWide.contains a || (sdFlipAxis a).isSome

/-- A perturbation may be set now (R471). -/
def Dev.perturbOk (d : Dev) (a : Nat) : Bool :=
  d.sys.mode == .configure || d.sys.mode == .prodTest || (match sdFlipAxis a with | some n => (d.ax n).state == .off | none => false)

/-- A perturbation register takes a value (R471, R472): a stall counts its frames anew, a hold its time; TEST_ACTIVE where it becomes
non-zero. -/
def Dev.perturb (d : Dev) (a : Nat) (v : Word) : Dev :=
  let was := d.rd a
  let d := d.wr a v
  let d := if a = A.TEST_RING then
      d.modUpd (fun u => { u with stallLeft := if field 1 0 v = 0 then 0 else field 15 8 v }) else d
  let d := if a = A.TEST_DMA_HOLD ∨ a = A.TEST_DMA_HOLD_US then
      let us := d.fld A.TEST_DMA_HOLD_US 15 0
      d.modDma (fun q => { q with holdEnd := if d.rd A.TEST_DMA_HOLD = 0 ∨ us = 0 then none else some (d.time.cnt + usCnt us) })
    else d
  if was = 0 ∧ v ≠ 0 then d.raise Ev.testActive else d

/-- DMA_HOLD_EXPIRY (R472): the held channels are granted again. -/
def execDmaHoldExpiry (s : State) : Host.Outcome State Fault Refusal :=
  s.perform (fun d =>
    match d.dma.holdEnd with
    | some e => ((d.advanceTo e).modDma (fun q => { q with holdEnd := none })).wr A.TEST_DMA_HOLD 0
    | none => d)

end Sys2Proof.Machine
end

