-- ==== Sys2Proof/Machine/Uart.lean ====
section
/-!
DEFINITION. The UARTs (15_field_io_can.md R450 to R453).
-/

namespace Sys2Proof.Machine

/-- UART `n` runs: enabled, in a mode of R453, and not Finial's. -/
def Dev.uartRuns (d : Dev) (n : Nat) : Bool := ioMode d.sys.mode && d.rb (A.UART_CFG n) 0 && !(n == 0 && d.upd.finial)

/-- The frame of a byte (R450): the start bit, 7 or 8 data bits from the least significant on, the parity bit, and the stop bits. -/
def uartFrame (cfg : Word) (b : Byte) : List Bool :=
  let data := (List.range (if bit 1 cfg then 8 else 7)).map (fun i => nbit i b.toNat)
  let odd := (data.filter id).length % 2 == 1
  let parity := if field 3 2 cfg = 1 then [odd] else if field 3 2 cfg = 2 then [!odd] else []
  [false] ++ data ++ parity ++ (if bit 4 cfg then [true, true] else [true])

/-- A bit time of UART `n` in quarters of a ns of the counter: 16 × div clocks of 800 MHz (R450). -/
def Dev.uartBit (d : Dev) (n : Nat) : Nat := 5 * d.fld (A.UART_DIV n) 19 0

/-- UARTn_DE is asserted now (R452): while a byte is sent, and for de_lag after the last. -/
def Dev.deOn (d : Dev) (n : Nat) : Bool :=
  let u := d.uart n
  u.de && (u.shift.isSome || decide (8 * d.time.cnt < u.deEnd))

/-- The level of the ball UARTn_DE: driven inactive with de_en = 0, and active low with de_pol = 1 (R452, R453). -/
def Dev.deBall (d : Dev) (n : Nat) : Bool := (d.rb (A.UART_CFG n) 5 && d.deOn n) != d.rb (A.UART_CFG n) 6

/-- The transmitter takes the next byte when it is free (R452): with de_en = 1, DE asserted de_lead bit times before it, where it is not yet. -/
def Dev.uartLoad (d : Dev) (n : Nat) : Dev :=
  let u := d.uart n
  if u.shift.isSome || !d.uartRuns n then d
  else match u.tx with
    | [] => d
    | b :: rest =>
      let cfg := d.rd (A.UART_CFG n)
      let lead := if bit 5 cfg && !d.deOn n then field 11 8 cfg else 0
      d.modUart n (fun u => { u with
        shift := some b, tx := rest, de := bit 5 cfg
        endAt := max u.endAt (8 * d.time.cnt) + (lead + (uartFrame cfg b).length) * d.uartBit n })

/-- A byte written to UART_DATA is queued, or ignored with tx_ovf while the FIFO holds 64 (R452). -/
def Dev.uartPut (d : Dev) (n : Nat) (b : Byte) : Dev :=
  if 64 ≤ (d.uart n).tx.length then d.flag (A.UART_STATUS n) 17 (Ev.uartErr n) n
  else (d.modUart n (fun u => { u with tx := u.tx ++ [b] })).uartLoad n

/-- The last stop bit of the byte being sent has gone (R452), no earlier than its frame takes; UART_TX_IDLE when the FIFO is empty too
(R454), DE ending de_lag bit times later. -/
def Dev.uartSent (d : Dev) (n : Nat) : Dev :=
  match (d.uart n).shift with
  | none => d
  | some b =>
    let cfg := d.rd (A.UART_CFG n)
    let d := (d.advanceTo (((d.uart n).endAt + 7) / 8)).modUart n (fun u => { u with
      shift := none, deEnd := u.endAt + field 15 12 cfg * d.uartBit n })
    let d := (d.emit (.uart n (uartFrame cfg b))).uartLoad n
    if (d.uart n).shift.isSome then d else d.raise (Ev.uartTxIdle n) n

/-- UART_TX_BYTE_SENT (R452). -/
def execUartTxByteSent (n : Nat) (s : State) : Host.Outcome State Fault Refusal :=
  s.perform (fun d => if d.uartRuns n then d.uartSent n else d)

/-- Whether a parity bit is wrong for a byte (R450): even parity makes the ones even, odd parity odd. -/
def parityWrong (mode b : Nat) (p : Bool) : Bool :=
  let ones := popCount 8 b + b2n p
  (mode == 1 && ones % 2 == 1) || (mode == 2 && ones % 2 == 0)

/-- The word a received frame gives UART_DATA: data, parity_err, framing_err, brk (R451). -/
def Dev.uartWord (d : Dev) (n bits : Nat) (parity stop : Bool) : Word :=
  let cfg := d.rd (A.UART_CFG n)
  let b := bits % (if bit 1 cfg then 256 else 128)
  let mode := field 3 2 cfg
  let brk := !stop && b == 0 && (mode == 0 || !parity)
  BitVec.ofNat 32 (b + 2 ^ 8 * b2n (parityWrong mode b parity) + 2 ^ 9 * b2n (!stop) + 2 ^ 10 * b2n brk)

/-- A frame is received (R451, R452): queued with its flags, or lost with rx_ovr while the FIFO holds 64. -/
def Dev.uartRx (d : Dev) (n bits : Nat) (parity stop : Bool) : Dev :=
  if bit 7 (d.rd (A.UART_CFG n)) && d.deOn n then d
  else
    let w := d.uartWord n bits parity stop
    let d := if field 10 8 w ≠ 0 then d.flag (A.UART_STATUS n) 18 (Ev.uartErr n) n else d
    if 64 ≤ (d.uart n).rx.length then d.flag (A.UART_STATUS n) 16 (Ev.uartErr n) n
    else
      let d := d.modUart n (fun u => { u with rx := u.rx ++ [w] })
      if (d.uart n).rx.length = d.fld (A.UART_RX_THR n) 6 0 then d.raise (Ev.uartRx n) n else d

/-- Finial receives a byte on UART 0 (16 R466): the frame in reception starts at its 0x7E; a frame that has not completed within
100 ms is gone.  A byte with a framing error is none. -/
def Dev.finialByte (d : Dev) (b : Byte) (stop : Bool) : Dev :=
  let old := d.upd.frame
  let old := if !old.isEmpty && d.past (d.upd.frameAt + msCnt 100) then [] else old
  if !stop then d
  else if old.isEmpty then
    (if b = 0x7E then d.modUpd (fun u => { u with frame := [b], frameAt := d.time.cnt }) else d.modUpd (fun u => { u with frame := [] }))
  else d.modUpd (fun u => { u with frame := old ++ [b] })

/-- UART_RX_BYTE (R451): `bits` the data bits, `parity` and `stop` the levels of the parity and first stop bit. -/
def execUartRxByte (n bits : Nat) (parity stop : Bool) (s : State) : Host.Outcome State Fault Refusal :=
  s.perform (fun d =>
    if n = 0 ∧ d.upd.finial then d.finialByte (BitVec.ofNat 8 bits) stop
    else if n < 2 && d.uartRuns n then d.uartRx n bits parity stop else d)

/-- UART_STATUS (R453): the levels and tx_idle beside the flags it holds. -/
def Dev.uartStatusWord (d : Dev) (n : Nat) : Word :=
  let u := d.uart n
  let w := setField 6 0 u.rx.length (d.rd (A.UART_STATUS n))
  setBit 15 (u.tx.isEmpty && u.shift.isNone) (setField 14 8 u.tx.length w)

/-- UART_DATA as a pop register (R452): the oldest received word, or the empty marker. -/
def Dev.uartPop (d : Dev) (n : Nat) (keep : Bool) : Word × Dev :=
  match (d.uart n).rx with
  | [] => (0xFFFFFFFF, d)
  | w :: rest => (w, if keep then d else d.modUart n (fun u => { u with rx := rest }))

end Sys2Proof.Machine
end

