-- ==== Sys2Proof/Machine/View.lean ====
section
/-!
DEFINITION. What every register reads as: the value the register map holds, or, for the registers that report an engine's state, the
word the engine gives.
-/

namespace Sys2Proof.Machine

/-- A register that reports an engine: the base of its row (its offset with every index 0), and its word by its two indices. -/
abbrev RegView := Nat × (Dev → Nat → Nat → Word)

/-- The low word of a 64-bit value. -/
def lo32 (n : Nat) : Word := BitVec.ofNat 32 n

/-- The high word of a 64-bit value. -/
def hi32 (n : Nat) : Word := BitVec.ofNat 32 (n / 2 ^ 32)

/-- The words of a signed 64-bit value. -/
def ofI (i : Int) : Nat := ofSigned 64 i

/-- A bit from a truth value. -/
def b2w (b : Bool) (i : Nat) : Nat := b2n b * 2 ^ i

/-- SYS and TIME (01, 02, 14). -/
def viewsSys : List RegView := [
  (A.SYS_DEV_ID, fun d _ _ => if d.sys.is4016 then 0x4B320A20 else 0x4B320A40),
  (A.SYS_MODE, fun d _ _ => d.modeWord),
  (A.SYS_TICK_COUNT_LO, fun d _ _ => lo32 d.sys.tick),
  (A.SYS_TICK_COUNT_HI, fun d _ _ => hi32 d.sys.tick),
  (A.SYS_WAKE_STATE, fun d _ _ => d.wakeStateWord),
  (A.SYS_AX_REST_LO, fun d _ _ => d.restWord false),
  (A.SYS_AX_REST_HI, fun d _ _ => d.restWord true),
  (A.SYS_TJ, fun d _ _ => d.tjWord),
  (A.TIME_NOW_LO, fun d _ _ => lo32 d.now),
  (A.TIME_NOW_HI, fun d _ _ => hi32 d.now),
  (A.TIME_CNT_LO, fun d _ _ => lo32 d.time.cnt),
  (A.TIME_CNT_HI, fun d _ _ => hi32 d.time.cnt),
  (A.TIME_RATE, fun d _ _ => BitVec.ofNat 32 (ofSigned 32 d.time.rate)),
  (A.TIME_STATUS, fun d _ _ => d.timeStatusWord)]

/-- BELFRY, DMA and HOST (03, 12, 13). -/
def viewsBelDma : List RegView := [
  (A.BELFRY_BELL, fun d _ _ => d.bellWord),
  (A.BELFRY_RTC_LO, fun d _ _ => lo32 d.rtcNow),
  (A.BELFRY_RTC_HI, fun d _ _ => hi32 d.rtcNow),
  (A.DMA_STATUS, fun d _ _ =>
    setBit 0 ((List.range 32).any (fun c => (d.ch c).state == .halted)) (setBit 1 d.dma.probing.isSome (d.rd A.DMA_STATUS))),
  (A.DMA_CAND, fun d _ _ => BitVec.ofNat 32 (maskOf ((List.range 32).filter (fun c => (d.ch c).cand)))),
  (A.DMA_CH_TRIG 0, fun d c _ => setField 23 16 (d.ch c).credits (d.rd (A.DMA_CH_TRIG c))),
  (A.DMA_CH_STATUS 0, fun d c _ =>
    let x := d.ch c
    setField 2 0 x.state.code (setBit 3 x.cand (setBit 4 x.probeOk (setField 11 8 x.errKind (d.rd (A.DMA_CH_STATUS c)))))),
  (A.DMA_CH_HEAD 0, fun d c _ => BitVec.ofNat 32 (d.ch c).head),
  (A.DMA_CH_POS 0, fun d c _ => BitVec.ofNat 32 (d.ch c).pos)]

/-- How many commands are in flight to a target, saturating at the field. -/
def Dev.flying (d : Dev) (p : InFlight → Bool) : Nat := (d.host.inflight.filter p).length

/-- The submission ring at local index `i` of client `cc`, and its global ID. -/
def Dev.sqAt (d : Dev) (cc i : Nat) : Option (Nat × Sq) := d.host.sqs.find? (fun x => x.2.client == cc && x.2.loc == i)

/-- The completion ring at local index `i` of client `cc`, and its global ID. -/
def Dev.cqAt (d : Dev) (cc i : Nat) : Option (Nat × Cq) := d.host.cqs.find? (fun x => x.2.client == cc && x.2.loc == i)

/-- A submission ring is stopped, itself or by its completion ring (12 R347). -/
def Dev.sqStopped (d : Dev) (s : Sq) : Bool := s.stopped || (match AList.find d.host.cqs s.cq with | some c => c.stopped | none => false)

/-- HOST_SQ_HEAD of a ring. -/
def Dev.sqHeadWord (d : Dev) (cc i : Nat) : Word :=
  match d.sqAt cc i with
  | some x => BitVec.ofNat 32 (x.2.head % 2 ^ x.2.k + b2w (d.sqStopped x.2) 31)
  | none => 0

/-- HOST_EVQ_STATUS of a client (13 R373). -/
def Dev.evqWord (d : Dev) (cc : Nat) : Word :=
  let q := AList.get {} d.host.evqs cc
  setField 11 0 (q.wr % d.evqSize cc) (setBit 12 (d.rb (A.HOST_EVQ_CFG cc) 31 && d.evqFull cc) (d.rd (A.HOST_EVQ_STATUS cc)))

/-- The host port and the client pages (12 R341, R359). -/
def viewsHost : List RegView := [
  (A.HOST_PORT_STATUS, fun d _ _ =>
    let h := d.host
    BitVec.ofNat 32 (b2w h.spi 0 + b2w h.linkUp 1 + 4 * (h.speed % 4) + 16 * (h.width % 8) + 2 ^ 8 * (if h.vfEnable then h.numVfs else 0))),
  (A.HOST_INFLIGHT_DEV, fun d _ _ => BitVec.ofNat 32 (d.flying (fun f => f.node == d.node))),
  (A.HOST_INFLIGHT_FAB, fun d _ _ => BitVec.ofNat 32 (if d.isRoot then d.flying (fun _ => true) else 0)),
  (A.HOST_RINGS, fun d _ _ => BitVec.ofNat 32 (d.host.sqs.length + 2 ^ 16 * d.host.cqs.length)),
  (A.HOST_SPI_STATUS, fun d _ _ => if d.host.spi then d.rd A.HOST_SPI_STATUS else 0),
  (A.HOST_SPI_IRQ, fun d _ _ => if d.host.spi then d.rd A.HOST_SPI_IRQ else 0),
  (A.HOST_SPI_IRQ_MASK, fun d _ _ => if d.host.spi then d.rd A.HOST_SPI_IRQ_MASK else 0),
  (A.HOST_CLIENT 0, fun d cc _ => setBit 31 (d.clientExists cc) (d.rd (A.HOST_CLIENT cc))),
  (A.HOST_CC_ID 0, fun d cc _ => BitVec.ofNat 32 (cc + 2 ^ 16 * (if d.host.attached then d.node else d.host.hostNode) + b2w d.host.spi 24)),
  (A.HOST_CC_STATUS 0, fun d cc _ => d.ccStatusWord cc),
  (A.HOST_EVQ_STATUS 0, fun d cc _ => d.evqWord cc),
  (A.HOST_SQ_HEAD 0 0, fun d cc i => d.sqHeadWord cc i)]

/-- FABRIC, SAFETY and the field I/O (11, 14, 15). -/
def viewsIo : List RegView := [
  (A.FAB_SLOT, fun d _ _ => d.fabSlotWord),
  (A.FAB_LINK_STATUS 0, fun d p _ => d.linkWord p),
  (A.FAB_NODE 0, fun d i _ => d.fabNodeWord i),
  (A.FAB_NODE_UID 0 0, fun d i w => d.uidWord i w),
  (A.SAF_STATUS, fun d _ _ => d.safStatusWord),
  (A.SAF_CH_STATUS, fun d _ _ => d.safChWord),
  (A.SAF_IN_STATE, fun d _ _ => d.safInWord),
  (A.SAF_OUT_STATE, fun d _ _ => d.safOutWord),
  (A.SAF_DEG, fun d _ _ => d.safDegWord),
  (A.SAF_UNLOCK, fun _ _ _ => 0),
  (A.TEST_UNLOCK, fun _ _ _ => 0),
  (A.CAN_TM_STATUS 0, fun d k _ => d.canTmWord k),
  (A.UART_STATUS 0, fun d n _ => d.uartStatusWord n)]

/-- A register that a group has in its lead axis's page alone: it reads 0 in the page of another member (04 R120, 05 R152). -/
def Dev.leadWord (d : Dev) (n a : Nat) : Word := if d.lead n = n then d.rd a else 0

/-- The registers of a group that stand in its lead axis's page (04 R120, 05 R152). -/
def viewsLead : List RegView := [
  (A.AX_SNAP_CTRL 0, fun d n _ => d.leadWord n (A.AX_SNAP_CTRL n)),
  (A.AX_SNAP_X 0 0, fun d n i => d.leadWord n (A.AX_SNAP_X n i)),
  (A.AX_SNAP_Y 0 0, fun d n i => d.leadWord n (A.AX_SNAP_Y n i)),
  (A.AX_SNAP_W 0 0, fun d n i => d.leadWord n (A.AX_SNAP_W n i)),
  (A.AX_SNAP_U 0 0, fun d n i => d.leadWord n (A.AX_SNAP_U n i)),
  (A.AX_SNAP_TICK_LO 0, fun d n _ => d.leadWord n (A.AX_SNAP_TICK_LO n)),
  (A.AX_SNAP_TICK_HI 0, fun d n _ => d.leadWord n (A.AX_SNAP_TICK_HI n)),
  (A.AX_PRED_CFG 0 0, fun d n i => d.leadWord n (A.AX_PRED_CFG n i)),
  (A.AX_PRED_GAIN 0 0, fun d n i => d.leadWord n (A.AX_PRED_GAIN n i))]

/-- The axis pages to PWM (04 to 07). -/
def viewsAxis : List RegView := viewsLead ++ [
  (A.AX_STATE 0, fun d n _ => d.axStateWord n),
  (A.AX_FAULT_CAUSE 0, fun d n _ => BitVec.ofNat 32 (d.ax n).faults),
  (A.AX_ADMIT_INFO 0, fun d n _ => if d.lead n = n then d.axAdmitWord n else 0),
  (A.AX_BANK_STATUS 0, fun d n _ => if d.lead n = n then d.bankStatusWord n else 0),
  (A.AX_CV_STATUS 0, fun d n _ => d.cvStatusWord n),
  (A.AX_SDCLK_STATUS 0, fun d g _ => d.sdStatusWord g),
  (A.AX_POS_STATUS 0, fun d n _ => d.posStatusWord n),
  (A.AX_DRIVE_STATUS 0, fun d n _ => d.driveStatusWord n),
  (A.AX_DIR 0, fun d n _ => d.axDirWord n),
  (A.PWM_STATUS 0, fun d n _ => d.pwmStatusWord n),
  (A.PWM_PERIOD 0, fun d n _ => BitVec.ofNat 32 (d.pwmT n)),
  (A.PWM_ACT 0 0, fun d n l => d.pwmActWord n l),
  (A.PWM_DT_ACT 0 0, fun d n l => d.dtActWord n l),
  (A.PWM_TRIP_STATUS 0, fun d n _ => d.tripStatusWord n),
  (A.PWM_GTRIP_STATUS 0, fun d g _ => d.groupStatusWord g)]

/-- Feedback, motion and gearing (08, 09). -/
def viewsMotion : List RegView := [
  (A.FB_COUNT_LO 0, fun d n _ => lo32 (ofI (d.fb n).count)),
  (A.FB_COUNT_HI 0, fun d n _ => hi32 (ofI (d.fb n).count)),
  (A.PROF_STATUS 0, fun d n _ => d.profStatusWord n),
  (A.PROF_REF_P_LO 0, fun d n _ => lo32 (ofI (d.mo n).p)),
  (A.PROF_REF_P_HI 0, fun d n _ => hi32 (ofI (d.mo n).p)),
  (A.PROF_REF_V 0, fun d n _ => f32Of (d.mo n).v),
  (A.PROF_REF_A 0, fun d n _ => f32Of (d.mo n).a),
  (A.PROF_AHEAD 0, fun d n _ => BitVec.ofNat 32 (d.aheadNs n)),
  (A.GEAR_STATUS 0, fun d n _ => d.gearStatusWord n),
  (A.GEAR_MASTER 0, fun d n _ => d.gearMasterWord n),
  (A.GEAR_N 0, fun d n _ => match (d.mo n).gear.layers with | y :: _ => BitVec.ofNat 32 (ofSigned 32 y.law.n) | [] => 0),
  (A.GEAR_D 0, fun d n _ => match (d.mo n).gear.layers with | y :: _ => BitVec.ofNat 32 y.law.d | [] => 1),
  (A.GEAR_M_POS_LO 0, fun d n _ => lo32 (ofI (d.mo n).gear.mPos)),
  (A.GEAR_M_POS_HI 0, fun d n _ => hi32 (ofI (d.mo n).gear.mPos)),
  (A.GEAR_M_AGE 0, fun d n _ => BitVec.ofNat 32 (d.mo n).gear.age),
  (A.LS_MEMBER 0, fun d n _ => d.lsMemberWord n),
  (A.LS_SHARE_NOW 0, fun d n _ => d.shareNow n),
  (A.VM_STATUS 0, fun d v _ => setField 3 0 (d.vmSrc v) (d.rd (A.VM_STATUS v))),
  (A.VM_REF_P_LO 0, fun d v _ => lo32 (ofI (d.vm v).p)),
  (A.VM_REF_P_HI 0, fun d v _ => hi32 (ofI (d.vm v).p)),
  (A.VM_REF_V 0, fun d v _ => f32Of (d.vm v).v),
  (A.VM_REF_A 0, fun d v _ => f32Of (d.vm v).a)]

/-- CUPOLA, OCULUS, UPDATE and TEST (04, 10, 16). -/
def viewsHigh : List RegView := [
  (A.CUPOLA_STATUS, fun d _ _ => d.cupolaWord),
  (A.CUPOLA_LIMIT, fun d _ _ => d.cupolaLimitWord),
  (A.OCU_STATUS, fun d _ _ => d.ocuStatusWord),
  (A.UPD_STATUS, fun d _ _ => d.updStatusWord),
  (A.UPD_SESSION, fun d _ _ => d.updSessionWord),
  (A.UPD_SLOT 0, fun d s _ => d.updSlotWord s),
  (A.UPD_SLOT_BUILD 0, fun d s _ => d.updBuildWord s),
  (A.UPD_OTP, fun d _ _ => d.updOtpWord),
  (A.DBG_CTRL, fun d _ _ => d.dbgCtrlWord)]

/-- The registers of a block that report an engine. -/
def blockViews (a : Nat) : List RegView :=
  if a < 0x20000 then viewsSys
  else if a < 0xC0000 then viewsBelDma
  else if a < 0x100000 then viewsHost
  else if a < 0x200000 then viewsIo
  else if a < 0x204000 then viewsAxis
  else if a < 0x400000 then viewsMotion
  else if a < 0x1000000 then viewsHigh
  else viewsHost

/-- What the register at key `a` reads as, without its side effects. -/
def Dev.view (d : Dev) (a : Nat) : Word :=
  match regRow a with
  | none => 0
  | some r =>
    match (blockViews r.base).find? (fun x => x.1 == r.base) with
    | some x => x.2 d (r.idx1 a) (r.idx2 a)
    | none => d.rd a

end Sys2Proof.Machine
end

