-- ==== Sys2Proof/Machine/Access.lean ====
section
/-!
DEFINITION. How an access to the register space is judged (01_architecture_tick.md R21 to R29, 00_scope.md R4): alignment, absent axes,
the owner rules (13 R364), unmapped offsets, the memories beside the registers, and who may write a register and when.
-/

namespace Sys2Proof.Machine

/-! ### Requesters and places -/

/-- A requester that the owner rules do not bind, and that a rule which admits only CC0 admits (01 R29). -/
def Req.admin (r : Req) : Bool := r.cc == 0 || r.port == .ring || r.port == .debug

/-- The key of an offset in the register space: CC0's client page is also mapped at HOST offset 0 (12 R341). -/
def regKey (a : Nat) : Nat := if 0xC0000 ≤ a ∧ a < 0xD0000 then 0x1000000 + (a - 0xC0000) else a

/-- The axis whose page or profile memory window holds an offset (01 R22). -/
def axisOfAddr (a : Nat) : Option Nat :=
  if 0x200000 ≤ a ∧ a < 0x400000 then some ((a - 0x200000) / 0x10000)
  else if 0x800000 ≤ a ∧ a < 0xC00000 then some ((a - 0x800000) / 0x20000)
  else none

/-- The offsets of an axis page that hold a register only in designated pages (05, 07, 08 R218, 09): in the others they read 0 and
ignore writes. -/
def sharedOffset (o : Nat) : Bool :=
  let within (lo hi : Nat) : Bool := decide (lo ≤ o) && decide (o ≤ hi)
  within 0x1040 0x1057 || within 0x3100 0x310B || within 0x4800 0x4817 || within 0x4840 0x4843 || within 0x4880 0x488B ||
    within 0x4900 0x4903 || within 0x7000 0x702B || within 0x7800 0x7817 || within 0x7C00 0x7C3F

/-- The pop registers (12 R355): the base of their row. -/
def popRegister (a : Nat) : Bool := match regRow a with | some r => r.base == A.UART_DATA 0 | none => false

/-! ### The memories of the register space -/

/-- A memory: what may be read and written there. -/
inductive MemKind where
  /-- Belfry's log, the retention store and the tail log (03 R100, R103; 02 R83): read only -/
  | readOnly
  /-- backup RAM and SPI ring memory -/
  | plain
  /-- records and keys in the SAFETY block (01 R25) -/
  | safety
  /-- CAN entries of a controller (15 R442) -/
  | canRx (k : Nat)
  | canTx (k slot : Nat)
  /-- a model bank of an axis, or of a group slot (04 R118) -/
  | axisBank (n b : Nat)
  | groupBank (g b : Nat)
  /-- a knot, or a point of the cam table, of an axis; and the rest of its window (09) -/
  | knot (n i : Nat)
  | cam (n : Nat)
  | spare
  /-- capture memory (10 R277) -/
  | capture
  deriving DecidableEq, Repr

/-- The memory that holds an offset. -/
def memKind (a : Nat) : Option MemKind :=
  let within (lo hi : Nat) : Bool := decide (lo ≤ a) && decide (a < hi)
  if within 0x20000 0x28200 || within 0x3E000 0x3E800 then some .readOnly
  else if within 0x3E800 0x3F000 || within 0xE0000 0x100000 then some .plain
  else if within 0x17F000 0x17F040 || within 0x17F800 0x180000 then some .safety
  else if within 0x1A0000 0x1C0000 then
    let o := (a - 0x1A0000) % 0x8000
    let k := (a - 0x1A0000) / 0x8000
    if 0x1000 ≤ o ∧ o < 0x6000 then some (.canRx k)
    else if 0x6000 ≤ o ∧ o < 0x7400 then some (.canTx k ((o - 0x6000) / 80)) else none
  else if within 0x200000 0x400000 && decide (0x8000 ≤ a % 0x10000) then
    some (.axisBank ((a - 0x200000) / 0x10000) (if a % 0x10000 < 0xC000 then 0 else 1))
  else if within 0x410000 0x4D0000 then
    some (.groupBank ((a - 0x410000) / 0x18000) (if (a - 0x410000) % 0x18000 < 0xC000 then 0 else 1))
  else if within 0x800000 0xC00000 then
    let n := (a - 0x800000) / 0x20000
    let o := a % 0x20000
    if o < 0x10000 then some (.knot n (o / 32)) else if o < 0x14000 then some (.cam n) else some .spare
  else if within 0xC00000 0x1000000 then some .capture
  else none

/-- Knot `i` of axis `n` belongs to a table that runs (09 R250), or to a stream that has not consumed it (R251). -/
def Dev.knotInUse (d : Dev) (n i : Nat) : Bool :=
  match (d.mo n).src with
  | .table k => decide ((i + 2048 - k.first % 2048) % 2048 < k.count)
  | .stream k => decide ((i + 2048 - k.cur % 2048) % 2048 < d.published n k.cur)
  | _ => false

/-- A cam law is engaged on axis `n` (09 R261). -/
def Dev.camEngaged (d : Dev) (n : Nat) : Bool := (d.mo n).gear.layers.any (fun y => y.law.cam)

/-- The members of a group slot have one owner, the requester (04 R118). -/
def Dev.slotOwner (d : Dev) (g : Nat) (r : Req) : Bool := (d.slotMembers g).all (fun n => d.owner n == r.cc)

/-- The bank is the active one of an admitted axis or group (04 R118). -/
def Dev.bankLive (d : Dev) (n b : Nat) : Bool := (d.ax n).admitted && !(d.ax n).member && (d.ax n).active == b

/-- The bank is the active one of an admitted group on slot `g`. -/
def Dev.slotLive (d : Dev) (g b : Nat) : Bool :=
  d.axisList.any (fun n => (d.ax n).admitted && (d.ax n).member && (d.ax n).slot == g && (d.ax (d.lead n)).active == b)

/-- The entry of slot `s` belongs to the device (15 R443). -/
def Dev.canOwned (d : Dev) (k s : Nat) : Bool :=
  let done := d.cnt16 (A.CAN_TX_DONE k)
  decide ((s + 64 - done % 64) % 64 < dist16 (d.cnt16 (A.CAN_TX_PUT k)) done)

/-- The owner of CAN controller `k` or CC0 (15 R448). -/
def Dev.canClient (d : Dev) (k : Nat) (r : Req) : Bool := r.admin || d.fld (A.CAN_CTRL k) 24 16 == r.cc

/-- What a judgement answers: the access goes on; it reads 0 or is ignored without a fault; or with one. -/
inductive Judge where
  | ok
  | silent
  | bad (k : Kind)
  deriving DecidableEq, Repr

/-- The judgement of a memory. -/
def Dev.judgeMem (d : Dev) (r : Req) (m : MemKind) (write : Bool) : Judge :=
  match m with
  | .readOnly => if write then .silent else .ok
  | .plain => .ok
  | .safety => if write then .bad .notPermitted else .ok
  | .canRx _ => if write then .silent else .ok
  | .canTx k s =>
    if !write then .ok else if !d.canClient k r || d.canOwned k s then .bad .notPermitted else .ok
  | .axisBank n b => if write && d.bankLive n b then .bad .notPermitted else .ok
  | .groupBank g b =>
    if !write then .ok
    else if !(r.admin || d.slotOwner g r) then .bad .notOwner
    else if d.slotLive g b then .bad .notPermitted else .ok
  | .knot n i => if write && d.knotInUse n i then .bad .notPermitted else .ok
  | .cam n => if write && d.camEngaged n then .bad .notPermitted else .ok
  | .spare => .silent
  | .capture =>
    if write then .silent else if r.admin || d.ocu.holder == some r.cc then .ok else .bad .notPermitted

/-! ### Registers -/

/-- The client of a UART, and Finial's hold on UART 0 (15 R453). -/
def Dev.uartClient (d : Dev) (n : Nat) (r : Req) : Bool :=
  !(n == 0 && d.upd.finial) && (r.admin || d.fld (A.UART_CFG n) 24 16 == r.cc)

/-- The client page a key lies in. -/
def pageOf (a : Nat) : Option Nat := if 0x1000000 ≤ a then some ((a - 0x1000000) / 0x10000) else none

/-- Who may touch a register (each chapter's rule): none, or the kind of the fault. -/
def Dev.whoCheck (d : Dev) (r : Req) (row : RegRow) (a : Nat) (write : Bool) : Option Kind :=
  let i := row.idx1 a
  let cond (ok : Bool) : Option Kind := if ok then none else some .notPermitted
  match row.who with
  | .any => cond (!write || (match pageOf a with | some p => r.admin || r.cc == p | none => true))
  | .cc0 => cond (!write || r.admin)
  | .owner => none
  | .noone => none
  | .pair => cond (!write || r.admin || r.cc == i)
  | .dma => cond (r.admin || d.fld (A.DMA_CH_OWN i) 8 0 == r.cc)
  | .can => cond (!write || d.canClient i r)
  | .uart => cond (d.uartClient i r)
  | .holder => cond (!write || r.admin || d.ocu.holder == some r.cc)
  | .lan => if !write || r.admin || row.base == A.LAN_CFG 0 || d.owner (d.lanAxis i) == r.cc then none else some .notOwner
  | .test => cond (!write || (if a = A.DBG_CTRL then r.port == .debug else r.admin))

/-- When a register accepts a write: in its mode and axis state, otherwise WRONG_MODE. -/
def Dev.whenOk (d : Dev) (row : RegRow) (a : Nat) : Bool :=
  let st := (d.ax ((axisOfAddr a).getD 0)).state
  match row.at_ with
  | .any => true
  | .configure => d.sys.mode == .configure
  | .parked => st == .off || st == .parked
  | .parkedOpen => st == .off || st == .parked || st == .opened

/-- The judgement of an axis page or window: absent axes (00 R4), then the owner rules (01 R29, 13 R364). -/
def Dev.judgePage (d : Dev) (r : Req) (a : Nat) (write : Bool) : Judge :=
  match axisOfAddr a with
  | none => .ok
  | some n =>
    if d.axes ≤ n then (if write then .bad .axisAbsent else .silent)
    else if r.admin || d.owner n == r.cc then .ok
    else if !write && (d.observers n).contains r.cc then .ok
    else if write && (match regRow a with | some row => row.who == .cc0 | none => false) then .bad .notPermitted
    else .bad .notOwner

/-- A register's own rules on reading and writing: SAFETY's (01 R25), the sender's, the mode's. -/
def Dev.judgeReg (d : Dev) (r : Req) (row : RegRow) (a : Nat) (write : Bool) : Judge :=
  if write && decide (0x140000 ≤ a) && decide (a < 0x180000) && row.rw == 0 && row.w1c == 0 && row.w1s == 0 then .bad .notPermitted
  else match d.whoCheck r row a write with
    | some k => .bad k
    | none => if write && !d.whenOk row a then .bad .wrongMode else .ok

/-- A place that no memory and no register occupies: designated offsets of other axis pages, the admin registers of other client pages
(12 R341), and the rest, which is unmapped (01 R24). -/
def judgeEmpty (a : Nat) (write : Bool) : Judge :=
  if (axisOfAddr a).isSome && sharedOffset (a % 0x10000) then .silent
  else if 0x1010000 ≤ a ∧ a < 0x3000000 ∧ 0x10 ≤ a % 0x10000 ∧ a % 0x10000 < 0x24 then (if write then .bad .notPermitted else .silent)
  else .bad .unmapped

/-- A client page can be reached: CC0's by the register space and its BAR, another by that client's own BAR (12 R335, R341). -/
def Dev.pageReached (d : Dev) (r : Req) (a : Nat) : Bool :=
  match pageOf a with
  | none => true
  | some p => p == 0 || (r.cc == p && r.port == .pcie && d.clientExists p)

/-- The judgement of an aligned access of 32 bits or less at key `a`, a multiple of 4 (01 R24 to R29). -/
def Dev.judge (d : Dev) (r : Req) (a : Nat) (narrow write : Bool) : Judge :=
  if !d.pageReached r a then .bad .unmapped
  else match d.judgePage r a write with
    | .ok =>
      let late : Judge := match memKind a with
        | some m => d.judgeMem r m write
        | none => match regRow a with
          | some row => d.judgeReg r row a write
          | none => judgeEmpty a write
      if late = .bad .unmapped then late
      else if narrow && ((memKind a).isSome || (regRow a).isSome) && (write || popRegister a) then .bad .narrowWrite
      else late
    | j => j

end Sys2Proof.Machine
end

