-- ==== Sys2Proof/Machine/RegWrite.lean ====
section
/-!
DEFINITION. What a write may put into a register (00_scope.md R14): the encodings of single fields, the combinations of fields, the
fields another rule keeps, and the writes a register's chapter refuses whole.
-/

namespace Sys2Proof.Machine

/-! ### Encodings of one field -/

/-- A field whose values outside `lo_` to `hi_` are reserved. -/
structure FRange where
  hi : Nat
  lo : Nat
  least : Nat
  most : Nat
  deriving DecidableEq, Repr

/-- Fields of the registers of SYS to UART, by the base of the register's row. -/
def fieldRanges0 : List (Nat × List FRange) := [
  (A.SYS_TICK_CFG, [⟨1, 0, 0, 2⟩]),
  (A.SYS_WAKE_CFG, [⟨23, 8, 1, 0xFFFF⟩]),
  (A.SYS_DIP_CFG, [⟨9, 0, 1, 1000⟩]),
  (A.TIME_CFG, [⟨15, 0, 50, 0xFFFF⟩, ⟨23, 16, 8, 255⟩]),
  (A.BELFRY_CFG, [⟨2, 1, 0, 2⟩]),
  (A.BELFRY_RULE_COND 0, [⟨4, 0, 0, 17⟩]),
  (A.BELFRY_RULE_ACT 0, [⟨1, 0, 0, 2⟩]),
  (A.DMA_CH_CFG 0, [⟨2, 0, 0, 4⟩, ⟨7, 4, 4, 12⟩]),
  (A.FAB_CFG, [⟨15, 8, 8, 255⟩]),
  (A.FIELD_CH_CFG 0, [⟨1, 0, 0, 2⟩, ⟨21, 20, 0, 2⟩, ⟨31, 24, 1, 255⟩]),
  (A.CAN_CTRL 0, [⟨2, 1, 0, 2⟩]),
  (A.CAN_NBT 0, [⟨15, 8, 1, 255⟩, ⟨22, 16, 1, 127⟩]),
  (A.CAN_TM_CFG 0, [⟨9, 0, 1, 1000⟩]),
  (A.UART_CFG 0, [⟨3, 2, 0, 2⟩]),
  (A.UART_RX_THR 0, [⟨6, 0, 1, 64⟩]),
  (A.HOST_ADM_CFG, [⟨3, 0, 4, 12⟩, ⟨7, 4, 4, 12⟩]),
  (A.HOST_EVQ_CFG 0, [⟨3, 0, 4, 12⟩]),
  (A.HOST_VEC_MOD 0 0, [⟨23, 16, 1, 255⟩])]

/-- Fields of the axis pages, by the base of the register's row. -/
def fieldRanges1 : List (Nat × List FRange) := [
  (A.AX_CFG 0, [⟨15, 8, 1, 255⟩]),
  (A.AX_SD_CFG 0, [⟨23, 16, 16, 255⟩]),
  (A.AX_SDCLK_CFG 0, [⟨12, 4, 32, 256⟩, ⟨30, 16, 5000, 25000⟩]),
  (A.AX_BUS_CFG 0, [⟨15, 8, 16, 255⟩]),
  (A.AX_POS_CFG 0, [⟨1, 0, 0, 1⟩]),
  (A.AX_INJ_CFG 0, [⟨1, 0, 0, 2⟩, ⟨23, 16, 1, 255⟩, ⟨31, 24, 1, 255⟩]),
  (A.AX_BLEND_CFG 0, [⟨9, 0, 1, 1000⟩, ⟨31, 20, 1, 4095⟩]),
  (A.AX_IM_CFG 0, [⟨13, 0, 1, 10000⟩]),
  (A.AX_ENC_ANGLE_CFG 0, [⟨6, 0, 1, 64⟩]),
  (A.AX_ENC_CPR 0, [⟨31, 0, 1, 0xFFFFFFFF⟩]),
  (A.AX_CATCH_CFG 0, [⟨11, 0, 20, 4095⟩]),
  (A.AX_WAVE_CFG 0, [⟨1, 0, 0, 2⟩, ⟨6, 2, 1, 16⟩]),
  (A.AX_SHORT_CFG 0, [⟨11, 0, 1, 4095⟩, ⟨23, 16, 1, 255⟩]),
  (A.PWM_CTRL 0, [⟨1, 0, 0, 2⟩]),
  (A.PWM_TRIP_CFG 0, [⟨23, 16, 1, 255⟩]),
  (A.PWM_TRIP_WIN 0, [⟨15, 0, 1, 0xFFFF⟩]),
  (A.FB_CFG 0, [⟨15, 14, 0, 2⟩, ⟨23, 20, 1, 15⟩, ⟨31, 24, 1, 255⟩]),
  (A.FB_CMP_STEP 0 0, [⟨31, 0, 1, 0xFFFFFFFF⟩]),
  (A.FB_LAT_CTRL 0 0, [⟨9, 8, 0, 2⟩]),
  (A.FB_SER_CFG 0, [⟨1, 0, 0, 1⟩, ⟨13, 8, 8, 40⟩, ⟨18, 16, 0, 4⟩]),
  (A.FB_SER_TIMING 0, [⟨13, 0, 100, 10000⟩]),
  (A.PT_CFG 0, [⟨9, 0, 1, 1023⟩]),
  (A.PT_SCALE_D 0, [⟨31, 0, 1, 0xFFFFFFFF⟩]),
  (A.GEAR_PUB_CFG 0, [⟨5, 0, 0, 35⟩]),
  (A.LS_GRP_CFG 0, [⟨15, 8, 1, 255⟩])]

/-- Fields of OCULUS and TEST, by the base of the register's row. -/
def fieldRanges2 : List (Nat × List FRange) := [
  (A.OCU_CFG, [⟨1, 0, 0, 2⟩]),
  (A.OCU_POST, [⟨23, 0, 1, 0xFFFFFF⟩]),
  (A.OCU_SEQ_COND 0, [⟨3, 0, 0, 7⟩]),
  (A.OCU_SEQ_CNT 0, [⟨15, 0, 1, 0xFFFF⟩]),
  (A.LAN_CFG 0, [⟨17, 16, 0, 2⟩]),
  (A.LAN_PRBS 0, [⟨15, 8, 1, 255⟩]),
  (A.LAN_MS_CFG 0, [⟨16, 0, 16, 65536⟩, ⟨28, 24, 1, 16⟩]),
  (A.TEST_RING, [⟨19, 18, 0, 2⟩])]

/-- The fields of the register of a row that hold reserved values. -/
def rangesOf (base : Nat) : List FRange :=
  match (fieldRanges0 ++ fieldRanges1 ++ fieldRanges2).find? (fun x => x.1 == base) with
  | some x => x.2
  | none => []

/-- The fields of a word that hold a reserved value. -/
def rangeMask (base : Nat) (v : Word) : Word :=
  (rangesOf base).foldl (fun (m : Word) (f : FRange) =>
    if f.least ≤ field f.hi f.lo v ∧ field f.hi f.lo v ≤ f.most then m else m ||| fieldMask f.hi f.lo) 0

/-! ### Combinations -/

/-- The fields of a combination, where it is reserved. -/
def combo (reserved : Bool) (mask : Word) : Word := if reserved then mask else 0

/-- The bits [hi:lo] of a word, as a mask for `combo`. -/
abbrev fm := fieldMask

/-- BELFRY_RULE_COND: what a condition kind asks of its slot, n and window (03 R95). -/
def ruleCombo (v : Word) : Word :=
  let kind := field 6 5 v
  let analogue := decide (16 ≤ field 4 0 v)
  combo ((kind == 0 || kind == 3) == analogue) (fm 6 0) |||
    combo (kind == 3 && (field 15 8 v == 0 || field 27 18 v == 0)) (fm 6 5 ||| fm 27 8)

/-- EVT_ROUTE (13 R369). -/
def Dev.routeCombo (d : Dev) (src : Nat) (v : Word) : Word :=
  let axisSrc := decide (512 ≤ src) && decide (src < 896)
  combo (bit 15 v && !axisSrc && src != Ev.dmaChError && src != Ev.dmaDescIrq) (fm 15 15) |||
    combo (bit 14 v && !d.clientExists (field 8 0 v)) (fm 14 14 ||| fm 8 0)

/-- CAN_NBT and CAN_DBT: the jump width and the bit rate, 80 MHz over the clocks of a bit (15 R448). -/
def canBitCombo (brp seg1 seg2 sjw least : Nat) (sjwMask rateMask : Word) : Word :=
  combo (decide (seg2 < sjw)) sjwMask ||| combo (decide ((brp + 1) * (3 + seg1 + seg2) < least)) rateMask

/-- Combinations of the registers below the axis pages. -/
def Dev.combosLow (d : Dev) (row : RegRow) (a : Nat) (v : Word) : Word :=
  let b := row.base
  let i := row.idx1 a
  if b = A.SYS_TICK_CFG then combo (field 1 0 v == 2 && field 5 4 v == 3) (fm 1 0 ||| fm 5 4)
  else if b = A.SYS_WAKE_AXES 0 then combo (d.sys.is4016 && field 31 16 v != 0) (fm 31 0)
  else if b = A.SYS_AX_REST_CFG 0 then combo (bit 2 v && (d.brakeOf i).isNone) (fm 2 2)
  else if b = A.BELFRY_RULE_COND 0 then ruleCombo v
  else if b = A.EVT_ROUTE 0 then d.routeCombo i v
  else if b = A.HOST_UDP_BIND 0 then combo (bit 15 v && !d.clientExists (field 8 0 v)) (fm 15 15 ||| fm 8 0)
  else if b = A.FIELD_CH_CFG 0 then combo (bit 3 v && (field 1 0 v == 0 || field 1 0 v == 2)) (fm 3 3 ||| fm 1 0)
  else if b = A.CAN_NBT 0 then
    canBitCombo (field 7 0 v) (field 15 8 v) (field 22 16 v) (field 30 24 v) 80 (fm 30 24 ||| fm 22 16) (fm 22 0)
  else if b = A.CAN_DBT 0 then
    canBitCombo (field 4 0 v) (field 12 8 v) (field 19 16 v) (field 27 24 v) 16 (fm 27 24 ||| fm 19 16) (fm 19 0)
  else if b = A.UART_DIV 0 then combo (decide (16 * field 19 4 v + field 3 0 v < 267)) (fm 19 0)
  else 0

/-- AX_POS_CFG against itself and AX_SD_CFG (05 R154). -/
def Dev.posCombo (d : Dev) (n : Nat) (v : Word) : Word :=
  combo (bit 2 v && (bit 3 v || bit 4 v)) (fm 4 2) ||| combo (bit 5 v && d.fld (A.AX_SD_CFG n) 3 2 != 3) (fm 5 5)

/-- Another axis reads the same HN-8 channel through an RDC (05 R165). -/
def Dev.hn8Combo (d : Dev) (n : Nat) (v : Word) : Word :=
  let wants (w : Word) : Bool := bit 8 w && bit 12 w
  combo (wants v && d.axisList.any (fun m => m != n && wants (d.rd (A.AX_ENC_ANGLE_CFG m)) &&
    d.fld (A.AX_ENC_ANGLE_CFG m) 11 9 == field 11 9 v)) (fm 12 8)

/-- Another axis counts from the same serial port (08 R225). -/
def Dev.portCombo (d : Dev) (n : Nat) (v : Word) : Word :=
  combo (field 1 0 v == 2 && d.axisList.any (fun m => m != n && d.fld (A.FB_CFG m) 1 0 == 2 && d.fld (A.FB_CFG m) 6 4 == field 6 4 v))
    (fm 1 0 ||| fm 6 4)

/-- The window of a compare unit is as wide as its step (08 R233). -/
def cmpCombo (step win : Word) : Bool :=
  let s := (toSigned 32 step.toNat).natAbs
  decide (s ≤ field 15 0 win + field 31 16 win) && win != 0

/-- Combinations of the axis pages. -/
def Dev.combosAxis (d : Dev) (row : RegRow) (a : Nat) (v : Word) : Word :=
  let b := row.base
  let n := row.idx1 a
  if b = A.AX_SD_CFG 0 then combo (d.rb (A.AX_POS_CFG n) 5 && field 3 2 v != 3) (fm 3 0)
  else if b = A.AX_POS_CFG 0 then d.posCombo n v
  else if b = A.AX_BLEND_CFG 0 then combo (decide (field 9 0 v ≤ field 19 10 v)) (fm 19 0)
  else if b = A.AX_ENC_ANGLE_CFG 0 then d.hn8Combo n v
  else if b = A.AX_ADV_TAB 0 0 then combo (decide (5760 < (toSigned 16 (field 15 0 v)).natAbs)) (fm 15 0)
  else if b = A.PWM_CTRL 0 then combo (kReserved (1000000000 / d.loopPeriod) (2 ^ field 1 0 v)) (fm 1 0)
  else if b = A.FB_CFG 0 then d.portCombo n v
  else if b = A.FB_CMP_STEP 0 0 then combo (cmpCombo v (d.rd (A.FB_CMP_WIN n (row.idx2 a)))) (fm 31 0)
  else if b = A.FB_CMP_WIN 0 0 then combo (cmpCombo (d.rd (A.FB_CMP_STEP n (row.idx2 a))) v) (fm 31 0)
  else if b = A.FB_REP_CFG 0 then combo (d.sys.is4016 && decide (16 ≤ field 4 0 v)) (fm 4 0)
  else 0

/-- The fields of a word that stand in a reserved combination, with each other or with another register. -/
def Dev.comboMask (d : Dev) (row : RegRow) (a : Nat) (v : Word) : Word :=
  if a < 0x200000 then d.combosLow row a v else if a < 0x400000 then d.combosAxis row a v else 0

/-! ### Fields another rule keeps -/

/-- Fields that keep their value, with the kind of the fault where the write would change them. -/
abbrev Kept := List (Word × Kind)

/-- The fields that a register's chapter keeps in the present state (01 R34, R41; 13 R373, R381; 15 R448, R453). -/
def Dev.kept (d : Dev) (r : Req) (row : RegRow) (a : Nat) : Kept :=
  let b := row.base
  let i := row.idx1 a
  if b = A.SYS_TICK_CFG then
    (if d.isRoot then [] else [(fm 1 0, .notPermitted)]) ++ (if d.leads.isEmpty then [] else [(fm 8 8, .wrongMode)])
  else if b = A.DMA_CH_CFG 0 then
    if (d.ch i).state = .idle then []
    else if r.admin && (d.ch i).state == .halted then [(fm 2 0 ||| fm 7 4, .wrongMode)] else [(fm 7 0, .wrongMode)]
  else if b = A.HOST_EVQ_CFG 0 then if d.rb a 31 then [(fm 3 0, .wrongMode)] else []
  else if b = A.CAN_CTRL 0 then
    (if r.admin then [] else [(fm 24 16, .notPermitted)]) ++ (if d.rb a 0 then [(fm 4 1, .wrongMode)] else [])
  else if b = A.UART_CFG 0 then
    (if r.admin then [] else [(fm 24 16, .notPermitted)]) ++ (if d.rb a 0 then [(fm 24 1, .wrongMode)] else [])
  else []

/-! ### Writes refused whole -/

/-- HOST_ADM registers while the rings are active, or a command of theirs is in flight (12 R341). -/
def Dev.admRefused (d : Dev) (row : RegRow) (v : Word) : Bool :=
  (d.rb A.HOST_ADM_CFG 31 && !(row.base == A.HOST_ADM_CFG && !bit 31 v)) || d.host.inflight.any (fun f => f.sq == 0)

/-- The shares of the reserved channels once channel `c` has the word `v` (13 R384). -/
def Dev.reservedShare (d : Dev) (c : Nat) (v : Word) : Nat :=
  (List.range 32).foldl (fun s i =>
    let w := if i = c then v else d.rd (A.DMA_CH_OWN i)
    if bit 24 w then s + field 23 16 w else s) 0

/-- The members a word of CUPOLA_GRP_CFG names (04 R119). -/
def grpMembers (v : Word) : List Nat := (List.range (field 21 20 v + 1)).map (fun i => field (5 * i + 4) (5 * i) v)

/-- The members rise strictly. -/
def rising : List Nat → Bool
  | x :: y :: l => decide (x < y) && rising (y :: l)
  | _ => true

/-- A word that slot `g` of CUPOLA_GRP_CFG may not hold (04 R119). -/
def Dev.grpReserved (d : Dev) (g : Nat) (v : Word) : Bool :=
  let ms := grpMembers v
  let others := ((List.range 8).filter (fun h => h != g && d.rb (A.CUPOLA_GRP_CFG h) 31)).flatMap (fun h => grpMembers (d.rd (A.CUPOLA_GRP_CFG h)))
  field 21 20 v == 0 || !rising ms || ms.any (fun m => stoGroup m != stoGroup (ms.headD 0)) ||
    ms.any (fun m => others.contains m) || ms.any (fun m => decide (d.axes ≤ m))

/-- A member of slot `g` is admitted, in it or as a single axis; a slot that is not defined has no members (04 R119;
notes/assumptions/141.md). -/
def Dev.grpBusy (d : Dev) (g : Nat) : Bool :=
  d.rb (A.CUPOLA_GRP_CFG g) 31 && (grpMembers (d.rd (A.CUPOLA_GRP_CFG g))).any (fun n => (d.ax n).admitted)

/-- A value PROF_STOP_A and PROF_STOP_J take only in OFF and PARKED (09 R243). -/
def badLimit (v : Word) : Bool := !(f32Finite v && f32Lt 0 v)

/-- How far a new write pointer of a running stream lies beyond RP (09 R251). -/
def Dev.streamPast (d : Dev) (n : Nat) (v : Word) : Bool :=
  match (d.mo n).src with
  | .stream k =>
    let wp := d.fld (A.PROF_STREAM_WP n) 10 0
    decide (2047 < (wp + 2048 - k.cur % 2048) % 2048 + (field 10 0 v + 2048 - wp) % 2048)
  | _ => false

/-- Refusals of the registers below the axis pages. -/
def Dev.refuseLow (d : Dev) (row : RegRow) (a : Nat) (v : Word) : Option Kind :=
  let b := row.base
  let i := row.idx1 a
  let when_ (ok : Bool) (k : Kind) : Option Kind := if ok then none else some k
  if b = A.DMA_CH_OWN 0 then
    if (d.ch i).state ≠ .idle then some .wrongMode else when_ (decide (d.reservedShare i v ≤ 192)) .reservedEncoding
  else if b = A.DMA_CH_TRIG 0 then when_ ((d.ch i).state == .idle || v &&& 0x83FF == d.rd a &&& 0x83FF) .wrongMode
  else if b = A.DMA_CH_RING_LO 0 ∨ b = A.DMA_CH_RING_HI 0 then when_ ((d.ch i).state == .idle) .wrongMode
  else if b = A.CAN_NBT 0 ∨ b = A.CAN_DBT 0 ∨ b = A.CAN_TDC 0 ∨ b = A.CAN_FLT_ID 0 0 ∨ b = A.CAN_FLT_MASK 0 0 then
    when_ (!d.rb (A.CAN_CTRL i) 0) .wrongMode
  else if b = A.UART_DIV 0 then when_ (!d.rb (A.UART_CFG i) 0) .wrongMode
  else none

/-- Refusals of the axis pages. -/
def Dev.refuseAxis (d : Dev) (row : RegRow) (a : Nat) (v : Word) : Option Kind :=
  let b := row.base
  let n := row.idx1 a
  let st := (d.ax n).state
  if b = A.FB_CMP_BASE_LO 0 0 ∨ b = A.FB_CMP_BASE_HI 0 0 ∨ b = A.FB_CMP_STEP 0 0 ∨ b = A.FB_CMP_WIN 0 0 then
    if d.rb (A.FB_CMP_CTRL n (row.idx2 a)) 0 then some .wrongMode else none
  else if b = A.PROF_STOP_A 0 ∨ b = A.PROF_STOP_J 0 then
    if badLimit v && st != .off && st != .parked then some .wrongMode else none
  else if b = A.PROF_STREAM_WP 0 then if d.streamPast n v then some .notPermitted else none
  else none

/-- A read pointer beyond the write pointer; both count without end (10 R290). -/
def rpBeyond (wp v : Word) : Bool := (v - wp).toNat != 0 && decide ((v - wp).toNat < 2 ^ 31)

/-- OCULUS: the engine's configuration while it is not idle, RP beyond WP, and a running generator (10 R277, R290, R300). -/
def Dev.refuseOcu (d : Dev) (r : Req) (row : RegRow) (a : Nat) (v : Word) : Option Kind :=
  let b := row.base
  if b = A.OCU_RING_RP then if rpBeyond (d.rd A.OCU_RING_WP) v then some .notPermitted else none
  else if b = A.OCU_IGNORED then none
  else if a < 0x501000 then if d.ocu.state = 0 ∨ row.rw = 0 then none else some .wrongMode
  else
    let g := row.idx1 a
    if d.fld (A.LAN_STATUS g) 1 0 ≠ 0 then some .notPermitted
    else if b = A.LAN_CFG 0 ∧ !r.admin ∧ d.owner (field 4 0 v) ≠ r.cc then some .notOwner else none

/-- The client page and HOST (12 R333, R341; 13 R373). -/
def Dev.refuseHost (d : Dev) (row : RegRow) (a : Nat) (v : Word) : Option Kind :=
  let b := row.base
  if b = A.HOST_ADM_SQ_LO ∨ b = A.HOST_ADM_SQ_HI ∨ b = A.HOST_ADM_CQ_LO ∨ b = A.HOST_ADM_CQ_HI ∨ b = A.HOST_ADM_CFG then
    if d.admRefused row v then some .wrongMode else none
  else if b = A.HOST_EVQ_LO 0 ∨ b = A.HOST_EVQ_HI 0 then if d.rb (A.HOST_EVQ_CFG (row.idx1 a)) 31 then some .wrongMode else none
  else none

/-- TEST: a perturbation set out of its mode (16 R471). -/
def Dev.refuseTest (d : Dev) (a : Nat) (v : Word) : Option Kind :=
  if isPerturbation a && v != 0 && !d.perturbOk a then some .wrongMode else none

/-- CUPOLA: a group slot with admitted members, and the words it may not hold (04 R119). -/
def Dev.refuseCup (d : Dev) (row : RegRow) (a : Nat) (v : Word) : Option Kind :=
  if row.base ≠ A.CUPOLA_GRP_CFG 0 then none
  else if d.grpBusy (row.idx1 a) then some .wrongMode
  else if d.grpReserved (row.idx1 a) v then some .reservedEncoding else none

/-- A write that a register's chapter refuses whole, and the kind of its fault. -/
def Dev.refuseWrite (d : Dev) (r : Req) (row : RegRow) (a : Nat) (v : Word) : Option Kind :=
  if a < 0x200000 then d.refuseLow row a v
  else if a < 0x400000 then d.refuseAxis row a v
  else if a < 0x500000 then d.refuseCup row a v
  else if a < 0x600000 then d.refuseOcu r row a v
  else if a < 0x1000000 then d.refuseTest a v
  else d.refuseHost row a v

/-! ### The word a write leaves -/

/-- The W1C bits a written word clears; a field cleared whole by any of its bits. -/
def clearBits (row : RegRow) (v : Word) : Word :=
  row.fields.foldl (fun (m : Word) (f : Nat) => if v &&& BitVec.ofNat 32 f = 0 then m else m ||| BitVec.ofNat 32 f) (v &&& BitVec.ofNat 32 row.w1c)

/-- Bits that read 0 in the present state: reserved in a slot, a rule or an entry that has no use for them (03 R92, R95; 16 R472). -/
def unusedBits (row : RegRow) (a : Nat) (v : Word) : Word :=
  let b := row.base
  let i := row.idx1 a
  if b = A.BELFRY_IN_CFG 0 then if 16 ≤ i then fm 4 0 ||| fm 6 6 else 0
  else if b = A.BELFRY_RULE_COND 0 then
    (match field 6 5 v with | 0 => fm 27 9 | 3 => fm 17 17 | _ => 0) ||| (if i = 0 then fm 7 7 else 0)
  else if b = A.BELFRY_RULE_ACT 0 then 0
  else if b = A.TEST_SD_FLIP 0 then if i % 4 = 0 then 0 else fm 4 4
  else 0

/-- The word a write leaves in a register, and the kind of its fault if a field was kept (R14): a combination is judged on the word that the
fields kept by another rule leave (01 R32, R34), and again where a field it keeps stands in another one. -/
def Dev.written (d : Dev) (r : Req) (row : RegRow) (a : Nat) (v : Word) : Word × Option Kind :=
  let old := d.rd a
  let rw := BitVec.ofNat 32 row.rw
  let put (keep : Word) : Word :=
    let w := (old &&& ~~~(rw &&& ~~~keep)) ||| (v &&& rw &&& ~~~keep)
    w &&& ~~~ unusedBits row a w
  let range := rangeMask row.base (v &&& rw ||| ~~~rw &&& old) &&& rw
  let held := (d.kept r row a).filter (fun x => (put range ^^^ old) &&& x.1 != 0)
  let keep := held.foldl (fun (m : Word) (x : Word × Kind) => m ||| x.1) range
  let more (m : Word) : Word := m ||| (d.comboMask row a (put (keep ||| m)) &&& rw)
  let pairs := more (more (more 0))
  let reserved := range ||| pairs
  let mask := keep ||| pairs
  let kind := if reserved ≠ 0 then some .reservedEncoding else held.head?.map (·.2)
  (put mask &&& ~~~ clearBits row v, kind)

end Sys2Proof.Machine
end

