-- ==== Sys2Proof/Machine/RingReg.lean ====
section
/-!
DEFINITION. Writes of the ring and queue registers of a client page (12_host_commands.md R341 to R346; 13_clients_events_dma.md
R373) and of the DMA channels' control registers (13 R385 to R390).
-/

namespace Sys2Proof.Machine

/-! ### Rings -/

/-- HOST_SQ_TAIL[i] of client `cc` (R343): refused beyond the ring's size or on a stopped ring, and where no ring is; the write takes
its place in ring arrival order. -/
def Dev.sqTail (d : Dev) (r : Req) (cc i : Nat) (v : Word) : Dev :=
  let a := A.HOST_SQ_TAIL cc i
  match d.sqAt cc i with
  | none => d.accFault r a .unmapped true
  | some (q, s) =>
    let size := 2 ^ s.k
    let idx := field 11 0 v
    if size ≤ idx ∨ d.sqStopped s then d.accFault r a .reservedEncoding true
    else
      let n := (idx + size - s.tail % size) % size
      if n = 0 then d
      else (d.setSq q { s with tail := s.tail + n, marks := s.marks ++ [(s.tail + n, d.host.nextOrd)] }).modHost
        (fun h => { h with nextOrd := h.nextOrd + 1 })

/-- The entries consumed once a head index is written: those between it and the next entry the device writes are not. -/
def headCount (wr size idx : Nat) : Nat := wr - (wr + size - idx % size) % size

/-- HOST_CQ_HEAD[i] of client `cc` (R344, R346): room in the ring lets the completions that wait be written. -/
def Dev.cqHead (d : Dev) (r : Req) (cc i : Nat) (v : Word) : Dev :=
  match d.cqAt cc i with
  | none => d.accFault r (A.HOST_CQ_HEAD cc i) .unmapped true
  | some (q, c) =>
    let c := { c with rd := headCount c.wr (2 ^ c.k) (field 11 0 v) }
    (d.setCq q { c with full := c.full && c.isFull }).cqRelease c.held.length q

/-- HOST_ADM_CFG (R341): setting en starts both admin rings empty; clearing it ends them. -/
def Dev.admCfg (d : Dev) (was now : Word) : Dev :=
  if bit 31 now && !bit 31 was then
    let sq : Sq := { client := 0, loc := 0, cls := 1, cq := 0, base := d.rd64 A.HOST_ADM_SQ_LO, k := field 3 0 now }
    let cq : Cq := { client := 0, loc := 0, base := d.rd64 A.HOST_ADM_CQ_LO, k := field 7 4 now, vector := field 12 8 now }
    (d.setSq 0 sq).newCq 0 cq
  else if !bit 31 now && bit 31 was then
    d.modHost (fun h => { h with sqs := AList.del h.sqs 0, cqs := AList.del h.cqs 0 })
  else d

/-- HOST_EVQ_CFG (13 R373): setting en starts the queue empty with phase 1. -/
def Dev.evqCfg (d : Dev) (cc : Nat) (was now : Word) : Dev :=
  if bit 31 now && !bit 31 was then d.setEvq cc { AList.get {} d.host.evqs cc with wr := 0, rd := 0, overflowed := false } else d

/-- HOST_EVQ_HEAD (13 R373). -/
def Dev.evqHead (d : Dev) (cc : Nat) (v : Word) : Dev :=
  let q := AList.get {} d.host.evqs cc
  let d := d.setEvq cc { q with rd := headCount q.wr (d.evqSize cc) (field 11 0 v) }
  if d.evqFull cc then d else d.setEvq cc { AList.get {} d.host.evqs cc with overflowed := false }

/-! ### DMA channels -/

/-- Change channel `c`. -/
def Dev.modCh (d : Dev) (c : Nat) (f : DmaCh → DmaCh) : Dev := d.setCh c (f (d.ch c))

/-- The channel has something to do from counter value `cnt` on: no burst of it starts earlier (R383). -/
def DmaCh.wake (x : DmaCh) (cnt : Nat) : DmaCh := { x with freeAt := max x.freeAt (8 * cnt) }

/-- A channel is in the halt: HALTED, or probed. -/
def DmaCh.stuck (x : DmaCh) : Bool := x.state == .halted || x.state == .probing

/-- Some channel is in the halt. -/
def Dev.dmaStuck (d : Dev) : Bool := (List.range 32).any (fun c => (d.ch c).stuck)

/-- DMA_RESUMED where the last channel in the halt has left it (R390). -/
def Dev.dmaSettled (d : Dev) (was : Bool) : Dev := if was && !d.dmaStuck then d.raise Ev.dmaResumed else d

/-- start is written (R386): from IDLE or ERROR the channel runs from the first byte of the descriptor at its head; a share of 0
cannot start; a HALTED channel is CC0's to resume. -/
def Dev.dmaStart (d : Dev) (r : Req) (c : Nat) : Dev :=
  match (d.ch c).state with
  | .idle | .error => if d.fld (A.DMA_CH_OWN c) 23 16 = 0 then d else d.modCh c (fun x => { x.wake d.time.cnt with state := .run, pos := 0, probeOk := false })
  | .halted | .probing => d.accFault r (A.DMA_CH_CTRL c) .wrongMode true
  | .run => d

/-- The channel ends: IDLE, its head kept, its candidate bit cleared. -/
def Dev.dmaIdle (d : Dev) (c : Nat) : Dev :=
  let was := d.dmaStuck
  let d := d.modDma (fun q => { q with probing := if q.probing = some c then none else q.probing })
  (d.modCh c (fun x => { x with state := .idle, cand := false })).dmaSettled was

/-- stop is written (R386, R390). -/
def Dev.dmaStop (d : Dev) (c : Nat) : Dev := if (d.ch c).state = .idle then d else d.dmaIdle c

/-- probe is written (R390): by CC0, on a HALTED candidate, one at a time. -/
def Dev.dmaProbe (d : Dev) (r : Req) (c : Nat) : Dev :=
  let x := d.ch c
  if !r.admin then d.accFault r (A.DMA_CH_CTRL c) .notPermitted true
  else if x.state ≠ .halted ∨ !x.cand ∨ d.dma.probing.isSome then d.accFault r (A.DMA_CH_CTRL c) .wrongMode true
  else (d.modCh c (fun x => { x with state := .probing, probeOk := false })).modDma (fun q => { q with probing := some c })

/-- DMA_CH_CTRL[c]: its bits in ascending order. -/
def Dev.dmaCtrl (d : Dev) (r : Req) (c : Nat) (v : Word) : Dev :=
  let d := if bit 0 v then d.dmaStart r c else d
  let d := if bit 1 v then d.dmaStop c else d
  if bit 2 v then d.dmaProbe r c else d

/-- DMA_RESUME (R389): each named channel that is HALTED and no candidate runs on from its resume point. -/
def Dev.dmaResume (d : Dev) (v : Word) : Dev :=
  let was := d.dmaStuck
  (d.each (maskList 32 v.toNat) (fun d c =>
    if (d.ch c).state == .halted && !(d.ch c).cand then d.modCh c (fun x => { x.wake d.time.cnt with state := .run, probeOk := false }) else d)).dmaSettled was

/-- DMA_CH_TAIL[c] (R381). -/
def Dev.dmaTail (d : Dev) (c : Nat) (v : Word) : Dev :=
  d.modCh c (fun x => { if x.head = x.tail then x.wake d.time.cnt else x with tail := field 11 0 v })

/-- A probe ends (R390): the candidate is cleared, or it is the cause. -/
def Dev.dmaProbeEnd (d : Dev) (ok : Bool) (errKind : Nat) : Dev :=
  match d.dma.probing with
  | none => d
  | some c =>
    let was := d.dmaStuck
    let d := d.modDma (fun q => { q with probing := none })
    if ok then d.modCh c (fun x => { x with state := .halted, cand := false, probeOk := true })
    else ((d.modCh c (fun x => { x with state := .error, cand := false, errKind := errKind % 16 })).raise Ev.dmaChError c).dmaSettled was

/-- DMA_PROBE_END. -/
def execDmaProbeEnd (ok : Bool) (errKind : Nat) (s : State) : Host.Outcome State Fault Refusal := s.perform (fun d => d.dmaProbeEnd ok errKind)

/-- A DMA read has failed with a channel running (R387): every running channel is HALTED, and those with a read outstanding are
candidates. -/
def Dev.dmaReadFailure (d : Dev) (errKind outstanding : Nat) : Dev :=
  let runs := (List.range 32).filter (fun c => (d.ch c).state == .run)
  if errKind = 0 ∨ 6 < errKind ∨ !runs.any (fun c => nbit c outstanding) then d
  else
    let d := d.each runs (fun d c => d.modCh c (fun x => { x with state := .halted, cand := x.cand || nbit c outstanding }))
    let d := (d.setFld A.DMA_STATUS 7 4 errKind).incSat A.DMA_STATUS 31 16
    (d.wr64 A.DMA_HALT_T_LO d.now).raise Ev.dmaHalted

/-- DMA_READ_FAILURE. -/
def execDmaReadFailure (errKind outstanding : Nat) (s : State) : Host.Outcome State Fault Refusal :=
  s.perform (fun d => d.dmaReadFailure errKind outstanding)

end Sys2Proof.Machine
end

