-- ==== Sys2Proof/Machine/RegBus.lean ====
section
/-!
DEFINITION. The register bus (01_architecture_tick.md R24 to R30): reads with their side effects (R28, 12 R355), and writes with what
each register does when it takes a value.
-/

namespace Sys2Proof.Machine

/-! ### Reads -/

/-- The row bases of the low words of the 64-bit pairs that are read under R28. -/
def snapLows : List Nat := [
  A.SYS_TICK_COUNT_LO, A.TIME_NOW_LO, A.TIME_CNT_LO, A.BELFRY_RTC_LO, A.DMA_HALT_T_LO, A.SAF_REC_SEQ_LO, A.AX_SNAP_TICK_LO 0,
  A.FB_COUNT_LO 0, A.FB_REF_DELTA_LO 0, A.FB_CMP_HIT_T_LO 0 0, A.FB_CMP_MISS_BASE_LO 0 0, A.FB_LAT_T_LO 0 0, A.FB_LAT_CNT_LO 0 0,
  A.FB_SER_RAW_LO 0, A.FB_SYNC_T_LO, A.PROF_REF_P_LO 0, A.GEAR_M_POS_LO 0, A.VM_REF_P_LO 0, A.CUPOLA_FAIL_TICK_LO, A.OCU_TRIG_T_LO]

/-- The snapshot holder a requester uses (R28). -/
def Req.holder (r : Req) : Req := { r with dma := none }

/-- What a holder has captured. -/
def held (l : List (Req × Word)) (r : Req) : Word := match l.find? (fun x => x.1 == r.holder) with | some x => x.2 | none => 0

/-- A holder captures a word. -/
def snapTake (l : List (Req × Word)) (r : Req) (v : Word) : List (Req × Word) := (r.holder, v) :: l.filter (fun x => x.1 != r.holder)

/-- The fraction of a ns of fabric time, in sixteenths of a bit (14 R427). -/
def Dev.nowFrac (d : Dev) : Word := BitVec.ofNat 32 ((d.time.at40 d.time.cnt % q40).toNat / 2 ^ 24)

/-- A read of the register at key `a`: its word, and what reading it does. -/
def Dev.readReg (d : Dev) (r : Req) (row : RegRow) (a : Nat) : Word × Dev :=
  if row.base = A.UART_DATA 0 then d.uartPop (row.idx1 a) (d.shadowRead r)
  else if row.base = A.TIME_NOW_FRAC then (held d.sys.frac r, d)
  else if snapLows.contains row.base then
    let v := d.view a
    if d.shadowRead r then (v, d)
    else
      let d := d.modSys (fun s => { s with snap := snapTake s.snap r (d.view (a + 4)) })
      (v, if row.base = A.TIME_NOW_LO then d.modSys (fun s => { s with frac := snapTake s.frac r d.nowFrac }) else d)
  else if 4 ≤ row.base && snapLows.contains (row.base - 4) then (held d.sys.snap r, d)
  else (d.view a, d)

/-- The word at key `a`. -/
def Dev.readWord (d : Dev) (r : Req) (a : Nat) : Word × Dev :=
  if (memKind a).isSome then (d.mw a, d)
  else match regRow a with
    | some row => d.readReg r row a
    | none => (0, d)

/-- The access reaches the registers: the logic die runs, and the debug port is open (16 R475). -/
def Dev.reaches (d : Dev) (r : Req) : Bool := d.running && (r.port != .debug || d.debugOpen)

/-- An access is misaligned to its width in bytes (R26). -/
def misaligned (addr width : Nat) : Bool := !(width == 1 || (width == 2 && addr % 2 == 0) || (width == 4 && addr % 4 == 0))

/-- The bytes of a word that a narrow access addresses. -/
def narrowed (w : Word) (addr width : Nat) : Word := BitVec.ofNat 32 (w.toNat / 256 ^ (addr % 4) % 256 ^ width)

/-- A read of `width` bytes at an offset (R24 to R30). -/
def Dev.busRead (d : Dev) (r : Req) (addr width : Nat) : Word × Dev :=
  let d := d.modHost (fun h => { h with accKind := 0 })
  let a := regKey addr
  if !d.reaches r then (0, d)
  else if misaligned addr width then (0, d.accFault r a .misaligned false)
  else match d.judge r (a - a % 4) (decide (width < 4)) false with
    | .bad k => (0, d.accFault r a k false)
    | .silent => (0, d)
    | .ok =>
      let x := d.readWord r (a - a % 4)
      (narrowed x.1 addr width, x.2)

/-! ### Writes -/

/-- What the writer's port knows of a write: that it followed the first of an unlock sequence in time (11 R330, 16 R474), and the cyclic
slots the root grants (14 R399). -/
structure Hint where
  within : Option Bool := none
  granted : Option Nat := none
  deriving DecidableEq, Repr

/-- A hint, or a free value where the write came another way. -/
def Dev.hintBool (d : Dev) (h : Option Bool) : Bool × Dev :=
  match h with
  | some b => (b, d)
  | none => (d.fresh.1 % 2 == 1, d.fresh.2)

/-- A number hinted, or a free one. -/
def Dev.hintNat (d : Dev) (h : Option Nat) : Nat × Dev := match h with | some n => (n, d) | none => d.fresh

/-- SYS_TICK_CFG takes the fields of a write (01 R35): a change of the period or the multiplier is accepted as pending or refused. -/
def Dev.tickCfg (d : Dev) (was now : Word) : Dev :=
  let ft := field 1 0 now
  let mult := field 5 4 now
  let other := setField 5 4 (field 5 4 was) (setField 1 0 (field 1 0 was) now)
  let d := d.wr A.SYS_TICK_CFG other
  let ns := periodOf ft mult
  let fits := [0, 1].all (fun c => (loads (onCluster c d.mdls)).all (fun x => decide (x ≤ limitOf ns)))
  let carriers := d.axisList.all (fun n => !kReserved (1000000000 / ns) (2 ^ d.fld (A.PWM_CTRL n) 1 0))
  if ft = field 1 0 was ∧ mult = field 5 4 was then d
  else if d.sys.pending.isSome || d.sys.rootPending.isSome || (ft != field 1 0 was && !d.allConfigure) || !fits || !carriers then
    d.flag A.SYS_TICK_STATUS 9 Ev.tickCfgRefused
  else
    let at_ := if ft = field 1 0 was then (d.now / 1000000 + 1) * 1000000
      else ceilDiv (d.now + 8 * d.framePeriod) 1000000 * 1000000
    ((d.wr A.SYS_TICK_CFG now).wb A.SYS_TICK_STATUS 8 true).modSys (fun s => { s with pending := some { ftSel := ft, mult, at_ } })

/-- The low word of the RW 48-bit pair a register belongs to: its key, and whether the register is the high word (08 R219, 09 R250). -/
def pairOf (row : RegRow) (a : Nat) : Option (Nat × Bool) :=
  let lows := [A.FB_LIM_LO_LO 0, A.FB_LIM_HI_LO 0, A.FB_ORIGIN_LO 0, A.FB_REF_VAL_LO 0, A.FB_CMP_BASE_LO 0 0, A.VLIM_LO_LO 0, A.VLIM_HI_LO 0]
  if lows.contains row.base then some (a, false)
  else if 4 ≤ row.base && lows.contains (row.base - 4) then some (a - 4, true) else none

/-- The limits of axis `n` would lie the wrong way round with `v` in the pair at `low` (08 R223). -/
def Dev.limitsCross (d : Dev) (n low : Nat) (v : Int) : Bool :=
  if low = A.FB_LIM_LO_LO n then decide (d.rd48 (A.FB_LIM_HI_LO n) ≤ v)
  else if low = A.FB_LIM_HI_LO n then decide (v ≤ d.rd48 (A.FB_LIM_LO_LO n)) else false

/-- A word of an RW pair is written: the low word is staged, the high word commits the pair. -/
def Dev.pairWrite (d : Dev) (r : Req) (n a low : Nat) (high : Bool) (v : Word) : Dev :=
  if !high then d.modFbd (fun f => { f with staged := AList.put f.staged low v })
  else
    let lo := AList.get (d.rd low) d.fbd.staged low
    let x := toSigned 48 (lo.toNat + 2 ^ 32 * field 15 0 v)
    let d := d.modFbd (fun f => { f with staged := AList.del f.staged low })
    if d.limitsCross n low x then d.accFault r a .reservedEncoding true
    else
      let d := d.wr48 low x
      if low = A.FB_REF_VAL_LO n then d.modFb n (fun f => { f with refSet := true }) else d

/-- The registers that a write commands, and hold no word of it; none for every other register. -/
def Dev.commandReg (d : Dev) (r : Req) (row : RegRow) (a : Nat) (v : Word) (hint : Hint) : Option Dev :=
  let b := row.base
  let i := row.idx1 a
  let clear (hi lo : Nat) : Option Dev := some (if bit 31 v then d.setFld a hi lo 0 else d)
  if b = A.SYS_OVERRUN then clear 15 0
  else if b = A.SYS_S1_PEAK then (clear 17 0).map (fun d => if bit 31 v then d.modCup (fun q => { q with s1Before := 0, s1Used := 0 }) else d)
  else if b = A.SYS_DIP_LAST then clear 30 24
  else if b = A.BELFRY_LOG_SW then some (d.logWrite 4 0 (field 15 0 v))
  else if b = A.BELFRY_LOG_RP then some (d.logRp v)
  else if b = A.BELFRY_BKP_CTRL then some (if bit 0 v then d.rtcLoad else d)
  else if b = A.DMA_RESUME then some (d.dmaResume v)
  else if b = A.DMA_CH_CTRL 0 then some (d.dmaCtrl r i v)
  else if b = A.DMA_CH_TAIL 0 then some (d.dmaTail i v)
  else if b = A.FIELD_OUT then some (d.fieldOut 0xFFFFFFFF v.toNat)
  else if b = A.FIELD_OUT_SET then some (d.fieldOut v.toNat 0xFFFFFFFF)
  else if b = A.FIELD_OUT_CLR then some (d.fieldOut v.toNat 0)
  else if b = A.CAN_TX_PUT 0 then some (d.canPut r i v)
  else if b = A.CAN_RX_ACK 0 then some (d.canAck r i false v)
  else if b = A.CAN_TX_ACK 0 then some (d.canAck r i true v)
  else if b = A.UART_DATA 0 then some (d.uartPut i (BitVec.ofNat 8 (field 7 0 v)))
  else if b = A.SAF_UNLOCK then let x := d.hintBool hint.within; some (x.2.safUnlock v x.1)
  else if b = A.TEST_UNLOCK then let x := d.hintBool hint.within; some (x.2.testUnlock v x.1)
  else if b = A.AX_SNAP_CTRL 0 then some (d.snapRequest i v)
  else if b = A.HOST_SQ_TAIL 0 0 then some (d.sqTail r i (row.idx2 a) v)
  else if b = A.HOST_CQ_HEAD 0 0 then some (d.cqHead r i (row.idx2 a) v)
  else if b = A.HOST_EVQ_HEAD 0 then some (d.evqHead i v)
  else if (b = A.HOST_SPI_STATUS ∨ b = A.HOST_SPI_IRQ ∨ b = A.HOST_SPI_IRQ_MASK) ∧ !d.host.spi then some d
  else none

/-- Registers of CAN and the UARTs once they have taken a word. -/
def Dev.ioAfter (d : Dev) (row : RegRow) (a : Nat) (was now v : Word) : Dev :=
  let b := row.base
  let i := row.idx1 a
  if b = A.CAN_CTRL 0 then
    let d := if bit 0 now && !bit 0 was then Dev.canStart 65 d i else d
    let d := if !bit 0 now && bit 0 was then d.modCan i (fun x => { x with bus := none }) else d
    if bit 5 v then d.canAbort i else d
  else if b = A.CAN_TM_CFG 0 then (d.wr a was).canTmCfg i now
  else if b = A.UART_CFG 0 then if bit 0 now && !bit 0 was then d.uartLoad i else d
  else if b = A.FIELD_CH_CFG 0 then (d.wr a was).fieldCfg i now
  else if b = A.FIELD_FAULT_MASK then d.dioRefresh
  else d

/-- Registers of the axis pages once they have taken a word. -/
def Dev.axisAfter (d : Dev) (row : RegRow) (a : Nat) (was now v : Word) (hint : Hint) : Dev :=
  let b := row.base
  let n := row.idx1 a
  let u := row.idx2 a
  if b = A.FB_LAT_CTRL 0 0 then if bit 10 v then d.wb a 10 true else d
  else if b = A.FB_CMP_CTRL 0 0 then d.setFb n ((d.fb n).setWins u [])
  else if b = A.FB_CFG 0 then
    if field 1 0 now != field 1 0 was || (field 1 0 now == 2 && field 6 4 now != field 6 4 was) then d.fbRestart n else d
  else if b = A.GEAR_PUB_CFG 0 then let x := d.hintNat hint.granted; x.2.pubWritten n was (x.1 % 2 == 1)
  else if b = A.LS_GRP_CFG 0 then let x := d.hintNat hint.granted; x.2.lsWritten n was x.1
  else if b = A.AX_POS_CFG 0 then d.regionStep n
  else if b = A.PWM_CTRL 0 then d.modPw n (fun p => { p with ctrlWritten := true })
  else d

/-- What a register does once it has taken a word: `was` the word before, `now` the word it holds, `v` the word written.  A write to a rule
of Belfry makes it fire anew and keeps the rest of its working state (notes/assumptions/149.md). -/
def Dev.regAfter (d : Dev) (row : RegRow) (a : Nat) (was now v : Word) (hint : Hint) : Dev :=
  let b := row.base
  let i := row.idx1 a
  if b = A.SYS_TICK_CFG then (d.wr a was).tickCfg was now
  else if b = A.SYS_WAKE_BUDGET 0 ∨ b = A.SYS_WAKE_AXES 0 then d.restRechoice
  else if b = A.BELFRY_RULE_COND 0 ∨ b = A.BELFRY_RULE_ACT 0 then d.setBelRule i { d.belRule i with prev := false }
  else if b = A.BELFRY_IN_CFG 0 then
    if !bit 5 now then d.setBelSlot i { d.belSlot i with started := false, count := 0 }
    else if i < 16 ∧ d.isOutput (field 4 0 now) then d.slotsLost (field 4 0 now) else d
  else if b = A.HOST_ADM_CFG then d.admCfg was now
  else if b = A.HOST_EVQ_CFG 0 then d.evqCfg i was now
  else if 0x180000 ≤ a ∧ a < 0x200000 then d.ioAfter row a was now v
  else if 0x200000 ≤ a ∧ a < 0x400000 then d.axisAfter row a was now v hint
  else d

/-- A write of a word to the register at key `a`, judged. -/
def Dev.writeReg (d : Dev) (r : Req) (row : RegRow) (a : Nat) (v : Word) (hint : Hint) : Dev :=
  match d.refuseWrite r row a v with
  | some k => d.accFault r a k true
  | none =>
    match d.commandReg r row a v hint with
    | some d => d
    | none =>
      match pairOf row a with
      | some (low, high) => d.pairWrite r (row.idx1 a) a low high v
      | none =>
        let was := d.rd a
        let (now, kind) := d.written r row a v
        let d := if isPerturbation a then d.perturb a now else (d.wr a now).regAfter row a was now v hint
        match kind with
        | some k => d.accFault r a k true
        | none => d

/-- A write of a word to a memory at key `a`, judged: a range that holds the knot no longer counts as validated (09 R250). -/
def Dev.writeMem (d : Dev) (m : MemKind) (a : Nat) (v : Word) : Dev :=
  let d := d.setMw a v
  match m with
  | .knot n i => d.modMo n (fun x => { x with valid := x.valid.filter (fun v => decide (v.2.1 ≤ (i + 2048 - v.1 % 2048) % 2048)) })
  | _ => d

/-- A write of `width` bytes at an offset (R24 to R30). -/
def Dev.busWrite (d : Dev) (r : Req) (addr width : Nat) (v : Word) (hint : Hint := {}) : Dev :=
  let d := d.modHost (fun h => { h with accKind := 0 })
  let a := regKey addr
  if !d.reaches r then d
  else if misaligned addr width then d.accFault r a .misaligned true
  else match d.judge r (a - a % 4) (decide (width < 4)) true with
    | .bad k => d.accFault r a k true
    | .silent => d
    | .ok =>
      match memKind a with
      | some m => d.writeMem m a v
      | none =>
        match regRow a with
        | some row => d.writeReg r row a v hint
        | none => d

/-- A read of at most 32 bits whose answer leaves by the requester's port. -/
def Dev.readOut (d : Dev) (r : Req) (addr width : Nat) : Dev :=
  let x := d.busRead r addr width
  x.2.emit (.read r addr x.1)

/-! ### Accesses wider than 32 bits (R27) -/

/-- The 32-bit parts of an access of `width` bytes that is wider than one: 0 for one that is not. -/
def wideParts (width : Nat) : Nat := if 4 < width ∧ width % 4 = 0 then width / 4 else 0

/-- A read of any width: a wide one is carried out in 32-bit parts in ascending order, each judged by itself. -/
def Dev.readAny (d : Dev) (r : Req) (addr width : Nat) : Dev :=
  if wideParts width = 0 then d.readOut r addr width
  else (List.range (wideParts width)).foldl (fun d i => d.readOut r (addr + 4 * i) 4) d

/-- A write of any width, `v` its first word and `more` the words after it: a wide one is carried out in 32-bit parts likewise. -/
def Dev.writeAny (d : Dev) (r : Req) (addr width : Nat) (v : Word) (more : List Word) : Dev :=
  if wideParts width = 0 then d.busWrite r addr width v
  else (List.range (wideParts width)).foldl (fun d i => d.busWrite r (addr + 4 * i) 4 ((v :: more).getD i 0)) d

end Sys2Proof.Machine
end

