-- ==== Sys2Proof/Machine/SysOps.lean ====
section
/-!
DEFINITION. The system opcodes (12_host_commands.md R342, R357): rings, register access by command, SYS_IDENTIFY and SYS_NOP; and the
opcodes that configure clients, events and ownership (13_clients_events_dma.md R362, R363, R365, R366, R369).
-/

namespace Sys2Proof.Machine

/-- The command came from this device's own host port, and is at it: the target of a command that must reach the node that carries the
host port. -/
def Dev.atPort (d : Dev) (h : Hdr) : Bool := d.host.attached && h.origin.isNone

/-! ### Rings -/

/-- The size of SPI ring memory (R340). -/
def ringMemory : Nat := 0x20000

/-- A ring base is aligned, and in SPI mode the ring lies in ring memory. -/
def Dev.baseOk (d : Dev) (base bytes : Nat) : Bool :=
  if d.host.spi then base % 64 == 0 && decide (base + bytes ≤ ringMemory) else base % 4096 == 0

/-- A reserved value in the parameters of RING_CREATE (R351, check 2). -/
def ringReserved (b : List Byte) : Bool :=
  decide (1 < byteAt b 16) || decide (0x1FF < leAt b 17 2) || decide (byteAt b 19 < 4) || decide (12 < byteAt b 19) ||
    (byteAt b 16 == 0 && decide (3 < byteAt b 20)) || (byteAt b 16 == 1 && decide (31 < byteAt b 32)) || byteAt b 33 == 0

/-- The global IDs and local indices in use on one side: SQs for kind 0, CQs for kind 1. -/
def Dev.ringsOf (d : Dev) (kind : Nat) : List (Nat × Nat × Nat) :=
  if kind = 0 then d.host.sqs.map (fun x => (x.1, x.2.client, x.2.loc)) else d.host.cqs.map (fun x => (x.1, x.2.client, x.2.loc))

/-- A free global ID, which one the spec leaves to the device: the first free one from a free value on (notes/assumptions/34.md). -/
def Dev.freeRing (d : Dev) (kind : Nat) : Option Nat × Dev :=
  let c := d.fresh
  let used := (d.ringsOf kind).map (·.1)
  (((List.range 16384).map (fun i => (c.1 + i) % 16384)).find? (fun i => i != 0 && !used.contains i), c.2)

/-- The local index RING_CREATE gives: the one asked for, or the lowest free one. -/
def Dev.freeLocal (d : Dev) (kind cc want : Nat) : Option Nat :=
  let used := ((d.ringsOf kind).filter (fun x => x.2.1 == cc)).map (·.2.2)
  if want = 0xFF then ((List.range 256).find? (fun i => i != 0 && !used.contains i))
  else if used.contains want then none else some want

/-- What RING_CREATE finds wrong beyond the resources: a client that is absent, the CQ of another client, the base. -/
def Dev.ringBad (d : Dev) (b : List Byte) : Bool :=
  let cc := leAt b 17 2
  let kind := byteAt b 16
  let cqOk : Bool := match AList.find d.host.cqs (leAt b 22 2) with | some c => c.client == cc | none => false
  !d.clientExists cc || (kind == 0 && !cqOk) || !d.baseOk (leAt b 24 8) (2 ^ byteAt b 19 * (if kind = 0 then 64 else 32))

/-- RING_CREATE at acceptance (R342, R357, R366). -/
def Dev.ringCreate (d : Dev) (h : Hdr) (b : List Byte) : Dev :=
  let kind := byteAt b 16
  let cc := leAt b 17 2
  if h.mask ≠ 0 ∨ ringReserved b ∨ !d.atPort h then d.doneNow h Code.badField
  else
    let id := d.freeRing kind
    match id.1, d.freeLocal kind cc (byteAt b 33) with
    | some q, some i =>
      if d.ringBad b then d.doneNow h Code.badField
      else if kind == 0 && byteAt b 20 == 0 && d.fld (A.HOST_CLIENT cc) 17 8 == 0 then d.doneNow h Code.budgetExceeded
      else
        let d := id.2
        let d := if kind = 0 then
            d.setSq q { client := cc, loc := i, cls := byteAt b 20, cq := leAt b 22 2, base := leAt b 24 8, k := byteAt b 19 }
          else d.newCq q { client := cc, loc := i, base := leAt b 24 8, k := byteAt b 19, vector := byteAt b 32 }
        d.doneNow h Code.done [(16, 2, q), (18, 1, i)]
    | _, _ => d.doneNow h Code.noResource

/-- RING_CREATE. -/
def execRingCreate (h : Hdr) (b : List Byte) (s : State) : Host.Outcome State Fault Refusal :=
  s.perform (fun d => d.command 0x0103 h (fun d => d.ringCreate h b))

/-- RING_DELETE at acceptance (R357). -/
def Dev.ringDelete (d : Dev) (h : Hdr) (kind id : Nat) : Dev :=
  let inUse : Bool := if kind = 0 then d.host.inflight.any (fun f => f.sq == id) else d.host.sqs.any (fun x => x.2.cq == id)
  let there := if kind = 0 then AList.has d.host.sqs id else AList.has d.host.cqs id
  if h.mask ≠ 0 ∨ 1 < kind ∨ !d.atPort h then d.doneNow h Code.badField
  else if inUse || id == 0 then d.doneNow h Code.wrongMode
  else if !there then d.doneNow h Code.badField
  else
    let d := if kind = 0 then d.modHost (fun q => { q with sqs := AList.del q.sqs id }) else d.modHost (fun q => { q with cqs := AList.del q.cqs id })
    d.doneNow h Code.done

/-- RING_DELETE. -/
def execRingDelete (h : Hdr) (kind id : Nat) (s : State) : Host.Outcome State Fault Refusal :=
  s.perform (fun d => d.command 0x0104 h (fun d => d.ringDelete h kind id))

/-! ### Registers by command -/

/-- The requester of a REG access: the sender, at the port of entry. -/
def Hdr.req (h : Hdr) : Req := { cc := h.cc, port := h.port }

/-- A reserved value in the parameters of REG_READ and REG_WRITE (R351, check 2). -/
def regReserved (offset words : Nat) : Bool := decide (0x1000000 ≤ offset) || words == 0 || decide (4 < words)

/-- A word read at an offset; beyond the register space there is nothing. -/
def Dev.spaceRead (d : Dev) (r : Req) (a : Nat) : Word × Dev :=
  if 0x1000000 ≤ a then (0, d.accFault r (a % 0x1000000) .unmapped false) else d.busRead r a 4

/-- A word written at an offset. -/
def Dev.spaceWrite (d : Dev) (r : Req) (a : Nat) (v : Word) : Dev :=
  if 0x1000000 ≤ a then d.accFault r (a % 0x1000000) .unmapped true else d.busWrite r a 4 v

/-- `n` words read from an offset on, with the kind of the first fault. -/
def Dev.readWords (r : Req) : Nat → Nat → Dev → List Word × Nat × Dev
  | 0, _, d => ([], 0, d)
  | n + 1, a, d =>
    let x := d.spaceRead r a
    let k := x.2.host.accKind
    let rest := Dev.readWords r n (a + 4) x.2
    (x.1 :: rest.1, if k = 0 then rest.2.1 else k, rest.2.2)

/-- Words written from an offset on, with the kind of the first fault. -/
def Dev.writeWords (r : Req) : List Word → Nat → Dev → Nat × Dev
  | [], _, d => (0, d)
  | w :: ws, a, d =>
    let d := (d.modHost (fun q => { q with accKind := 0 })).spaceWrite r a w
    let k := d.host.accKind
    let rest := Dev.writeWords r ws (a + 4) d
    (if k = 0 then rest.1 else k, rest.2)

/-- The bytes of words, little-endian. -/
def wordsLe (l : List Word) : List Byte := l.flatMap (fun w => leBytes 4 w.toNat)

/-- REG_READ at acceptance (R357): on a fault the kind stands in result byte [16], over the data. -/
def Dev.regRead (d : Dev) (h : Hdr) (offset words : Nat) : Dev :=
  if h.mask ≠ 0 ∨ regReserved offset words then d.doneNow h Code.badField
  else
    let x := d.readWords h.req words offset
    let res := putAt (List.replicate 16 0) 0 (wordsLe x.1)
    let d := x.2.2
    if x.2.1 = 0 then d.complete h Code.done d.now res
    else d.complete h Code.accessFault d.now (putAt res 0 (leBytes 1 x.2.1))

/-- REG_READ. -/
def execRegRead (h : Hdr) (offset words : Nat) (s : State) : Host.Outcome State Fault Refusal :=
  s.perform (fun d => d.command 0x0105 h (fun d => d.regRead h offset words))

/-- REG_WRITE at acceptance (R357). -/
def Dev.regWrite (d : Dev) (h : Hdr) (offset words : Nat) (data : List Byte) : Dev :=
  if h.mask ≠ 0 ∨ regReserved offset words then d.doneNow h Code.badField
  else
    let x := Dev.writeWords h.req ((List.range words).map (fun i => BitVec.ofNat 32 (leAt data (4 * i) 4))) offset d
    x.2.doneNow h (if x.1 = 0 then Code.done else Code.accessFault) [(16, 1, x.1)]

/-- REG_WRITE. -/
def execRegWrite (h : Hdr) (offset words : Nat) (data : List Byte) (s : State) : Host.Outcome State Fault Refusal :=
  s.perform (fun d => d.command 0x0106 h (fun d => d.regWrite h offset words data))

/-- SYS_IDENTIFY (R357): the build number is that of the slot that runs, under Finial a free value. -/
def Dev.identify (d : Dev) (h : Hdr) : Dev :=
  let x := d.freshWord
  let build := if d.upd.finial then x.1 else d.updBuildWord d.upd.running
  if h.mask ≠ 0 then d.doneNow h Code.badField
  else (if d.upd.finial then x.2 else d).doneNow h Code.done [(16, 4, (d.view A.SYS_DEV_ID).toNat), (20, 4, (d.view A.SYS_REV).toNat),
    (24, 1, d.node), (25, 1, d.sys.mode.code), (26, 2, d.axes), (28, 4, build.toNat)]

/-- SYS_IDENTIFY. -/
def execSysIdentify (h : Hdr) (s : State) : Host.Outcome State Fault Refusal := s.perform (fun d => d.command 0x0107 h (fun d => d.identify h))

/-- SYS_NOP (R357). -/
def Dev.nop (d : Dev) (h : Hdr) : Dev :=
  if h.mask ≠ 0 then d.doneNow h Code.badField else d.doneNow h Code.done [(16, 8, d.now)]

/-- SYS_NOP. -/
def execSysNop (h : Hdr) (s : State) : Host.Outcome State Fault Refusal := s.perform (fun d => d.command 0x0108 h (fun d => d.nop h))

/-! ### Clients and events -/

/-- The depth of a client's token bucket, in 1/500,000 of a command (13 R366). -/
def Dev.bucketDepth (d : Dev) (cc : Nat) : Nat := 500000 * max 1 (ceilDiv (d.fld (A.HOST_CLIENT cc) 17 8 * d.framePeriod) 1000000)

/-- A client's bucket is full. -/
def Dev.bucketFill (d : Dev) (cc : Nat) : Dev := d.modHost (fun q => { q with tokens := AList.del q.tokens cc })

/-- The clients that exist (12 R335). -/
def Dev.clientList (d : Dev) : List Nat := 0 :: (if d.host.vfEnable && !d.host.spi then (List.range d.host.numVfs).map (· + 1) else [])

/-- The sum of tc_rate over all existing clients, with that of `cc` taken as `rate`. -/
def Dev.tcSum (d : Dev) (cc rate : Nat) : Nat :=
  d.clientList.foldl (fun s c => s + (if c = cc then rate else d.fld (A.HOST_CLIENT c) 17 8)) 0

/-- CLIENT_CFG at acceptance (13 R362). -/
def Dev.clientCfg (d : Dev) (h : Hdr) (cc weight tcRate : Nat) : Dev :=
  let rate := if tcRate = 0xFFFF then d.fld (A.HOST_CLIENT cc) 17 8 else tcRate
  if 0x1FF < cc ∨ (512 < tcRate ∧ tcRate ≠ 0xFFFF) ∨ !d.atPort h ∨ !d.clientExists cc then d.doneNow h Code.badField
  else if 512 < d.tcSum cc rate then d.doneNow h Code.budgetExceeded
  else
    let d := if weight = 0 then d else d.setFld (A.HOST_CLIENT cc) 7 0 weight
    let d := if tcRate = 0xFFFF then d else (d.setFld (A.HOST_CLIENT cc) 17 8 rate).bucketFill cc
    d.doneNow h Code.done [(16, 1, d.fld (A.HOST_CLIENT cc) 7 0), (18, 2, rate), (20, 2, d.tcSum cc rate)]

/-- CLIENT_CFG. -/
def execClientCfg (h : Hdr) (cc weight tcRate : Nat) (s : State) : Host.Outcome State Fault Refusal :=
  s.perform (fun d => d.command 0x010A h (fun d => d.clientCfg h cc weight tcRate))

/-- What EVENT_ROUTE finds wrong: the range, or the route word at a source of it (13 R369). -/
def Dev.routeBad (d : Dev) (first count : Nat) (route : Word) : Bool :=
  decide (1023 < first) || count == 0 || decide (1024 < first + count) || field 31 17 route != 0 ||
    (List.range count).any (fun i => d.routeCombo (first + i) route != 0)

/-- EVENT_ROUTE's condition. -/
def Dev.eventRouteCheck (d : Dev) (first count : Nat) (route : Word) : Verdict :=
  if d.routeBad first count route then some (Code.badField, []) else none

/-- EVENT_ROUTE at its frame tick (13 R369). -/
def Dev.eventRoute (d : Dev) (h : Hdr) (first count : Nat) (route : Word) : Dev :=
  match d.eventRouteCheck first count route with
  | some v => d.doneAt h v.1 v.2
  | none =>
    let was := d.rd (A.EVT_ROUTE first)
    (d.wrAll ((List.range count).map (fun i => (A.EVT_ROUTE (first + i), route)))).doneAt h Code.done [(16, 4, was.toNat)]

/-- EVENT_ROUTE. -/
def execEventRoute (h : Hdr) (first count : Nat) (route : Word) (s : State) : Host.Outcome State Fault Refusal :=
  s.perform (fun d => d.command 0x010B h (fun d => d.eventRoute h first count route))

/-! ### Ownership (13 R363 to R365) -/

/-- The observers of axis `n` become `l`: AX_OBS[i] holds observers 2i and 2i + 1. -/
def Dev.setObservers (d : Dev) (n : Nat) (l : List Nat) : Dev :=
  let half (k : Nat) : Nat := match l[k]? with | some cc => cc + 512 | none => 0
  d.wrAll ((List.range 4).map (fun i => (A.AX_OBS n i, BitVec.ofNat 32 (half (2 * i) + 2 ^ 16 * half (2 * i + 1)))))

/-- AX_OWNER_CHANGE of axis `n` (13 R391). -/
def Dev.ownerChange (d : Dev) (n : Nat) : Dev := d.raise Ev.axOwnerChange n

/-- Axis `n` passes to an owner, who is no observer of it any more. -/
def Dev.setOwner (d : Dev) (n cc orphan : Nat) : Dev :=
  let w := setBit 9 (orphan == 1) (setField 8 0 cc (d.rd (A.AX_OWNER n)))
  let obs := d.observers n
  if d.rd (A.AX_OWNER n) = w ∧ !obs.contains cc then d
  else
    let d := d.wr (A.AX_OWNER n) w
    (if obs.contains cc then d.setObservers n (obs.filter (· != cc)) else d).ownerChange n

/-- AX_OWN at its frame tick (R365). -/
def Dev.axOwn (d : Dev) (h : Hdr) (owner orphan : Nat) : Dev :=
  let axes := maskList 32 h.mask
  let was : List (Nat × Nat × Nat) := if h.mask = 0 then [] else [(16, 2, d.owner (lowest h.mask))]
  if 0x1FF < owner ∨ 1 < orphan ∨ !d.clientExists owner then d.doneAt h Code.badField
  else if d.resetting owner then d.doneAt h Code.wrongMode was
  else if d.splits h.mask then d.doneAt h Code.groupSplit was
  else (d.each axes (fun d n => d.setOwner n owner orphan)).doneAt h Code.done was

/-- AX_OWN. -/
def execAxOwn (h : Hdr) (owner orphan : Nat) (s : State) : Host.Outcome State Fault Refusal :=
  s.perform (fun d => d.command 0x0211 h (fun d => d.axOwn h owner orphan))

/-- Client `cc` becomes an observer of axis `n`, or is one no more. -/
def Dev.observe (d : Dev) (n cc : Nat) (add : Bool) : Dev :=
  let obs := d.observers n
  if add = obs.contains cc then d
  else (d.setObservers n (if add then obs ++ [cc] else obs.filter (· != cc))).ownerChange n

/-- AX_OBSERVE at its frame tick (R365). -/
def Dev.axObserve (d : Dev) (h : Hdr) (cc add : Nat) : Dev :=
  let axes := maskList 32 h.mask
  let count (d : Dev) : List (Nat × Nat × Nat) := if h.mask = 0 then [] else [(16, 1, (d.observers (lowest h.mask)).length)]
  if 0x1FF < cc ∨ 1 < add ∨ !d.clientExists cc then d.doneAt h Code.badField
  else if add == 1 && axes.any (fun n => d.owner n == cc) then d.doneAt h Code.badField (count d)
  else if add == 1 && axes.any (fun n => !(d.observers n).contains cc && decide (7 ≤ (d.observers n).length)) then d.doneAt h Code.noResource (count d)
  else if d.splits h.mask then d.doneAt h Code.groupSplit (count d)
  else
    let d := d.each axes (fun d n => d.observe n cc (add == 1))
    d.doneAt h Code.done (count d)

/-- AX_OBSERVE. -/
def execAxObserve (h : Hdr) (cc add : Nat) (s : State) : Host.Outcome State Fault Refusal :=
  s.perform (fun d => d.command 0x0212 h (fun d => d.axObserve h cc add))

end Sys2Proof.Machine
end

