-- ==== Sys2Proof/Machine/Clients.lean ====
section
/-!
DEFINITION. Client contexts (12_host_commands.md R335, R337, R360; 13_clients_events_dma.md R361) and the client reset (13 R375 to
R379).
-/

namespace Sys2Proof.Machine

/-! ### The trigger (R375, R376 step 1) -/

/-- The cut tick of a reset triggered now: the first frame tick at least 2 frame periods later. -/
def Dev.cutTick (d : Dev) : Nat := d.frameAtOrAfter (d.now + 2 * d.framePeriod)

/-- A client reset of `cc` is triggered: it begins, or joins the one in progress (R375). -/
def Dev.clientResetStart (d : Dev) (cc : Nat) (cmd : Option Hdr) : Dev :=
  if d.resetting cc then d
  else
    let d := d.wb (A.HOST_EVQ_CFG cc) 31 false
    let d := if cc = 0 then
        (d.wb A.HOST_ADM_CFG 31 false).modHost (fun q => { q with sqs := AList.del q.sqs 0, cqs := AList.del q.cqs 0 })
      else d
    d.modHost (fun q => { q with resets := q.resets ++ [({ cc, cut := d.cutTick, cmd } : ClientReset)] })

/-- CLIENT_RESET's conditions (R379). -/
def Dev.clientResetCheck (d : Dev) (h : Hdr) (cc : Nat) : Verdict :=
  firstFail [(h.cc != 0 && h.cc != cc, Code.notOwner), (decide (0x1FF < cc) || !d.atPort h || !d.clientExists cc, Code.badField),
    (d.resetting cc, Code.wrongMode)]

/-- CLIENT_RESET at its frame tick. -/
def Dev.clientReset (d : Dev) (h : Hdr) (cc : Nat) : Dev :=
  match d.clientResetCheck h cc with
  | some v => d.doneAt h v.1 v.2
  | none => d.clientResetStart cc (some h)

/-- CLIENT_RESET. -/
def execClientReset (h : Hdr) (cc : Nat) (s : State) : Host.Outcome State Fault Refusal :=
  s.perform (fun d => d.command 0x0109 h (fun d => d.clientReset h cc))

/-! ### The cut (R376 step 3, R377, R378) -/

/-- What an axis does at the cut (R377). -/
inductive Orphan where
  | unchanged | ramp | finish | leave
  deriving DecidableEq, Repr

/-- The orphan reaction of axis `n`: in MOVE alone something changes. -/
def Dev.orphanOf (d : Dev) (n : Nat) : Orphan :=
  let m := d.mo n
  if (d.ax n).state ≠ .move then .unchanged
  else if m.ls.isSome then .leave
  else if !m.gear.layers.isEmpty || !d.rb (A.AX_OWNER n) 9 then .ramp
  else match m.src with
    | .vel _ => .ramp
    | _ => .finish

/-- ORPHAN_REACTION (R377): the axes that client `cc` owns react at time `t`; how many did. -/
def Dev.orphans (d : Dev) (cc t : Nat) : Nat × Dev :=
  let l := d.axisList.filter (fun n => d.owner n == cc && d.orphanOf n != .unchanged)
  let d' := d.each l (fun d n =>
    match d.orphanOf n with
    | .ramp => d.startRamp n t 2
    | .leave => d.lsLeaving n t false
    | _ => d)
  (l.length, d')

/-- What the client holds beyond its axes is released (R378). -/
def Dev.clientRelease (d : Dev) (cc : Nat) : Dev :=
  let d := if d.rb (A.SYS_WAKE_BUDGET cc) 31 then (d.wb (A.SYS_WAKE_BUDGET cc) 31 false).restRechoice else d
  let d := if d.ocu.holder = some cc then d.ocuRelease else d
  let d := d.each (List.range 4) (fun d g => if d.lanState g ≠ 0 ∧ d.fld (A.LAN_STATUS g) 16 8 = cc then d.lanAbort g 4 else d)
  d.each (List.range 32) (fun d c => if d.fld (A.DMA_CH_OWN c) 8 0 = cc then d.dmaIdle c else d)

/-- A client context that has ceased loses its axes, its event routes and its channels to CC0 (R361). -/
def Dev.clientCeases (d : Dev) (cc : Nat) : Dev :=
  let d := d.each (d.axisList.filter (fun n => d.owner n == cc)) (fun d n => d.setOwner n 0 (b2n (d.rb (A.AX_OWNER n) 9)))
  let d := d.each (List.range 1024) (fun d s =>
    let w := d.rd (A.EVT_ROUTE s)
    if field 8 0 w = cc then d.wr (A.EVT_ROUTE s) (setField 8 0 0 (setField 13 9 0 w)) else d)
  d.each (List.range 32) (fun d c =>
    let w := d.rd (A.DMA_CH_OWN c)
    if field 8 0 w = cc then d.wr (A.DMA_CH_OWN c) (setField 8 0 0 (setField 23 16 0 w)) else d)

/-- The commands of `cc` that take effect at the cut or later: accepted here and not in effect before it. -/
def Dev.cutSubs (d : Dev) (cc cut : Nat) : List Sub :=
  d.host.accepted.filter (fun x => x.h.cc == cc && (x.held || decide (cut ≤ d.frameAtOrAfter x.due)))

/-- An accepted bank swap that is discarded is pending no more. -/
def Dev.dropSwap (d : Dev) (x : Sub) : Dev :=
  if x.op = 0x0207 then d.each (maskList 32 x.h.mask) (fun d n => d.modAx n (fun c => { c with swapPending := false })) else d

/-- CLIENT_RESET_CUT at time `cut`: orders that take over at the cut have taken effect before it; what follows is discarded. -/
def Dev.clientCut (d : Dev) (cc cut : Nat) : Dev :=
  let d := d.takeovers cut
  let gone := d.cutSubs cc cut
  let d := d.modHost (fun q => { q with accepted := q.accepted.filter (fun x => !gone.contains x) })
  let d := gone.foldl Dev.dropSwap d
  let x := d.orphans cc cut
  let d := x.2.clientRelease cc
  let d := if d.host.gone.contains cc then d.clientCeases cc else d
  let d := if d.host.attached then d.modHost (fun q => { q with udpQueue := q.udpQueue.filter (fun u => d.fld (A.HOST_UDP_BIND u.binding) 8 0 != cc) })
    else d.modHost (fun q => { q with inflight := q.inflight.filter (fun f => f.cc != cc) })
  d.modHost (fun q => { q with resets := q.resets.map (fun r =>
    if r.cc = cc then { r with cutDone := true, discarded := gone.length, orphans := x.1 } else r) })

/-- The cuts due at frame tick `t`. -/
def Dev.clientCuts (d : Dev) (t : Nat) : Dev :=
  ((d.host.resets.filter (fun r => !r.cutDone && decide (r.cut ≤ t))).map (fun r => (r.cc, r.cut))).foldl
    (fun (d : Dev) r => d.clientCut r.1 r.2) d

/-- CLIENT_RESET_CUT (R376): on the device that carries the host port, when the next frame tick is the cut; on any other node, where the
cut tick of a reset reaches it. -/
def execClientResetCut (cc : Nat) (s : State) : Host.Outcome State Fault Refusal :=
  s.perform (fun d =>
    if !d.running then d
    else match d.host.resets.find? (fun r => r.cc == cc) with
      | some r => if r.cutDone || decide (d.nextFrame < r.cut) then d else (d.advanceTo (d.time.edge r.cut)).clientCut cc r.cut
      | none => if d.host.attached then d else d.clientCut cc d.sys.lastFrame)

/-! ### The end (R376 step 4) -/

/-- CLIENT_RESET_COMPLETE: the tags and rings of the client are free again. -/
def Dev.clientResetEnd (d : Dev) (cc : Nat) : Dev :=
  match d.host.resets.find? (fun r => r.cc == cc && r.cutDone) with
  | none => d
  | some r =>
    let d := d.modHost (fun q => { q with
      resets := q.resets.filter (fun x => x.cc != cc)
      inflight := q.inflight.filter (fun f => f.cc != cc)
      forwarded := q.forwarded.filter (fun f => f.h.cc != cc)
      joins := q.joins.filter (fun j => j.h.cc != cc)
      gone := q.gone.filter (· != cc)
      sqs := q.sqs.map (fun x => if x.2.client = cc then (x.1, { x.2 with head := 0, tail := 0, marks := [] }) else x)
      cqs := q.cqs.map (fun x => if x.2.client = cc then (x.1, { x.2 with wr := 0, rd := 0, full := false, held := [] }) else x) })
    let d := d.raise Ev.clientResetDone cc
    match r.cmd with
    | some h => if h.cc = cc then d else d.doneNow h Code.done [(16, 2, r.discarded), (18, 2, r.orphans)]
    | none => d

/-- The resets whose cut lies a frame period back end at the latest now. -/
def Dev.clientResetEnds (d : Dev) (t : Nat) : Dev :=
  ((d.host.resets.filter (fun r => r.cutDone && decide (r.cut + d.framePeriod ≤ t))).map (·.cc)).foldl Dev.clientResetEnd d

/-- CLIENT_RESET_COMPLETE. -/
def execClientResetComplete (cc : Nat) (s : State) : Host.Outcome State Fault Refusal :=
  s.perform (fun d => if d.running then d.clientResetEnd cc else d)

/-! ### PCIe (12 R335, R337, R360) -/

/-- The PCIe endpoint serves the device: PCIe is selected and the logic die runs. -/
def Dev.pcie (d : Dev) : Bool := d.running && d.host.attached && !d.host.spi

/-- Every existing client is reset. -/
def Dev.resetAll (d : Dev) : Dev := d.clientList.foldl (fun (d : Dev) cc => d.clientResetStart cc none) d

/-- FLR (R337): of VF `cc` a reset of its client, of the PF a reset of every client; the function's MSI-X table is reset too (13 R378). -/
def execFlr (cc : Nat) (s : State) : Host.Outcome State Fault Refusal :=
  s.perform (fun d =>
    if !d.pcie || !d.clientExists cc then d
    else
      let d := d.modHost (fun q => { q with masks := AList.del q.masks cc, pba := AList.del q.pba cc })
      if cc = 0 then d.resetAll else d.clientResetStart cc none)

/-- HOT_RESET (R337). -/
def execHotReset (s : State) : Host.Outcome State Fault Refusal := s.perform (fun d => if d.pcie then d.resetAll else d)

/-- PCIE_LINK_DOWN (R337): the link has been down for more than 10 ms. -/
def execPcieLinkDown (s : State) : Host.Outcome State Fault Refusal :=
  s.perform (fun d =>
    match d.host.downSince with
    | some t => if d.pcie then ((d.advanceTo (t + msCnt 10)).modHost (fun q => { q with downSince := none })).resetAll else d
    | none => d)

/-- PCIE_LINK_CHANGE (R360): link_up, speed and width of HOST_PORT_STATUS; a host that attaches may make the device root (14 R401). -/
def Dev.linkChange (d : Dev) (up : Bool) (speed width : Nat) : Dev :=
  let speed := if up then speed else 0
  let width := if up then width else 0
  let valid : Bool := !up || ((speed == 1 || speed == 2 || speed == 3) && (width == 1 || width == 2 || width == 4))
  let h := d.host
  if !d.pcie || !valid || (h.linkUp == up && h.speed == speed && h.width == width) then d
  else
    let d := d.modHost (fun q => { q with
      linkUp := up, speed, width, downSince := if up then none else if q.linkUp then some d.time.cnt else q.downSince })
    let d := d.raise Ev.hostLinkChange
    if up then d.becomeRoot else d

/-- PCIE_LINK_CHANGE. -/
def execPcieLinkChange (up : Bool) (speed width : Nat) (s : State) : Host.Outcome State Fault Refusal :=
  s.perform (fun d => d.linkChange up speed width)

/-- VF_ENABLE (R335): VF Enable is set, or NumVFs raised; Finial offers no VF (16 R465). -/
def execVfEnable (numVfs : Nat) (s : State) : Host.Outcome State Fault Refusal :=
  s.perform (fun d =>
    if d.host.spi || !d.running || d.upd.finial || decide (511 < numVfs) || (d.host.vfEnable && decide (numVfs ≤ d.host.numVfs)) then d
    else d.modHost (fun q => { q with vfEnable := true, numVfs }))

/-- The client contexts that cease at a change of VF Enable or NumVFs. -/
def Dev.ceasing (d : Dev) (enable : Bool) (numVfs : Nat) : List Nat :=
  d.clientList.filter (fun cc => cc != 0 && (!enable || decide (numVfs < cc)))

/-- VF_DISABLE (R337): VF Enable is cleared, or NumVFs lowered; each client that ceases is reset. -/
def execVfDisable (enable : Bool) (numVfs : Nat) (s : State) : Host.Outcome State Fault Refusal :=
  s.perform (fun d =>
    let l := d.ceasing enable numVfs
    if d.host.spi || !d.running || l.isEmpty then d
    else
      let d := l.foldl (fun (d : Dev) cc => d.clientResetStart cc none) d
      d.modHost (fun q => { q with vfEnable := enable, numVfs, gone := q.gone ++ l.filter (fun cc => !q.gone.contains cc) }))

end Sys2Proof.Machine
end

