-- ==== Sys2Proof/Machine/Dma.lean ====
section
/-!
DEFINITION. A descriptor of a DMA channel (13_clients_events_dma.md R380 to R386): its checks, its data from source to destination, its
write-back, and what ends with it.
-/

namespace Sys2Proof.Machine

/-- A descriptor (R381). -/
structure Desc where
  src : Nat
  dst : Nat
  len : Nat
  flags : Nat
  wbVal : Word
  wbOff : Nat
  deriving DecidableEq, Repr

/-- Flag bit `i`. -/
def Desc.has (x : Desc) (i : Nat) : Bool := nbit i x.flags

/-- The descriptor of 32 bytes. -/
def descOf (b : List Byte) : Desc :=
  { src := leAt b 0 8, dst := leAt b 8 8, len := leAt b 16 3, flags := byteAt b 20, wbVal := BitVec.ofNat 32 (leAt b 24 4), wbOff := leAt b 28 3 }

/-- A reserved byte or bit that is not 0, or no length (R381, R386). -/
def descReserved (b : List Byte) : Bool := !(zeroAt b 19 1 && zeroAt b 21 3 && zeroAt b 31 1) || decide (64 ≤ byteAt b 20) || leAt b 16 3 == 0

/-- A breach of R382. -/
def Desc.skew (x : Desc) : Bool :=
  let word (n : Nat) : Bool := n % 4 == 0
  let words := x.has 0 || x.has 1 || x.has 2 || x.has 3
  !((!(x.has 0 || x.has 1) || word x.src) && (!(x.has 2 || x.has 3) || word x.dst) && (!words || word x.len) && (!x.has 4 || word x.wbOff))

/-- A local source may lie here (R380). -/
def dmaSource (a : Nat) : Bool :=
  match memKind a with
  | some (.knot _ _) | some (.cam _) | some .spare | some .capture => true
  | some .plain => decide (0xE0000 ≤ a)
  | _ => false

/-- The whole of a local source lies in the memories of R380. -/
def Desc.sourceOk (x : Desc) : Bool := !x.has 0 || (decide (x.src + x.len ≤ 0x1000000) && dmaSource x.src && (x.has 1 || dmaSource (x.src + x.len - 4)))

/-- The requester of channel `c`'s local accesses (R380). -/
def Dev.dmaReq (d : Dev) (c : Nat) : Req :=
  { cc := d.fld (A.DMA_CH_OWN c) 8 0, port := if d.host.spi then .spi else .pcie, dma := some c }

/-- The bytes of a word in little-endian order. -/
def wordBytes (w : Word) : List Byte := leBytes 4 w.toNat

/-- A local read of `n` words from address `a` on, `step` apart: the bytes read before a fault, and whether one fell. -/
def Dev.dmaLoad (r : Req) (step : Nat) : Nat → Nat → Dev → List Byte × Bool × Dev
  | 0, _, d => ([], false, d)
  | n + 1, a, d =>
    let x := d.busRead r a 4
    if x.2.host.accKind ≠ 0 then ([], true, x.2)
    else
      let y := Dev.dmaLoad r step n (a + step) x.2
      (wordBytes x.1 ++ y.1, y.2)

/-- A local write of the words of `bs`, `step` apart: the bytes written before a fault, and whether one fell. -/
def Dev.dmaStore (r : Req) (step : Nat) : List (Nat × Word) → Nat → Nat → Dev → Nat × Bool × Dev
  | [], _, done, d => (done, false, d)
  | (_, w) :: ws, a, done, d =>
    let d' := if a < 0x1000000 then d.busWrite r a 4 w else d.accFault r (a % 0x1000000) .unmapped true
    if d'.host.accKind ≠ 0 then (done, true, d') else Dev.dmaStore r step ws (a + step) (done + 4) d'

/-- The words of a list of bytes, numbered. -/
def wordsOf (bs : List Byte) : List (Nat × Word) :=
  (List.range (bs.length / 4)).map (fun i => (i, BitVec.ofNat 32 (leAt bs (4 * i) 4)))

/-- What a descriptor moves: the bytes of its source, `data` what the host gave for a source in host space. -/
def Dev.dmaFetch (d : Dev) (r : Req) (x : Desc) (data : List Byte) : List Byte × Bool × Dev :=
  if x.has 0 then Dev.dmaLoad r (if x.has 1 then 0 else 4) (x.len / 4) x.src d
  else if !d.host.spi then (bytesAt data 0 x.len, false, d)
  else if x.has 1 then ((List.replicate (x.len / 4) (d.mbs (0xE0000 + x.src % 0x20000) 4)).flatten, false, d)
  else ((List.range x.len).map (fun i => d.mb (0xE0000 + (x.src + i) % 0x20000)), false, d)

/-- The bytes reach the destination. -/
def Dev.dmaPlace (d : Dev) (r : Req) (x : Desc) (bs : List Byte) : Nat × Bool × Dev :=
  if x.has 2 then Dev.dmaStore r (if x.has 3 then 0 else 4) (wordsOf bs) x.dst 0 d
  else if x.has 3 then (bs.length, false, (wordsOf bs).foldl (fun (d : Dev) (w : Nat × Word) => d.hostPut x.dst (wordBytes w.2)) d)
  else (bs.length, false, d.hostPut x.dst bs)

/-- A local fault stops the channel (R386): the writes made stay. -/
def Dev.dmaFault (d : Dev) (c pos : Nat) : Dev :=
  (d.modCh c (fun x => { x with state := .error, errKind := 7, pos })).raise Ev.dmaChError c

/-- The least time between two bursts of channel `c`, in clocks of 800 MHz (R383). -/
def Dev.dmaSpacing (d : Dev) (c : Nat) : Nat :=
  let s := max 1 (d.fld (A.DMA_CH_OWN c) 23 16)
  (512 * 2 ^ d.fld (A.DMA_CH_CFG c) 2 0 + s - 1) / s

/-- The bursts of a descriptor of `len` bytes: its fetch, and its data (R383; notes/assumptions/126.md). -/
def Dev.dmaBursts (d : Dev) (c len : Nat) : Nat :=
  let b := 64 * 2 ^ d.fld (A.DMA_CH_CFG c) 2 0
  1 + (len + b - 1) / b

/-- The rate limiter of channel `c` spaces the bursts of a descriptor, which ends no earlier than the last of them starts (R383): five
quarters of a ns to a clock of 800 MHz, eight to a count. -/
def Dev.dmaPace (d : Dev) (c len : Nat) : Dev :=
  let sp := 5 * d.dmaSpacing c
  let n := d.dmaBursts c len
  let t := (d.ch c).freeAt
  (d.advanceTo ((t + (n - 1) * sp + 7) / 8)).modCh c (fun x => { x with freeAt := t + n * sp })

/-- The descriptor at the head of channel `c` runs to its end. -/
def Dev.dmaRun (d : Dev) (c : Nat) (b data : List Byte) : Dev :=
  let x := descOf b
  let r := d.dmaReq c
  let d := d.dmaPace c (if descReserved b || x.skew || !x.sourceOk then 0 else x.len)
  if descReserved b || x.skew || !x.sourceOk then d.dmaFault c 0
  else
    let (bs, bad, d) := d.dmaFetch r x data
    let (done, bad', d) := d.dmaPlace r x bs
    if bad || bad' then d.dmaFault c done
    else
      let d := if x.has 4 then d.busWrite r x.wbOff 4 x.wbVal else d
      if x.has 4 && d.host.accKind != 0 then d.dmaFault c done
      else
        let size := 2 ^ d.fld (A.DMA_CH_CFG c) 7 4
        let d := (d.modCh c (fun y => { y with head := (y.head + 1) % size, pos := 0 })).incSat (A.DMA_CH_STATUS c) 31 16
        if x.has 5 then d.raise Ev.dmaDescIrq c else d

/-- A channel may take its next descriptor: it runs, one is published, no probe runs, it is not held (16 R472), and in trigger mode it
has a credit (R385). -/
def Dev.dmaReady (d : Dev) (c : Nat) : Bool :=
  let x := d.ch c
  decide (c < 32) && x.state == .run && x.head != x.tail && d.dma.probing.isNone && !d.rb A.TEST_DMA_HOLD c &&
    (!d.rb (A.DMA_CH_TRIG c) 15 || decide (0 < x.credits))

/-- DMA_DESCRIPTOR_END (R381). -/
def execDmaDescriptorEnd (c : Nat) (desc data : List Byte) (s : State) : Host.Outcome State Fault Refusal :=
  s.perform (fun d =>
    if !d.running || !d.dmaReady c then d
    else
      let d := if d.rb (A.DMA_CH_TRIG c) 15 then d.modCh c (fun x => { x with credits := x.credits - 1 }) else d
      d.dmaRun c desc data)

end Sys2Proof.Machine
end

