-- ==== Sys2Proof/Machine/FieldIo.lean ====
section
/-!
DEFINITION. The supervision of VFIELD and the field commands (15_field_io_can.md R437, R439).
-/

namespace Sys2Proof.Machine

/-- A comparator flag with a set and a clear condition. -/
def hyst (was set clear : Bool) : Bool := if was then !clear else set

/-- VFIELD stands at `mv` and has done so for `held` µs (R437): the flags follow, with suppression; the loss of drive is a readback that
differs from what Keep and Turret permit (17 R482, 11 R305). -/
def Dev.vfield (d : Dev) (mv held : Nat) : Dev :=
  let low := hyst (d.rb A.FIELD_STATUS 2) (decide (mv < 18000) && decide (100 ≤ held)) (decide (18500 < mv) && decide (100 ≤ held))
  let uv := hyst (d.rb A.FIELD_STATUS 3) (decide (mv < 14000) && decide (10 ≤ held)) (decide (18500 < mv) && decide (10000 ≤ held))
  let ov := hyst (d.rb A.FIELD_STATUS 4) (decide (33000 < mv) && decide (10 ≤ held)) (decide (mv < 31000) && decide (10 ≤ held))
  let change := d.rb A.FIELD_STATUS 2 != low || d.rb A.FIELD_STATUS 3 != uv || d.rb A.FIELD_STATUS 4 != ov
  let lost := uv && !d.rb A.FIELD_STATUS 3 && (d.stoMask != 15 || d.outMask != 0)
  let d := d.setFld A.FIELD_VFIELD 15 0 (sat 0xFFFF mv)
  if !change then d
  else
    let d := ((d.wb A.FIELD_STATUS 2 low).wb A.FIELD_STATUS 3 uv).wb A.FIELD_STATUS 4 ov
    let d := if low then d.each (List.range 32) (fun d c => d.setFch c { d.fch c with wire := false }) else d
    let d := (d.wb A.FIELD_STATUS 5 true).raise Ev.vfieldChange
    let d := d.fieldRefresh
    if lost && d.safetyRuns then d.deviceReaction 0x0E true true else d.refreshOuts

/-- VFIELD_CHANGE (R437). -/
def execVfieldChange (mv held : Nat) (s : State) : Host.Outcome State Fault Refusal := s.perform (fun d => d.vfield mv held)

/-- FIO_WRITE at its frame tick. -/
def Dev.fioWrite (d : Dev) (h : Hdr) (mask v : Nat) : Dev :=
  let res (d : Dev) := [(16, 4, (d.rd A.FIELD_OUT).toNat), (20, 4, (d.rd A.FIELD_OUT_EFF).toNat)]
  if h.mask ≠ 0 then d.doneAt h Code.badField
  else if (maskList 32 mask).any (fun c => !d.isOutput c) then d.doneAt h Code.wrongMode (res d)
  else
    let d := d.fieldOut mask v
    d.doneAt h Code.done (res d)

/-- FIO_WRITE (R439). -/
def execFioWrite (h : Hdr) (mask v : Nat) (s : State) : Host.Outcome State Fault Refusal :=
  s.perform (fun d => d.command 0x0601 h (fun d => d.fioWrite h mask v))

/-- FIO_QUERY. -/
def Dev.fioQuery (d : Dev) (h : Hdr) : Dev :=
  if h.mask ≠ 0 then d.doneNow h Code.badField
  else d.doneNow h Code.done [(16, 4, (d.rd A.FIELD_LEVEL).toNat), (20, 4, (d.rd A.FIELD_OUT).toNat), (24, 4, (d.rd A.FIELD_STATUS).toNat),
    (28, 4, (d.rd A.FIELD_VFIELD).toNat)]

/-- FIO_QUERY (R439). -/
def execFioQuery (h : Hdr) (s : State) : Host.Outcome State Fault Refusal := s.perform (fun d => d.command 0x0602 h (fun d => d.fioQuery h))

end Sys2Proof.Machine
end

