-- ==== Sys2Proof/Machine/Modes.lean ====
section
/-!
DEFINITION. SYS_MODE_SET (02_modes_power_wake.md R54 to R56), and the orders that take a device out of the fabric (14 R411).
-/

namespace Sys2Proof.Machine

/-- Every axis is OFF or PARKED. -/
def Dev.allParked (d : Dev) : Bool := d.axisList.all (fun n => let st := (d.ax n).state; st == .off || st == .parked)

/-- Every axis is OFF, PARKED or HOLD. -/
def Dev.allHeld (d : Dev) : Bool := d.axisList.all (fun n => let st := (d.ax n).state; st == .off || st == .parked || st == .hold)

/-- Every axis is OFF. -/
def Dev.allOff (d : Dev) : Bool := d.axisList.all (fun n => (d.ax n).state == .off)

/-- The safety chain is closed: every STO and SS1 demand pair (11 R307). -/
def Dev.chainClosed (d : Dev) : Bool :=
  [0, 1, 2, 3].all (fun g => (d.pairsOf g 1).all d.pairClosed && (d.pairsOf g 2).all d.pairClosed)

/-- No group reaction is latched. -/
def Dev.noLatched (d : Dev) : Bool := !([0, 1, 2, 3].any d.grpLatched)

/-- The conditions of INSPECTION (11 R323). -/
def Dev.inspConds (d : Dev) : List Bool :=
  [[0, 1, 2, 3].any d.keyClosed, d.saf.turretOk && d.saf.keepOk, d.noLatched, d.allHeld, d.saf.key]

/-- The conditions of a transition by SYS_MODE_SET in the order R54 lists them; none for one that is not listed.  Those of INSPECTION
are R323's.  The reset that SAFE_HOLD needs first is judged apart. -/
def Dev.modeConds (d : Dev) (old new : Mode) : Option (List Bool) :=
  match old, new with
  | .configure, .ready =>
    some [d.cup.search.isNone && d.cup.waiting.isEmpty, d.rb A.SAF_STATUS 0, d.sys.selfTest && d.saf.turretOk && d.saf.keepOk]
  | .ready, .run => some [d.chainClosed, d.noLatched]
  | .run, .ready => some [d.allHeld]
  | .ready, .configure => some [d.allParked]
  | .ready, .inspection => some (d.inspConds)
  | .run, .inspection => some (d.inspConds)
  | .inspection, .ready => some [d.allHeld]
  | .safeHold, .ready => some []
  | .safeHold, .configure => some []
  | .safeHold, .recovery => some [d.allParked]
  | .configure, .recovery => some [d.allParked]
  | .recovery, .configure => some [!d.upd.finial, d.allParked]
  | .configure, .prodTest => some [d.testOpen, d.allOff]
  | .prodTest, .configure => some []
  | _, _ => none

/-- The index of the first condition that fails, counted from 1. -/
def firstFailed : List Bool → Nat → Nat
  | [], _ => 0
  | c :: cs, i => if c then firstFailed cs (i + 1) else i

/-- SYS_MODE_SET at its frame tick (R55). -/
def Dev.modeSetNow (d : Dev) (h : Hdr) (new : Nat) : Dev :=
  let old := d.sys.mode
  let no (status i : Nat) : Dev := d.doneAt h status [(16, 1, old.code), (17, 1, old.code), (18, 2, i)]
  match Mode.ofCode new with
  | none => no Code.wrongMode 0
  | some m =>
    match d.modeConds old m with
    | none => no Code.wrongMode 0
    | some conds =>
      let i := firstFailed conds 1
      if (old == .safeHold && (m == .ready || m == .configure)) && !d.saf.resetOk then no Code.safetyBlocked 0
      else if i ≠ 0 then no Code.wrongMode i
      else
        let d := if m = .prodTest then d.testClose else d
        let d := if old = .safeHold ∧ (m = .ready ∨ m = .configure) then
            let d := d.modSaf (fun q => { q with deviceSto := false, resetOk := false })
            d.each d.axisList (fun d n => d.modPw n (fun p => { p with sto := d.stoDemanded (stoGroup n) }))
          else d
        ((d.enterMode m 0).refreshOuts).doneAt h Code.done [(16, 1, old.code), (17, 1, m.code), (18, 2, 0)]

/-- The entry of a command with one parameter byte, as a command that is held keeps it. -/
def entryOf (op : Nat) (h : Hdr) (params : List Byte) : List Byte :=
  putAt (putAt (List.replicate 64 (0 : Byte)) 0 (leBytes 2 op ++ [0, 0] ++ leBytes 2 h.tag ++ [BitVec.ofNat 8 h.node, 0] ++ leBytes 4 h.mask)) 16 params

/-- SYS_MODE_SET: at rest it wakes the device and is judged at the first frame tick after READY (R56, R73, R74). -/
def Dev.modeSet (d : Dev) (h : Hdr) (new : Nat) : Dev :=
  if 16 ≤ new then d.doneAt h Code.badField
  else if d.resting then
    (d.wakeUp 1).modHost (fun q => { q with
      accepted := q.accepted ++ [({ op := 0x0101, h, bytes := entryOf 0x0101 h [BitVec.ofNat 8 new], due := d.now, ord := 2 ^ 32 * q.nextOrd, held := true } : Sub)]
      nextOrd := q.nextOrd + 1 })
  else d.modeSetNow h new

/-- SYS_MODE_SET. -/
def execSysModeSet (h : Hdr) (mode : Nat) (s : State) : Host.Outcome State Fault Refusal :=
  s.perform (fun d => d.command 0x0101 h (fun d => d.modeSet h mode))

/-- REMOVE_ORDER (14 R411): a device reset, the switches close, and BYPASS until RESET_N is next released or VSYS next rises. -/
def execRemoveOrder (_t : Nat) (s : State) : Host.Outcome State Fault Refusal :=
  s.perform (fun d =>
    if d.inReset then d else ((d.deviceReset (2 ^ 6)).modSys (fun q => { q with orderedOut := true })).resetTo .bypass 5)

/-- DIE_LINK_FAILURE (01 R18): the access gives all ones, and the die link is a cause of a device reaction. -/
def execDieLinkFailure (r : Req) (addr : Nat) (write : Bool) (s : State) : Host.Outcome State Fault Refusal :=
  s.perform (fun d =>
    let d := d.accFault r addr .dieLink write
    let d := if write then d else d.emit (.read r addr 0xFFFFFFFF)
    d.deviceReaction 0x13 true true)

end Sys2Proof.Machine
end

