-- ==== Sys2Proof/Machine/Operands.lean ====
section
/-!
DEFINITION. The submission entry (12_host_commands.md R348) and check 2 of R351: the header's and each opcode's reserved bytes, bits and
values, as the tables of the opcodes' chapters list them; and what R353 says of each opcode.
-/

namespace Sys2Proof.Machine

/-- The opcode of an entry. -/
def entryOp (b : List Byte) : Nat := leAt b 0 2

/-- The header of an entry that came by ring `sq` of client `cc` at a port (R348). -/
def hdrOf (b : List Byte) (cc : Nat) (port : Port) (sq : Nat) : Hdr :=
  { cc, port, sq, tag := leAt b 4 2, node := byteAt b 6, mask := leAt b 8 4, fence := nbit 0 (byteAt b 2), notify := nbit 1 (byteAt b 2)
    atTime := nbit 2 (byteAt b 2), time := leAt b 56 8, cls := byteAt b 3 }

/-- The class byte of a class (R348). -/
def CmdClass.code : CmdClass → Nat
  | .none => 0 | .motion => 1 | .stop => 2

/-- The class of an opcode. -/
def opClass (op : Nat) : CmdClass := match opRow op with | some r => r.cls | none => .none

/-- The opcodes that act at acceptance (R353; CLIENT_CFG by 13 R362). -/
def opAtOnce (op : Nat) : Bool :=
  [0x0103, 0x0104, 0x0105, 0x0106, 0x0107, 0x0108, 0x010A, 0x0208, 0x0210, 0x0306, 0x040A, 0x0505, 0x0508, 0x0602, 0x0604, 0x0709, 0x0806,
   0x0901, 0x0A04, 0x0B04].contains op

/-- The opcodes whose chapter has them complete with ACCEPTED first, whenever they take effect. -/
def opMarked (op : Nat) (b : List Byte) : Bool :=
  [0x0109, 0x0203, 0x020B, 0x020F, 0x0401, 0x0402, 0x0403, 0x0506, 0x0707, 0x0802, 0x0A01, 0x0A03].contains op ||
    (op == 0x020A && byteAt b 16 == 1)

/-- The opcodes whose chapters have every condition judged at the effective frame tick (R351, check 9): SYS_MODE_SET (02 R55), AX_ADMIT and
AX_BANK_SWAP (04 R126, R135), AX_OWN and AX_OBSERVE (13 R365). -/
def opJudgedLate (op : Nat) : Bool := [0x0101, 0x0201, 0x0207, 0x0211, 0x0212].contains op

/-- The opcodes whose axis mask must be 0, on pain of BAD_FIELD (R357, 11 R331, 14 R428, 15 R436, R449, 16 R461). -/
def opZeroMask (op : Nat) : Bool :=
  (decide (0x0103 ≤ op) && decide (op ≤ 0x0108)) || (decide (0x0601 ≤ op) && decide (op ≤ 0x0A04))

/-- The parameter bytes an opcode's table lists: first byte and length. -/
def opParams : Nat → List (Nat × Nat)
  | 0x0101 => [(16, 1)]
  | 0x0103 => [(16, 5), (22, 12)]
  | 0x0104 => [(16, 1), (18, 2)]
  | 0x0105 => [(16, 5)]
  | 0x0106 => [(16, 5), (24, 16)]
  | 0x0109 => [(16, 2)]
  | 0x010A => [(16, 3), (20, 2)]
  | 0x010B => [(16, 8)]
  | 0x0201 => [(16, 2)]
  | 0x0203 => [(16, 1)]
  | 0x0205 => [(16, 1)]
  | 0x0207 => [(16, 1)]
  | 0x0209 => [(16, 1)]
  | 0x020A => [(16, 1)]
  | 0x020B => [(16, 1)]
  | 0x020C => [(16, 1), (20, 6)]
  | 0x020D => [(16, 1), (20, 6), (28, 12)]
  | 0x020E => [(16, 3)]
  | 0x020F => [(16, 9)]
  | 0x0211 => [(16, 3)]
  | 0x0212 => [(16, 3)]
  | 0x0301 => [(16, 5)]
  | 0x0302 => [(16, 6)]
  | 0x0303 => [(16, 1), (20, 20)]
  | 0x0304 => [(20, 4), (32, 8)]
  | 0x0401 => [(16, 3), (20, 26)]
  | 0x0402 => [(20, 8), (44, 2)]
  | 0x0403 => [(40, 6)]
  | 0x0404 => [(16, 1)]
  | 0x0405 => [(16, 4)]
  | 0x0406 => [(18, 2)]
  | 0x0408 => [(16, 2), (20, 20)]
  | 0x0409 => [(16, 1), (32, 8)]
  | 0x0501 => [(16, 1), (18, 2)]
  | 0x0502 => [(16, 1)]
  | 0x0506 => [(16, 1)]
  | 0x0507 => [(16, 2)]
  | 0x0508 => [(16, 1)]
  | 0x0601 => [(16, 8)]
  | 0x0603 => [(16, 8)]
  | 0x0604 => [(16, 1)]
  | 0x0701 => [(16, 8)]
  | 0x0703 => [(16, 1)]
  | 0x0704 => [(16, 2)]
  | 0x0705 => [(16, 2)]
  | 0x0707 => [(16, 16)]
  | 0x0708 => [(16, 40)]
  | 0x0801 => [(16, 1)]
  | 0x0802 => [(16, 1)]
  | 0x0803 => [(16, 1)]
  | 0x0804 => [(16, 2)]
  | 0x0805 => [(16, 1)]
  | 0x0902 => [(16, 1)]
  | 0x0903 => [(16, 14)]
  | 0x0A01 => [(16, 4)]
  | 0x0A02 => [(16, 2), (20, 12)]
  | 0x0A03 => [(16, 1)]
  | 0x0B01 => [(16, 9)]
  | 0x0B02 => [(16, 1)]
  | 0x0B03 => [(16, 1)]
  | _ => []

/-- A byte of an entry that its opcode's table does not list is not 0. -/
def unlistedSet (op : Nat) (b : List Byte) : Bool :=
  (List.range 40).any (fun i => byteAt b (16 + i) != 0 && !(opParams op).any (fun r => decide (r.1 ≤ 16 + i) && decide (16 + i < r.1 + r.2)))

/-- A node operand with 0xFF for a value of its own; 64 to 254 are reserved. -/
def nodeReserved (v : Nat) : Bool := decide (64 ≤ v) && v != 0xFF

/-- A reserved value or reserved bit in a defined parameter of an opcode of chapters 02, 12 and 13. -/
def sysReserved (op : Nat) (b : List Byte) : Bool :=
  let p := byteAt b 16
  match op with
  | 0x0101 => decide (16 ≤ p) || leAt b 56 8 != 0
  | 0x0102 => leAt b 56 8 != 0
  | 0x0103 => ringReserved b
  | 0x0104 => decide (1 < p)
  | 0x0105 => regReserved (leAt b 16 4) (byteAt b 20)
  | 0x0106 => regReserved (leAt b 16 4) (byteAt b 20)
  | 0x0109 => decide (0x1FF < leAt b 16 2)
  | 0x010A => decide (0x1FF < leAt b 16 2) || (decide (512 < leAt b 20 2) && leAt b 20 2 != 0xFFFF)
  | 0x0211 => decide (0x1FF < leAt b 16 2) || decide (1 < byteAt b 18)
  | 0x0212 => decide (0x1FF < leAt b 16 2) || decide (1 < byteAt b 18)
  | 0x0B01 => decide (2 ^ 24 ≤ leAt b 16 4) || decide (1 < byteAt b 24)
  | 0x0B02 => p != 2 && p != 3
  | 0x0B03 => decide (1 < p)
  | _ => false

/-- The same of chapters 04, 06, 08 and 09. -/
def axReserved (op : Nat) (b : List Byte) : Bool :=
  let p := byteAt b 16
  let q := byteAt b 17
  match op with
  | 0x0201 => decide (1 < p) || (decide (8 ≤ q) && q != 0xFF)
  | 0x0203 => p != 2 && p != 3
  | 0x0205 => decide (1 < p)
  | 0x0207 => decide (1 < p)
  | 0x0209 => decide (2 < p)
  | 0x020A => decide (1 < p)
  | 0x020B => decide (1 < p)
  | 0x020C => decide (1 < p)
  | 0x020F => decide (16 ≤ byteAt b 24)
  | 0x0301 => decide (1 < byteAt b 20)
  | 0x0302 => decide (1 < p) || decide (1 < q)
  | 0x0303 => decide (1 < p) || [28, 32, 36].any (fun a => limReserved (f32At b a))
  | 0x0304 => !f32Finite (f32At b 20) || [32, 36].any (fun a => limReserved (f32At b a))
  | 0x0401 => decide (16 ≤ byteAt b 18) || nodeReserved q
  | 0x0404 => decide (1 < p)
  | 0x0405 => nodeReserved p
  | 0x0408 => decide (3 < p) || decide (2 < q) || (q == 2 && !f32Finite (f32At b 20)) || [28, 32, 36].any (fun a => !f32Finite (f32At b a))
  | 0x0409 => decide (3 < p) || [32, 36].any (fun a => !f32Finite (f32At b a))
  | _ => false

/-- The same of chapters 10, 11, 14, 15 and 16. -/
def devReserved (op : Nat) (b : List Byte) : Bool :=
  let p := byteAt b 16
  let q := byteAt b 17
  match op with
  | 0x0501 => decide (1 < p) || decide (0x1FF < leAt b 18 2)
  | 0x0502 => decide (1 < p)
  | 0x0507 => decide (1 < q)
  | 0x0603 => decide (7 < q)
  | 0x0703 => decide (16 ≤ p)
  | 0x0704 => decide (16 ≤ p) || decide (1 < q)
  | 0x0705 => decide (3 < p) || decide (2 < q)
  | 0x0801 => decide (1 < p)
  | 0x0802 => nodeReserved p
  | 0x0803 => decide (63 < p)
  | 0x0804 => nodeReserved p || decide (1 < q)
  | 0x0805 => decide (2 < p)
  | 0x0902 => decide (2 < p)
  | 0x0903 => decide (1 < p) || decide (2 < q) || decide (127 < byteAt b 18) || decide (3 < byteAt b 19)
  | 0x0A03 => decide (2 < p)
  | _ => false

/-- Check 2 of R351 on an entry whose opcode is in the catalogue. -/
def fieldBad (b : List Byte) : Bool :=
  let op := entryOp b
  decide (8 ≤ byteAt b 2) || byteAt b 3 != (opClass op).code || decide (63 < byteAt b 6) || byteAt b 7 != 0 || leAt b 12 4 != 0 ||
    (nbit 2 (byteAt b 2) && opAtOnce op) || (!nbit 2 (byteAt b 2) && leAt b 56 8 != 0) || (opZeroMask op && leAt b 8 4 != 0) ||
    unlistedSet op b || sysReserved op b || axReserved op b || devReserved op b

end Sys2Proof.Machine
end

