-- ==== Sys2Proof/Machine/Run.lean ====
section
/-!
DEFINITION. What an accepted entry does: the operation of each opcode of the catalogue (12_host_commands.md R358) with its parameters
taken from the entry's bytes.
-/

namespace Sys2Proof.Machine

/-- Opcodes 0x01xx. -/
def Dev.run01 (d : Dev) (op : Nat) (h : Hdr) (b : List Byte) : Dev :=
  match op with
  | 0x0101 => d.modeSet h (byteAt b 16)
  | 0x0102 => d.sysReset h
  | 0x0103 => d.ringCreate h b
  | 0x0104 => d.ringDelete h (byteAt b 16) (leAt b 18 2)
  | 0x0105 => d.regRead h (leAt b 16 4) (byteAt b 20)
  | 0x0106 => d.regWrite h (leAt b 16 4) (byteAt b 20) (bytesAt b 24 16)
  | 0x0107 => d.identify h
  | 0x0108 => d.nop h
  | 0x0109 => d.clientReset h (leAt b 16 2)
  | 0x010A => d.clientCfg h (leAt b 16 2) (byteAt b 18) (leAt b 20 2)
  | 0x010B => d.eventRoute h (leAt b 16 2) (leAt b 18 2) (BitVec.ofNat 32 (leAt b 20 4))
  | _ => d

/-- Opcodes 0x02xx. -/
def Dev.run02 (d : Dev) (op : Nat) (h : Hdr) (b : List Byte) : Dev :=
  match op with
  | 0x0201 => d.admissionOrder h (some (byteAt b 16, byteAt b 17))
  | 0x0202 => d.admissionOrder h none
  | 0x0203 => d.enable h (byteAt b 16)
  | 0x0204 => d.openAx h
  | 0x0205 => d.disable h (byteAt b 16)
  | 0x0206 => d.faultClear h
  | 0x0207 => d.bankSwap h (byteAt b 16 == 1)
  | 0x0208 => d.axQuery h
  | 0x0209 => d.reverse h (byteAt b 16)
  | 0x020A => d.shortBrake h (byteAt b 16 == 1)
  | 0x020B => d.recover h (byteAt b 16 == 1)
  | 0x020C => d.fbSet h (byteAt b 16 == 1) (toSigned 48 (leAt b 20 6))
  | 0x020D => d.cmpArm h b
  | 0x020E => d.latchArm h (byteAt b 16) (byteAt b 17) (byteAt b 18)
  | 0x020F => d.syncLatch h (leAt b 16 8) (byteAt b 24)
  | 0x0210 => d.fbQuery h
  | 0x0211 => d.axOwn h (leAt b 16 2) (byteAt b 18)
  | 0x0212 => d.axObserve h (leAt b 16 2) (byteAt b 18)
  | _ => d

/-- Opcodes 0x03xx and 0x04xx. -/
def Dev.run0304 (d : Dev) (op : Nat) (h : Hdr) (b : List Byte) : Dev :=
  match op with
  | 0x0301 => d.profLoad h b
  | 0x0302 => d.orderIf (d.profRunCheck h b) op h b
  | 0x0303 => d.orderIf (d.profMoveCheck h b false) op h b
  | 0x0304 => d.orderIf (d.profVelCheck h b false) op h b
  | 0x0305 => d.profStop h
  | 0x0306 => d.profQuery h
  | 0x0401 => d.orderTurn (d.engageCheck h b) op h b
  | 0x0402 => d.orderTurn (d.ratioCheck h b) op h b
  | 0x0403 => d.orderIf (d.engagedCheck h) op h b
  | 0x0404 => d.orderIf (d.disengageCheck h b) op h b
  | 0x0405 => d.orderTurn (d.lsJoinCheck h b) op h b
  | 0x0406 => d.orderTurn (d.lsShareCheck h b) op h b
  | 0x0407 => d.lsLeave h
  | 0x0408 => d.orderIf (d.vmMotionCheck h b) op h b
  | 0x0409 => d.orderIf (d.vmStopCheck h b) op h b
  | 0x040A => d.gearQuery h
  | _ => d

/-- Opcodes 0x05xx and 0x06xx. -/
def Dev.run0506 (d : Dev) (op : Nat) (h : Hdr) (b : List Byte) : Dev :=
  match op with
  | 0x0501 => d.capClaim h (byteAt b 16) (leAt b 18 2)
  | 0x0502 => d.capArm h (byteAt b 16 == 1)
  | 0x0503 => d.capForce h
  | 0x0504 => d.capStop h
  | 0x0505 => d.capQuery h
  | 0x0506 => d.lanStart h (byteAt b 16)
  | 0x0507 => d.lanStop h (byteAt b 16) (byteAt b 17 == 1)
  | 0x0508 => d.lanQuery h (byteAt b 16)
  | 0x0601 => d.fioWrite h (leAt b 16 4) (leAt b 20 4)
  | 0x0602 => d.fioQuery h
  | 0x0603 => d.canTimeMaster h b
  | 0x0604 => d.canQuery h (byteAt b 16)
  | _ => d

/-- Opcodes 0x07xx; `data` is what the device read from host memory, and `same` whether Keep's copy gave Turret's result (11 R311). -/
def Dev.run07 (d : Dev) (op : Nat) (h : Hdr) (b : List Byte) (data : Option (List Byte)) (same : Bool) : Dev :=
  match op with
  | 0x0701 => d.safCfgLoad h data same
  | 0x0702 => d.safReset h
  | 0x0703 => d.safGrpReset h (byteAt b 16)
  | 0x0704 => d.safSto h (byteAt b 16) (byteAt b 17)
  | 0x0705 => d.safSdi h (byteAt b 16) (byteAt b 17)
  | 0x0706 => d.safRescueDone h
  | 0x0707 => d.safInspTest h data (leAt b 24 8)
  | 0x0708 => d.safKeySign h (bytesAt b 16 32) (leAt b 48 8)
  | 0x0709 => d.safQuery h
  | _ => d

/-- Opcodes 0x08xx, 0x09xx and 0x0Bxx. -/
def Dev.run089B (d : Dev) (op : Nat) (h : Hdr) (b : List Byte) : Dev :=
  match op with
  | 0x0801 => d.fabDiscover h (byteAt b 16)
  | 0x0802 => d.fabInsert h (byteAt b 16)
  | 0x0803 => d.fabRemove h (byteAt b 16)
  | 0x0804 => d.fabStandby h (byteAt b 16) (byteAt b 17)
  | 0x0805 => d.fabSlotAlloc h (byteAt b 16)
  | 0x0806 => d.fabQuery h
  | 0x0901 => d.timeQuery h
  | 0x0902 => d.timeSrc h (byteAt b 16)
  | 0x0903 => d.timePtpCfg h b
  | 0x0B01 => d.pwrClaim h (leAt b 16 4) (leAt b 20 4) (byteAt b 24)
  | 0x0B02 => d.pwrRest h (byteAt b 16)
  | 0x0B03 => d.pwrWake h (byteAt b 16)
  | 0x0B04 => d.pwrQuery h
  | _ => d

/-- Opcodes 0x0Axx. -/
def Dev.run0A (d : Dev) (op : Nat) (h : Hdr) (b : List Byte) (data : Option (List Byte)) : Dev :=
  match op with
  | 0x0A01 => d.updBegin h (leAt b 16 4)
  | 0x0A02 => d.updBlock h (leAt b 16 2) (leAt b 20 4) data
  | 0x0A03 => if byteAt b 16 = 0 then d.updActivate h else if byteAt b 16 = 1 then d.updCommit h else d.updCancel h
  | 0x0A04 => d.updQuery h
  | _ => d

/-- The effect of an accepted entry. -/
def Dev.runOp (d : Dev) (h : Hdr) (b : List Byte) (data : Option (List Byte)) (same : Bool) : Dev :=
  let op := entryOp b
  let k := op / 256
  if k = 1 then d.run01 op h b
  else if k = 2 then d.run02 op h b
  else if k = 3 ∨ k = 4 then d.run0304 op h b
  else if k = 5 ∨ k = 6 then d.run0506 op h b
  else if k = 7 then d.run07 op h b data same
  else if k = 10 then d.run0A op h b data
  else d.run089B op h b

/-- The effect of an accepted order at its frame tick. -/
def Dev.runSub (d : Dev) (x : Sub) : Dev := d.runOp x.h x.bytes x.data x.keepSame

end Sys2Proof.Machine
end

