-- ==== Sys2Proof/Machine/Submit.lean ====
section
/-!
DEFINITION. Submission (12_host_commands.md R343 to R354, 13_clients_events_dma.md R366, R367): fetching, the checks of R351 on the device
that carries the host port and on the target, acceptance for an effective frame tick, and forwarding.
-/

namespace Sys2Proof.Machine

/-! ### At the target (R351 checks 6 to 9, R353) -/

/-- The first frame tick at which an order accepted now takes effect (R353). -/
def Dev.effectTick (d : Dev) (h : Hdr) : Nat := if h.atTime then d.frameAtOrAfter h.time else d.nextFrame

/-- The opcodes Finial accepts (16 R465). -/
def finialOp (op : Nat) : Bool := [0x0102, 0x0107, 0x0108, 0x0A01, 0x0A02, 0x0A03, 0x0A04].contains op

/-- The statuses with which an opcode's own checks turn a command away, as against those with which its effect ends; a direction order
is tested at its effective frame tick (06 R183). -/
def rejects (status : Nat) : Bool :=
  decide (0x0100 ≤ status) && !([Code.reversalRefused, Code.enableTimeout, Code.polarityUnresolved, Code.recoveryFailed, Code.masterLost,
    Code.lanternAborted, Code.recordFailed, Code.testAborted, Code.superseded].contains status)

/-- The status in a completion entry of another's ring, or of no ring. -/
def answerOf : Out → Option Nat
  | .unbound bs => some (leAt bs 2 2)
  | .packet _ k _ bs => if k = 2 then some (leAt bs 2 2) else none
  | _ => none

/-- The device as it decides on a command: the effect's time is the time of the decision. -/
def Dev.deciding (d : Dev) : Dev := d.modSys (fun q => { q with lastFrame := d.now })

/-- What the opcode's own checks answer to an entry now (R351, check 9): its effect, tried on a copy of the device. -/
def Dev.verdictNow (d : Dev) (h : Hdr) (b : List Byte) (data : Option (List Byte)) (same : Bool) : Option Nat :=
  ((Dev.runOp { d.deciding with out := [] } { h with sq := 0x7FFF } b data same).out.findSome? answerOf).filter rejects

/-- A command turned away by its opcode's checks completes with what they say. -/
def Dev.turnAway (d : Dev) (h : Hdr) (b : List Byte) (data : Option (List Byte)) (same : Bool) : Dev :=
  (d.deciding.runOp h b data same).modSys (fun q => { q with lastFrame := d.sys.lastFrame })

/-- A command is accepted for its frame tick, with ACCEPTED where it is due (R353). -/
def Dev.acceptSub (d : Dev) (h : Hdr) (b : List Byte) (ord : Nat) (data : Option (List Byte)) (same held : Bool) : Dev :=
  let op := entryOp b
  let acked := held || opMarked op b || decide (d.nextFrame < d.effectTick h)
  let d := if acked then d.doneNow h Code.accepted else d
  let d := if op = 0x0207 then d.each (maskList 32 h.mask) (fun d n => d.modAx n (fun c => { c with swapPending := true })) else d
  d.modHost (fun q => { q with
    accepted := q.accepted ++ [({ op, h, bytes := b, due := if h.atTime then h.time else d.nextFrame, ord, acked, held, data, keepSame := same } : Sub)] })

/-- A motion-class command for an axis at rest (02 R74). -/
def Dev.forResting (d : Dev) (op : Nat) (h : Hdr) : Bool :=
  d.sys.mode == .rest && opClass op == .motion && (maskList 32 h.mask).any (AList.has d.wake.rests)

/-- The checks of the target, and acceptance (R351, R353). -/
def Dev.judgeCmd (d : Dev) (h : Hdr) (b : List Byte) (ord : Nat) (data : Option (List Byte)) (same : Bool) : Dev :=
  let op := entryOp b
  if d.upd.finial && !finialOp op then d.doneNow h Code.wrongMode
  else match d.targetCheck op h with
    | some st => d.doneNow h st
    | none =>
      if h.atTime && decide (h.time < d.nextFrame) then d.doneNow h Code.timePast
      else if h.atTime && decide (d.nextFrame + 600000000000 < h.time) then d.doneNow h Code.timeRange
      else if opAtOnce op then d.runOp h b data same
      else if d.forResting op h then (d.wakeUp 1).acceptSub h b ord data same true
      else if !opJudgedLate op && (d.verdictNow h b data same).isSome then d.turnAway h b data same
      else d.acceptSub h b ord data same false

/-! ### On the device that carries the host port (R351 checks 1 to 5) -/

/-- A node is active on the ring as this device knows it: by the map on the root and its standby, elsewhere by a status slot. -/
def Dev.present (d : Dev) (node : Nat) : Bool :=
  d.rb A.FAB_STATUS 11 &&
    (if d.isRoot || d.rb A.FAB_STATUS 8 then (d.nodeSt node).state == 1 else AList.has d.ring.nodes node)

/-- Check 4 of R351. -/
def Dev.atLimit (d : Dev) (node : Nat) : Bool :=
  decide (4096 ≤ (d.host.inflight.filter (fun f => f.node == node)).length) || decide (65536 ≤ d.host.inflight.length)

/-- The command packet's payload: the entry, then client context, ring and port of entry (R400; notes/assumptions/35.md). -/
def packetOf (h : Hdr) (b : List Byte) : List Byte := b ++ leBytes 2 h.cc ++ leBytes 2 h.sq ++ leBytes 1 h.port.code

/-- A command goes to its node; `reserved` when it was fetched within reserved capacity (13 R366). -/
def Dev.forward (d : Dev) (h : Hdr) (b : List Byte) (reserved : Bool) : Dev :=
  (d.modHost (fun q => { q with forwarded := q.forwarded ++ [({ h, op := entryOp b, sent := d.time.cnt } : Forwarded)] })).sendPkt 0x01 h.node
    (packetOf h b) (some h) reserved

/-- An entry is checked, and accepted, forwarded or rejected (R351). -/
def Dev.submit (d : Dev) (h : Hdr) (b : List Byte) (ord : Nat) (data : Option (List Byte)) (same : Bool) (reserved : Bool := false) : Dev :=
  let early (st : Nat) : Dev :=
    let h := { h with tag := h.tag + 0x10000 }
    (d.fly h h.node).doneNow h st
  if (opRow (entryOp b)).isNone then early Code.badOpcode
  else if fieldBad b then early Code.badField
  else if d.host.inflight.any (fun f => f.sq == h.sq && f.tag == h.tag) then early Code.tagBusy
  else
    let full := d.atLimit h.node
    let d := d.fly h h.node
    if full then d.doneNow h Code.inFlightLimit
    else if h.node = d.node then d.judgeCmd h b ord data same
    else if !d.present h.node then d.doneNow h Code.nodeLost
    else if d.noPath then d.doneNow h Code.linkNotReady
    else d.forward h b reserved

/-! ### Fetching (R343, R346, R347, 13 R366, R367) -/

/-- The level of a client's token bucket now (13 R366). -/
def Dev.tokens (d : Dev) (cc : Nat) : Nat :=
  match AList.find d.host.tokens cc with
  | none => d.bucketDepth cc
  | some x => min (d.bucketDepth cc) (x.1 + d.fld (A.HOST_CLIENT cc) 17 8 * (d.time.cnt - x.2))

/-- A command of ring `s` is within its client's reserved capacity. -/
def Dev.reserved (d : Dev) (s : Sq) : Bool := s.cls == 0 && decide (500000 ≤ d.tokens s.client)

/-- A fetched command within reserved capacity takes a token. -/
def Dev.takeToken (d : Dev) (s : Sq) : Dev :=
  if d.reserved s then d.modHost (fun q => { q with tokens := AList.put q.tokens s.client (d.tokens s.client - 500000, d.time.cnt) }) else d

/-- Command rings are served from the end of the boot on, while a command processor runs (02 R60, 16 R477). -/
def Dev.ringsServed (d : Dev) : Bool := d.host.attached && d.running && d.sys.mode != .booting && d.upd.halted != 15

/-- A ring has an entry the device may fetch. -/
def Dev.fetchable (d : Dev) (s : Sq) : Bool :=
  d.ringsServed && d.clientExists s.client && !d.resetting s.client && decide (s.head < s.tail) && !d.sqStopped s &&
    (match AList.find d.host.cqs s.cq with | some c => !d.cqHolds c | none => false)

/-- The place in ring arrival order of the tail write that published a ring's next entry. -/
def Sq.mark (s : Sq) : Nat := match s.marks with | [] => 0 | m :: _ => m.2

/-- The turn of a ring among those of its client (13 R367): high, which takes tick-critical commands without a token (R366), before normal
before bulk; but normal passed over 15 times goes first, then bulk passed over 14 times, so that each has one of every 16 fetches. -/
def Dev.fetchTurn (d : Dev) (s : Sq) : Nat :=
  let n := AList.get 0 d.host.passed (4 * s.client + s.cls)
  if s.cls = 2 then (if 15 ≤ n then 0 else 3) else if s.cls = 3 then (if 14 ≤ n then 1 else 4) else 2

/-- Ring `i`, `o`, whose turn comes before ring `s` (13 R367): one within reserved capacity goes before one that is not, the oldest tail write
first; of the other rings of one client the turn decides, then the oldest tail write.  A ring with commands in flight may wait behind a
fence. -/
def Dev.goesBefore (d : Dev) (i : Nat) (o s : Sq) : Bool :=
  d.fetchable o && !d.host.inflight.any (fun f => f.sq == i) &&
    (if d.reserved o then !d.reserved s || decide (o.mark < s.mark)
     else !d.reserved s && o.client == s.client &&
      (decide (d.fetchTurn o < d.fetchTurn s) || (d.fetchTurn o == d.fetchTurn s && decide (o.mark < s.mark))))

/-- Ring `q` stops: its fetch failed (R347). -/
def Dev.sqFail (d : Dev) (q : Nat) (s : Sq) : Dev := (d.setSq q { s with stopped := true }).raise Ev.hostRingError s.client

/-- What an entry's effect reads from host memory: in SPI mode from ring memory (R348), otherwise as given. -/
def Dev.paramData (d : Dev) (b : List Byte) (data : Option (List Byte)) : Option (List Byte) :=
  let ringRead (a n : Nat) : Option (List Byte) := if a + n ≤ ringMemory then some (d.mbs (0xE0000 + a) n) else none
  if !d.host.spi then data
  else match entryOp b with
    | 0x0701 => ringRead (leAt b 16 8) 4096
    | 0x0707 => ringRead (leAt b 16 8) 128
    | 0x0A02 => ringRead (leAt b 24 8) 4096
    | _ => none

/-- The port a command enters by. -/
def Dev.entryPort (d : Dev) : Port := if d.host.spi then .spi else .pcie

/-- Whether the host's memory takes writes of completion ring `q` from now on (R347). -/
def Dev.cqTakes (d : Dev) (q : Nat) (ok : Bool) : Dev :=
  d.modHost (fun h => { h with cqBad := if ok then h.cqBad.filter (· != q) else q :: h.cqBad.filter (· != q) })

/-- A ring of client `cc` and class `k` (0 tick-critical served as high, 1 high, 2 normal, 3 bulk) has an entry to fetch. -/
def Dev.classWaits (d : Dev) (cc k : Nat) : Bool := d.host.sqs.any (fun x => x.2.client == cc && x.2.cls == k && d.fetchable x.2)

/-- A command of client `cc` and class `k` is fetched: the lower classes that wait have been passed over once more (13 R367). -/
def Dev.passOver (d : Dev) (cc k : Nat) : Dev :=
  d.modHost (fun q => { q with passed := [2, 3].foldl (fun m x =>
    AList.put m (4 * cc + x) (if x == k || !d.classWaits cc x then 0 else AList.get 0 m (4 * cc + x) + 1)) q.passed })

/-- SUBMISSION_FETCH of ring `q`, `cqOk` whether writes of its completion ring succeed from now on: a failed fetch stops it; a fenced entry waits for the commands before it (R353). -/
def Dev.fetch (d : Dev) (q : Nat) (entry : List Byte) (readOk cqOk : Bool) (data : Option (List Byte)) (same : Bool) : Dev :=
  match AList.find d.host.sqs q with
  | none => d
  | some s =>
    if !d.fetchable s || d.host.sqs.any (fun x => x.1 != q && d.goesBefore x.1 x.2 s) then d
    else if !readOk && !d.host.spi then d.sqFail q s
    else
      let b := if d.host.spi then d.mbs (0xE0000 + (s.base + 64 * (s.head % 2 ^ s.k)) % ringMemory) 64 else bytesAt entry 0 64
      if nbit 0 (byteAt b 2) && d.host.inflight.any (fun f => f.sq == q) then d
      else
        let ord := 2 ^ 32 * s.mark + s.head
        let within := d.reserved s
        let d := if within then d else d.passOver s.client s.cls
        let d := ((d.takeToken s).cqTakes s.cq cqOk).setSq q { s with head := s.head + 1, marks := s.marks.filter (fun m => decide (s.head + 1 < m.1)) }
        let h := hdrOf b s.client d.entryPort q
        d.submit h b ord (d.paramData b data) same within

/-- SUBMISSION_FETCH. -/
def execSubmissionFetch (sq : Nat) (entry : List Byte) (readOk cqOk : Bool) (data : Option (List Byte)) (keepSame : Bool) (s : State) :
    Host.Outcome State Fault Refusal :=
  s.perform (fun d => d.fetch sq entry readOk cqOk data keepSame)

/-! ### The UDP transport (14 R426) -/

/-- The bindings a datagram matches: address, valid, and binding word. -/
def Dev.udpMatch (d : Dev) (src word : Nat) : Option Nat :=
  (List.range 16).find? (fun b =>
    let w := d.rd (A.HOST_UDP_BIND b)
    bit 15 w && field 31 16 w == word && (d.rd (A.HOST_UDP_ADDR b)).toNat == src)

/-- A queued entry of a binding is checked: each binding acts as one ring with 256 tags. -/
def Dev.udpSubmit (d : Dev) (x : UdpEnt) : Dev :=
  let cc := d.fld (A.HOST_UDP_BIND x.binding) 8 0
  let h := hdrOf x.bytes cc d.entryPort (0x4000 + x.binding)
  if d.resetting cc || !d.clientExists cc then d
  else if 255 < h.tag then
    let h := { h with tag := h.tag + 0x10000 }
    (d.fly h h.node).doneNow h Code.badField
  else d.submit h x.bytes x.ord (d.paramData x.bytes x.data) x.keepSame

/-- The entries that wait are checked in order; behind a fence that waits, those of its binding wait too (R353). -/
def Dev.udpPump (d : Dev) : Dev :=
  (d.host.udpQueue.foldl (fun (acc : Dev × List Nat) x =>
    if acc.2.contains x.binding || (nbit 0 (byteAt x.bytes 2) && acc.1.host.inflight.any (fun f => f.sq == 0x4000 + x.binding)) then
      (acc.1.modHost (fun q => { q with udpQueue := q.udpQueue ++ [x] }), x.binding :: acc.2)
    else (acc.1.udpSubmit x, acc.2)) (d.modHost (fun q => { q with udpQueue := [] }), ([] : List Nat))).1

/-- A command datagram on Ethernet port `port` from an address and source port. -/
def Dev.udpDatagram (d : Dev) (port src srcPort : Nat) (data : List Byte) (reads : List (Option (List Byte) × Bool)) : Dev :=
  let w := d.rd A.HOST_UDP_CFG
  if !d.ringsServed || !bit 16 w || field 17 17 w != port then d
  else
    let n := byteAt data 3
    match d.udpMatch src (leAt data 4 2) with
    | some b =>
      if leAt data 0 2 ≠ 0x4253 ∨ byteAt data 2 ≠ 1 ∨ n < 1 ∨ 16 < n ∨ data.length ≠ 8 + 64 * n then
        (d.wr A.HOST_UDP_DROPS (BitVec.ofNat 32 (sat 0xFFFFFFFF ((d.rd A.HOST_UDP_DROPS).toNat + 1)))).raise Ev.udpDrop
      else
        let ents : List UdpEnt := (List.range n).map (fun i =>
          let r := reads.getD i (none, true)
          { binding := b, bytes := bytesAt data (8 + 64 * i) 64, ord := 2 ^ 32 * d.host.nextOrd + i, data := r.1, keepSame := r.2 })
        (d.modHost (fun q => { q with
          nextOrd := q.nextOrd + 1
          udpPeer := AList.put q.udpPeer b (srcPort, leAt data 6 2)
          udpQueue := q.udpQueue ++ ents })).udpPump
    | none => (d.wr A.HOST_UDP_DROPS (BitVec.ofNat 32 (sat 0xFFFFFFFF ((d.rd A.HOST_UDP_DROPS).toNat + 1)))).raise Ev.udpDrop

/-- UDP_DATAGRAM. -/
def execUdpDatagram (port src srcPort : Nat) (data : List Byte) (reads : List (Option (List Byte) × Bool)) (s : State) :
    Host.Outcome State Fault Refusal :=
  s.perform (fun d => d.udpDatagram port src srcPort data reads)

end Sys2Proof.Machine
end

