-- ==== Sys2Proof/Machine/Packet.lean ====
section
/-!
DEFINITION. What arrives by the ring's packets (14_spire_ring_time.md R400), the fabric window (12_host_commands.md R336), the SPI host port
(R338 to R340) and Finial's frames (16_update_test_debug.md R466).
-/

namespace Sys2Proof.Machine

/-! ### Packets -/

/-- The device takes part in the ring: its logic die runs and its bypass switches are open. -/
def Dev.onRing (d : Dev) : Bool := d.running && d.rb A.FAB_STATUS 11

/-- COMMAND_PACKET (R400): a command forwarded by node `src` is checked and accepted here, as its target (12 R351). -/
def Dev.commandPacket (d : Dev) (src : Nat) (b : List Byte) (data : Option (List Byte)) (same : Bool) : Dev :=
  if !d.onRing || d.sys.mode == .booting || b.length != 69 || byteAt b 6 != d.node || decide (63 < src) || src == d.node then d
  else
    let h := { hdrOf b (leAt b 64 2) (if byteAt b 68 = 1 then Port.spi else Port.pcie) (leAt b 66 2) with origin := some src }
    let ord := 2 ^ 32 * d.host.nextOrd
    ((d.modHost (fun q => { q with nextOrd := q.nextOrd + 1 })).fly h d.node).judgeCmd h (b.take 64) ord data same

/-- COMMAND_PACKET. -/
def execCommandPacket (src : Nat) (b : List Byte) (data : Option (List Byte)) (keepSame : Bool) (s : State) : Host.Outcome State Fault Refusal :=
  s.perform (fun d => d.commandPacket src b data keepSame)

/-- COMPLETION_PACKET (R400): the completion of a forwarded command is written to the ring it came by. -/
def Dev.completionPacket (d : Dev) (node : Nat) (b : List Byte) : Dev :=
  let status := leAt b 2 2
  match d.host.forwarded.find? (fun f => f.h.node == node && f.h.tag == leAt b 0 2 && f.h.sq == leAt b 32 2) with
  | none => d
  | some f =>
    if !d.onRing || b.length != 34 then d
    else
      let d := if status = Code.accepted then
          d.modHost (fun q => { q with forwarded := q.forwarded.map (fun x => if x = f then { x with acked := true } else x) })
        else d
      d.answer f.h status (b.take 32)

/-- COMPLETION_PACKET. -/
def execCompletionPacket (node : Nat) (b : List Byte) (s : State) : Host.Outcome State Fault Refusal :=
  s.perform (fun d => d.completionPacket node b)

/-- FORWARD_TIMEOUT (R400): forwarded commands that have had no answer within 16 frame periods. -/
def Dev.forwardTimeouts (d : Dev) : Dev :=
  (d.host.forwarded.filter (fun f => !f.acked && d.past (f.sent + 16 * d.framePeriod / 2))).foldl (fun (d : Dev) f => d.doneNow f.h Code.nodeLost) d

/-- FORWARD_TIMEOUT. -/
def execForwardTimeout (s : State) : Host.Outcome State Fault Refusal := s.perform Dev.forwardTimeouts

/-- EVENT_PACKET (13 R371): an event of an active node is written to the client's queue it names. -/
def Dev.eventPacket (d : Dev) (node : Nat) (b : List Byte) : Dev :=
  let cc := leAt b 16 2
  if !d.onRing || !d.host.attached || b.length != 19 || !d.present node || !d.clientExists cc then d
  else d.deliver (fun d cc => d.raise Ev.evqOverflow cc) cc (byteAt b 18 % 32) (leAt b 0 2) node (byteAt b 3) (leAt b 6 2) (leAt b 8 8)

/-- EVENT_PACKET. -/
def execEventPacket (node : Nat) (b : List Byte) (s : State) : Host.Outcome State Fault Refusal := s.perform (fun d => d.eventPacket node b)

/-- READ_REQUEST (R400): a register read for node `src`, judged here at the ring port. -/
def execReadRequest (src addr : Nat) (s : State) : Host.Outcome State Fault Refusal :=
  s.perform (fun d =>
    if !d.onRing then d
    else
      let x := d.spaceRead { cc := src, port := .ring } addr
      x.2.sendPkt 0x05 src (leBytes 4 addr ++ leBytes 4 x.1.toNat))

/-- READ_RESPONSE (R400): the answer to a read of the fabric window. -/
def execReadResponse (node addr : Nat) (v : Word) (s : State) : Host.Outcome State Fault Refusal :=
  s.perform (fun d =>
    if !d.onRing || !d.host.reads.any (fun x => x.1 == node && x.2.1 == addr) then d
    else (d.modHost (fun q => { q with reads := q.reads.eraseP (fun x => x.1 == node && x.2.1 == addr) })).emit
      (.read Req.manager (node * 2 ^ 24 + addr) v))

/-- WRITE_PACKET (R400): a register write for node `src`. -/
def execWritePacket (src addr width : Nat) (v : Word) (s : State) : Host.Outcome State Fault Refusal :=
  s.perform (fun d => if !d.onRing || decide (0x1000000 ≤ addr) then d else d.busWrite { cc := src, port := .ring } addr width v)

/-! ### The fabric window (12 R336) -/

/-- An access through the PF fabric window: here, or carried to the addressed node as CC0. -/
def Dev.fabricWindow (d : Dev) (addr : Nat) (write : Bool) (v : Word) : Dev :=
  let node := addr / 2 ^ 24
  let off := addr % 2 ^ 24
  if !d.pcie || decide (63 < node) then d
  else if node = d.node then (if write then d.busWrite Req.manager off 4 v else d.readOut Req.manager off 4)
  else if !d.present node || d.noPath then
    let d := d.fabErr node off write (if d.present node then Code.linkNotReady else Code.nodeLost)
    if write then d else d.emit (.read Req.manager addr 0xFFFFFFFF)
  else if write then d.sendPkt 0x06 node (leBytes 4 off ++ leBytes 1 4 ++ leBytes 4 v.toNat)
  else (d.modHost (fun q => { q with reads := q.reads ++ [(node, off, d.time.cnt)] })).sendPkt 0x04 node (leBytes 4 off)

/-- FABRIC_WINDOW_ACCESS. -/
def execFabricWindowAccess (addr : Nat) (write : Bool) (v : Word) (s : State) : Host.Outcome State Fault Refusal :=
  s.perform (fun d => d.fabricWindow addr write v)

/-! ### The SPI host port (12 R338 to R340) -/

/-- The SPI host port serves the device. -/
def Dev.spiRuns (d : Dev) : Bool := d.running && d.host.attached && d.host.spi

/-- CC0 on the SPI port. -/
def spiReq : Req := { cc := 0, port := .spi }

/-- An error bit of HOST_SPI_STATUS is set, and the frame counted. -/
def Dev.spiErr (d : Dev) (bit : Nat) : Dev := (d.incSat A.HOST_SPI_STATUS 31 16).flag A.HOST_SPI_STATUS bit Ev.hostSpiErr

/-- The CRC of a frame's first `n` bytes follows them. -/
def crcFollows (frame : List Byte) (n : Nat) : Bool := leAt frame n 2 == crc16 (bytesAt frame 0 n)

/-- The header of a frame has a reserved byte [0] or [4], or a misaligned address. -/
def spiHeaderBad (frame : List Byte) (kind : Nat) : Bool := byteAt frame 0 != kind || decide (64 ≤ byteAt frame 4) || leAt frame 1 3 % 4 != 0

/-- How many words a frame names. -/
def spiWords (frame : List Byte) : Nat := byteAt frame 4 % 64 + 1

/-- A complete write frame. -/
def Dev.spiWrite (d : Dev) (frame : List Byte) : Dev :=
  let n := spiWords frame
  if !d.spiRuns || decide (frame.length < 7 + 4 * n) then d
  else if !crcFollows frame (5 + 4 * n) then (d.spiErr 0).emit (.spi [0xE1])
  else if spiHeaderBad frame 1 then (d.spiErr 1).emit (.spi [0xE2])
  else
    ((List.range n).foldl (fun (d : Dev) i => d.spaceWrite spiReq (leAt frame 1 3 + 4 * i) (BitVec.ofNat 32 (leAt frame (5 + 4 * i) 4))) d).emit
      (.spi [0x5A])

/-- SPI_WRITE_FRAME. -/
def execSpiWriteFrame (frame : List Byte) (s : State) : Host.Outcome State Fault Refusal := s.perform (fun d => d.spiWrite frame)

/-- A read frame; one that the host ends before its token makes no access. -/
def Dev.spiRead (d : Dev) (frame : List Byte) (tokenSeen : Bool) : Dev :=
  if !d.spiRuns || decide (frame.length < 7) then d
  else if !crcFollows frame 5 then (d.spiErr 0).emit (.spi [0xFF])
  else if spiHeaderBad frame 2 then (d.spiErr 1).emit (.spi [0xFF])
  else if !tokenSeen then d.spiErr 2
  else
    let x := d.readWords spiReq (spiWords frame) (leAt frame 1 3)
    let bytes := (0xA5 : Byte) :: wordsLe x.1
    x.2.2.emit (.spi (bytes ++ leBytes 2 (crc16 bytes)))

/-- SPI_READ_FRAME. -/
def execSpiReadFrame (frame : List Byte) (tokenSeen : Bool) (s : State) : Host.Outcome State Fault Refusal :=
  s.perform (fun d => d.spiRead frame tokenSeen)

/-- SPI_FRAME_VOID (R338). -/
def execSpiFrameVoid (s : State) : Host.Outcome State Fault Refusal := s.perform (fun d => if d.spiRuns then d.spiErr 3 else d)

/-! ### Finial on UART 0 (16 R466) -/

/-- The frame in reception with what completes it, and the device with none in reception. -/
def Dev.finialFrame (d : Dev) (rest : List Byte) : List Byte × Dev :=
  let old := if d.past (d.upd.frameAt + msCnt 100) then [] else d.upd.frame
  (old ++ rest, d.modUpd (fun u => { u with frame := [] }))

/-- A frame of a type with `len` bytes between type and CRC, if its CRC is good and no command of Finial's is in progress. -/
def Dev.finialBody (d : Dev) (frame : List Byte) (type len : Nat) : Option (List Byte) :=
  if frame.length = len + 4 ∧ byteAt frame 0 = 0x7E ∧ byteAt frame 1 = type ∧ leAt frame (2 + len) 2 = crc16 (bytesAt frame 1 (len + 1)) ∧
      !d.host.inflight.any (fun f => f.sq == finialSq) then
    some (bytesAt frame 2 len)
  else none

/-- A command from UART 0: CC0's, under Finial. -/
def Dev.finialSubmit (d : Dev) (rest : List Byte) (type len : Nat) : Dev :=
  if !d.upd.finial || !d.running || d.sys.mode == .booting then d
  else
    let f := d.finialFrame rest
    match d.finialBody f.1 type len with
    | none => f.2
    | some body =>
      let b := body.take 64
      let ord := 2 ^ 32 * d.host.nextOrd
      (f.2.modHost (fun q => { q with nextOrd := q.nextOrd + 1 })).submit (hdrOf b 0 .pcie finialSq) b ord
        (if len = 64 then none else some (body.drop 64)) true

/-- FINIAL_SUBMISSION_FRAME. -/
def execFinialSubmissionFrame (rest : List Byte) (s : State) : Host.Outcome State Fault Refusal := s.perform (fun d => d.finialSubmit rest 1 64)

/-- FINIAL_BLOCK_FRAME. -/
def execFinialBlockFrame (rest : List Byte) (s : State) : Host.Outcome State Fault Refusal := s.perform (fun d => d.finialSubmit rest 3 4160)

/-- FINIAL_FRAME_TIMEOUT. -/
def execFinialFrameTimeout (s : State) : Host.Outcome State Fault Refusal :=
  s.perform (fun d =>
    if !d.upd.finial || d.upd.frame.isEmpty then d
    else (d.advanceTo (d.upd.frameAt + msCnt 100)).modUpd (fun u => { u with frame := [] }))

end Sys2Proof.Machine
end

