-- ==== Sys2Proof/Machine/Frame.lean ====
section
/-!
DEFINITION. FRAME_TICK (01_architecture_tick.md R31, R33): the orders due take effect, contradictions resolved (R48 to R50), and every
evaluation that the frame tick owns is made (R47).
-/

namespace Sys2Proof.Machine

/-! ### Contradictory orders (R48, R49, 12 R358) -/

/-- What an order acts on, as numbers: axes, with the coupled groups they belong to where the order has a class, virtual masters, STO groups
with the axes whose outputs a demand forces, field channels, event sources, and the single resources of the other opcodes.  Orders to two
members of a load-share group both take effect, each acting on its own member's weight (notes/assumptions/145.md). -/
def Dev.resources (d : Dev) (x : Sub) : List Nat :=
  let b := x.bytes
  let k := x.op / 256
  let own := maskList 32 x.h.mask
  let axes := if opClass x.op = .none then own else own.flatMap d.members
  match x.op with
  | 0x0408 => [100 + byteAt b 16]
  | 0x0409 => [100 + byteAt b 16]
  | 0x0703 => (maskList 4 (byteAt b 16)).map (200 + ·)
  | 0x0704 => (maskList 4 (byteAt b 16)).map (200 + ·) ++
      (if byteAt b 17 = 1 then (List.range 32).filter (fun n => nbit (stoGroup n) (byteAt b 16)) else [])
  | 0x0705 => [200 + byteAt b 16]
  | 0x0601 => (maskList 32 (leAt b 16 4)).map (300 + ·)
  | 0x0603 => [400 + byteAt b 16]
  | 0x0903 => [410 + byteAt b 16]
  | 0x0506 => (430 + byteAt b 16) :: axes
  | 0x0507 => (430 + byteAt b 16) :: axes
  | 0x010B => (List.range (leAt b 18 2)).map (fun i => 1000 + leAt b 16 2 + i)
  | 0x0802 => [3000 + byteAt b 16]
  | 0x0803 => [3000 + byteAt b 16]
  | 0x0109 => [4000 + leAt b 16 2]
  | 0x0B01 => [5000 + x.h.cc]
  | 0x0A02 => [0x20000 + leAt b 16 2]
  | _ => if k = 2 ∨ k = 3 ∨ k = 4 then axes else [0x10000 + x.op]

/-- Two orders contradict: on one resource, when both are classed, or when both are of the one unclassed opcode (12 R358). -/
def Dev.contradict (d : Dev) (x y : Sub) : Bool :=
  (if opClass x.op = .none then x.op == y.op else opClass y.op != .none) && (d.resources x).any (d.resources y).contains

/-- The rank of an order's source (R48). -/
def Sub.rank (x : Sub) : Nat := if x.h.cc = 0 then 3 else 4

/-- Order `x` goes before `y` where they contradict: by source, then a stop before motion, then the later arrival (R48, R49). -/
def Sub.beats (x y : Sub) : Bool :=
  if x.rank ≠ y.rank then decide (x.rank < y.rank)
  else
    let sx := opClass x.op == .stop
    let sy := opClass y.op == .stop
    if sx != sy then sx else decide (y.ord < x.ord)

/-- Insert into a list that `le` sorts. -/
def insertBy {α : Type} (le : α → α → Bool) (x : α) : List α → List α
  | [] => [x]
  | y :: l => if le x y then x :: y :: l else y :: insertBy le x l

/-- Sort by `le`. -/
def sortBy {α : Type} (le : α → α → Bool) (l : List α) : List α := l.foldr (insertBy le) []

/-- The orders that take effect, and those that lose to one of them. -/
def Dev.resolve (d : Dev) (l : List Sub) : List Sub × List Sub :=
  (sortBy Sub.beats l).foldl (fun (acc : List Sub × List Sub) x =>
    if acc.1.any (fun y => d.contradict x y) then (acc.1, acc.2 ++ [x]) else (acc.1 ++ [x], acc.2)) ([], [])

/-- An order loses to a source above CC0 and the owners: to a safety reaction since the last frame tick (rank 1; 02 R56 for a mode change),
to the pendant (rank 2), or to a stop of rank 3 at this tick, of an orphan reaction, which is CC0's, or of a dip (13 R377, 02 R80). -/
def Dev.outranked (d : Dev) (pendant stops : List Nat) (x : Sub) : Bool :=
  let cls := opClass x.op
  let axes := (maskList 32 x.h.mask).flatMap d.members
  (x.op == 0x0101 && nbit 4 d.saf.acted) ||
    (cls != .none && axes.any (fun n => nbit (stoGroup n) d.saf.acted || pendant.contains n ||
      (stops.contains n && (cls == .motion || x.h.cc != 0))))

/-! ### The orders of a frame tick -/

/-- A held order is judged at this frame tick (02 R56, R74): a mode change once READY is reached; motion once its axes hold, or once none of
them is on its way. -/
def Dev.releases (d : Dev) (x : Sub) : Bool :=
  let axes := maskList 32 x.h.mask
  !d.resting && (x.op == 0x0101 || axes.all (fun n => (d.ax n).state == .hold) || !axes.any d.busy)

/-- An order takes effect at frame tick `t`. -/
def Dev.dueAt (d : Dev) (t : Nat) (x : Sub) : Bool := decide (x.due ≤ t) && (!x.held || d.releases x)

/-- Bank swaps come before transitions (04 R135), mode changes before motion (02 R74); otherwise orders act in arrival order. -/
def Sub.phase (x : Sub) : Nat := if x.op = 0x0207 then 0 else if x.op = 0x0101 ∨ x.op = 0x0102 then 1 else 2

/-- The order in which orders act. -/
def Sub.actsBefore (x y : Sub) : Bool := if x.phase ≠ y.phase then decide (x.phase < y.phase) else decide (x.ord ≤ y.ord)

/-- An order that has lost completes without effect (R50). -/
def Dev.superseded (d : Dev) (x : Sub) : Dev := (d.dropSwap x).doneAt x.h Code.superseded

/-- The orders due at frame tick `t` (R50, 12 R353). -/
def Dev.frameOrders (d : Dev) (t : Nat) (pendant stops : List Nat) : Dev :=
  let due := d.host.accepted.filter (d.dueAt t)
  let d' := d.modHost (fun q => { q with accepted := q.accepted.filter (fun x => !d.dueAt t x) })
  let out := due.filter (d.outranked pendant stops)
  let r := d.resolve (due.filter (fun x => !d.outranked pendant stops x))
  let d' := (out ++ r.2).foldl Dev.superseded d'
  (sortBy Sub.actsBefore r.1).foldl Dev.runSub d'

/-! ### The frame tick -/

/-- The axes whose orphan reaction at a cut due at `t` is a stop. -/
def Dev.orphanStops (d : Dev) (t : Nat) : List Nat :=
  d.axisList.filter (fun n =>
    d.host.resets.any (fun r => !r.cutDone && decide (r.cut ≤ t) && r.cc == d.owner n) &&
      (d.orphanOf n == .ramp || d.orphanOf n == .leave))

/-- The axes in MOVE that the stop requested by a dip finds at this frame tick (02 R80). -/
def Dev.dipStops (d : Dev) : List Nat := if d.pwr.dipOrder then d.axisList.filter (fun n => (d.ax n).state == .move) else []

/-- The stop requested by a dip is an order of rank 3 at this frame tick. -/
def Dev.dipRamps (d : Dev) (t : Nat) : Dev := (d.modPwr (fun p => { p with dipOrder := false })).each d.dipStops (fun d n => d.startRamp n t 2)

/-- Masters and members whose ninth miss this frame tick has counted are lost (09 R267, R272): before the orders of the tick, so that a
stop ordered with them meets the ramp (R268), and after its takeovers (R254). -/
def Dev.lossFrame (d : Dev) : Dev :=
  let d := d.each d.axisList (fun d n => (d.masterLost n).lsMemberLost false 0 0 n)
  d.each (List.range 64) (fun d k => d.lsMemberLost true (k / 8) (k % 8) 0)

/-- The virtual limits of every axis (09 R245). -/
def Dev.motionFrame (d : Dev) (t : Nat) : Dev := d.each d.axisList (fun d n => d.virtualLimit n t)

/-- What else the frame tick owns: clocks' configuration, the admission search, the ring, latch source 57, reference frames, commands of
other transports, client resets, and the idle time. -/
def Dev.frameRest (d : Dev) (t : Nat) : Dev :=
  let d := if sdMode d.sys.mode then d.sdFrame else d
  let d := (d.admissionFrame.ringFrame.stallFrame).source 57 true d.now
  let d := match d.fbd.strobe with | some x => if x.t ≤ d.now then d.syncStrobe else d | none => d
  let d := d.each (List.range 4) (fun d k => if d.rb (A.CAN_TM_CFG k) 10 && decide ((d.can k).refNext ≤ t) then d.canReference k else d)
  (d.udpPump.forwardTimeouts.clientResetEnds t).idleTick.restStoRefresh

/-- A frame period passes while the logic die is off: only time moves on (notes/assumptions/146.md). -/
def Dev.idleFrame (d : Dev) : Dev :=
  let t := d.nextFrame
  (d.advanceTo (d.time.edge t)).modSys (fun q => { q with lastFrame := t, tick := t / d.loopPeriod })

/-- FRAME_TICK: fabric time reaches the next multiple of the frame period. -/
def Dev.frameTick (d : Dev) : Dev :=
  if !d.running then d.idleFrame
  else
    let t := d.nextFrame
    let d := (d.advanceTo (d.time.edge t)).modSys (fun q => { q with lastFrame := t })
    let d := if d.sys.tick * d.loopPeriod < t then d.closeTick else d
    let d := (d.tickChanges t).recordFrame.frameSpeeds
    let d := (d.takeovers t).lossFrame
    let stops := d.orphanStops t ++ d.dipStops
    let d := ((d.clientCuts t).dipRamps t).latchLims.fbLatch t
    let pendant := d.axisList.filter d.pendantHeld
    let d := d.pendantFrame.frameOrders t pendant stops
    let d := (d.motionFrame t).frameRest t
    d.modSaf (fun q => { q with acted := 0 })

/-- FRAME_TICK. -/
def execFrameTick (s : State) : Host.Outcome State Fault Refusal := s.perform Dev.frameTick

end Sys2Proof.Machine
end

