-- ==== Sys2Proof/Machine/Loop.lean ====
section
/-!
DEFINITION. The loop tick (01_architecture_tick.md R37, R38; 04_cupola_control.md R107 to R111, R125, R133; 05 R157):
what each phase does to each axis, in order.
-/

namespace Sys2Proof.Machine

/-! ### S1 and S2 -/

/-- The outputs that replace the law in OPEN, none elsewhere (04 R133, 05 R160, 06 R185, R187, R188). -/
def Dev.openedU (d : Dev) (n : Nat) (b : Bank) : Option (List F32) :=
  if (d.ax n).state ≠ .opened then none
  else some ((List.range (d.bankQ b)).map (fun i =>
    let m := b.members.getD (i / 4) 0
    let w := d.wav m
    let step := (d.wav n).seqStep
    if (d.sns m).init.isSome || (d.wav n).short.isSome then 0
    else if step = 3 ∨ step = 4 ∨ step = 5 then f32Mul (f32Of w.flux) (d.rd (A.AX_START_U m (i % 4)))
    else if d.rb (A.AX_CFG n) 0 && !w.openOff then d.rd (A.AX_OPEN_U m (i % 4))
    else 0))

/-- One due tick of the model that axis `n` leads, whose S1 ends `finish` counts after the tick (01 R38, R42; 04 R111): late as far as the
rate in force tells, which `closeTick` settles against the length the tick has had. -/
def Dev.dueTick (d : Dev) (n finish : Nat) : Dev :=
  let b := d.activeBank n
  let o := d.execute n b (d.openedU n b)
  let c := d.ax n
  let save : ExecSave := { x := c.x, y := c.lastY, w := c.lastW, r := c.lastR, us := c.lastU, commitTick := c.commitTick, angs := (d.members n).map (fun m => (m, (d.sns m).thetaC, (d.sns m).omegaC, (d.sns m).tickC)), betas := (d.members n).map (fun m => (m, (d.sns m).betaC)), snap := false, mods := (d.members n).map d.modSave }
  let d := d.modAx n (fun c => { c with finish, save := some save })
  if d.tickCounts < finish then d.modAx n (fun c => { c with ended := .late, overrun := some o }) else d.inTime n o save

/-- The models due at this tick that execute, in the order of R125. -/
def Dev.dueModels (d : Dev) : List Nat :=
  sortBy (fun a b => decide ((d.ax a).prio < (d.ax b).prio) || ((d.ax a).prio == (d.ax b).prio && decide (a < b)))
    (d.leads.filter (fun n => (d.ax n).state.active && d.due n && !(d.members n).any (fun m => (d.sns m).catching.isSome)))

/-- The counts of the 500 MHz clock in which S0 of `s0` ns and `cycles` of a cluster end. -/
def endCounts (s0 cycles : Nat) : Nat := (3 * s0 + 5 * cycles) / 6

/-- S1 of a tick (R37, 04 R122, R125, 16 R472): each cluster runs its due models one after the other, each s × C cycles of its active bank
and its memory wait. -/
def Dev.computeTick (d : Dev) (i : TickIn) : Dev :=
  let delay := d.fld A.TEST_S1_DELAY 15 0
  let s0 := min 800 i.s0
  let r := d.dueModels.foldl (fun (r : Dev × Nat × Nat) n =>
    let c := r.1.ax n
    let wait := min 12 (((i.waits.find? (fun w => w.1 == n)).map (·.2)).getD 0)
    let used := (if c.cluster = 0 then r.2.1 else r.2.2) + r.1.bankCost (r.1.activeBank n) + wait
    let d := r.1.dueTick n (endCounts s0 used)
    if c.cluster = 0 then (d, used, r.2.2) else (d, r.2.1, used)) (d, delay, delay)
  let used := if d.dueModels.isEmpty then 0 else max r.2.1 r.2.2
  let d := r.1.modCup (fun q => { q with s1Used := used, s1S0 := s0, s1Before := r.1.fld A.SYS_S1_PEAK 17 0 })
  d.s1Peak d.tickCounts

/-- A snapshot asked for before FAULT was entered holds the frozen state (04 R138). -/
def Dev.snapFrozen (d : Dev) (n : Nat) : Dev :=
  if (d.ax n).state = .fault ∧ d.rb (A.AX_SNAP_CTRL n) 0 then d.snapCapture n (d.ax n).x [] [] ((d.ax n).lastU.getLast?.getD []) else d

/-! ### The tick -/

/-- What was committed acts from this tick (R38). -/
def Dev.takeCommit (d : Dev) (n : Nat) : Dev :=
  d.modAx n (fun c => { c with uCommitted := c.uPending.getD c.uCommitted, uPending := none })

/-- What a tick ends and loads before it samples (R38, R42, R43, R46; 04 R130; 07 R202, R203). -/
def Dev.tickStart (d : Dev) : Dev :=
  let next := d.sys.tick + 1
  let c := d.time.edge (next * d.loopPeriod)
  let d := d.each d.axisList (fun d n => d.periodsOut n c)
  let d := (d.advanceTo c).closeTick
  let d := d.modSys (fun s => { s with tick := next, tickAt := d.time.cnt, stepTick := false })
  let d := d.shedTick
  let d := d.modSys (fun s => { s with cutTick := false })
  let d := d.each d.axisList Dev.takeCommit
  d.each d.axisList Dev.pwmLoad

/-- S0 of a tick and the sequences that rest on it (R37; 05, 06, 08). -/
def Dev.tickSample (d : Dev) (i : TickIn) : Dev :=
  let t := d.tickTime
  let d := (d.sdStops.sdOutputs i).fbTicks t
  let d := (d.each d.axisList Dev.senseAxis).sdResets
  let d := d.each d.axisList Dev.enterFaults
  let d := d.each d.axisList Dev.imLowExpiry
  let d := d.each d.leads Dev.shortStep
  (d.each d.leads Dev.seqTick).inspTick

/-- The references, S1 and S2 of a tick (R37; 09 R241; 10 R298). -/
def Dev.tickCompute (d : Dev) (i : TickIn) : Dev :=
  let d := d.refTick d.tickTime
  let d := d.each (d.leads.filter (fun n => (d.ax n).state.active && d.due n)) Dev.lanTick
  let d := d.computeTick i
  let d := d.each d.leads Dev.snapFrozen
  let d := d.each d.axisList Dev.shadowTick
  if d.cup.failoverDue then (d.modCup (fun q => { q with failoverDue := false })).raise Ev.cupFailoverDone else d

/-- LOOP_TICK: fabric time reaches the next multiple of the loop period. -/
def Dev.loopTick (d : Dev) (i : TickIn) : Dev :=
  if !d.running then d
  else
    let d := ((d.tickStart.tickSample i).tickCompute i).ocuTick
    (d.each d.axisList Dev.retMoved).wakeMeasure.restDeepen

/-- LOOP_TICK. -/
def execLoopTick (i : TickIn) (s : State) : Host.Outcome State Fault Refusal := s.perform (fun d => d.loopTick i)

end Sys2Proof.Machine
end

