-- ==== Sys2Proof/Machine/RegCmd.lean ====
section
/-!
DEFINITION. The commands that are writes and reads of registers, each over the one bus (RegBus.lean).  An index outside a register's
array, or an offset of another register, changes nothing (notes/assumptions/33.md).
-/

namespace Sys2Proof.Machine

/-- The row that holds the register at an offset. -/
def rowBaseAt (addr : Nat) : Option Nat := (regRow (regKey addr)).map (fun row => row.base)

/-- A 32-bit write to a register of the row based at `base`. -/
def Dev.writeTo (d : Dev) (base : Nat) (r : Req) (addr : Nat) (v : Word) (hint : Hint := {}) : Dev :=
  if rowBaseAt addr = some base then d.busWrite r addr 4 v hint else d

/-- The offset of the high word of a 48-bit pair that a write commits. -/
def pairHigh (addr : Nat) : Bool :=
  match regRow addr with
  | some row => (match pairOf row addr with | some (_, high) => high | none => false)
  | none => false

/-- REGISTER_WRITE (01 R26, R27). -/
def execRegisterWrite (r : Req) (addr width : Nat) (x : WrData) (s : State) : Host.Outcome State Fault Refusal :=
  s.perform (fun d => d.writeAny r addr width x.v x.more)

/-- COUNTER_LOW_READ (01 R28): of 32 bits or, split, of 64. -/
def execCounterLowRead (r : Req) (x : RegPlace) (s : State) : Host.Outcome State Fault Refusal :=
  s.perform (fun d => d.readAny r x.addr x.width)

/-- POP_REGISTER_READ (12 R355). -/
def execPopRegisterRead (r : Req) (addr width : Nat) (s : State) : Host.Outcome State Fault Refusal :=
  s.perform (fun d => d.readAny r addr width)

/-- HOST_SQ_TAIL (12 R343). -/
def execHostSqTail (r : Req) (cc i : Nat) (v : Word) (s : State) : Host.Outcome State Fault Refusal :=
  s.perform (fun d => d.writeTo (A.HOST_SQ_TAIL 0 0) r (A.HOST_SQ_TAIL cc i) v)

/-- HOST_CQ_HEAD (12 R344). -/
def execHostCqHead (r : Req) (cc i : Nat) (v : Word) (s : State) : Host.Outcome State Fault Refusal :=
  s.perform (fun d => d.writeTo (A.HOST_CQ_HEAD 0 0) r (A.HOST_CQ_HEAD cc i) v)

/-- HOST_ADM_CFG (12 R341). -/
def execHostAdmCfg (r : Req) (v : Word) (s : State) : Host.Outcome State Fault Refusal :=
  s.perform (fun d => d.writeTo A.HOST_ADM_CFG r A.HOST_ADM_CFG v)

/-- HOST_EVQ_CFG (13 R373). -/
def execHostEvqCfg (r : Req) (cc : Nat) (v : Word) (s : State) : Host.Outcome State Fault Refusal :=
  s.perform (fun d => d.writeTo (A.HOST_EVQ_CFG 0) r (A.HOST_EVQ_CFG cc) v)

/-- HOST_EVQ_HEAD (13 R373). -/
def execHostEvqHead (r : Req) (cc : Nat) (v : Word) (s : State) : Host.Outcome State Fault Refusal :=
  s.perform (fun d => d.writeTo (A.HOST_EVQ_HEAD 0) r (A.HOST_EVQ_HEAD cc) v)

/-- SYS_TICK_CFG (01 R34, R35): a write here; or, with the fabric time of its acceptance, the root's write. -/
def execSysTickCfg (r : Req) (x : TickWrite) (s : State) : Host.Outcome State Fault Refusal :=
  s.perform (fun d => match x.root with
    | none => d.writeTo A.SYS_TICK_CFG r A.SYS_TICK_CFG x.v
    | some t => d.rootTickCfg (field 1 0 x.v) t)

/-- SYS_OVERRUN_CLR (01 R44). -/
def execSysOverrunClr (r : Req) (v : Word) (s : State) : Host.Outcome State Fault Refusal :=
  s.perform (fun d => d.writeTo A.SYS_OVERRUN r A.SYS_OVERRUN v)

/-- SYS_S1_PEAK_CLR (01 R45). -/
def execSysS1PeakClr (r : Req) (v : Word) (s : State) : Host.Outcome State Fault Refusal :=
  s.perform (fun d => d.writeTo A.SYS_S1_PEAK r A.SYS_S1_PEAK v)

/-- SYS_DIP_LAST_CLR (02 R81). -/
def execSysDipLastClr (r : Req) (v : Word) (s : State) : Host.Outcome State Fault Refusal :=
  s.perform (fun d => d.writeTo A.SYS_DIP_LAST r A.SYS_DIP_LAST v)

/-- SYS_WAKE_BUDGET (02 R64). -/
def execSysWakeBudget (r : Req) (cc : Nat) (v : Word) (s : State) : Host.Outcome State Fault Refusal :=
  s.perform (fun d => d.writeTo (A.SYS_WAKE_BUDGET 0) r (A.SYS_WAKE_BUDGET cc) v)

/-- EVT_ROUTE (13 R369). -/
def execEvtRoute (r : Req) (source : Nat) (v : Word) (s : State) : Host.Outcome State Fault Refusal :=
  s.perform (fun d => d.writeTo (A.EVT_ROUTE 0) r (A.EVT_ROUTE source) v)

/-- AX_SNAP_CTRL (04 R138). -/
def execAxSnapCtrl (r : Req) (n : Nat) (v : Word) (s : State) : Host.Outcome State Fault Refusal :=
  s.perform (fun d => d.writeTo (A.AX_SNAP_CTRL 0) r (A.AX_SNAP_CTRL n) v)

/-- FB_LAT_CTRL_ARM (08 R235). -/
def execFbLatCtrlArm (r : Req) (n u : Nat) (v : Word) (s : State) : Host.Outcome State Fault Refusal :=
  s.perform (fun d => d.writeTo (A.FB_LAT_CTRL 0 0) r (A.FB_LAT_CTRL n u) v)

/-- PROF_STREAM_WP (09 R251). -/
def execProfStreamWp (r : Req) (n : Nat) (v : Word) (s : State) : Host.Outcome State Fault Refusal :=
  s.perform (fun d => d.writeTo (A.PROF_STREAM_WP 0) r (A.PROF_STREAM_WP n) v)

/-- OCU_RING_RP (10 R290). -/
def execOcuRingRp (r : Req) (v : Word) (s : State) : Host.Outcome State Fault Refusal :=
  s.perform (fun d => d.writeTo A.OCU_RING_RP r A.OCU_RING_RP v)

/-- BELFRY_BKP_CTRL_RTC_LOAD (02 R85). -/
def execBelfryBkpCtrlRtcLoad (r : Req) (v : Word) (s : State) : Host.Outcome State Fault Refusal :=
  s.perform (fun d => d.writeTo A.BELFRY_BKP_CTRL r A.BELFRY_BKP_CTRL v)

/-- BELFRY_LOG_SW (03 R101). -/
def execBelfryLogSw (r : Req) (v : Word) (s : State) : Host.Outcome State Fault Refusal :=
  s.perform (fun d => d.writeTo A.BELFRY_LOG_SW r A.BELFRY_LOG_SW v)

/-- DMA_CH_TAIL (13 R381). -/
def execDmaChTail (r : Req) (c : Nat) (v : Word) (s : State) : Host.Outcome State Fault Refusal :=
  s.perform (fun d => d.writeTo (A.DMA_CH_TAIL 0) r (A.DMA_CH_TAIL c) v)

/-- DMA_CH_OWN (13 R384). -/
def execDmaChOwn (r : Req) (c : Nat) (v : Word) (s : State) : Host.Outcome State Fault Refusal :=
  s.perform (fun d => d.writeTo (A.DMA_CH_OWN 0) r (A.DMA_CH_OWN c) v)

/-- DMA_RESUME (13 R389). -/
def execDmaResume (r : Req) (v : Word) (s : State) : Host.Outcome State Fault Refusal :=
  s.perform (fun d => d.writeTo A.DMA_RESUME r A.DMA_RESUME v)

/-- FIELD_OUT_SET (15 R438). -/
def execFieldOutSet (r : Req) (v : Word) (s : State) : Host.Outcome State Fault Refusal :=
  s.perform (fun d => d.writeTo A.FIELD_OUT_SET r A.FIELD_OUT_SET v)

/-- FIELD_OUT_CLR (15 R438). -/
def execFieldOutClr (r : Req) (v : Word) (s : State) : Host.Outcome State Fault Refusal :=
  s.perform (fun d => d.writeTo A.FIELD_OUT_CLR r A.FIELD_OUT_CLR v)

/-- FIELD_CH_CFG (15 R432). -/
def execFieldChCfg (r : Req) (c : Nat) (v : Word) (s : State) : Host.Outcome State Fault Refusal :=
  s.perform (fun d => d.writeTo (A.FIELD_CH_CFG 0) r (A.FIELD_CH_CFG c) v)

/-- CAN_TX_PUT (15 R443). -/
def execCanTxPut (r : Req) (k : Nat) (v : Word) (s : State) : Host.Outcome State Fault Refusal :=
  s.perform (fun d => d.writeTo (A.CAN_TX_PUT 0) r (A.CAN_TX_PUT k) v)

/-- CAN_RX_ACK (15 R443). -/
def execCanRxAck (r : Req) (k : Nat) (v : Word) (s : State) : Host.Outcome State Fault Refusal :=
  s.perform (fun d => d.writeTo (A.CAN_RX_ACK 0) r (A.CAN_RX_ACK k) v)

/-- UART_DATA_WRITE (15 R452). -/
def execUartDataWrite (r : Req) (n : Nat) (v : Word) (s : State) : Host.Outcome State Fault Refusal :=
  s.perform (fun d => d.writeTo (A.UART_DATA 0) r (A.UART_DATA n) v)

/-- DMA_START (13 R386). -/
def execDmaStart (r : Req) (c : Nat) (s : State) : Host.Outcome State Fault Refusal :=
  s.perform (fun d => d.writeTo (A.DMA_CH_CTRL 0) r (A.DMA_CH_CTRL c) 1)

/-- DMA_STOP (13 R386). -/
def execDmaStop (r : Req) (c : Nat) (s : State) : Host.Outcome State Fault Refusal :=
  s.perform (fun d => d.writeTo (A.DMA_CH_CTRL 0) r (A.DMA_CH_CTRL c) 2)

/-- DMA_PROBE (13 R390). -/
def execDmaProbe (r : Req) (c : Nat) (s : State) : Host.Outcome State Fault Refusal :=
  s.perform (fun d => d.writeTo (A.DMA_CH_CTRL 0) r (A.DMA_CH_CTRL c) 4)

/-- CAN_ABORT (15 R444: a write of CAN_CTRL that sets abort and keeps the rest). -/
def execCanAbort (r : Req) (k : Nat) (s : State) : Host.Outcome State Fault Refusal :=
  s.perform (fun d => d.writeTo (A.CAN_CTRL 0) r (A.CAN_CTRL k) (d.rd (A.CAN_CTRL k) ||| 0x20))

/-- BELFRY_RULE_WRITE (03 R96). -/
def execBelfryRuleWrite (r : Req) (rule : Nat) (act : Bool) (v : Word) (s : State) : Host.Outcome State Fault Refusal :=
  s.perform (fun d => if act then d.writeTo (A.BELFRY_RULE_ACT 0) r (A.BELFRY_RULE_ACT rule) v
    else d.writeTo (A.BELFRY_RULE_COND 0) r (A.BELFRY_RULE_COND rule) v)

/-- FB_PAIR_COMMIT (08 R219). -/
def execFbPairCommit (r : Req) (addr : Nat) (v : Word) (s : State) : Host.Outcome State Fault Refusal :=
  s.perform (fun d => if pairHigh addr then d.busWrite r addr 4 v else d)

/-- GEAR_PUB_CFG (14 R399). -/
def execGearPubCfg (r : Req) (i : Nat) (v : Word) (granted : Bool) (s : State) : Host.Outcome State Fault Refusal :=
  s.perform (fun d => d.writeTo (A.GEAR_PUB_CFG 0) r (A.GEAR_PUB_CFG i) v { granted := some (b2n granted) })

/-- LS_GRP_CFG (14 R399). -/
def execLsGrpCfg (r : Req) (g : Nat) (v : Word) (granted : Nat) (s : State) : Host.Outcome State Fault Refusal :=
  s.perform (fun d => d.writeTo (A.LS_GRP_CFG 0) r (A.LS_GRP_CFG g) v { granted := some granted })

/-- SAF_UNLOCK (11 R330). -/
def execSafUnlock (r : Req) (v : Word) (within : Bool) (s : State) : Host.Outcome State Fault Refusal :=
  s.perform (fun d => d.writeTo A.SAF_UNLOCK r A.SAF_UNLOCK v { within := some within })

/-- TEST_UNLOCK (16 R474). -/
def execTestUnlock (r : Req) (v : Word) (within : Bool) (s : State) : Host.Outcome State Fault Refusal :=
  s.perform (fun d => d.writeTo A.TEST_UNLOCK r A.TEST_UNLOCK v { within := some within })

/-- PERTURBATION_WRITE (16 R471). -/
def execPerturbationWrite (r : Req) (addr width : Nat) (x : WrData) (s : State) : Host.Outcome State Fault Refusal :=
  s.perform (fun d => if isPerturbation (addr - addr % 4) then d.writeAny r addr width x.v x.more else d)

end Sys2Proof.Machine
end

