-- ==== Sys2Proof/Machine/SafIn.lean ====
section
/-!
DEFINITION. A change at a safety input (11_safety.md R307, R313 to R315, R317).
-/

namespace Sys2Proof.Machine

/-- Channel `c` takes a level: a discrepancy begins or ends, and a pair that becomes closed notes the time. -/
def Dev.pairLevel (d : Dev) (i : Nat) (chB level : Bool) : Dev :=
  let was := d.pairClosed i
  let p := AList.get ({} : PairSt) d.saf.pairs i
  let d := d.setPair i (if chB then { p with b := level } else { p with a := level })
  let p := AList.get ({} : PairSt) d.saf.pairs i
  let disc := if d.discrepant i && !p.faulted then (if p.disc.isSome then p.disc else some d.time.cnt) else none
  let d := d.setPair i { p with disc }
  if !was && d.pairClosed i then d.setPair i { AList.get {} d.saf.pairs i with closedAt := some d.time.cnt } else d

/-- The RESET input (R313): the release of a pair closed for at least 100 ms and at most 5 s. -/
def Dev.resetInput (d : Dev) (i : Nat) : Dev :=
  match (AList.get ({} : PairSt) d.saf.pairs i).closedAt with
  | some t =>
    let long := d.time.cnt - t
    let d := d.setPair i { AList.get {} d.saf.pairs i with closedAt := none }
    if msCnt 100 ≤ long ∧ long ≤ msCnt 5000 then (match d.fullReset with | some d => d | none => d) else d
  | none => d

/-- A sensor pair shows a pulse (R314): a step of the groups it serves, or a handrail's. -/
def Dev.pulseSeen (d : Dev) (i func : Nat) : Dev :=
  d.each (maskList 4 (d.fld (A.SAF_IN_CFG i) 31 28)) (fun d g =>
    if func = 11 then d.modSg g (fun x => { x with msAt := some x.pos })
    else match (d.pairsOf g 12).idxOf? i with
      | some k => if k < 2 then d.modSg g (fun x => { x with hrPulses := x.hrPulses.set k (d.time.cnt :: x.hrPulses.getD k []) }) else d
      | none => d)

/-- What the functions make of a pair that was closed or not and now is or is not. -/
def Dev.pairActs (d : Dev) (i : Nat) (was : Bool) : Dev :=
  let func := d.fld (A.SAF_IN_CFG i) 27 24
  let now := d.pairClosed i
  let d := d.each [0, 1, 2, 3] Dev.demandPairs
  let d := if func = 3 ∧ was ∧ !now then d.resetInput i else d
  let d := if (func = 11 ∨ func = 12) ∧ !was ∧ now then d.pulseSeen i func else d
  if func = 13 then
    d.each (List.range 8) (fun d j => if d.rb (A.SAF_OUT_CFG j) 13 && d.fld (A.SAF_OUT_CFG j) 12 8 == i then d.timingTick j else d)
  else d

/-- A change seen by Keep alone in VIGIL (R315): of a pair of some group it wakes the device, into SAFE_HOLD where it opens a pair with
func 1 or 2 or causes a discrepancy (whose cause code the spec does not give). -/
def Dev.vigilInput (d : Dev) (i : Nat) (was : Bool) : Dev :=
  let w := d.rd (A.SAF_IN_CFG i)
  let func := field 27 24 w
  let opens : Bool := (func == 1 || func == 2) && was && !d.pairClosed i
  if field 31 28 w = 0 ∨ field 1 0 w = 0 then d
  else if opens || d.discrepant i then
    let x := d.fresh
    let code := if opens then (if func = 1 then 0x01 else 0x02) else x.1 % 256
    let d := if opens then d else x.2
    let d := ((d.takeReaction code false true).toSafeHold code).outOfVigil
    let d := d.setFld A.SYS_WAKE_LAST 27 24 5
    (d.restStoRefresh).each [0, 1, 2, 3] Dev.demandPairs
  else d.wakeUp 5

/-- A level that has held for `us` µs passes the filter of pair `i` (R311, SAF_IN_CFG.filt). -/
def Dev.pairFilter (d : Dev) (i us : Nat) : Bool := decide (100 * d.fld (A.SAF_IN_CFG i) 15 8 ≤ us)

/-- SAFETY_INPUT_CHANGE (R307): at fabric time `t` ns the ball of a channel of pair `i` has held a level for `us` µs; the channel takes it
where it passes the filter. While its own test pulse runs the channel holds its level. -/
def Dev.safetyInput (d : Dev) (i : Nat) (chB level : Bool) (us t : Nat) : Dev :=
  let d := d.seenAt t
  let c := 2 * i + b2n chB
  if 16 ≤ i then d
  else if d.pulsing c then
    (if level then d else d.modSaf (fun q => { q with tpWait := q.tpWait.filter (· != c) }))
  else if !d.pairFilter i us then d
  else
    let d := if d.inReset || d.sys.mode == .vigil then d else d.discTick i
    let was := d.pairClosed i
    let d := d.pairLevel i chB level
    if d.inReset then d
    else if d.sys.mode = .vigil then d.vigilInput i was
    else d.pairActs i was

/-- SAFETY_INPUT_CHANGE. -/
def execSafetyInputChange (i : Nat) (chB : Bool) (x : HeldLevel) (at_ : Nat) (s : State) : Host.Outcome State Fault Refusal :=
  s.perform (fun d => d.safetyInput i chB x.level x.held at_)

end Sys2Proof.Machine
end

