-- ==== Sys2Proof/Machine/Dispatch.lean ====
section
/-!
DEFINITION. What each command does: one arm per constructor, each one call of its meaning.
-/

namespace Sys2Proof.Machine

/-- The effect of a command on everything but the queue. -/
def exec (i : Instr) (s : State) : Host.Outcome State Fault Refusal :=
  match i with
  | .frameTick => Sys2Proof.Machine.execFrameTick s
  | .loopTick i0 => Sys2Proof.Machine.execLoopTick i0 s
  | .ocuSeqTimeout => Sys2Proof.Machine.execOcuSeqTimeout s
  | .tickCfgApplied root => Sys2Proof.Machine.execTickCfgApplied root s
  | .pwmPeriodStart n => Sys2Proof.Machine.execPwmPeriodStart n s
  | .tripAssert group x => Sys2Proof.Machine.execTripAssert group x s
  | .tripLatchOff n => Sys2Proof.Machine.execTripLatchOff n s
  | .tripWindowClose n => Sys2Proof.Machine.execTripWindowClose n s
  | .tripRelease group x => Sys2Proof.Machine.execTripRelease group x s
  | .senseTransition n leg e tm => Sys2Proof.Machine.execSenseTransition n leg e tm s
  | .dtFallback n leg => Sys2Proof.Machine.execDtFallback n leg s
  | .clusterFailure c code undone => Sys2Proof.Machine.execClusterFailure c code undone s
  | .admissionSearchDone => Sys2Proof.Machine.execAdmissionSearchDone s
  | .submissionFetch sq entry readOk cqOk data keepSame => Sys2Proof.Machine.execSubmissionFetch sq entry readOk cqOk data keepSame s
  | .heldCompletionRelease cq => Sys2Proof.Machine.execHeldCompletionRelease cq s
  | .motionTakeover => Sys2Proof.Machine.execMotionTakeover s
  | .forwardTimeout => Sys2Proof.Machine.execForwardTimeout s
  | .hostSqTail r cc i0 v => Sys2Proof.Machine.execHostSqTail r cc i0 v s
  | .hostCqHead r cc i0 v => Sys2Proof.Machine.execHostCqHead r cc i0 v s
  | .hostAdmCfg r v => Sys2Proof.Machine.execHostAdmCfg r v s
  | .hostEvqCfg r cc v => Sys2Proof.Machine.execHostEvqCfg r cc v s
  | .hostEvqHead r cc v => Sys2Proof.Machine.execHostEvqHead r cc v s
  | .vectorHoldoffExpiry cc v => Sys2Proof.Machine.execVectorHoldoffExpiry cc v s
  | .registerWrite r addr width x => Sys2Proof.Machine.execRegisterWrite r addr width x s
  | .counterLowRead r x => Sys2Proof.Machine.execCounterLowRead r x s
  | .popRegisterRead r addr width => Sys2Proof.Machine.execPopRegisterRead r addr width s
  | .dieLinkFailure r addr write => Sys2Proof.Machine.execDieLinkFailure r addr write s
  | .sysTickCfg r x => Sys2Proof.Machine.execSysTickCfg r x s
  | .sysOverrunClr r v => Sys2Proof.Machine.execSysOverrunClr r v s
  | .sysS1PeakClr r v => Sys2Proof.Machine.execSysS1PeakClr r v s
  | .sysDipLastClr r v => Sys2Proof.Machine.execSysDipLastClr r v s
  | .sysWakeBudget r cc v => Sys2Proof.Machine.execSysWakeBudget r cc v s
  | .sysModeSet h mode => Sys2Proof.Machine.execSysModeSet h mode s
  | .sysReset h => Sys2Proof.Machine.execSysReset h s
  | .ringCreate h b => Sys2Proof.Machine.execRingCreate h b s
  | .ringDelete h kind id => Sys2Proof.Machine.execRingDelete h kind id s
  | .regRead h offset words => Sys2Proof.Machine.execRegRead h offset words s
  | .regWrite h offset words data => Sys2Proof.Machine.execRegWrite h offset words data s
  | .sysIdentify h => Sys2Proof.Machine.execSysIdentify h s
  | .sysNop h => Sys2Proof.Machine.execSysNop h s
  | .clientReset h cc => Sys2Proof.Machine.execClientReset h cc s
  | .clientCfg h cc weight tcRate => Sys2Proof.Machine.execClientCfg h cc weight tcRate s
  | .eventRoute h first count route => Sys2Proof.Machine.execEventRoute h first count route s
  | .evtRoute r source v => Sys2Proof.Machine.execEvtRoute r source v s
  | .clientResetCut cc => Sys2Proof.Machine.execClientResetCut cc s
  | .clientResetComplete cc => Sys2Proof.Machine.execClientResetComplete cc s
  | .flr cc => Sys2Proof.Machine.execFlr cc s
  | .hotReset => Sys2Proof.Machine.execHotReset s
  | .pcieLinkDown => Sys2Proof.Machine.execPcieLinkDown s
  | .vfDisable enable numVfs => Sys2Proof.Machine.execVfDisable enable numVfs s
  | .fabricWindowAccess addr write v => Sys2Proof.Machine.execFabricWindowAccess addr write v s
  | .spiWriteFrame frame => Sys2Proof.Machine.execSpiWriteFrame frame s
  | .spiReadFrame frame tokenSeen => Sys2Proof.Machine.execSpiReadFrame frame tokenSeen s
  | .spiFrameVoid => Sys2Proof.Machine.execSpiFrameVoid s
  | .udpDatagram port src srcPort data reads => Sys2Proof.Machine.execUdpDatagram port src srcPort data reads s
  | .axAdmit h bank slot => Sys2Proof.Machine.execAxAdmit h bank slot s
  | .axRelease h => Sys2Proof.Machine.execAxRelease h s
  | .axEnable h target => Sys2Proof.Machine.execAxEnable h target s
  | .axEnableTimeout n => Sys2Proof.Machine.execAxEnableTimeout n s
  | .axOpen h => Sys2Proof.Machine.execAxOpen h s
  | .axDisable h mode => Sys2Proof.Machine.execAxDisable h mode s
  | .axFaultClear h => Sys2Proof.Machine.execAxFaultClear h s
  | .axBankSwap h init => Sys2Proof.Machine.execAxBankSwap h init s
  | .axQuery h => Sys2Proof.Machine.execAxQuery h s
  | .axSnapCtrl r n v => Sys2Proof.Machine.execAxSnapCtrl r n v s
  | .axReverse h how => Sys2Proof.Machine.execAxReverse h how s
  | .axShortBrake h start => Sys2Proof.Machine.execAxShortBrake h start s
  | .shortEnd n => Sys2Proof.Machine.execShortEnd n s
  | .axRecover h allowShort => Sys2Proof.Machine.execAxRecover h allowShort s
  | .recoveryFailed n => Sys2Proof.Machine.execRecoveryFailed n s
  | .catchEnd n => Sys2Proof.Machine.execCatchEnd n s
  | .catchTimeout n => Sys2Proof.Machine.execCatchTimeout n s
  | .initAngleStepEnd n => Sys2Proof.Machine.execInitAngleStepEnd n s
  | .fluxStepEnd n => Sys2Proof.Machine.execFluxStepEnd n s
  | .brakeLiftEnd n => Sys2Proof.Machine.execBrakeLiftEnd n s
  | .parkTimerEnd n => Sys2Proof.Machine.execParkTimerEnd n s
  | .imLowExpiry n => Sys2Proof.Machine.execImLowExpiry n s
  | .encoderEdge n a b at_ => Sys2Proof.Machine.execEncoderEdge n a b at_ s
  | .indexLoad n x => Sys2Proof.Machine.execIndexLoad n x s
  | .serialFrame c line => Sys2Proof.Machine.execSerialFrame c line s
  | .latchCapture src rising x => Sys2Proof.Machine.execLatchCapture src rising x s
  | .fbLatCtrlArm r n u v => Sys2Proof.Machine.execFbLatCtrlArm r n u v s
  | .fbPairCommit r addr v => Sys2Proof.Machine.execFbPairCommit r addr v s
  | .syncStrobe => Sys2Proof.Machine.execSyncStrobe s
  | .fbSet h add value => Sys2Proof.Machine.execFbSet h add value s
  | .fbCmpArm h b => Sys2Proof.Machine.execFbCmpArm h b s
  | .fbLatchArm h unit src bits => Sys2Proof.Machine.execFbLatchArm h unit src bits s
  | .fbSyncLatch h t units => Sys2Proof.Machine.execFbSyncLatch h t units s
  | .fbQuery h => Sys2Proof.Machine.execFbQuery h s
  | .axOwn h owner orphan => Sys2Proof.Machine.execAxOwn h owner orphan s
  | .axObserve h cc add => Sys2Proof.Machine.execAxObserve h cc add s
  | .profLoad h b => Sys2Proof.Machine.execProfLoad h b s
  | .profRun h b => Sys2Proof.Machine.execProfRun h b s
  | .profStreamWp r n v => Sys2Proof.Machine.execProfStreamWp r n v s
  | .profMove h b => Sys2Proof.Machine.execProfMove h b s
  | .profVel h b => Sys2Proof.Machine.execProfVel h b s
  | .profStop h => Sys2Proof.Machine.execProfStop h s
  | .profQuery h => Sys2Proof.Machine.execProfQuery h s
  | .gearEngage h b => Sys2Proof.Machine.execGearEngage h b s
  | .gearRatio h b => Sys2Proof.Machine.execGearRatio h b s
  | .gearPhase h b => Sys2Proof.Machine.execGearPhase h b s
  | .gearDisengage h b => Sys2Proof.Machine.execGearDisengage h b s
  | .gearBlendEnd n => Sys2Proof.Machine.execGearBlendEnd n s
  | .masterRecordArrival node b => Sys2Proof.Machine.execMasterRecordArrival node b s
  | .masterLost n => Sys2Proof.Machine.execMasterLost n s
  | .syncLossSuspend => Sys2Proof.Machine.execSyncLossSuspend s
  | .lsJoin h b => Sys2Proof.Machine.execLsJoin h b s
  | .lsShare h b => Sys2Proof.Machine.execLsShare h b s
  | .lsLeave h => Sys2Proof.Machine.execLsLeave h s
  | .lsRecordArrival toHome node g i0 n b => Sys2Proof.Machine.execLsRecordArrival toHome node g i0 n b s
  | .lsMemberLost home g i0 n => Sys2Proof.Machine.execLsMemberLost home g i0 n s
  | .lsFadeEnd n => Sys2Proof.Machine.execLsFadeEnd n s
  | .vmMotion h b => Sys2Proof.Machine.execVmMotion h b s
  | .vmStop h b => Sys2Proof.Machine.execVmStop h b s
  | .gearQuery h => Sys2Proof.Machine.execGearQuery h s
  | .gearPubCfg r i0 v granted => Sys2Proof.Machine.execGearPubCfg r i0 v granted s
  | .lsGrpCfg r g v granted => Sys2Proof.Machine.execLsGrpCfg r g v granted s
  | .capClaim h claim named => Sys2Proof.Machine.execCapClaim h claim named s
  | .capArm h clear => Sys2Proof.Machine.execCapArm h clear s
  | .capForce h => Sys2Proof.Machine.execCapForce h s
  | .capStop h => Sys2Proof.Machine.execCapStop h s
  | .capQuery h => Sys2Proof.Machine.execCapQuery h s
  | .ocuRingRp r v => Sys2Proof.Machine.execOcuRingRp r v s
  | .ocuSlotReserved => Sys2Proof.Machine.execOcuSlotReserved s
  | .ocuRecordDone => Sys2Proof.Machine.execOcuRecordDone s
  | .lanStart h g => Sys2Proof.Machine.execLanStart h g s
  | .lanGeneratorStart g => Sys2Proof.Machine.execLanGeneratorStart g s
  | .lanDone g => Sys2Proof.Machine.execLanDone g s
  | .lanStop h g immediate => Sys2Proof.Machine.execLanStop h g immediate s
  | .lanQuery h g => Sys2Proof.Machine.execLanQuery h g s
  | .safetyCycle i0 => Sys2Proof.Machine.execSafetyCycle i0 s
  | .crossCompareFail => Sys2Proof.Machine.execCrossCompareFail s
  | .heartbeatLoss turret => Sys2Proof.Machine.execHeartbeatLoss turret s
  | .selfTestFail turret => Sys2Proof.Machine.execSelfTestFail turret s
  | .selfTestAgeExpiry turret => Sys2Proof.Machine.execSelfTestAgeExpiry turret s
  | .sbcLeadExpiry g => Sys2Proof.Machine.execSbcLeadExpiry g s
  | .ss1MaxExpiry g => Sys2Proof.Machine.execSs1MaxExpiry g s
  | .safetyInputChange i0 chB x at_ => Sys2Proof.Machine.execSafetyInputChange i0 chB x at_ s
  | .discrepancyExpiry i0 => Sys2Proof.Machine.execDiscrepancyExpiry i0 s
  | .testPulse k => Sys2Proof.Machine.execTestPulse k s
  | .testPulseTimeout i0 chB => Sys2Proof.Machine.execTestPulseTimeout i0 chB s
  | .keepGateEnd g at_ => Sys2Proof.Machine.execKeepGateEnd g at_ s
  | .brakeTimingExpiry j => Sys2Proof.Machine.execBrakeTimingExpiry j s
  | .handrailTimeExpiry g k => Sys2Proof.Machine.execHandrailTimeExpiry g k s
  | .darkTest j ok => Sys2Proof.Machine.execDarkTest j ok s
  | .degWarn => Sys2Proof.Machine.execDegWarn s
  | .degMaxExpiry => Sys2Proof.Machine.execDegMaxExpiry s
  | .degVoteTimerExpiry => Sys2Proof.Machine.execDegVoteTimerExpiry s
  | .safCfgLoad h image keepSame => Sys2Proof.Machine.execSafCfgLoad h image keepSame s
  | .safReset h => Sys2Proof.Machine.execSafReset h s
  | .safGrpReset h mask => Sys2Proof.Machine.execSafGrpReset h mask s
  | .safSto h mask on => Sys2Proof.Machine.execSafSto h mask on s
  | .safSdi h g dir => Sys2Proof.Machine.execSafSdi h g dir s
  | .safRescueDone h => Sys2Proof.Machine.execSafRescueDone h s
  | .safInspTest h block dest => Sys2Proof.Machine.execSafInspTest h block dest s
  | .inspTestEnd metrics finished commitOk => Sys2Proof.Machine.execInspTestEnd metrics finished commitOk s
  | .safKeySign h challenge dest => Sys2Proof.Machine.execSafKeySign h challenge dest s
  | .safQuery h => Sys2Proof.Machine.execSafQuery h s
  | .safUnlock r v within => Sys2Proof.Machine.execSafUnlock r v within s
  | .unlockWindowExpiry test => Sys2Proof.Machine.execUnlockWindowExpiry test s
  | .turretHaltRequest => Sys2Proof.Machine.execTurretHaltRequest s
  | .turretResume pass => Sys2Proof.Machine.execTurretResume pass s
  | .resetNLow => Sys2Proof.Machine.execResetNLow s
  | .resetNRelease spi => Sys2Proof.Machine.execResetNRelease spi s
  | .boot recoveryN turretPass keepPass => Sys2Proof.Machine.execBoot recoveryN turretPass keepPass s
  | .bootComplete => Sys2Proof.Machine.execBootComplete s
  | .deviceReset cause => Sys2Proof.Machine.execDeviceReset cause s
  | .watchdogExpiry => Sys2Proof.Machine.execWatchdogExpiry s
  | .vbatApplied => Sys2Proof.Machine.execVbatApplied s
  | .vsysWarn => Sys2Proof.Machine.execVsysWarn s
  | .dipEnd rise => Sys2Proof.Machine.execDipEnd rise s
  | .dipStop => Sys2Proof.Machine.execDipStop s
  | .vsysLow => Sys2Proof.Machine.execVsysLow s
  | .vsysRelease por => Sys2Proof.Machine.execVsysRelease por s
  | .vcoreWarn => Sys2Proof.Machine.execVcoreWarn s
  | .vcoreReset => Sys2Proof.Machine.execVcoreReset s
  | .vcoreRelease => Sys2Proof.Machine.execVcoreRelease s
  | .vbatLow vsysAbsent => Sys2Proof.Machine.execVbatLow vsysAbsent s
  | .alarmInput i0 => Sys2Proof.Machine.execAlarmInput i0 s
  | .belfryBkpCtrlRtcLoad r v => Sys2Proof.Machine.execBelfryBkpCtrlRtcLoad r v s
  | .restEntry => Sys2Proof.Machine.execRestEntry s
  | .wake cause => Sys2Proof.Machine.execWake cause s
  | .wakeDone => Sys2Proof.Machine.execWakeDone s
  | .restRechoice => Sys2Proof.Machine.execRestRechoice s
  | .ringWakePattern => Sys2Proof.Machine.execRingWakePattern s
  | .pwrClaim h budget axes claim => Sys2Proof.Machine.execPwrClaim h budget axes claim s
  | .pwrRest h deepest => Sys2Proof.Machine.execPwrRest h deepest s
  | .pwrWake h pattern => Sys2Proof.Machine.execPwrWake h pattern s
  | .pwrQuery h => Sys2Proof.Machine.execPwrQuery h s
  | .tjSample logic drum => Sys2Proof.Machine.execTjSample logic drum s
  | .belfrySample ana0 ana1 => Sys2Proof.Machine.execBelfrySample ana0 ana1 s
  | .belfryRuleWrite r rule act v => Sys2Proof.Machine.execBelfryRuleWrite r rule act v s
  | .belfryLogSw r v => Sys2Proof.Machine.execBelfryLogSw r v s
  | .startMarker m => Sys2Proof.Machine.execStartMarker m s
  | .markerMissing => Sys2Proof.Machine.execMarkerMissing s
  | .timeLost => Sys2Proof.Machine.execTimeLost s
  | .timeStepWait => Sys2Proof.Machine.execTimeStepWait s
  | .fabricStep => Sys2Proof.Machine.execFabricStep s
  | .cyclicSlot c => Sys2Proof.Machine.execCyclicSlot c s
  | .statusSlot node b => Sys2Proof.Machine.execStatusSlot node b s
  | .nodeLostDetect node => Sys2Proof.Machine.execNodeLostDetect node s
  | .commandPacket src b data keepSame => Sys2Proof.Machine.execCommandPacket src b data keepSame s
  | .completionPacket node b => Sys2Proof.Machine.execCompletionPacket node b s
  | .eventPacket node b => Sys2Proof.Machine.execEventPacket node b s
  | .readRequest src addr => Sys2Proof.Machine.execReadRequest src addr s
  | .readResponse node addr v => Sys2Proof.Machine.execReadResponse node addr v s
  | .writePacket src addr width v => Sys2Proof.Machine.execWritePacket src addr width v s
  | .discover b => Sys2Proof.Machine.execDiscover b s
  | .assign id uid => Sys2Proof.Machine.execAssign id uid s
  | .joinRequest uid hops => Sys2Proof.Machine.execJoinRequest uid hops s
  | .joinRetry => Sys2Proof.Machine.execJoinRetry s
  | .insertOrder id fi => Sys2Proof.Machine.execInsertOrder id fi s
  | .insertion => Sys2Proof.Machine.execInsertion s
  | .removeOrder t => Sys2Proof.Machine.execRemoveOrder t s
  | .peerDelay p t1 t2 t3 t4 => Sys2Proof.Machine.execPeerDelay p t1 t2 t3 t4 s
  | .bypassRequest node answer => Sys2Proof.Machine.execBypassRequest node answer s
  | .mapMirror m delay => Sys2Proof.Machine.execMapMirror m delay s
  | .linkLossOfSignal p => Sys2Proof.Machine.execLinkLossOfSignal p s
  | .linkLock p => Sys2Proof.Machine.execLinkLock p s
  | .linkUp p => Sys2Proof.Machine.execLinkUp p s
  | .linkRecalibrate p => Sys2Proof.Machine.execLinkRecalibrate p s
  | .linkLockTimeout p => Sys2Proof.Machine.execLinkLockTimeout p s
  | .isolation => Sys2Proof.Machine.execIsolation s
  | .rootLoss => Sys2Proof.Machine.execRootLoss s
  | .ptpMessage p m => Sys2Proof.Machine.execPtpMessage p m s
  | .fabDiscover h renumber => Sys2Proof.Machine.execFabDiscover h renumber s
  | .fabInsert h id => Sys2Proof.Machine.execFabInsert h id s
  | .fabRemove h id => Sys2Proof.Machine.execFabRemove h id s
  | .fabStandby h id handover => Sys2Proof.Machine.execFabStandby h id handover s
  | .fabSlotAlloc h action => Sys2Proof.Machine.execFabSlotAlloc h action s
  | .fabQuery h => Sys2Proof.Machine.execFabQuery h s
  | .timeQuery h => Sys2Proof.Machine.execTimeQuery h s
  | .timeSrc h src => Sys2Proof.Machine.execTimeSrc h src s
  | .timePtpCfg h b => Sys2Proof.Machine.execTimePtpCfg h b s
  | .dmaChTail r c v => Sys2Proof.Machine.execDmaChTail r c v s
  | .dmaChOwn r c v => Sys2Proof.Machine.execDmaChOwn r c v s
  | .dmaStart r c => Sys2Proof.Machine.execDmaStart r c s
  | .dmaStop r c => Sys2Proof.Machine.execDmaStop r c s
  | .dmaProbe r c => Sys2Proof.Machine.execDmaProbe r c s
  | .dmaProbeEnd ok errKind => Sys2Proof.Machine.execDmaProbeEnd ok errKind s
  | .dmaResume r v => Sys2Proof.Machine.execDmaResume r v s
  | .dmaDescriptorEnd c desc data => Sys2Proof.Machine.execDmaDescriptorEnd c desc data s
  | .dmaReadFailure errKind outstanding => Sys2Proof.Machine.execDmaReadFailure errKind outstanding s
  | .fieldInputEdge c raw held => Sys2Proof.Machine.execFieldInputEdge c raw held s
  | .fieldOutSet r v => Sys2Proof.Machine.execFieldOutSet r v s
  | .fieldOutClr r v => Sys2Proof.Machine.execFieldOutClr r v s
  | .fieldChCfg r c v => Sys2Proof.Machine.execFieldChCfg r c v s
  | .wireBreak c x => Sys2Proof.Machine.execWireBreak c x s
  | .dioFault c k => Sys2Proof.Machine.execDioFault c k s
  | .thermalShutdown c => Sys2Proof.Machine.execThermalShutdown c s
  | .vfieldChange mv held => Sys2Proof.Machine.execVfieldChange mv held s
  | .fioWrite h mask v => Sys2Proof.Machine.execFioWrite h mask v s
  | .fioQuery h => Sys2Proof.Machine.execFioQuery h s
  | .canRx k f => Sys2Proof.Machine.execCanRx k f s
  | .canTxDone k ok sof => Sys2Proof.Machine.execCanTxDone k ok sof s
  | .canTxPut r k v => Sys2Proof.Machine.execCanTxPut r k v s
  | .canRxAck r k v => Sys2Proof.Machine.execCanRxAck r k v s
  | .canAbort r k => Sys2Proof.Machine.execCanAbort r k s
  | .canBusOff k => Sys2Proof.Machine.execCanBusOff k s
  | .canBusOffRecovery k n => Sys2Proof.Machine.execCanBusOffRecovery k n s
  | .canReference k => Sys2Proof.Machine.execCanReference k s
  | .canTimeMaster h b => Sys2Proof.Machine.execCanTimeMaster h b s
  | .canQuery h k => Sys2Proof.Machine.execCanQuery h k s
  | .uartRxByte n bits parity stop => Sys2Proof.Machine.execUartRxByte n bits parity stop s
  | .uartDataWrite r n v => Sys2Proof.Machine.execUartDataWrite r n v s
  | .uartTxByteSent n => Sys2Proof.Machine.execUartTxByteSent n s
  | .updBegin h length => Sys2Proof.Machine.execUpdBegin h length s
  | .updErased => Sys2Proof.Machine.execUpdErased s
  | .updBlock h index crc block => Sys2Proof.Machine.execUpdBlock h index crc block s
  | .updBlockProgrammed index => Sys2Proof.Machine.execUpdBlockProgrammed index s
  | .updActivate h => Sys2Proof.Machine.execUpdActivate h s
  | .updVerified => Sys2Proof.Machine.execUpdVerified s
  | .updCommit h => Sys2Proof.Machine.execUpdCommit h s
  | .updCancel h => Sys2Proof.Machine.execUpdCancel h s
  | .updQuery h => Sys2Proof.Machine.execUpdQuery h s
  | .flashOperationTimeout erase index => Sys2Proof.Machine.execFlashOperationTimeout erase index s
  | .finialSubmissionFrame rest => Sys2Proof.Machine.execFinialSubmissionFrame rest s
  | .finialBlockFrame rest => Sys2Proof.Machine.execFinialBlockFrame rest s
  | .finialFrameTimeout => Sys2Proof.Machine.execFinialFrameTimeout s
  | .tapInstructionLoad drum op => Sys2Proof.Machine.execTapInstructionLoad drum op s
  | .scanControlExit drum op => Sys2Proof.Machine.execScanControlExit drum op s
  | .dbgAuth token => Sys2Proof.Machine.execDbgAuth token s
  | .cpHalt cp halt => Sys2Proof.Machine.execCpHalt cp halt s
  | .testUnlock r v within => Sys2Proof.Machine.execTestUnlock r v within s
  | .perturbationWrite r addr width x => Sys2Proof.Machine.execPerturbationWrite r addr width x s
  | .dmaHoldExpiry => Sys2Proof.Machine.execDmaHoldExpiry s
  | .canBusError k lec tx => Sys2Proof.Machine.execCanBusError k lec tx s
  | .canAckDelayExpiry k => Sys2Proof.Machine.execCanAckDelayExpiry k s
  | .updCommitted => Sys2Proof.Machine.execUpdCommitted s
  | .thermalRestart c => Sys2Proof.Machine.execThermalRestart c s
  | .dioFaultEnd c k => Sys2Proof.Machine.execDioFaultEnd c k s
  | .vbatRestored => Sys2Proof.Machine.execVbatRestored s
  | .linkSignalDetected p => Sys2Proof.Machine.execLinkSignalDetected p s
  | .pcieLinkChange up speed width => Sys2Proof.Machine.execPcieLinkChange up speed width s
  | .vfEnable numVfs => Sys2Proof.Machine.execVfEnable numVfs s
  | .ptpSourceLoss p => Sys2Proof.Machine.execPtpSourceLoss p s
  | .arpRequest p target sender => Sys2Proof.Machine.execArpRequest p target sender s
  | .serialFrameStart c busy => Sys2Proof.Machine.execSerialFrameStart c busy s
  | .msixUnmask cc v => Sys2Proof.Machine.execMsixUnmask cc v s

end Sys2Proof.Machine
end

