-- ==== Sys2Proof/WellFormed.lean ====
section
/-!
DEFINITION. Well-formed commands: every operand in the range its field has in the spec (12_host_commands.md R335, R348; the register and
signal widths of the other chapters).  A command outside these ranges has a meaning in the machine too, but no entry, register access or
signal of the device carries one.
-/

namespace Sys2Proof.Machine

/-- The header of a submission entry fits its fields (12 R335, R348). -/
def Hdr.wf (h : Hdr) : Bool :=
  decide (h.cc < 512) && decide (h.sq < 65536) && decide (h.tag < 65536) && decide (h.node < 64) && decide (h.mask < 2 ^ 32) &&
    decide (h.time < 2 ^ 64) && decide (h.cls ≤ 2)

/-- A requester is a client context, or a node of the fabric (12 R335, 14 R416), with one of the 32 DMA channels if any (13 R380). -/
def Req.wf (r : Req) : Bool :=
  decide (r.cc < if r.port = .ring then 64 else 512) && (match r.dma with | some c => decide (c < 32) | none => true)

end Sys2Proof.Machine

namespace Sys2Proof

open Sys2Proof.Machine

/-- Every operand of a command lies in the range its field has. -/
def Instr.wf (i : Instr) : Bool :=
  match i with
  | .frameTick => true
  | .loopTick _ => true
  | .ocuSeqTimeout => true
  | .tickCfgApplied _ => true
  | .pwmPeriodStart n => decide (n < 32)
  | .tripAssert g x => decide (x.n < if g then 4 else 32)
  | .tripLatchOff n => decide (n < 32)
  | .tripWindowClose n => decide (n < 32)
  | .tripRelease g x => decide (x.n < if g then 4 else 32)
  | .senseTransition n leg _ tm => decide (n < 32) && decide (leg < 3) && decide (tm < 2 ^ 20)
  | .dtFallback n leg => decide (n < 32) && decide (leg < 3)
  | .clusterFailure c code _ => decide (c < 2) && decide (code < 256)
  | .admissionSearchDone => true
  | .submissionFetch sq entry _ _ _ _ => decide (sq < 65536) && decide (entry.length = 64)
  | .heldCompletionRelease cq => decide (cq < 65536)
  | .motionTakeover => true
  | .forwardTimeout => true
  | .hostSqTail r cc i _ => r.wf && decide (cc < 512) && decide (i < 256)
  | .hostCqHead r cc i _ => r.wf && decide (cc < 512) && decide (i < 256)
  | .hostAdmCfg r _ => r.wf
  | .hostEvqCfg r cc _ => r.wf && decide (cc < 512)
  | .hostEvqHead r cc _ => r.wf && decide (cc < 512)
  | .vectorHoldoffExpiry cc v => decide (cc < 512) && decide (v < 32)
  | .registerWrite r addr width _ => r.wf && decide (addr < 2 ^ 32) && decide (width < 16)
  | .counterLowRead r x => r.wf && decide (x.addr < 2 ^ 32) && decide (x.width < 16)
  | .popRegisterRead r addr width => r.wf && decide (addr < 2 ^ 32) && decide (width < 16)
  | .dieLinkFailure r addr _ => r.wf && decide (addr < 2 ^ 32)
  | .sysTickCfg r _ => r.wf
  | .sysOverrunClr r _ => r.wf
  | .sysS1PeakClr r _ => r.wf
  | .sysDipLastClr r _ => r.wf
  | .sysWakeBudget r cc _ => r.wf && decide (cc < 512)
  | .sysModeSet h mode => h.wf && decide (mode < 256)
  | .sysReset h => h.wf
  | .ringCreate h b => h.wf && decide (b.length = 64)
  | .ringDelete h kind id => h.wf && decide (kind < 256) && decide (id < 65536)
  | .regRead h offset words => h.wf && decide (offset < 2 ^ 32) && decide (words < 256)
  | .regWrite h offset words _ => h.wf && decide (offset < 2 ^ 32) && decide (words < 256)
  | .sysIdentify h => h.wf
  | .sysNop h => h.wf
  | .clientReset h cc => h.wf && decide (cc < 65536)
  | .clientCfg h cc weight tcRate => h.wf && decide (cc < 65536) && decide (weight < 256) && decide (tcRate < 65536)
  | .eventRoute h first count _ => h.wf && decide (first < 65536) && decide (count < 65536)
  | .evtRoute r source _ => r.wf && decide (source < 65536)
  | .clientResetCut cc => decide (cc < 512)
  | .clientResetComplete cc => decide (cc < 512)
  | .flr cc => decide (cc < 512)
  | .hotReset => true
  | .pcieLinkDown => true
  | .vfDisable _ numVfs => decide (numVfs < 512)
  | .fabricWindowAccess addr _ _ => decide (addr < 2 ^ 30)
  | .spiWriteFrame _ => true
  | .spiReadFrame _ _ => true
  | .spiFrameVoid => true
  | .udpDatagram port src srcPort _ _ => decide (port < 2) && decide (src < 2 ^ 32) && decide (srcPort < 65536)
  | .axAdmit h bank slot => h.wf && decide (bank < 256) && decide (slot < 256)
  | .axRelease h => h.wf
  | .axEnable h target => h.wf && decide (target < 256)
  | .axEnableTimeout n => decide (n < 32)
  | .axOpen h => h.wf
  | .axDisable h mode => h.wf && decide (mode < 256)
  | .axFaultClear h => h.wf
  | .axBankSwap h init => h.wf && decide (init < 256)
  | .axQuery h => h.wf
  | .axSnapCtrl r n _ => r.wf && decide (n < 32)
  | .axReverse h how => h.wf && decide (how < 256)
  | .axShortBrake h _ => h.wf
  | .shortEnd n => decide (n < 32)
  | .axRecover h _ => h.wf
  | .recoveryFailed n => decide (n < 32)
  | .catchEnd n => decide (n < 32)
  | .catchTimeout n => decide (n < 32)
  | .initAngleStepEnd n => decide (n < 32)
  | .fluxStepEnd n => decide (n < 32)
  | .brakeLiftEnd n => decide (n < 32)
  | .parkTimerEnd n => decide (n < 32)
  | .imLowExpiry n => decide (n < 32)
  | .encoderEdge n _ _ at_ => decide (n < 32) && decide (at_ < 2 ^ 64)
  | .indexLoad n x => decide (n < 32) && decide (x.at_ < 2 ^ 64)
  | .serialFrame c _ => decide (c < 16)
  | .latchCapture src _ x => decide (src < 64) && decide (x.at_ < 2 ^ 64)
  | .fbLatCtrlArm r n u _ => r.wf && decide (n < 32) && decide (u < 4)
  | .fbPairCommit r addr _ => r.wf && decide (addr < 2 ^ 32)
  | .syncStrobe => true
  | .fbSet h _ _ => h.wf
  | .fbCmpArm h b => h.wf && decide (b.length = 64)
  | .fbLatchArm h unit src bits => h.wf && decide (unit < 256) && decide (src < 256) && decide (bits < 256)
  | .fbSyncLatch h t units => h.wf && decide (t < 2 ^ 64) && decide (units < 256)
  | .fbQuery h => h.wf
  | .axOwn h owner orphan => h.wf && decide (owner < 65536) && decide (orphan < 256)
  | .axObserve h cc add => h.wf && decide (cc < 65536) && decide (add < 256)
  | .profLoad h b => h.wf && decide (b.length = 64)
  | .profRun h b => h.wf && decide (b.length = 64)
  | .profStreamWp r n _ => r.wf && decide (n < 32)
  | .profMove h b => h.wf && decide (b.length = 64)
  | .profVel h b => h.wf && decide (b.length = 64)
  | .profStop h => h.wf
  | .profQuery h => h.wf
  | .gearEngage h b => h.wf && decide (b.length = 64)
  | .gearRatio h b => h.wf && decide (b.length = 64)
  | .gearPhase h b => h.wf && decide (b.length = 64)
  | .gearDisengage h b => h.wf && decide (b.length = 64)
  | .gearBlendEnd n => decide (n < 32)
  | .masterRecordArrival node _ => decide (node < 64)
  | .masterLost n => decide (n < 32)
  | .syncLossSuspend => true
  | .lsJoin h b => h.wf && decide (b.length = 64)
  | .lsShare h b => h.wf && decide (b.length = 64)
  | .lsLeave h => h.wf
  | .lsRecordArrival _ node g i n _ => decide (node < 64) && decide (g < 8) && decide (i < 8) && decide (n < 32)
  | .lsMemberLost _ g i n => decide (g < 8) && decide (i < 8) && decide (n < 32)
  | .lsFadeEnd n => decide (n < 32)
  | .vmMotion h b => h.wf && decide (b.length = 64)
  | .vmStop h b => h.wf && decide (b.length = 64)
  | .gearQuery h => h.wf
  | .gearPubCfg r i _ _ => r.wf && decide (i < 16)
  | .lsGrpCfg r g _ granted => r.wf && decide (g < 8) && decide (granted < 2 ^ 32)
  | .capClaim h claim named => h.wf && decide (claim < 256) && decide (named < 65536)
  | .capArm h _ => h.wf
  | .capForce h => h.wf
  | .capStop h => h.wf
  | .capQuery h => h.wf
  | .ocuRingRp r _ => r.wf
  | .ocuSlotReserved => true
  | .ocuRecordDone => true
  | .lanStart h g => h.wf && decide (g < 256)
  | .lanGeneratorStart g => decide (g < 4)
  | .lanDone g => decide (g < 4)
  | .lanStop h g _ => h.wf && decide (g < 256)
  | .lanQuery h g => h.wf && decide (g < 256)
  | .safetyCycle _ => true
  | .crossCompareFail => true
  | .heartbeatLoss _ => true
  | .selfTestFail _ => true
  | .selfTestAgeExpiry _ => true
  | .sbcLeadExpiry g => decide (g < 4)
  | .ss1MaxExpiry g => decide (g < 4)
  | .safetyInputChange i _ x at_ => decide (i < 16) && decide (x.held < 2 ^ 64) && decide (at_ < 2 ^ 64)
  | .discrepancyExpiry i => decide (i < 16)
  | .testPulse k => decide (k < 4)
  | .testPulseTimeout i _ => decide (i < 16)
  | .keepGateEnd g at_ => decide (g < 4) && decide (at_ < 2 ^ 64)
  | .brakeTimingExpiry j => decide (j < 8)
  | .handrailTimeExpiry g k => decide (g < 4) && decide (k < 2)
  | .darkTest j _ => decide (j < 8)
  | .degWarn => true
  | .degMaxExpiry => true
  | .degVoteTimerExpiry => true
  | .safCfgLoad h _ _ => h.wf
  | .safReset h => h.wf
  | .safGrpReset h mask => h.wf && decide (mask < 16)
  | .safSto h mask on => h.wf && decide (mask < 16) && decide (on < 256)
  | .safSdi h g dir => h.wf && decide (g < 256) && decide (dir < 256)
  | .safRescueDone h => h.wf
  | .safInspTest h _ dest => h.wf && decide (dest < 2 ^ 64)
  | .inspTestEnd _ _ _ => true
  | .safKeySign h challenge dest => h.wf && decide (challenge.length = 32) && decide (dest < 2 ^ 64)
  | .safQuery h => h.wf
  | .safUnlock r _ _ => r.wf
  | .unlockWindowExpiry _ => true
  | .turretHaltRequest => true
  | .turretResume _ => true
  | .resetNLow => true
  | .resetNRelease _ => true
  | .boot _ _ _ => true
  | .bootComplete => true
  | .deviceReset cause => decide (cause < 16)
  | .watchdogExpiry => true
  | .vbatApplied => true
  | .vsysWarn => true
  | .dipEnd rise => decide (rise < 2 ^ 32)
  | .dipStop => true
  | .vsysLow => true
  | .vsysRelease _ => true
  | .vcoreWarn => true
  | .vcoreReset => true
  | .vcoreRelease => true
  | .vbatLow _ => true
  | .alarmInput i => decide (i < 4)
  | .belfryBkpCtrlRtcLoad r _ => r.wf
  | .restEntry => true
  | .wake cause => decide (cause < 16)
  | .wakeDone => true
  | .restRechoice => true
  | .ringWakePattern => true
  | .pwrClaim h budget axes claim => h.wf && decide (budget < 2 ^ 32) && decide (axes < 2 ^ 32) && decide (claim < 256)
  | .pwrRest h deepest => h.wf && decide (deepest < 256)
  | .pwrWake h pattern => h.wf && decide (pattern < 256)
  | .pwrQuery h => h.wf
  | .tjSample _ _ => true
  | .belfrySample ana0 ana1 => decide (ana0 < 4096) && decide (ana1 < 4096)
  | .belfryRuleWrite r rule _ _ => r.wf && decide (rule < 32)
  | .belfryLogSw r _ => r.wf
  | .startMarker _ => true
  | .markerMissing => true
  | .timeLost => true
  | .timeStepWait => true
  | .fabricStep => true
  | .cyclicSlot _ => true
  | .statusSlot node _ => decide (node < 64)
  | .nodeLostDetect node => decide (node < 64)
  | .commandPacket src _ _ _ => decide (src < 64)
  | .completionPacket node _ => decide (node < 64)
  | .eventPacket node _ => decide (node < 64)
  | .readRequest src addr => decide (src < 64) && decide (addr < 2 ^ 32)
  | .readResponse node addr _ => decide (node < 64) && decide (addr < 2 ^ 32)
  | .writePacket src addr width _ => decide (src < 64) && decide (addr < 2 ^ 32) && decide (width ≤ 4)
  | .discover _ => true
  | .assign id _ => decide (id < 64)
  | .joinRequest _ hops => decide (hops < 64)
  | .joinRetry => true
  | .insertOrder id fi => decide (id < 64) && decide (fi < 64)
  | .insertion => true
  | .removeOrder t => decide (t < 2 ^ 64)
  | .peerDelay p t1 t2 t3 t4 => decide (p < 2) && decide (t1 < 2 ^ 64) && decide (t2 < 2 ^ 64) && decide (t3 < 2 ^ 64) && decide (t4 < 2 ^ 64)
  | .bypassRequest node answer => decide (node < 64) && decide (answer < 256)
  | .mapMirror _ delay => decide (delay < 2 ^ 64)
  | .linkLossOfSignal p => decide (p < 2)
  | .linkLock p => decide (p < 2)
  | .linkUp p => decide (p < 2)
  | .linkRecalibrate p => decide (p < 2)
  | .linkLockTimeout p => decide (p < 2)
  | .isolation => true
  | .rootLoss => true
  | .ptpMessage p _ => decide (p < 2)
  | .fabDiscover h renumber => h.wf && decide (renumber < 256)
  | .fabInsert h id => h.wf && decide (id < 256)
  | .fabRemove h id => h.wf && decide (id < 256)
  | .fabStandby h id handover => h.wf && decide (id < 256) && decide (handover < 256)
  | .fabSlotAlloc h action => h.wf && decide (action < 256)
  | .fabQuery h => h.wf
  | .timeQuery h => h.wf
  | .timeSrc h src => h.wf && decide (src < 256)
  | .timePtpCfg h b => h.wf && decide (b.length = 64)
  | .dmaChTail r c _ => r.wf && decide (c < 32)
  | .dmaChOwn r c _ => r.wf && decide (c < 32)
  | .dmaStart r c => r.wf && decide (c < 32)
  | .dmaStop r c => r.wf && decide (c < 32)
  | .dmaProbe r c => r.wf && decide (c < 32)
  | .dmaProbeEnd _ errKind => decide (errKind < 16)
  | .dmaResume r _ => r.wf
  | .dmaDescriptorEnd c _ _ => decide (c < 32)
  | .dmaReadFailure errKind outstanding => decide (errKind < 16) && decide (outstanding < 2 ^ 32)
  | .fieldInputEdge c _ held => decide (c < 32) && decide (held < 2 ^ 64)
  | .fieldOutSet r _ => r.wf
  | .fieldOutClr r _ => r.wf
  | .fieldChCfg r c _ => r.wf && decide (c < 32)
  | .wireBreak c _ => decide (c < 32)
  | .dioFault c _ => decide (c < 32)
  | .thermalShutdown c => decide (c < 32)
  | .vfieldChange mv held => decide (mv < 2 ^ 17) && decide (held < 2 ^ 64)
  | .fioWrite h mask v => h.wf && decide (mask < 2 ^ 32) && decide (v < 2 ^ 32)
  | .fioQuery h => h.wf
  | .canRx k _ => decide (k < 4)
  | .canTxDone k _ sof => decide (k < 4) && decide (sof < 2 ^ 64)
  | .canTxPut r k _ => r.wf && decide (k < 4)
  | .canRxAck r k _ => r.wf && decide (k < 4)
  | .canAbort r k => r.wf && decide (k < 4)
  | .canBusOff k => decide (k < 4)
  | .canBusOffRecovery k n => decide (k < 4) && decide (n < 256)
  | .canReference k => decide (k < 4)
  | .canTimeMaster h b => h.wf && decide (b.length = 64)
  | .canQuery h k => h.wf && decide (k < 256)
  | .uartRxByte n bits _ _ => decide (n < 2) && decide (bits < 1024)
  | .uartDataWrite r n _ => r.wf && decide (n < 2)
  | .uartTxByteSent n => decide (n < 2)
  | .updBegin h length => h.wf && decide (length < 2 ^ 32)
  | .updErased => true
  | .updBlock h index crc _ => h.wf && decide (index < 2 ^ 32) && decide (crc < 2 ^ 32)
  | .updBlockProgrammed index => decide (index < 65536)
  | .updActivate h => h.wf
  | .updVerified => true
  | .updCommit h => h.wf
  | .updCancel h => h.wf
  | .updQuery h => h.wf
  | .flashOperationTimeout _ index => decide (index < 65536)
  | .finialSubmissionFrame _ => true
  | .finialBlockFrame _ => true
  | .finialFrameTimeout => true
  | .tapInstructionLoad _ op => decide (op < 32)
  | .scanControlExit _ op => decide (op < 32)
  | .dbgAuth _ => true
  | .cpHalt cp _ => decide (cp < 4)
  | .testUnlock r _ _ => r.wf
  | .perturbationWrite r addr width _ => r.wf && decide (addr < 2 ^ 32) && decide (width < 16)
  | .dmaHoldExpiry => true
  | .canBusError k lec _ => decide (k < 4) && decide (lec < 8)
  | .canAckDelayExpiry k => decide (k < 4)
  | .updCommitted => true
  | .thermalRestart c => decide (c < 32)
  | .dioFaultEnd c _ => decide (c < 32)
  | .vbatRestored => true
  | .linkSignalDetected p => decide (p < 2)
  | .pcieLinkChange _ speed width => decide (speed < 8) && decide (width < 64)
  | .vfEnable numVfs => decide (numVfs < 512)
  | .ptpSourceLoss p => decide (p < 2)
  | .arpRequest p target _ => decide (p < 2) && decide (target < 2 ^ 32)
  | .serialFrameStart c _ => decide (c < 16)
  | .msixUnmask cc v => decide (cc < 512) && decide (v < 32)

/-- A well-formed command. -/
abbrev Instr.WellFormed (i : Instr) : Prop := i.wf = true

end Sys2Proof
end

