-- ==== Sys2Proof/Safety.lean ====
section
/-!
DEFINITION. What counts as a safe state, in the terms the claims use: the maps hold their canonical form, so that equal
contents are equal data.
-/

namespace Sys2Proof.Machine

/-- The registers and the addressed memories are in canonical form. -/
def Dev.canonical (d : Dev) : Prop := SMap.wf regReset d.regs = true ∧ Memory.wf d.mem = true

/-- The invariant every step keeps: the maps of the device are in canonical form. -/
def State.Inv (s : State) : Prop := s.dev.canonical

/-- The engines of the device: what it holds beyond registers, memories, the host port with its rings and queues, the DMA channels, the links,
and what it has sent. -/
def Dev.engines (d : Dev) : Dev := { d with regs := [], mem := [], host := {}, dma := {}, ring := {}, out := [] }

/-- The registers that events and completions write besides what a command does: the pending bits and the overflow counts of the host's
queues, the count of dropped credits, and the count of items to corrupt. -/
def eventReg (a : Nat) : Prop :=
  a = A.HOST_SPI_IRQ ∨ a = A.TEST_RING ∨ (∃ c, c < 32 ∧ a = A.DMA_CH_TRIG c) ∨ ∃ cc, a = A.HOST_EVQ_STATUS cc

/-- `e` is `d` but for events and completions: the engines are as they were, and so is every register that no event writes, and, except
with the rings in SPI ring memory, every byte of the addressed memories. -/
def Dev.still (d e : Dev) : Prop :=
  e.engines = d.engines ∧ e.host.spi = d.host.spi ∧
    (SMap.wf regReset d.regs = true → SMap.wf regReset e.regs = true ∧ ∀ a, ¬ eventReg a → e.rd a = d.rd a) ∧
    (d.host.spi = false → ∀ a, e.mb a = d.mb a)

/-- The device as a port begins an access: no fault of this access is known yet. -/
def Dev.accessed (d : Dev) : Dev := d.modHost (fun h => { h with accKind := 0 })

/-- A 32-bit write of `v` at an offset reaches a register, and neither the rules on who, where and when (R21 to R29) nor the register's
chapter refuses it whole. -/
def Dev.accepts (d : Dev) (r : Req) (addr : Nat) (v : Word) : Bool :=
  d.accessed.reaches r && decide (addr % 4 = 0) && (memKind (regKey addr)).isNone && d.accessed.judge r (regKey addr) false true == .ok &&
    (match regRow (regKey addr) with | some row => (d.accessed.refuseWrite r row (regKey addr) v).isNone | none => false)

/-- The word a register holds after an accepted write of `v`, and the kind of the fault where a field kept its value (R14). -/
def Dev.taken (d : Dev) (r : Req) (addr : Nat) (v : Word) : Word × Option Kind :=
  match regRow (regKey addr) with
  | some row => d.accessed.written r row (regKey addr) v
  | none => (0, none)

/-- The opcode and the header of the commands that R358 gives an opcode; none for every other row of the table. -/
def orderOf (c : Instr) : Option (Nat × Hdr) :=
  match c with
  | .sysModeSet h _ => some (0x0101, h)
  | .sysReset h => some (0x0102, h)
  | .ringCreate h _ => some (0x0103, h)
  | .ringDelete h _ _ => some (0x0104, h)
  | .regRead h _ _ => some (0x0105, h)
  | .regWrite h _ _ _ => some (0x0106, h)
  | .sysIdentify h => some (0x0107, h)
  | .sysNop h => some (0x0108, h)
  | .clientReset h _ => some (0x0109, h)
  | .clientCfg h _ _ _ => some (0x010A, h)
  | .eventRoute h _ _ _ => some (0x010B, h)
  | .axAdmit h _ _ => some (0x0201, h)
  | .axRelease h => some (0x0202, h)
  | .axEnable h _ => some (0x0203, h)
  | .axOpen h => some (0x0204, h)
  | .axDisable h _ => some (0x0205, h)
  | .axFaultClear h => some (0x0206, h)
  | .axBankSwap h _ => some (0x0207, h)
  | .axQuery h => some (0x0208, h)
  | .axReverse h _ => some (0x0209, h)
  | .axShortBrake h _ => some (0x020A, h)
  | .axRecover h _ => some (0x020B, h)
  | .fbSet h _ _ => some (0x020C, h)
  | .fbCmpArm h _ => some (0x020D, h)
  | .fbLatchArm h _ _ _ => some (0x020E, h)
  | .fbSyncLatch h _ _ => some (0x020F, h)
  | .fbQuery h => some (0x0210, h)
  | .axOwn h _ _ => some (0x0211, h)
  | .axObserve h _ _ => some (0x0212, h)
  | .profLoad h _ => some (0x0301, h)
  | .profRun h _ => some (0x0302, h)
  | .profMove h _ => some (0x0303, h)
  | .profVel h _ => some (0x0304, h)
  | .profStop h => some (0x0305, h)
  | .profQuery h => some (0x0306, h)
  | .gearEngage h _ => some (0x0401, h)
  | .gearRatio h _ => some (0x0402, h)
  | .gearPhase h _ => some (0x0403, h)
  | .gearDisengage h _ => some (0x0404, h)
  | .lsJoin h _ => some (0x0405, h)
  | .lsShare h _ => some (0x0406, h)
  | .lsLeave h => some (0x0407, h)
  | .vmMotion h _ => some (0x0408, h)
  | .vmStop h _ => some (0x0409, h)
  | .gearQuery h => some (0x040A, h)
  | .capClaim h _ _ => some (0x0501, h)
  | .capArm h _ => some (0x0502, h)
  | .capForce h => some (0x0503, h)
  | .capStop h => some (0x0504, h)
  | .capQuery h => some (0x0505, h)
  | .lanStart h _ => some (0x0506, h)
  | .lanStop h _ _ => some (0x0507, h)
  | .lanQuery h _ => some (0x0508, h)
  | .safCfgLoad h _ _ => some (0x0701, h)
  | .safReset h => some (0x0702, h)
  | .safGrpReset h _ => some (0x0703, h)
  | .safSto h _ _ => some (0x0704, h)
  | .safSdi h _ _ => some (0x0705, h)
  | .safRescueDone h => some (0x0706, h)
  | .safInspTest h _ _ => some (0x0707, h)
  | .safKeySign h _ _ => some (0x0708, h)
  | .safQuery h => some (0x0709, h)
  | .pwrClaim h _ _ _ => some (0x0B01, h)
  | .pwrRest h _ => some (0x0B02, h)
  | .pwrWake h _ => some (0x0B03, h)
  | .pwrQuery h => some (0x0B04, h)
  | .fabDiscover h _ => some (0x0801, h)
  | .fabInsert h _ => some (0x0802, h)
  | .fabRemove h _ => some (0x0803, h)
  | .fabStandby h _ _ => some (0x0804, h)
  | .fabSlotAlloc h _ => some (0x0805, h)
  | .fabQuery h => some (0x0806, h)
  | .timeQuery h => some (0x0901, h)
  | .timeSrc h _ => some (0x0902, h)
  | .timePtpCfg h _ => some (0x0903, h)
  | .fioWrite h _ _ => some (0x0601, h)
  | .fioQuery h => some (0x0602, h)
  | .canTimeMaster h _ => some (0x0603, h)
  | .canQuery h _ => some (0x0604, h)
  | .updBegin h _ => some (0x0A01, h)
  | .updBlock h _ _ _ => some (0x0A02, h)
  | .updActivate h => some (0x0A03, h)
  | .updCommit h => some (0x0A03, h)
  | .updCancel h => some (0x0A03, h)
  | .updQuery h => some (0x0A04, h)
  | _ => none

/-- The commands that only report. -/
def isQuery (c : Instr) : Bool :=
  match c with
  | .sysNop _ => true
  | .axQuery _ => true
  | .fbQuery _ => true
  | .profQuery _ => true
  | .gearQuery _ => true
  | .capQuery _ => true
  | .lanQuery _ _ => true
  | .safQuery _ => true
  | .pwrQuery _ => true
  | .fabQuery _ => true
  | .timeQuery _ => true
  | .fioQuery _ => true
  | .canQuery _ _ => true
  | .updQuery _ => true
  | _ => false

/-- `n` steps, one after the other. -/
def steps : Nat → State → Host.Outcome State Fault Refusal
  | 0, s => .next s
  | n + 1, s =>
    match step s with
    | .next t => steps n t
    | .fault f => .fault f
    | .refused r => .refused r

/-- Every waiting command is well-formed. -/
def State.queueWf (s : State) : Prop := ∀ c ∈ s.pending, c.WellFormed

end Sys2Proof.Machine
end

