-- ==== Sys2Proof/Certificates/Slice0/Obligations.lean ====
section
/-! DEFINITION. The statements about the block: for every command the next state it leaves (and with it, that it completes),
for the queue what a step does with it, and what no command changes. Each docstring says which sentences of the spec it
formalises; OBLIGATIONS.json names the rules. -/

open Sys2Proof Sys2Proof.Machine

/-- SYS_NOP, SYS_IDENTIFY, REG_READ and REG_WRITE that pass the checks at their target (no axis that is absent, a sender that is entitled)
with an empty axis mask and no reserved value in their parameters run to a next state: SYS_NOP completes DONE with fabric time in its
result; SYS_IDENTIFY with SYS_DEV_ID, SYS_REV, the node ID, the major mode, the number of axes and the build; REG_READ with the words
read one after the other; REG_WRITE after its words are written one after the other, both DONE where no word faults. Where one does,
REG_READ and REG_WRITE complete ACCESS_FAULT with the kind of the first fault in result byte [16], after every word has been read or
written. Each clause gives the whole next state, so nothing else changes. Under Finial the build is a free value
(notes/assumptions/1.md). -/
def Obligations.SystemQueriesAndRegisterCommands : Prop :=
(∀ (h : Hdr) (s : State), s.dev.targetCheck 0x0108 h = none → h.mask = 0 → exec (.sysNop h) s = .next { s with dev := (s.dev.doneNow h
    Code.done [(16, 8, s.dev.now)]).settle }) ∧
(∀ (h : Hdr) (s : State), s.dev.targetCheck 0x0107 h = none → h.mask = 0 → s.dev.upd.finial = false → exec (.sysIdentify h) s = .next {
    s with dev := (s.dev.doneNow h Code.done [(16, 4, (s.dev.view A.SYS_DEV_ID).toNat), (20, 4, (s.dev.view A.SYS_REV).toNat), (24, 1,
    s.dev.node), (25, 1, s.dev.sys.mode.code), (26, 2, s.dev.axes), (28, 4, (s.dev.updBuildWord s.dev.upd.running).toNat)]).settle }) ∧
(∀ (h : Hdr) (s : State), s.dev.targetCheck 0x0107 h = none → h.mask = 0 → s.dev.upd.finial = true → exec (.sysIdentify h) s = .next {
    s with dev := (s.dev.freshWord.2.doneNow h Code.done [(16, 4, (s.dev.view A.SYS_DEV_ID).toNat), (20, 4, (s.dev.view A.SYS_REV).toNat),
    (24, 1, s.dev.node), (25, 1, s.dev.sys.mode.code), (26, 2, s.dev.axes), (28, 4, s.dev.freshWord.1.toNat)]).settle }) ∧
(∀ (h : Hdr) (offset words : Nat) (s : State), s.dev.targetCheck 0x0105 h = none → h.mask = 0 → regReserved offset words = false →
    (s.dev.readWords h.req words offset).2.1 = 0 → exec (.regRead h offset words) s = .next { s with dev := ((s.dev.readWords h.req words
    offset).2.2.complete h Code.done (s.dev.readWords h.req words offset).2.2.now (putAt (List.replicate 16 0) 0 (wordsLe (s.dev.readWords
    h.req words offset).1))).settle }) ∧
(∀ (h : Hdr) (offset words : Nat) (s : State), s.dev.targetCheck 0x0105 h = none → h.mask = 0 → regReserved offset words = false →
    (s.dev.readWords h.req words offset).2.1 ≠ 0 → exec (.regRead h offset words) s = .next { s with dev := ((s.dev.readWords h.req words
    offset).2.2.complete h Code.accessFault (s.dev.readWords h.req words offset).2.2.now (putAt (putAt (List.replicate 16 0) 0 (wordsLe
    (s.dev.readWords h.req words offset).1)) 0 (leBytes 1 (s.dev.readWords h.req words offset).2.1))).settle }) ∧
(∀ (h : Hdr) (offset words : Nat) (data : List Byte) (s : State), s.dev.targetCheck 0x0106 h = none → h.mask = 0 → regReserved offset
    words = false → (Dev.writeWords h.req ((List.range words).map (fun i => BitVec.ofNat 32 (leAt data (4 * i) 4))) offset s.dev).1 = 0 →
    exec (.regWrite h offset words data) s = .next { s with dev := ((Dev.writeWords h.req ((List.range words).map (fun i => BitVec.ofNat
    32 (leAt data (4 * i) 4))) offset s.dev).2.doneNow h Code.done [(16, 1, 0)]).settle }) ∧
(∀ (h : Hdr) (offset words : Nat) (data : List Byte) (s : State), s.dev.targetCheck 0x0106 h = none → h.mask = 0 → regReserved offset
    words = false → (Dev.writeWords h.req ((List.range words).map (fun i => BitVec.ofNat 32 (leAt data (4 * i) 4))) offset s.dev).1 ≠ 0 →
    exec (.regWrite h offset words data) s = .next { s with dev := ((Dev.writeWords h.req ((List.range words).map (fun i => BitVec.ofNat
    32 (leAt data (4 * i) 4))) offset s.dev).2.doneNow h Code.accessFault [(16, 1, (Dev.writeWords h.req ((List.range words).map (fun i =>
    BitVec.ofNat 32 (leAt data (4 * i) 4))) offset s.dev).1)]).settle })

/-- Where none of their conditions fails and the target's checks pass: RING_CREATE adds the ring with the parameters of the entry under
the global ID and the local index it reports; RING_DELETE removes the ring; AX_OWN passes each axis of the mask to the owner,
AX_OBSERVE adds or removes the observer on each, and both report the owner before, or the observers, of the lowest axis; CLIENT_CFG
sets the weight (unless 0) and tc_rate (unless 0xFFFF); EVENT_ROUTE writes the route word of every source of the range and reports the
first route before. Which free global ID a ring gets is a free value (notes/assumptions/34.md). -/
def Obligations.RingsOwnersAndRoutes : Prop :=
(∀ (h : Hdr) (b : List Byte) (q i : Nat) (s : State), s.dev.targetCheck 0x0103 h = none → h.mask = 0 → ringReserved b = false →
    s.dev.atPort h = true → byteAt b 16 = 1 → (s.dev.freeRing 1).1 = some q → s.dev.freeLocal 1 (leAt b 17 2) (byteAt b 33) = some i →
    s.dev.ringBad b = false → exec (.ringCreate h b) s = .next { s with dev := (((s.dev.freeRing 1).2.newCq q
    { client := leAt b 17 2, loc := i, base := leAt b 24 8, k := byteAt b 19, vector := byteAt b 32 }).doneNow h Code.done [(16, 2, q),
    (18, 1, i)]).settle }) ∧
(∀ (h : Hdr) (kind id : Nat) (s : State), s.dev.targetCheck 0x0104 h = none → h.mask = 0 → s.dev.atPort h = true → kind = 1 → id ≠ 0 →
    AList.has s.dev.host.cqs id = true → s.dev.host.sqs.any (fun x => x.2.cq == id) = false → exec (.ringDelete h kind id) s = .next {
    s with dev := ((s.dev.modHost (fun q => { q with cqs := AList.del q.cqs id })).doneNow h Code.done).settle }) ∧
(∀ (h : Hdr) (kind id : Nat) (s : State), s.dev.targetCheck 0x0104 h = none → h.mask = 0 → s.dev.atPort h = true → kind = 0 → id ≠ 0 →
    AList.has s.dev.host.sqs id = true → s.dev.host.inflight.any (fun f => f.sq == id) = false → exec (.ringDelete h kind id) s = .next {
    s with dev := ((s.dev.modHost (fun q => { q with sqs := AList.del q.sqs id })).doneNow h Code.done).settle }) ∧
(∀ (h : Hdr) (b : List Byte) (q i : Nat) (s : State), s.dev.targetCheck 0x0103 h = none → h.mask = 0 → ringReserved b = false →
    s.dev.atPort h = true → byteAt b 16 = 0 → (s.dev.freeRing 0).1 = some q → s.dev.freeLocal 0 (leAt b 17 2) (byteAt b 33) = some i →
    s.dev.ringBad b = false → (byteAt b 20 == 0 && s.dev.fld (A.HOST_CLIENT (leAt b 17 2)) 17 8 == 0) = false → exec (.ringCreate h b) s =
    .next { s with dev := (((s.dev.freeRing 0).2.setSq q
    { client := leAt b 17 2, loc := i, cls := byteAt b 20, cq := leAt b 22 2, base := leAt b 24 8, k := byteAt b 19 }).doneNow h Code.done
    [(16, 2, q), (18, 1, i)]).settle }) ∧
(∀ (h : Hdr) (cc weight tcRate rate : Nat) (s : State), s.dev.targetCheck 0x010A h = none → cc ≤ 0x1FF → (tcRate ≤ 512 ∨ tcRate = 0xFFFF)
    → s.dev.atPort h = true → s.dev.clientExists cc = true → rate = (if tcRate = 0xFFFF then s.dev.fld (A.HOST_CLIENT cc) 17 8 else
    tcRate) → s.dev.tcSum cc rate ≤ 512 → exec (.clientCfg h cc weight tcRate) s = .next { s with dev := (
      let d := if weight = 0 then s.dev else s.dev.setFld (A.HOST_CLIENT cc) 7 0 weight
      let d := if tcRate = 0xFFFF then d else (d.setFld (A.HOST_CLIENT cc) 17 8 rate).bucketFill cc
      d.doneNow h Code.done [(16, 1, d.fld (A.HOST_CLIENT cc) 7 0), (18, 2, rate), (20, 2, d.tcSum cc rate)]).settle }) ∧
(∀ (h : Hdr) (first count : Nat) (route : Word) (s : State), s.dev.targetCheck 0x010B h = none → s.dev.routeBad first count route = false
    → exec (.eventRoute h first count route) s = .next { s with dev := ((s.dev.wrAll ((List.range count).map (fun i => (A.EVT_ROUTE (first
    + i), route)))).doneAt h Code.done [(16, 4, (s.dev.rd (A.EVT_ROUTE first)).toNat)]).settle }) ∧
(∀ (h : Hdr) (owner orphan : Nat) (s : State), s.dev.targetCheck 0x0211 h = none → owner ≤ 0x1FF → orphan ≤ 1 → s.dev.clientExists owner =
    true → s.dev.resetting owner = false → s.dev.splits h.mask = false → exec (.axOwn h owner orphan) s = .next { s with dev :=
    ((s.dev.each (maskList 32 h.mask) (fun d n => d.setOwner n owner orphan)).doneAt h Code.done (if h.mask = 0 then [] else [(16, 2,
    s.dev.owner (lowest h.mask))])).settle }) ∧
(∀ (h : Hdr) (cc add : Nat) (s : State), s.dev.targetCheck 0x0212 h = none → cc ≤ 0x1FF → add ≤ 1 → s.dev.clientExists cc = true → (add ==
    1 && (maskList 32 h.mask).any (fun n => s.dev.owner n == cc)) = false → (add == 1 && (maskList 32 h.mask).any (fun n =>
    !(s.dev.observers n).contains cc && decide (7 ≤ (s.dev.observers n).length))) = false → s.dev.splits h.mask = false → exec (.axObserve
    h cc add) s = .next { s with dev := (
      let d := s.dev.each (maskList 32 h.mask) (fun d n => d.observe n cc (add == 1))
      d.doneAt h Code.done (if h.mask = 0 then [] else [(16, 1, (d.observers (lowest h.mask)).length)])).settle })

/-- SYS_MODE_SET that passes its target's checks. At a device that does not rest, for a transition that the table lists from the mode in
force (the conditions of it being `modeConds`), with every condition true: the major mode becomes the one asked for, with mode cause
0, the outputs follow, and the command completes DONE with the mode before, the mode after and condition index 0. From SAFE_HOLD to
READY or CONFIGURE the safety reset must have been done, and the device's STO ends with it; on the way to PROD_TEST the unlock window
closes. A listed transition with a condition that fails completes WRONG_MODE with the mode in force twice and the index of the first
condition that fails, and does nothing else. At a device that rests the command wakes it and waits among the accepted commands, held
until the wake is over. -/
def Obligations.ModeSetTransitions : Prop :=
(∀ (h : Hdr) (m : Mode) (conds : List Bool) (s : State), s.dev.targetCheck 0x0101 h = none → s.dev.resting = false → s.dev.modeConds
    s.dev.sys.mode m = some conds → firstFailed conds 1 = 0 → (s.dev.sys.mode ≠ .safeHold ∨ m = .recovery) → m ≠ .prodTest → exec
    (.sysModeSet h m.code) s = .next { s with dev := (((s.dev.enterMode m 0).refreshOuts).doneAt h Code.done [(16, 1,
    s.dev.sys.mode.code), (17, 1, m.code), (18, 2, 0)]).settle }) ∧
(∀ (h : Hdr) (m : Mode) (s : State), s.dev.targetCheck 0x0101 h = none → s.dev.sys.mode = .safeHold → (m = .ready ∨ m = .configure) →
    s.dev.saf.resetOk = true → exec (.sysModeSet h m.code) s = .next { s with dev := (
      let d := s.dev.modSaf (fun q => { q with deviceSto := false, resetOk := false })
      let d := d.each d.axisList (fun d n => d.modPw n (fun p => { p with sto := d.stoDemanded (stoGroup n) }))
      ((d.enterMode m 0).refreshOuts).doneAt h Code.done [(16, 1, Mode.code .safeHold), (17, 1, m.code), (18, 2, 0)]).settle }) ∧
(∀ (h : Hdr) (s : State), s.dev.targetCheck 0x0101 h = none → s.dev.sys.mode = .configure → s.dev.testOpen = true → s.dev.allOff = true →
    exec (.sysModeSet h (Mode.code .prodTest)) s = .next { s with dev := (((s.dev.testClose.enterMode .prodTest 0).refreshOuts).doneAt h
    Code.done [(16, 1, Mode.code .configure), (17, 1, Mode.code .prodTest), (18, 2, 0)]).settle }) ∧
(∀ (h : Hdr) (m : Mode) (conds : List Bool) (s : State), s.dev.targetCheck 0x0101 h = none → s.dev.resting = false → s.dev.modeConds
    s.dev.sys.mode m = some conds → firstFailed conds 1 ≠ 0 → exec (.sysModeSet h m.code) s = .next { s with dev := (s.dev.doneAt h
    Code.wrongMode [(16, 1, s.dev.sys.mode.code), (17, 1, s.dev.sys.mode.code), (18, 2, firstFailed conds 1)]).settle }) ∧
(∀ (h : Hdr) (m : Mode) (s : State), s.dev.targetCheck 0x0101 h = none → s.dev.resting = true → exec (.sysModeSet h m.code) s = .next {
    s with dev := (
      (s.dev.wakeUp 1).modHost (fun q => { q with
        accepted := q.accepted ++ [({ op := 0x0101, h, bytes := entryOf 0x0101 h [BitVec.ofNat 8 m.code], due := s.dev.now, ord := 2 ^ 32 * q.nextOrd, held := true } : Sub)]
        nextOrd := q.nextOrd + 1 })).settle })

/-- SYS_RESET in CONFIGURE, READY, SAFE_HOLD, RECOVERY or PROD_TEST completes DONE and orders a device reset 10 us after its completion is
written: after the write where a ring holds the completion, from now on where none does. DEVICE_RESET by that order (unless a commit
is in progress), by the root or by the debug port, and WATCHDOG_EXPIRY while no processor is halted, reset the device with their bit
of SYS_RST_CAUSE and boot it again from every mode but BYPASS and BACKUP. RESET_N low, with VSYS there and the device not in reset,
resets the device and holds it in BYPASS; its release samples HOSTSEL and starts a boot where the supplies allow one. REMOVE_ORDER at
a device that is not in reset resets it and leaves it in BYPASS. BOOT runs the start-up tests, migrates the tail log and chooses the
slot; BOOT_COMPLETE enters RECOVERY under Finial, SAFE_HOLD after a reaction during the boot, CONFIGURE otherwise. -/
def Obligations.DeviceResetsAndBoot : Prop :=
(∀ (h : Hdr) (s : State), s.dev.targetCheck 0x0102 h = none → s.dev.sys.mode ∈ [Mode.configure, .ready, .safeHold, .recovery, .prodTest] →
    exec (.sysReset h) s = .next { s with dev := (
      let d := (s.dev.modHost (fun q => { q with resetWait := some (h.flightSq, h.tag) })).doneAt h Code.done
      if d.host.resetWait.isNone || d.holdsFor h then d
      else d.modHost (fun q => { q with resetWait := none, resetAt := some (d.time.cnt + usCnt 10) })).settle }) ∧
(∀ (t : Nat) (s : State), s.dev.host.resetAt = some t → s.dev.upd.commit = none → s.dev.inReset = false → exec (.deviceReset 5) s = .next
    { s with dev := (((s.dev.advanceTo t).deviceReset (2 ^ 5)).resetTo .booting 1).settle }) ∧
(∀ (cause : Nat) (s : State), (cause = 6 ∨ cause = 7) → s.dev.inReset = false → exec (.deviceReset cause) s = .next { s with dev :=
    ((s.dev.deviceReset (2 ^ cause)).resetTo .booting 1).settle }) ∧
(∀ (s : State), s.dev.upd.halted = 0 → s.dev.sys.mode ≠ .vigil → s.dev.inReset = false → exec .watchdogExpiry s = .next { s with dev :=
    ((s.dev.deviceReset (2 ^ 4)).resetTo .booting 1).settle }) ∧
(∀ (s : State), s.dev.pwr.vsysAbsent = false → s.dev.inReset = false → exec .resetNLow s = .next { s with dev := (((s.dev.modSys (fun q =>
    { q with resetN := false })).deviceReset (2 ^ 3)).resetTo .bypass 1).settle }) ∧
(∀ (spi : Bool) (s : State), s.dev.sys.resetN = false → exec (.resetNRelease spi) s = .next { s with dev := (((s.dev.modSys (fun q =>
    { q with resetN := true, orderedOut := false })).modHost (fun q => { q with spi := spi })).tryBoot).settle }) ∧
(∀ (t : Nat) (s : State), s.dev.inReset = false → exec (.removeOrder t) s = .next { s with dev := (((s.dev.deviceReset (2 ^ 6)).modSys
    (fun q => { q with orderedOut := true })).resetTo .bypass 5).settle }) ∧
(∀ (recoveryN turretPass keepPass : Bool) (s : State), s.dev.sys.mode = .booting → s.dev.sys.booted = false → exec (.boot recoveryN
    turretPass keepPass) s = .next { s with dev := (
      let d := (s.dev.modSys (fun q => { q with recoveryLow := !recoveryN })).startTest 2 keepPass
      let d := (((d.chooseSlot (!recoveryN)).migrate.belfryPending).startTest 1 turretPass).modSaf (fun q => { q with key := true })
      let d := d.modSys (fun q => { q with booted := true, selfTest := turretPass && keepPass })
      let d := { d with upd := { d.upd with challenge := d.free }, free := d.free + 32 }
      if d.upd.finial then d else d.modRing (fun r => { r with ready := true })).settle }) ∧
(∀ (s : State), s.dev.sys.mode = .booting → s.dev.sys.booted = true → s.dev.upd.finial = true → exec .bootComplete s = .next {
    s with dev := (s.dev.enterMode .recovery 1).settle }) ∧
(∀ (s : State), s.dev.sys.mode = .booting → s.dev.sys.booted = true → s.dev.upd.finial = false → s.dev.sys.bootReaction = true → exec
    .bootComplete s = .next { s with dev := ((((s.dev.modSys (fun q => { q with bootReaction := false })).enterMode .safeHold 1).raise
    Ev.safSafeHold (s.dev.fld A.SAF_CAUSE 7 0)).becomeRoot).settle }) ∧
(∀ (s : State), s.dev.sys.mode = .booting → s.dev.sys.booted = true → s.dev.upd.finial = false → s.dev.sys.bootReaction = false → exec
    .bootComplete s = .next { s with dev := (
      let d := (s.dev.enterMode .configure 1).modSaf (fun q => { q with deviceSto := false })
      let d := d.each d.axisList (fun d n => d.modPw n (fun p => { p with sto := d.stoDemanded (stoGroup n) }))
      d.refreshOuts.becomeRoot).settle })

/-- VBAT_APPLIED puts a device without VSYS into BACKUP and otherwise notes the cell, as VBAT_RESTORED does, which also clears the
warning; VBAT_LOW with VSYS, not yet set, sets its bits and raises its event; the cell gone, the RTC, the backup RAM and the backup
registers lose their contents. VSYS_WARN with the warning not set sets it, takes Belfry's snapshot, stores the retention data of a
logic that runs and begins a dip where none runs; where the warning is set, a crossing clears it. DIP_STOP at the limit of a dip
orders the stop of the axes in MOVE and raises its event; DIP_END of a dip within its limit ends it 1 ms after the rise, records its
length and logs it. VSYS_LOW outside a reset resets the device and leaves it in BACKUP on a good cell or in BYPASS without one;
VSYS_RELEASE of a device without VSYS, a power-on where VSYS was below 1.8 V and otherwise not, starts a boot where the other
conditions hold. VCORE_RESET outside a reset resets the device and holds it in BYPASS until VCORE_RELEASE; VCORE_WARN with VSYS, not
yet set, sets its bit and raises its event. TJ_SAMPLE while the logic runs records both temperatures, arms TJ_HIGH below 120 degrees
and raises it at 125, and a change of band has the rest state chosen anew. ALARM_INPUT of an enabled alarm sets its bit and writes the
log of the domain that is powered. -/
def Obligations.SuppliesAndDips : Prop :=
(∀ (s : State), s.dev.pwr.vsysAbsent = true → exec .vbatApplied s = .next { s with dev := (((((s.dev.modPwr (fun p =>
    { p with vbatPresent := true })).wb A.BELFRY_BKP_STATUS 5 false).resetTo .backup 4).wb A.BELFRY_BKP_STATUS 0 true)).settle }) ∧
(∀ (s : State), s.dev.pwr.vsysAbsent = false → exec .vbatApplied s = .next { s with dev := ((s.dev.modPwr (fun p =>
    { p with vbatPresent := true })).wb A.BELFRY_BKP_STATUS 5 false).settle }) ∧
(∀ (s : State), s.dev.pwr.vsysAbsent = false → exec .vbatRestored s = .next { s with dev := (((s.dev.modPwr (fun p =>
    { p with vbatPresent := true })).wb A.BELFRY_BKP_STATUS 5 false).wb A.SYS_SUPPLY_STATUS 4 false).settle }) ∧
(∀ (s : State), s.dev.pwr.vsysAbsent = false → s.dev.rb A.BELFRY_BKP_STATUS 5 = false → exec (.vbatLow false) s = .next { s with dev :=
    (((s.dev.wb A.BELFRY_BKP_STATUS 5 true).wb A.SYS_SUPPLY_STATUS 4 true).raiseOn Ev.vbatLow).settle }) ∧
(∀ (s : State), exec (.vbatLow true) s = .next { s with dev := (
      let d := (s.dev.modPwr (fun p => { p with vbatPresent := false, tailWp := 0 })).rtcSet 0
      let d := { d with mem := d.mem.filter (fun c => !(0x3E000 ≤ c.1 && c.1 < 0x3F000)) }
      let d := { d with regs := d.regs.filter (fun c => !(0x3F000 ≤ c.1 && c.1 < 0x40000)) }
      d.wb A.BELFRY_BKP_STATUS 5 true).settle }) ∧
(∀ (s : State), s.dev.pwr.vsysAbsent = false → s.dev.rb A.SYS_SUPPLY_STATUS 0 = true → exec .vsysWarn s = .next { s with dev := (s.dev.wb
    A.SYS_SUPPLY_STATUS 0 false).settle }) ∧
(∀ (s : State), s.dev.pwr.vsysAbsent = false → s.dev.rb A.SYS_SUPPLY_STATUS 0 = false → exec .vsysWarn s = .next { s with dev := (
      let d := ((s.dev.wb A.SYS_SUPPLY_STATUS 0 true).wb A.SYS_SUPPLY_STATUS 2 true).snapshot
      let d := if d.logicOff then d else d.each d.axisList Dev.retWrite
      if d.pwr.dipStart.isSome then d else d.modPwr (fun p => { p with dipStart := some d.time.cnt, suspended := true })).settle }) ∧
(∀ (t : Nat) (s : State), s.dev.pwr.dipStart = some t → s.dev.logicOff = false → s.dev.pwr.dipStopped = false → exec .dipStop s = .next {
    s with dev := (
      (((s.dev.advanceTo (t + s.dev.dipLimit)).modPwr (fun p => { p with dipStopped := true, dipOrder := true })).wb A.SYS_SUPPLY_STATUS 3 true).raise Ev.dipStop).settle }) ∧
(∀ (rise t : Nat) (s : State), s.dev.pwr.dipStart = some t → usCnt rise ≤ s.dev.dipLimit → exec (.dipEnd rise) s = .next { s with dev := (
      let d := s.dev.advanceTo (t + usCnt rise + msCnt 1)
      let d := (d.wb A.SYS_SUPPLY_STATUS 0 false).wb A.SYS_SUPPLY_STATUS 2 false
      let d := d.modPwr (fun p => { p with dipStart := none, dipStopped := false, suspended := false })
      let d := (d.setFld A.SYS_DIP_LAST 23 0 (sat 0xFFFFFF rise)).incSat A.SYS_DIP_LAST 30 24
      (d.snapDrop.logWrite 3 0 (rise / 1000)).raiseOn Ev.vsysDip).settle }) ∧
(∀ (s : State), s.dev.pwr.vsysAbsent = false → s.dev.inReset = false → s.dev.pwr.vbatPresent = true → s.dev.rb A.BELFRY_BKP_STATUS 5 =
    false → exec .vsysLow s = .next { s with dev := (
      let d := (((s.dev.deviceReset (2 ^ 1)).modBel (fun b => { b with stopped := true })).wb A.SYS_SUPPLY_STATUS 0 true).wb A.SYS_SUPPLY_STATUS 2 false
      ((d.modPwr (fun p => { p with vsysAbsent := true, dipStart := none, dipStopped := false })).resetTo .backup 4).wb A.BELFRY_BKP_STATUS 0 true).settle }) ∧
(∀ (s : State), s.dev.pwr.vsysAbsent = false → s.dev.inReset = false → s.dev.pwr.vbatPresent = false → exec .vsysLow s = .next {
    s with dev := (
      let d := (((s.dev.deviceReset (2 ^ 1)).modBel (fun b => { b with stopped := true })).wb A.SYS_SUPPLY_STATUS 0 true).wb A.SYS_SUPPLY_STATUS 2 false
      ((d.modPwr (fun p => { p with vsysAbsent := true, dipStart := none, dipStopped := false })).vbatLow true).resetTo .bypass 4).settle }) ∧
(∀ (s : State), s.dev.pwr.vsysAbsent = true → exec (.vsysRelease false) s = .next { s with dev := (
      let d := (s.dev.modPwr (fun p => { p with vsysAbsent := false })).modSys (fun q => { q with orderedOut := false })
      let d := if d.sys.resetN then d else (d.wr A.SYS_RST_CAUSE (d.rstCauses (2 ^ 3))).resetTo .bypass 1
      d.snapResume.tryBoot).settle }) ∧
(∀ (s : State), s.dev.pwr.vsysAbsent = true → exec (.vsysRelease true) s = .next { s with dev := (
      let d := (s.dev.modPwr (fun p => { p with vsysAbsent := false })).modSys (fun q => { q with orderedOut := false })
      let d0 : Dev := { d.belPor with time := {} }
      (((d0.rtcSet d.rtcNow).setGrid).wr A.SYS_RST_CAUSE 1).tryBoot).settle }) ∧
(∀ (s : State), s.dev.pwr.vsysAbsent = false → s.dev.rb A.SYS_SUPPLY_STATUS 1 = false → exec .vcoreWarn s = .next { s with dev :=
    ((s.dev.wb A.SYS_SUPPLY_STATUS 1 true).raise Ev.vcoreWarn).settle }) ∧
(∀ (s : State), s.dev.pwr.vsysAbsent = false → s.dev.pwr.vcoreLow = false → s.dev.inReset = false → exec .vcoreReset s = .next {
    s with dev := (((s.dev.modPwr (fun p => { p with vcoreLow := true })).deviceReset (2 ^ 2)).resetTo .bypass 4).settle }) ∧
(∀ (s : State), exec .vcoreRelease s = .next { s with dev := (((s.dev.modPwr (fun p => { p with vcoreLow := false })).wb
    A.SYS_SUPPLY_STATUS 1 false).tryBoot).settle }) ∧
(∀ (logic drum : Int) (s : State), s.dev.logicOff = false → logic < 120 → drum < 120 → exec (.tjSample logic drum) s = .next {
    s with dev := (
      let d := (s.dev.modPwr (fun p => { p with tjLogic := logic, tjDrum := drum })).modPwr (fun p => { p with tjHot := false })
      if d.band = s.dev.band then d else d.restRechoice).settle }) ∧
(∀ (logic drum : Int) (s : State), s.dev.logicOff = false → max logic drum < 125 → (120 ≤ logic ∨ 120 ≤ drum) → exec (.tjSample logic
    drum) s = .next { s with dev := (
      let d := s.dev.modPwr (fun p => { p with tjLogic := logic, tjDrum := drum })
      if d.band = s.dev.band then d else d.restRechoice).settle }) ∧
(∀ (logic drum : Int) (s : State), s.dev.logicOff = false → s.dev.pwr.tjHot = true → 125 ≤ max logic drum → exec (.tjSample logic drum) s
    = .next { s with dev := (
      let d := (s.dev.modPwr (fun p => { p with tjLogic := logic, tjDrum := drum })).modPwr (fun p => { p with tjHot := true })
      if d.band = s.dev.band then d else d.restRechoice).settle }) ∧
(∀ (logic drum : Int) (s : State), s.dev.logicOff = false → s.dev.pwr.tjHot = false → 125 ≤ max logic drum → exec (.tjSample logic drum) s
    = .next { s with dev := (
      let d := (s.dev.modPwr (fun p => { p with tjLogic := logic, tjDrum := drum })).modPwr (fun p => { p with tjHot := true })
      let d := (d.wb A.SYS_TJ 16 true).raiseOn Ev.tjHigh
      if d.band = s.dev.band then d else d.restRechoice).settle }) ∧
(∀ (i : Nat) (s : State), i < 2 → s.dev.rb A.BELFRY_BKP_ALM_CFG (4 * i) = true → s.dev.pwr.vsysAbsent = false → exec (.alarmInput i) s =
    .next { s with dev := (((s.dev.wb A.BELFRY_BKP_STATUS (1 + i) true).logWrite 2 i 0).raiseOn Ev.bkpAlarm i).settle }) ∧
(∀ (i : Nat) (s : State), i < 2 → s.dev.rb A.BELFRY_BKP_ALM_CFG (4 * i) = true → s.dev.pwr.vbatPresent = true → s.dev.pwr.vsysAbsent =
    true → exec (.alarmInput i) s = .next { s with dev := ((s.dev.wb A.BELFRY_BKP_STATUS (1 + i) true).tailWrite i).settle })

/-- REST_ENTRY with the conditions of rest true and the idle time over carries out the choice of rest states; where a PWR_REST waits and
they hold, the choice answers it. WAKE by a cause that wakes from the mode in force, with no wake under way, starts one: the cause and
its start are recorded, the rest assertion is refreshed and the parks of an entry still under way are undone, with the wake done at
once where there were any. WAKE during an entry that awaits the root's answer aborts the entry. A safety-input change takes over the
cause of a wake from VIGIL. RING_WAKE_PATTERN in VIGIL starts a wake with cause 3, and aborts an entry that awaits the root's answer.
WAKE_DONE of a wake under way takes the device to READY, starts the axes at rest, completes the PWR_WAKE commands with the measured
time and raises WAKE_DONE. REST_RECHOICE with no wake under way makes the axes of a device in REST shallower where a choice fits,
keeps VIGIL where it fits, comes from VIGIL to REST where only that fits, and wakes with cause 4 where none fits. PWR_CLAIM sets the
sender's own budget and axes, reports the device budget and re-chooses; PWR_REST with the conditions of rest true carries out the
choice; PWR_WAKE starts a wake and waits for its end, or completes at once where none is to be awaited; PWR_QUERY reports the wake
state, the axes' rest states and the last wake. -/
def Obligations.RestAndWake : Prop :=
(∀ (s : State), s.dev.wake.restCmd = none → s.dev.restOk none = true → s.dev.past (s.dev.wake.idleSince + msCnt (s.dev.fld A.SYS_WAKE_CFG
    23 8)) = true → exec .restEntry s = .next { s with dev := (s.dev.restDo true none).settle }) ∧
(∀ (h : Hdr) (deepest : Nat) (s : State), s.dev.wake.restCmd = some (h, deepest) → (s.dev.modWake (fun w =>
    { w with restCmd := none })).restOk (some h) = true → exec .restEntry s = .next { s with dev := ((s.dev.modWake (fun w =>
    { w with restCmd := none })).restDo (deepest == 2) (some h)).settle }) ∧
(∀ (cause : Nat) (s : State), wakesFrom s.dev.sys.mode cause = true → s.dev.wake.run = none → exec (.wake cause) s = .next { s with dev :=
    (
      let parks := s.dev.entryParks
      let d := (s.dev.modWake (fun w => { w with deepen := false, run := some { cause, start := s.dev.time.cnt, budget := w.entryBudget } })).setFld A.SYS_WAKE_LAST 27 24 cause
      let d := d.restStoRefresh.each parks Dev.parkAbort
      if parks.isEmpty then d else d.wakeDone).settle }) ∧
(∀ (cause : Nat) (s : State), s.dev.sys.mode = .ready → s.dev.wake.asked = true → cause ≤ 5 → exec (.wake cause) s = .next { s with dev :=
    (s.dev.entryAbort cause).settle }) ∧
(∀ (r : WakeRun) (s : State), s.dev.sys.mode = .vigil → s.dev.wake.run = some r → r.awaiting = none → exec (.wake 5) s = .next {
    s with dev := ((s.dev.modWake (fun w => { w with run := some { r with cause := 5 } })).setFld A.SYS_WAKE_LAST 27 24 5).settle }) ∧
(∀ (s : State), s.dev.sys.mode = .vigil → s.dev.wake.run = none → exec .ringWakePattern s = .next { s with dev := (
      let parks := s.dev.entryParks
      let d := (s.dev.modWake (fun w => { w with deepen := false, run := some { cause := 3, start := s.dev.time.cnt, budget := w.entryBudget } })).setFld A.SYS_WAKE_LAST 27 24 3
      let d := d.restStoRefresh.each parks Dev.parkAbort
      if parks.isEmpty then d else d.wakeDone).settle }) ∧
(∀ (s : State), s.dev.sys.mode = .ready → s.dev.wake.asked = true → exec .ringWakePattern s = .next { s with dev := (s.dev.entryAbort
    3).settle }) ∧
(∀ (r : WakeRun) (s : State), s.dev.wake.run = some r → r.awaiting = none → s.dev.resting = true → exec .wakeDone s = .next {
    s with dev := (
      let back := (s.dev.wake.rests.filter (fun x => decide (2 ≤ x.2))).map (·.1)
      let d := s.dev.enterMode .ready 3
      let d := if s.dev.sys.mode == .vigil then d.outOfVigil.each [0, 1, 2, 3] Dev.demandPairs else d
      let d := (d.modWake (fun w => { w with rests := [], idleSince := d.time.cnt, deepen := false })).restStoRefresh.heldReaction
      let d := d.each back Dev.restStart
      let d := r.cmds.foldl (fun (d : Dev) h => d.doneNow h Code.done [(16, 4, d.wakeTime r)]) d
      let claimed := back.filter (fun n => (d.axisBudget n).isSome)
      let d := d.modWake (fun w => { w with run := some { r with cmds := [], awaiting := some claimed } })
      (d.raise Ev.wakeDone).wakeMeasure).settle }) ∧
(∀ (l : List (Nat × Nat)) (s : State), s.dev.wake.run = none → s.dev.sys.mode = .rest → s.dev.restFit false = some l → exec .restRechoice
    s = .next { s with dev := ((if s.dev.wake.deepen && (s.dev.restFit true).isNone then s.dev.modWake (fun w =>
    { w with deepen := false }) else s.dev).shallower l).settle }) ∧
(∀ (l : List (Nat × Nat)) (s : State), s.dev.wake.run = none → s.dev.sys.mode = .vigil → s.dev.restFit true = some l → exec .restRechoice
    s = .next { s with dev := (s.dev).settle }) ∧
(∀ (l : List (Nat × Nat)) (s : State), s.dev.wake.run = none → s.dev.sys.mode = .vigil → s.dev.restFit true = none → s.dev.restFit false =
    some l → exec .restRechoice s = .next { s with dev := (((s.dev.vigilToRest l).setFld A.SYS_WAKE_LAST 27 24 4).raise
    Ev.restEntered).settle }) ∧
(∀ (s : State), s.dev.wake.run = none → s.dev.resting = true → s.dev.wake.deepen = false → s.dev.restFit true = none → s.dev.restFit false
    = none → exec .restRechoice s = .next { s with dev := (s.dev.wakeUp 4).settle }) ∧
(∀ (h : Hdr) (budget axes claim : Nat) (s : State), s.dev.targetCheck 0x0B01 h = none → budget < 2 ^ 24 → claim ≤ 1 → axes < 2 ^
    s.dev.axes → exec (.pwrClaim h budget axes claim) s = .next { s with dev := (
      let d := (s.dev.wr (A.SYS_WAKE_BUDGET h.cc) (BitVec.ofNat 32 (budget + 2 ^ 31 * claim))).wr (A.SYS_WAKE_AXES h.cc) (BitVec.ofNat 32 axes)
      (d.doneAt h Code.done [(16, 4, d.budgetField)]).restRechoice).settle }) ∧
(∀ (h : Hdr) (deepest : Nat) (s : State), s.dev.targetCheck 0x0B02 h = none → (deepest = 2 ∨ deepest = 3) → s.dev.restOk (some h) = true →
    exec (.pwrRest h deepest) s = .next { s with dev := (s.dev.restDo (deepest == 2) (some h)).settle }) ∧
(∀ (h : Hdr) (pattern : Nat) (r : WakeRun) (s : State), s.dev.targetCheck 0x0B03 h = none → pattern ≤ 1 → ((if pattern = 1 && s.dev.isRoot
    then s.dev.modRing (fun q => { q with wakeLeft := 16 }) else s.dev).wakeUp 0).wake.run = some r → (r.awaiting.isNone && ((if pattern =
    1 && s.dev.isRoot then s.dev.modRing (fun q => { q with wakeLeft := 16 }) else s.dev).wakeUp 0).resting) = true → exec (.pwrWake h
    pattern) s = .next { s with dev := (((if pattern = 1 && s.dev.isRoot then s.dev.modRing (fun q => { q with wakeLeft := 16 }) else
    s.dev).wakeUp 0).modWake (fun w => { w with run := some { r with cmds := r.cmds ++ [h] } })).settle }) ∧
(∀ (h : Hdr) (pattern : Nat) (r : WakeRun) (s : State), s.dev.targetCheck 0x0B03 h = none → pattern ≤ 1 → ((if pattern = 1 && s.dev.isRoot
    then s.dev.modRing (fun q => { q with wakeLeft := 16 }) else s.dev).wakeUp 0).wake.run = some r → (r.awaiting.isNone && ((if pattern =
    1 && s.dev.isRoot then s.dev.modRing (fun q => { q with wakeLeft := 16 }) else s.dev).wakeUp 0).resting) = false → exec (.pwrWake h
    pattern) s = .next { s with dev := (((if pattern = 1 && s.dev.isRoot then s.dev.modRing (fun q => { q with wakeLeft := 16 }) else
    s.dev).wakeUp 0).doneAt h Code.done [(16, 4, ((if pattern = 1 && s.dev.isRoot then s.dev.modRing (fun q => { q with wakeLeft := 16 })
    else s.dev).wakeUp 0).wakeTime r)]).settle }) ∧
(∀ (h : Hdr) (pattern : Nat) (s : State), s.dev.targetCheck 0x0B03 h = none → pattern ≤ 1 → ((if pattern = 1 && s.dev.isRoot then
    s.dev.modRing (fun q => { q with wakeLeft := 16 }) else s.dev).wakeUp 0).wake.run = none → exec (.pwrWake h pattern) s = .next {
    s with dev := (((if pattern = 1 && s.dev.isRoot then s.dev.modRing (fun q => { q with wakeLeft := 16 }) else s.dev).wakeUp 0).doneAt h
    Code.done [(16, 4, ((if pattern = 1 && s.dev.isRoot then s.dev.modRing (fun q => { q with wakeLeft := 16 }) else s.dev).wakeUp 0).fld
    A.SYS_WAKE_LAST 23 0)]).settle }) ∧
(∀ (h : Hdr) (s : State), s.dev.targetCheck 0x0B04 h = none → exec (.pwrQuery h) s = .next { s with dev := (s.dev.doneNow h Code.done
    [(16, 4, s.dev.wakeStateWord.toNat), (20, 4, (s.dev.restWord false).toNat), (24, 4, (s.dev.restWord true).toNat), (28, 4, (s.dev.rd
    A.SYS_WAKE_LAST).toNat)]).settle })

/-- CLIENT_RESET of a client that is not being reset already starts its reset, with the cut at the first frame tick at least two frame
periods later. CLIENT_RESET_CUT, at the cut of a reset in progress, takes over what is due, discards the client's commands that would
take effect later, makes its axes react and releases what it holds. CLIENT_RESET_COMPLETE empties the client's rings, frees its tags,
raises CLIENT_RESET_DONE and completes the CLIENT_RESET of another client with the counts of what was discarded and which axes
reacted. FLR resets one VF's client, or every client for the PF; HOT_RESET and a link down for 10 ms reset every client; a change of
the link sets link_up, speed and width and raises HOST_LINK_CHANGE; VF_ENABLE and VF_DISABLE change which clients exist, and each
client that ceases is reset. DIE_LINK_FAILURE records an access fault, answers a read with all ones and is a cause of a device
reaction. -/
def Obligations.ClientResetsAndPcie : Prop :=
(∀ (h : Hdr) (cc : Nat) (s : State), s.dev.targetCheck 0x0109 h = none → s.dev.clientResetCheck h cc = none → exec (.clientReset h cc) s =
    .next { s with dev := (s.dev.clientResetStart cc (some h)).settle }) ∧
(∀ (r : ClientReset) (s : State), s.dev.running = true → s.dev.host.resets.find? (fun x => x.cc == r.cc) = some r → r.cutDone = false →
    r.cut ≤ s.dev.nextFrame → exec (.clientResetCut r.cc) s = .next { s with dev := ((s.dev.advanceTo (s.dev.time.edge r.cut)).clientCut
    r.cc r.cut).settle }) ∧
(∀ (cc : Nat) (s : State), s.dev.running = true → s.dev.host.resets.find? (fun x => x.cc == cc) = none → s.dev.host.attached = false →
    exec (.clientResetCut cc) s = .next { s with dev := (s.dev.clientCut cc s.dev.sys.lastFrame).settle }) ∧
(∀ (cc : Nat) (r : ClientReset) (s : State), s.dev.running = true → s.dev.host.resets.find? (fun x => x.cc == cc && x.cutDone) = some r →
    exec (.clientResetComplete cc) s = .next { s with dev := (
      let d := s.dev.modHost (fun q => { q with
        resets := q.resets.filter (fun x => x.cc != cc)
        inflight := q.inflight.filter (fun f => f.cc != cc)
        forwarded := q.forwarded.filter (fun f => f.h.cc != cc)
        joins := q.joins.filter (fun j => j.h.cc != cc)
        gone := q.gone.filter (· != cc)
        sqs := q.sqs.map (fun (x : Nat × Sq) => if x.2.client = cc then (x.1, { x.2 with head := 0, tail := 0, marks := [] }) else x)
        cqs := q.cqs.map (fun (x : Nat × Cq) => if x.2.client = cc then (x.1, { x.2 with wr := 0, rd := 0, full := false, held := [] }) else x) })
      let d := d.raise Ev.clientResetDone cc
      match r.cmd with
      | some h => if h.cc = cc then d else d.doneNow h Code.done [(16, 2, r.discarded), (18, 2, r.orphans)]
      | none => d).settle }) ∧
(∀ (cc : Nat) (s : State), s.dev.pcie = true → s.dev.clientExists cc = true → cc ≠ 0 → exec (.flr cc) s = .next { s with dev :=
    ((s.dev.modHost (fun q => { q with masks := AList.del q.masks cc, pba := AList.del q.pba cc })).clientResetStart cc none).settle }) ∧
(∀ (s : State), s.dev.pcie = true → s.dev.clientExists 0 = true → exec (.flr 0) s = .next { s with dev := ((s.dev.modHost (fun q =>
    { q with masks := AList.del q.masks 0, pba := AList.del q.pba 0 })).resetAll).settle }) ∧
(∀ (s : State), s.dev.pcie = true → exec .hotReset s = .next { s with dev := (s.dev.resetAll).settle }) ∧
(∀ (t : Nat) (s : State), s.dev.pcie = true → s.dev.host.downSince = some t → exec .pcieLinkDown s = .next { s with dev :=
    (((s.dev.advanceTo (t + msCnt 10)).modHost (fun q => { q with downSince := none })).resetAll).settle }) ∧
(∀ (speed width : Nat) (s : State), s.dev.pcie = true → speed ∈ [1, 2, 3] → width ∈ [1, 2, 4] → s.dev.host.linkUp = false → exec
    (.pcieLinkChange true speed width) s = .next { s with dev := (((s.dev.modHost (fun q =>
    { q with linkUp := true, speed := speed, width := width, downSince := none })).raise Ev.hostLinkChange).becomeRoot).settle }) ∧
(∀ (speed width : Nat) (s : State), s.dev.pcie = true → s.dev.host.linkUp = true → exec (.pcieLinkChange false speed width) s = .next {
    s with dev := ((s.dev.modHost (fun q => { q with linkUp := false, speed := 0, width := 0, downSince := some s.dev.time.cnt })).raise
    Ev.hostLinkChange).settle }) ∧
(∀ (n : Nat) (s : State), s.dev.host.spi = false → s.dev.running = true → s.dev.upd.finial = false → n ≤ 511 → (s.dev.host.vfEnable &&
    decide (n ≤ s.dev.host.numVfs)) = false → exec (.vfEnable n) s = .next { s with dev := (s.dev.modHost (fun q =>
    { q with vfEnable := true, numVfs := n })).settle }) ∧
(∀ (enable : Bool) (n : Nat) (s : State), s.dev.host.spi = false → s.dev.running = true → s.dev.ceasing enable n ≠ [] → exec (.vfDisable
    enable n) s = .next { s with dev := (((s.dev.ceasing enable n).foldl (fun (d : Dev) cc => d.clientResetStart cc none) s.dev).modHost
    (fun q =>
    { q with vfEnable := enable, numVfs := n, gone := q.gone ++ (s.dev.ceasing enable n).filter (fun cc => !q.gone.contains cc) })).settle
    }) ∧
(∀ (r : Req) (a : Nat) (s : State), exec (.dieLinkFailure r a true) s = .next { s with dev := ((s.dev.accFault r a .dieLink
    true).deviceReaction 0x13 true true).settle }) ∧
(∀ (r : Req) (a : Nat) (s : State), exec (.dieLinkFailure r a false) s = .next { s with dev := (((s.dev.accFault r a .dieLink false).emit
    (.read r a 0xFFFFFFFF)).deviceReaction 0x13 true true).settle })

/-- AX_ADMIT with its conditions true, every bank valid and no search running: with the standby cluster kept and the peak within the
limit, the models whose phases are chosen in order are placed, take effect, go to PARKED, and the command completes DONE with their
cost, the peak and its schedule tick; with the standby released the search begins and the command is ACCEPTED. While a search runs
AX_ADMIT and AX_RELEASE wait. ADMISSION_SEARCH_DONE marks the search ended. AX_RELEASE takes the reservation from every model of the
mask and reports the peak that is left. CLUSTER_FAILURE of a healthy cluster records the failure and raises CLUSTER_FAILED; where that
cluster carries axes, the undone executions are kept back, and every admitted axis moves to the other cluster if it is healthy, while
without one every model goes to FAULT. AX_BANK_SWAP of the axes of one model, with a bank that passes, swaps it and reports the bank
now active, its cost and its tag; with one that fails it reports the status and the reason and swaps nothing; of a mask that splits a
model it completes GROUP_SPLIT. -/
def Obligations.AdmissionAndClusters : Prop :=
(∀ (h : Hdr) (bank slot : Nat) (s : State), s.dev.targetCheck 0x0201 h = none → s.dev.cup.search = none → s.dev.admitState h slot = none →
    (s.dev.admBanks h.mask bank slot).find? (fun x => s.dev.bankReason x.2.1 != 0) = none → (s.dev.each ((s.dev.admBanks h.mask bank
    slot).map (·.1)) (fun d n => d.bankChecked n 0)).released = true → exec (.axAdmit h bank slot) s = .next { s with dev := (
      let new := phased s.dev.mdls ((s.dev.admBanks h.mask bank slot).map s.dev.mdlFrom)
      let d := s.dev.each ((s.dev.admBanks h.mask bank slot).map (·.1)) (fun d n => d.bankChecked n 0)
      (d.modCup (fun c => { c with search := some { cmd := h, bank, models := new, start := d.time.cnt } })).doneAt h Code.accepted).settle }) ∧
(∀ (h : Hdr) (bank slot : Nat) (s : State), s.dev.targetCheck 0x0201 h = none → s.dev.cup.search = none → s.dev.admitState h slot = none →
    (s.dev.admBanks h.mask bank slot).find? (fun x => s.dev.bankReason x.2.1 != 0) = none → (s.dev.each ((s.dev.admBanks h.mask bank
    slot).map (·.1)) (fun d n => d.bankChecked n 0)).released = false → (peakOf ((s.dev.each ((s.dev.admBanks h.mask bank slot).map (·.1))
    (fun d n => d.bankChecked n 0)).place ((s.dev.each ((s.dev.admBanks h.mask bank slot).map (·.1)) (fun d n => d.bankChecked n 0)).mdls
    ++ phased s.dev.mdls ((s.dev.admBanks h.mask bank slot).map s.dev.mdlFrom)))).1 ≤ (s.dev.each ((s.dev.admBanks h.mask bank slot).map
    (·.1)) (fun d n => d.bankChecked n 0)).admLimit → exec (.axAdmit h bank slot) s = .next { s with dev := (
      let new := phased s.dev.mdls ((s.dev.admBanks h.mask bank slot).map s.dev.mdlFrom)
      let d := s.dev.each ((s.dev.admBanks h.mask bank slot).map (·.1)) (fun d n => d.bankChecked n 0)
      let all := d.place (d.mdls ++ new)
      let d := all.foldl Dev.setMdl d
      let d := new.foldl (fun d m =>
        let d := d.each m.axes (fun d n => d.modAx n (fun c => { c with active := bank }))
        ((d.retLeave m.axes).setState m.lead .parked 1).each m.axes Dev.retWrite) d
      (d.publishLoads true).doneAt h Code.done (admitResult new all)).settle }) ∧
(∀ (h h2 : Hdr) (bank slot : Nat) (s : State), s.dev.targetCheck 0x0201 h = none → s.dev.targetCheck 0x0202 h2 = none →
    s.dev.cup.search.isSome = true → exec (.axAdmit h bank slot) s = .next { s with dev := (s.dev.modCup (fun c =>
    { c with waiting := c.waiting ++ [(h, some (bank, slot))] })).settle } ∧
    exec (.axRelease h2) s = .next { s with dev := (s.dev.modCup (fun c => { c with waiting := c.waiting ++ [(h2, none)] })).settle }) ∧
(∀ (h : Hdr) (s : State), s.dev.targetCheck 0x0202 h = none → s.dev.cup.search = none → s.dev.releaseCheck h = none → exec (.axRelease h)
    s = .next { s with dev := (
      let d := s.dev.each (s.dev.leads.filter (fun n => nbit n h.mask)) (fun d n => d.withdraw n 0)
      (d.publishLoads true).doneAt h Code.done [(16, 4, (peakOf d.mdls).1)]).settle }) ∧
(∀ (x : SearchSt) (s : State), s.dev.cup.search = some x → exec .admissionSearchDone s = .next { s with dev := (s.dev.modCup (fun c =>
    { c with search := some { x with ended := true } })).settle }) ∧
(∀ (c code : Nat) (undone : List Nat) (s : State), c < 2 → code < 256 → (if c = 0 then s.dev.cup.ok0 else s.dev.cup.ok1) = true →
    (s.dev.released || s.dev.cup.primary == c) = false → exec (.clusterFailure c code undone) s = .next { s with dev := (
      let d := s.dev.modCup (fun q => { q with
        ok0 := q.ok0 && c != 0, ok1 := q.ok1 && c == 0, failCode := code, failovers := sat 15 (q.failovers + 1) })
      (d.wr64 A.CUPOLA_FAIL_TICK_LO d.sys.tick).raise Ev.cupClusterFailed c).settle }) ∧
(∀ (c code : Nat) (undone : List Nat) (s : State), c < 2 → code < 256 → (if c = 0 then s.dev.cup.ok0 else s.dev.cup.ok1) = true → (if c =
    0 then s.dev.cup.ok1 else s.dev.cup.ok0) = true → (s.dev.released || s.dev.cup.primary == c) = true → exec (.clusterFailure c code
    undone) s = .next { s with dev := (
      let d := s.dev.modCup (fun q => { q with
        ok0 := q.ok0 && c != 0, ok1 := q.ok1 && c == 0, failCode := code, failovers := sat 15 (q.failovers + 1) })
      let d := (d.wr64 A.CUPOLA_FAIL_TICK_LO d.sys.tick).raise Ev.cupClusterFailed c
      let d := d.each (d.leads.filter (fun n => undone.contains n && (d.ax n).cluster == c)) Dev.undo
      let d := if d.released then
          d.modCup (fun q => { q with shedNext := (d.rd (A.CUPOLA_SHED_PLAN c)).toNat, failoverDue := true })
        else d.modCup (fun q => { q with primary := 1 - c, failoverDue := true })
      (d.each d.axisList (fun d n => if (d.ax n).admitted then d.modAx n (fun x => { x with cluster := 1 - c }) else d)).publishLoads false).settle }) ∧
(∀ (c code : Nat) (undone : List Nat) (s : State), c < 2 → code < 256 → (if c = 0 then s.dev.cup.ok0 else s.dev.cup.ok1) = true → (if c =
    0 then s.dev.cup.ok1 else s.dev.cup.ok0) = false → (s.dev.released || s.dev.cup.primary == c) = true → exec (.clusterFailure c code
    undone) s = .next { s with dev := (
      let d := s.dev.modCup (fun q => { q with
        ok0 := q.ok0 && c != 0, ok1 := q.ok1 && c == 0, failCode := code, failovers := sat 15 (q.failovers + 1) })
      let d := (d.wr64 A.CUPOLA_FAIL_TICK_LO d.sys.tick).raise Ev.cupClusterFailed c
      let d := d.each (d.leads.filter (fun n => undone.contains n && (d.ax n).cluster == c)) Dev.undo
      (d.modCup (fun q => { q with failoverDue := false })).each d.leads (fun d n => d.faultAxis n 8)).settle }) ∧
(∀ (h : Hdr) (init n : Nat) (s : State), s.dev.targetCheck 0x0207 h = none → (s.dev.each (maskList 32 h.mask) (fun d n => d.modAx n (fun c
    => { c with swapPending := false }))).splits h.mask = false → (maskList 32 h.mask).filter (fun n => (s.dev.each (maskList 32 h.mask)
    (fun d n => d.modAx n (fun c => { c with swapPending := false }))).lead n == n) = [n] → ((s.dev.each (maskList 32 h.mask) (fun d n =>
    d.modAx n (fun c => { c with swapPending := false }))).swapJudge n (init == 1)).1 = Code.done → exec (.axBankSwap h init) s = .next {
    s with dev := (
      let d := s.dev.each (maskList 32 h.mask) (fun d n => d.modAx n (fun c => { c with swapPending := false }))
      let d := d.swapOne n (init == 1) (d.swapJudge n (init == 1)).2.2
      d.doneAt h Code.done (d.swapResult (lowest h.mask) 0)).settle }) ∧
(∀ (h : Hdr) (init n : Nat) (s : State), s.dev.targetCheck 0x0207 h = none → (s.dev.each (maskList 32 h.mask) (fun d n => d.modAx n (fun c
    => { c with swapPending := false }))).splits h.mask = false → (maskList 32 h.mask).filter (fun n => (s.dev.each (maskList 32 h.mask)
    (fun d n => d.modAx n (fun c => { c with swapPending := false }))).lead n == n) = [n] → ((s.dev.each (maskList 32 h.mask) (fun d n =>
    d.modAx n (fun c => { c with swapPending := false }))).swapJudge n (init == 1)).1 ≠ Code.done → exec (.axBankSwap h init) s = .next {
    s with dev := (
      let d := s.dev.each (maskList 32 h.mask) (fun d n => d.modAx n (fun c => { c with swapPending := false }))
      let j := d.swapJudge n (init == 1)
      let d := d.bankChecked n j.2.1
      let d := d.each (d.members n) (fun d m => d.raiseAx m 4)
      d.doneAt h j.1 (d.swapResult n j.2.1)).settle }) ∧
(∀ (h : Hdr) (init : Nat) (s : State), s.dev.targetCheck 0x0207 h = none → (s.dev.each (maskList 32 h.mask) (fun d n => d.modAx n (fun c
    => { c with swapPending := false }))).splits h.mask = true → exec (.axBankSwap h init) s = .next { s with dev := (
      let d := s.dev.each (maskList 32 h.mask) (fun d n => d.modAx n (fun c => { c with swapPending := false }))
      d.doneAt h Code.groupSplit).settle })

/-- With its conditions true and at least one model in the mask: AX_ENABLE, whose axes in PARKED also pass the start conditions, starts,
for each model of the mask, the start-up from PARKED, or from OPEN the flux step, and completes when the last of them ends; AX_OPEN
ends what runs, counts outputs anew and puts the axes in OPEN, with the state in its result; AX_DISABLE parks each model, by its
brakes where byte [16] is 0; AX_FAULT_CLEAR clears the faults of each model, puts it in PARKED and reports the causes the lowest axis
had; AX_QUERY reports the state, the fault causes, the bank status and the admission of the lowest axis. With no axis in the mask they
complete DONE with a result of zeros. -/
def Obligations.AxisStateCommands : Prop :=
(∀ (h : Hdr) (target : Nat) (s : State), s.dev.targetCheck 0x0203 h = none → s.dev.enableCheck h target = none → s.dev.failing ((maskList
    32 h.mask).filter (fun n => (s.dev.ax n).state == .parked)) (fun n => !s.dev.startOk n) Code.wrongMode = none → ((maskList 32
    h.mask).filter (fun n => s.dev.lead n == n)).isEmpty = false → exec (.axEnable h target) s = .next { s with dev := ((s.dev.joinStart h
    ((maskList 32 h.mask).filter (fun n => s.dev.lead n == n)).length).each ((maskList 32 h.mask).filter (fun n => s.dev.lead n == n))
    (fun d n => let from_ := (d.ax n).state == .parked; let d := d.modAx n (fun c =>
    { c with enable := some { toHold := target == 3, cmd := some h, fromParked := from_ } }); if from_ then d.startModel n 0 false else
    d.fluxPhase n)).settle }) ∧
(∀ (h : Hdr) (s : State), s.dev.targetCheck 0x0204 h = none → s.dev.openCheck h = none → ((maskList 32 h.mask).filter (fun n => s.dev.lead
    n == n)).isEmpty = false → exec (.axOpen h) s = .next { s with dev := (
      let d := s.dev.each ((maskList 32 h.mask).filter (fun n => s.dev.lead n == n)) (fun d n =>
        let d := d.endSeq n .other .opened
        let d := d.each (d.members n) (fun d m => d.modSns m (fun s => { s with counts := [], countAt := d.time.cnt, stepsDone := true, caught := false }))
        d.setState n .opened 0)
      d.doneAt h Code.done [(16, 1, 2)]).settle }) ∧
(∀ (h : Hdr) (mode : Nat) (s : State), s.dev.targetCheck 0x0205 h = none → s.dev.disableCheck h = none → ((maskList 32 h.mask).filter (fun
    n => s.dev.lead n == n)).isEmpty = false → exec (.axDisable h mode) s = .next { s with dev := ((s.dev.joinStart h ((maskList 32
    h.mask).filter (fun n => s.dev.lead n == n)).length).each ((maskList 32 h.mask).filter (fun n => s.dev.lead n == n)) (fun d n =>
    d.parkModel n (mode == 0) (some h) 0)).settle }) ∧
(∀ (h : Hdr) (s : State), s.dev.targetCheck 0x0206 h = none → s.dev.clearCheck h = none → ((maskList 32 h.mask).filter (fun n =>
    s.dev.lead n == n)).isEmpty = false → exec (.axFaultClear h) s = .next { s with dev := ((s.dev.each ((maskList 32 h.mask).filter (fun
    n => s.dev.lead n == n)) Dev.clearModel).doneAt h Code.done [(16, 4, (s.dev.ax (lowest h.mask)).faults)]).settle }) ∧
(∀ (h : Hdr) (s : State), s.dev.targetCheck 0x0208 h = none → h.mask ≠ 0 → exec (.axQuery h) s = .next { s with dev := (s.dev.doneNow h
    Code.done [(16, 4, (s.dev.axStateWord (lowest h.mask)).toNat), (20, 4, (s.dev.ax (lowest h.mask)).faults), (24, 4,
    (s.dev.bankStatusWord (lowest h.mask)).toNat), (28, 4, (s.dev.axAdmitWord (lowest h.mask)).toNat)]).settle }) ∧
(∀ (h : Hdr) (target mode : Nat) (s : State), h.mask = 0 → s.dev.targetCheck 0x0203 h = none → s.dev.targetCheck 0x0204 h = none →
    s.dev.targetCheck 0x0205 h = none → s.dev.targetCheck 0x0206 h = none → s.dev.targetCheck 0x0208 h = none → exec (.axEnable h target)
    s = .next { s with dev := (s.dev.doneAt h Code.done).settle } ∧ exec (.axOpen h) s = .next { s with dev := (s.dev.doneAt h
    Code.done).settle } ∧
    exec (.axDisable h mode) s = .next { s with dev := (s.dev.doneAt h Code.done).settle } ∧ exec (.axFaultClear h) s = .next { s with dev := (s.dev.doneAt h Code.done).settle } ∧
    exec (.axQuery h) s = .next { s with dev := (s.dev.doneNow h Code.done).settle })

/-- With their conditions true: AX_REVERSE turns each axis of the mask that would change, at the frame tick, and reports the direction and
the speed of the lowest axis; AX_SHORT_BRAKE, with the start conditions of its axes in PARKED too, starts the short of each model
(from PARKED after leaving it, from OPEN after ending what runs), or, while one runs, ends it with code 3 and reports its code, length
and peak current; AX_RECOVER starts the recovery of each model. SHORT_END with an end condition met ends the short with its code, and
with none met at its time. RECOVERY_FAILED ends a recovery whose short has run out of time, or one of whose later steps is past its
deadline. -/
def Obligations.DirectionShortAndRecovery : Prop :=
(∀ (h : Hdr) (how : Nat) (s : State), s.dev.targetCheck 0x0209 h = none → s.dev.reverseCheck h how = none → (maskList 32 h.mask).isEmpty =
    false → exec (.axReverse h how) s = .next { s with dev := (
      let d := s.dev.each ((maskList 32 h.mask).filter (fun n => s.dev.wouldTurn n how)) (fun d n => d.turn n d.sys.lastFrame)
      d.doneAt h Code.done (d.reverseResult (lowest h.mask))).settle }) ∧
(∀ (h : Hdr) (s : State), s.dev.targetCheck 0x020A h = none → s.dev.shortCheck h true = none → ((maskList 32 h.mask).filter (fun n =>
    (s.dev.ax n).state == .parked)).any (fun n => !s.dev.startOk n) = false → ((maskList 32 h.mask).filter (fun n => s.dev.lead n ==
    n)).isEmpty = false → exec (.axShortBrake h true) s = .next { s with dev := (
      (s.dev.joinStart h ((maskList 32 h.mask).filter (fun n => s.dev.lead n == n)).length).each ((maskList 32 h.mask).filter (fun n => s.dev.lead n == n)) (fun d n =>
        let d := if (d.ax n).state = .parked then d.leaveParked n 0 else d.endSeq n .other .opened
        let d := d.modWav n (fun w => { w with short := some { start := d.time.cnt, cmd := some h } })
        d.each (d.members n) (fun d m => d.seqTo m 6))).settle }) ∧
(∀ (h : Hdr) (x : ShortSt) (s : State), s.dev.targetCheck 0x020A h = none → s.dev.shortCheck h false = none → (s.dev.wav (s.dev.lead
    (lowest h.mask))).short = some x → exec (.axShortBrake h false) s = .next { s with dev := (
      let d := s.dev.each ((maskList 32 h.mask).filter (fun n => s.dev.lead n == n)) (fun d n => d.shortFinish n 3)
      d.doneAt h Code.done [(16, 1, 3), (20, 4, d.msSince x.start), (24, 4, (f32Of x.peak).toNat)]).settle }) ∧
(∀ (n : Nat) (x : ShortSt) (s : State), (s.dev.wav (s.dev.lead n)).short = some x → s.dev.shortCode (s.dev.lead n) ≠ 0 → exec (.shortEnd
    n) s = .next { s with dev := (s.dev.shortFinish (s.dev.lead n) (s.dev.shortCode (s.dev.lead n))).settle }) ∧
(∀ (n : Nat) (x : ShortSt) (s : State), (s.dev.wav (s.dev.lead n)).short = some x → s.dev.shortCode (s.dev.lead n) = 0 → (s.dev.advanceTo
    (x.start + msCnt (s.dev.fld (A.AX_SHORT_CFG (s.dev.lead n)) 11 0))).shortCode (s.dev.lead n) = 2 → exec (.shortEnd n) s = .next {
    s with dev := ((s.dev.advanceTo (x.start + msCnt (s.dev.fld (A.AX_SHORT_CFG (s.dev.lead n)) 11 0))).shortFinish (s.dev.lead n)
    2).settle }) ∧
(∀ (h : Hdr) (allow : Bool) (s : State), s.dev.targetCheck 0x020B h = none → s.dev.recoverCheck h = none → ((maskList 32 h.mask).filter
    (fun n => s.dev.lead n == n)).isEmpty = false → exec (.axRecover h allow) s = .next { s with dev := ((s.dev.joinStart h ((maskList 32
    h.mask).filter (fun n => s.dev.lead n == n)).length).each ((maskList 32 h.mask).filter (fun n => s.dev.lead n == n)) (fun d n =>
    d.recoverModel n h allow)).settle }) ∧
(∀ (n : Nat) (s : State), (s.dev.wav (s.dev.lead n)).recover.isSome = true → s.dev.shortCode (s.dev.lead n) = 2 → exec (.recoveryFailed n)
    s = .next { s with dev := (s.dev.shortFinish (s.dev.lead n) 2).settle }) ∧
(∀ (n t : Nat) (s : State), (s.dev.wav (s.dev.lead n)).recover.isSome = true → (s.dev.shortCode (s.dev.lead n) == 2) = false → ((s.dev.ax
    (s.dev.lead n)).enable).bind (·.deadline) = some t → s.dev.past t = true → exec (.recoveryFailed n) s = .next { s with dev :=
    (s.dev.enableExpired (s.dev.lead n)).settle })

/-- CATCH_END with catches of the group that have met a condition ends each with its result (the first of a group's catches loading its
state from the bank's start state) and, when none is left, goes on to what follows the catches; CATCH_TIMEOUT does so at the end of
catch_max_ms. INIT_ANGLE_STEP_END with no tick of the step left goes on to the next step, or after step 1 without a polarity search
ends the steps. FLUX_STEP_END at the end of reflux_ms starts the brake step; BRAKE_LIFT_END at the end of brake_lift_ms starts the
counting step. PARK_TIMER_END at the end of the park completes its commands with the axes in PARKED. AX_ENABLE_TIMEOUT, at its time
with the outputs not yet counted, ends the start-up with ENABLE_TIMEOUT, the axes left in OPEN. -/
def Obligations.StartUpSequenceEvents : Prop :=
(∀ (n : Nat) (s : State), ((s.dev.members (s.dev.lead n)).filter (fun m => s.dev.catchCode m != 0)).isEmpty = false → exec (.catchEnd n) s
    = .next { s with dev := (
      let l := s.dev.lead n
      let first := (s.dev.members l).all (fun m => (s.dev.sns m).catching.isSome || (s.dev.sns m).catchResult == 0)
      let d := if first then s.dev.modAx l (fun c => { c with x := s.dev.bankX0 (s.dev.activeBank l) }) else s.dev
      let d := d.each ((s.dev.members l).filter (fun m => s.dev.catchCode m != 0)) (fun d m => d.catchFinish m (d.catchCode m))
      if (d.members l).any (fun m => (d.sns m).catching.isSome) then d else d.catchesOver l).settle }) ∧
(∀ (n : Nat) (c : CatchSt) (s : State), (s.dev.sns n).catching = some c → ((s.dev.members (s.dev.lead n)).filter (fun m =>
    (s.dev.advanceTo (c.start + msCnt (s.dev.fld (A.AX_CATCH_CFG n) 11 0))).catchCode m != 0)).isEmpty = false → exec (.catchTimeout n) s
    = .next { s with dev := (
      let l := s.dev.lead n
      let d := s.dev.advanceTo (c.start + msCnt (s.dev.fld (A.AX_CATCH_CFG n) 11 0))
      let first := (d.members l).all (fun m => (d.sns m).catching.isSome || (d.sns m).catchResult == 0)
      let ending := (d.members l).filter (fun m => d.catchCode m != 0)
      let d := if first then d.modAx l (fun c => { c with x := d.bankX0 (d.activeBank l) }) else d
      let d := d.each ending (fun d m => d.catchFinish m (d.catchCode m))
      if (d.members l).any (fun m => (d.sns m).catching.isSome) then d else d.catchesOver l).settle }) ∧
(∀ (n : Nat) (i : InitSt) (s : State), (s.dev.sns n).init = some i → i.left = 0 → i.step = 1 → s.dev.rb (A.AX_POS_CFG n) 4 = false → exec
    (.initAngleStepEnd n) s = .next { s with dev := (s.dev.initDone n).settle }) ∧
(∀ (n : Nat) (i : InitSt) (s : State), (s.dev.sns n).init = some i → i.left = 0 → i.step < 5 → (i.step == 1 && !s.dev.rb (A.AX_POS_CFG n)
    4) = false → exec (.initAngleStepEnd n) s = .next { s with dev := (s.dev.modSns n (fun q =>
    { q with init := some { i with step := i.step + 1, left := s.dev.fld (A.AX_INJ_CFG n) 23 16 } })).settle }) ∧
(∀ (n : Nat) (s : State), (s.dev.wav (s.dev.lead n)).seqStep = 3 → (s.dev.advanceTo (s.dev.refluxEnd (s.dev.lead n))).past
    (s.dev.refluxEnd (s.dev.lead n)) = true → exec (.fluxStepEnd n) s = .next { s with dev := ((s.dev.advanceTo (s.dev.refluxEnd
    (s.dev.lead n))).brakePhase (s.dev.lead n)).settle }) ∧
(∀ (n : Nat) (s : State), (s.dev.wav (s.dev.lead n)).seqStep = 4 → (s.dev.advanceTo (s.dev.brakeEnd (s.dev.lead n))).past (s.dev.brakeEnd
    (s.dev.lead n)) = true → exec (.brakeLiftEnd n) s = .next { s with dev := ((s.dev.advanceTo (s.dev.brakeEnd (s.dev.lead
    n))).countPhase (s.dev.lead n)).settle }) ∧
(∀ (n : Nat) (p : ParkSt) (s : State), (s.dev.wav (s.dev.lead n)).park = some p → (s.dev.advanceTo (p.start + s.dev.parkLen (s.dev.lead n)
    p.brake)).past (p.start + s.dev.parkLen (s.dev.lead n) p.brake) = true → exec (.parkTimerEnd n) s = .next { s with dev :=
    ((s.dev.advanceTo (p.start + s.dev.parkLen (s.dev.lead n) p.brake)).parkDone (s.dev.lead n) p.cause p.cmds).settle }) ∧
(∀ (n t : Nat) (e : EnableSt) (s : State), (s.dev.ax (s.dev.lead n)).enable = some e → e.deadline = some t → (s.dev.advanceTo t).past t =
    true → ((s.dev.advanceTo t).countTick (s.dev.lead n)).ax (s.dev.lead n) = s.dev.ax (s.dev.lead n) → (s.dev.wav (s.dev.lead n)).recover
    = none → exec (.axEnableTimeout n) s = .next { s with dev := (
      let d := (s.dev.advanceTo t).modAx (s.dev.lead n) (fun c => { c with enable := none })
      (d.each (d.members (s.dev.lead n)) (fun d m => d.seqTo m 0)).partWait e.cmd Code.enableTimeout [(16, 1, 2)]).settle })

/-- FRAME_TICK of a device whose logic die runs moves to the next frame tick and then, in this order, closes the loop tick before it where
that has ended, applies the tick settings that are due, receives the masters' records and the speeds, takes over what is due, counts
the records and members that are lost, finds the axes to stop (orphaned ones and those of a dip), cuts the clients whose cut it is,
starts the ramps of a dip, latches the limits of the safety functions and the feedback configuration, evaluates the pendant and the
orders due, and the motion and the rest of what a frame tick owns; the safety reactions counted since the last frame tick are counted
anew. With the logic die off the frame tick and the tick count only move on. LOOP_TICK of a device whose logic die runs moves to the
next loop tick, ends the tick before it and loads what it committed, samples, computes, feeds the capture engine and the retained
positions, and ends the wake measurement and deepens a rest where they are complete; with the logic die off it does nothing. -/
def Obligations.TicksInOrder : Prop :=
(∀ (s : State), s.dev.running = true → exec .frameTick s = .next { s with dev := (
      let t := s.dev.nextFrame
      let d := (s.dev.advanceTo (s.dev.time.edge t)).modSys (fun q => { q with lastFrame := t })
      let d := if d.sys.tick * d.loopPeriod < t then d.closeTick else d
      let d := (d.tickChanges t).recordFrame.frameSpeeds
      let d := (d.takeovers t).lossFrame
      let stops := d.orphanStops t ++ d.dipStops
      let d := ((d.clientCuts t).dipRamps t).latchLims.fbLatch t
      let pendant := d.axisList.filter d.pendantHeld
      let d := d.pendantFrame.frameOrders t pendant stops
      let d := (d.motionFrame t).frameRest t
      d.modSaf (fun q => { q with acted := 0 })).settle }) ∧
(∀ (s : State), s.dev.running = false → exec .frameTick s = .next { s with dev := (
      let t := s.dev.nextFrame
      (s.dev.advanceTo (s.dev.time.edge t)).modSys (fun q => { q with lastFrame := t, tick := t / s.dev.loopPeriod })).settle }) ∧
(∀ (i : TickIn) (s : State), s.dev.running = true → exec (.loopTick i) s = .next { s with dev := (
      let d := ((s.dev.tickStart.tickSample i).tickCompute i).ocuTick
      (d.each d.axisList Dev.retMoved).wakeMeasure.restDeepen).settle }) ∧
(∀ (i : TickIn) (s : State), s.dev.running = false → exec (.loopTick i) s = .next { s with dev := (s.dev).settle })

/-- PWM_PERIOD_START of an axis with a carrier whose PWM is on, with a further period in its tick or after a time step, ends the period
before at that period's time and starts the next. TRIP_ASSERT and TRIP_RELEASE of an axis input or a group trip that the device has,
at the level that makes it active or inactive and held as long as the filter asks, make the filtered level that one after the clocks
given, with all that a trip then does. TRIP_LATCH_OFF with a latch due turns the PWM off, latches the trip and puts the axis in FAULT
with cause bit 4, and sets the group's flag where its trip latches. TRIP_WINDOW_CLOSE with no period of the window left closes it.
SENSE_TRANSITION of the fall or the rise of a leg with adaptive dead times and no STO, of the right polarity, within the edge's window
and the edge not yet seen, takes the dead time of the edge, clamped to its limits, and clears the misses and the fallback; a rise that
the fall finds unseen counts as missed. DT_FALLBACK of a leg not in fallback, whose misses with those of its open windows make 64,
counts them and takes the leg back to the fixed dead times. IM_LOW_EXPIRY after im_low_ms flags the axis and puts it in FAULT with
cause bit 6. -/
def Obligations.PwmAndTrips : Prop :=
(∀ (n : Nat) (s : State), (s.dev.pw n).on = true → s.dev.pulseTrain n = false → ((s.dev.pw n).period + 1 < s.dev.pwmK n ∨
    s.dev.sys.cutTick = true) → exec (.pwmPeriodStart n) s = .next { s with dev := (
      let c := s.dev.nextPeriodAt n
      let d := (s.dev.advanceTo c).periodEnd n (s.dev.pwmT n)
      (d.modPw n (fun p => { p with period := p.period + 1 })).periodStart n c).settle }) ∧
(∀ (n after clocks : Nat) (level : Bool) (s : State), n < s.dev.axes → filterPasses (s.dev.pw n).tripCfg clocks = true → (level != bit 11
    (s.dev.pw n).tripCfg) = true → exec (.tripAssert false ⟨n, after, clocks, level⟩) s = .next { s with dev := ((s.dev.advanceTo
    (s.dev.time.cnt + after)).tripInput false n level).settle }) ∧
(∀ (g after clocks : Nat) (level : Bool) (s : State), (s.dev.sys.is4016 && decide (2 ≤ g)) = false → filterPasses (s.dev.pw (8 * g)).gCfg
    clocks = true → (level != bit 11 (s.dev.pw (8 * g)).gCfg) = true → exec (.tripAssert true ⟨g, after, clocks, level⟩) s = .next {
    s with dev := ((s.dev.advanceTo (s.dev.time.cnt + after)).tripInput true g level).settle }) ∧
(∀ (n after clocks : Nat) (level : Bool) (s : State), n < s.dev.axes → filterPasses (s.dev.pw n).tripCfg clocks = true → (level != bit 11
    (s.dev.pw n).tripCfg) = false → exec (.tripRelease false ⟨n, after, clocks, level⟩) s = .next { s with dev := ((s.dev.advanceTo
    (s.dev.time.cnt + after)).tripInput false n level).settle }) ∧
(∀ (g after clocks : Nat) (level : Bool) (s : State), (s.dev.sys.is4016 && decide (2 ≤ g)) = false → filterPasses (s.dev.pw (8 * g)).gCfg
    clocks = true → (level != bit 11 (s.dev.pw (8 * g)).gCfg) = false → exec (.tripRelease true ⟨g, after, clocks, level⟩) s = .next {
    s with dev := ((s.dev.advanceTo (s.dev.time.cnt + after)).tripInput true g level).settle }) ∧
(∀ (n : Nat) (s : State), (s.dev.pw n).on = true → (s.dev.pw n).sto = false → (s.dev.pw n).latchDue = true → ((s.dev.pw n).groupDue ||
    s.dev.groupLatch n) = false → exec (.tripLatchOff n) s = .next { s with dev := (
      let d := s.dev.setPw n { (s.dev.pw n).off with latched := true }
      (d.raiseAx n 8).faultAxis n 16).settle }) ∧
(∀ (n : Nat) (s : State), (s.dev.pw n).on = true → (s.dev.pw n).sto = false → ((s.dev.pw n).groupDue || s.dev.groupLatch n) = true → exec
    (.tripLatchOff n) s = .next { s with dev := (
      let d := (s.dev.wb (A.PWM_GTRIP_STATUS (n / 8)) 1 true).setPw n { (s.dev.pw n).off with latched := true }
      (d.raiseAx n 8).faultAxis n 16).settle }) ∧
(∀ (n : Nat) (s : State), (s.dev.pw n).winLeft = 0 → exec (.tripWindowClose n) s = .next { s with dev := (s.dev.modPw n (fun p =>
    { p with winLeft := 0, winCount := 0 })).settle }) ∧
(∀ (n l tm : Nat) (rising : Bool) (s : State), (s.dev.pw n).on = true → s.dev.adaptive n = true → (s.dev.pw n).sto = false → (rising !=
    bit 29 (s.dev.pw n).dtCfg) = true → ((s.dev.pw n).period * s.dev.pwmT n + tm) / 16 ≤ ((s.dev.pw n).period * s.dev.pwmT n + (s.dev.leg
    n l).riseNow) / 16 → (s.dev.leg n l).riseEdge = true → exec (.senseTransition n l ⟨false, rising⟩ tm) s = .next { s with dev :=
    (s.dev.setLeg n l
    { s.dev.leg n l with rise := clampN (field 15 0 (s.dev.pw n).dtLim) (field 31 16 (s.dev.pw n).dtLim) (tm + field 27 16 (s.dev.pw n).dtCfg), riseEdge := false, misses := 0, fallback := false }).settle
    }) ∧
(∀ (n l tm : Nat) (rising : Bool) (s : State), (s.dev.pw n).on = true → s.dev.adaptive n = true → (s.dev.pw n).sto = false → (rising !=
    bit 29 (s.dev.pw n).dtCfg) = false → ((s.dev.pw n).period * s.dev.pwmT n + s.dev.cmpNow n l + tm) / 16 ≤ ((s.dev.pw n).period *
    s.dev.pwmT n + s.dev.cmpNow n l + (s.dev.leg n l).fallNow) / 16 → (s.dev.leg n l).fallEdge = true → exec (.senseTransition n l ⟨true,
    rising⟩ tm) s = .next { s with dev := (
      let d := s.dev.missRise n l
      d.setLeg n l { d.leg n l with fall := clampN (field 15 0 (s.dev.pw n).dtLim) (field 31 16 (s.dev.pw n).dtLim) (tm + field 27 16 (s.dev.pw n).dtCfg), fallEdge := false, misses := 0, fallback := false }).settle }) ∧
(∀ (n l : Nat) (s : State), s.dev.adaptive n = true → (s.dev.leg n l).fallback = false → 64 ≤ (s.dev.leg n l).misses + b2n (s.dev.leg n
    l).riseEdge + b2n (s.dev.leg n l).fallEdge → exec (.dtFallback n l) s = .next { s with dev := (
      let d := (s.dev.missCheck n l).missRise n l
      if (d.leg n l).fallback then d else d.missFall n l).settle }) ∧
(∀ (n t : Nat) (s : State), (s.dev.sns n).imLowSince = some t → s.dev.past (t + msCnt (s.dev.fld (A.AX_IM_CFG n) 13 0)) = true → exec
    (.imLowExpiry n) s = .next { s with dev := (((s.dev.flagAx (A.AX_POS_STATUS n) 8 n 6).modSns n (fun q =>
    { q with imLowSince := none })).faultAxis n 64).settle })

/-- ENCODER_EDGE passes the balls' levels through the filter, a level held as long as the filter asks being accepted. In a mode that runs
feedback, for an axis of the part with a quadrature source: where one accepted level changed it counts up where the levels move on in
the cycle in which A leads B and down otherwise; where both changed it flags an illegal transition and counts the error; where none
changed it counts nothing. With a pulse and direction source a rising A counts by the level B had, and every other edge counts
nothing, as with every other source. In every case, and also where feedback does not run, the safety channels see the edge. INDEX_LOAD
of a Z that was low and passes the filter is an edge of its latch source and re-references the count to the reference value where
index_mode and the gating ask for it, and clears the mode where it is for one index. SERIAL_FRAME_START of a port whose frame for the
next tick is due and has not started latches the port's time, lead before the tick; SERIAL_FRAME of a frame in progress whose line
ends it by its tick decodes the line and judges the frame, and one that would end later changes nothing; a judged frame that starts,
is CRC-correct and shows no error goes into the count of the axis the port feeds. LATCH_CAPTURE of a Z edge is an event of its source,
with the index load where it rises; of a field channel it is an event corrected by the Drum delay; of an LTCH input that passes its
filter it is an event with the polarity of the input. -/
def Obligations.EncoderEdgesAndSerialFrames : Prop :=
(∀ (n ha hb t : Nat) (a b : Bool) (s : State), sdMode s.dev.sys.mode = true → n < s.dev.axes → (((s.dev.seenAt t).clockTo n t).modFb n
    (fun f => { f with a := filtered (s.dev.filtN n) (s.dev.fb n).a a ha, b := filtered (s.dev.filtN n) (s.dev.fb n).b b hb })).fbSrc n =
    0 → ¬ ((s.dev.fb n).a = filtered (s.dev.filtN n) (s.dev.fb n).a a ha ∧ (s.dev.fb n).b = filtered (s.dev.filtN n) (s.dev.fb n).b b hb)
    → ¬ ((s.dev.fb n).a ≠ filtered (s.dev.filtN n) (s.dev.fb n).a a ha ∧ (s.dev.fb n).b ≠ filtered (s.dev.filtN n) (s.dev.fb n).b b hb) →
    exec (.encoderEdge n ⟨a, ha⟩ ⟨b, hb⟩ t) s = .next { s with dev := (((((s.dev.seenAt t).clockTo n t).modFb n (fun f =>
    { f with a := filtered (s.dev.filtN n) (s.dev.fb n).a a ha, b := filtered (s.dev.filtN n) (s.dev.fb n).b b hb })).countEdge n
    ((quadPlace (s.dev.fb n).a (s.dev.fb n).b + 1) % 4 == quadPlace (filtered (s.dev.filtN n) (s.dev.fb n).a a ha) (filtered (s.dev.filtN
    n) (s.dev.fb n).b b hb)) (((s.dev.seenAt t).clockTo n t).edgeStamp n t)).safetyEdge n a b ha hb).settle }) ∧
(∀ (n ha hb t : Nat) (a b : Bool) (s : State), sdMode s.dev.sys.mode = true → n < s.dev.axes → (((s.dev.seenAt t).clockTo n t).modFb n
    (fun f => { f with a := filtered (s.dev.filtN n) (s.dev.fb n).a a ha, b := filtered (s.dev.filtN n) (s.dev.fb n).b b hb })).fbSrc n =
    0 → (s.dev.fb n).a ≠ filtered (s.dev.filtN n) (s.dev.fb n).a a ha → (s.dev.fb n).b ≠ filtered (s.dev.filtN n) (s.dev.fb n).b b hb →
    exec (.encoderEdge n ⟨a, ha⟩ ⟨b, hb⟩ t) s = .next { s with dev := (((((((s.dev.seenAt t).clockTo n t).modFb n (fun f =>
    { f with a := filtered (s.dev.filtN n) (s.dev.fb n).a a ha, b := filtered (s.dev.filtN n) (s.dev.fb n).b b hb })).fbFlag n 4).incSat
    (A.FB_ERR_COUNT n) 15 0).modFb n (fun f => { f with illNow := true })).safetyEdge n a b ha hb).settle }) ∧
(∀ (n ha hb t : Nat) (a b : Bool) (s : State), sdMode s.dev.sys.mode = true → n < s.dev.axes → (((s.dev.seenAt t).clockTo n t).modFb n
    (fun f => { f with a := filtered (s.dev.filtN n) (s.dev.fb n).a a ha, b := filtered (s.dev.filtN n) (s.dev.fb n).b b hb })).fbSrc n =
    0 → (s.dev.fb n).a = filtered (s.dev.filtN n) (s.dev.fb n).a a ha → (s.dev.fb n).b = filtered (s.dev.filtN n) (s.dev.fb n).b b hb →
    exec (.encoderEdge n ⟨a, ha⟩ ⟨b, hb⟩ t) s = .next { s with dev := (((((s.dev.seenAt t).clockTo n t).modFb n (fun f =>
    { f with a := filtered (s.dev.filtN n) (s.dev.fb n).a a ha, b := filtered (s.dev.filtN n) (s.dev.fb n).b b hb }))).safetyEdge n a b ha
    hb).settle }) ∧
(∀ (n ha hb t : Nat) (a b : Bool) (s : State), sdMode s.dev.sys.mode = true → n < s.dev.axes → (((s.dev.seenAt t).clockTo n t).modFb n
    (fun f => { f with a := filtered (s.dev.filtN n) (s.dev.fb n).a a ha, b := filtered (s.dev.filtN n) (s.dev.fb n).b b hb })).fbSrc n =
    1 → ((filtered (s.dev.filtN n) (s.dev.fb n).a a ha) && !(s.dev.fb n).a) = true → exec (.encoderEdge n ⟨a, ha⟩ ⟨b, hb⟩ t) s = .next {
    s with dev := (((((s.dev.seenAt t).clockTo n t).modFb n (fun f =>
    { f with a := filtered (s.dev.filtN n) (s.dev.fb n).a a ha, b := filtered (s.dev.filtN n) (s.dev.fb n).b b hb })).countEdge n
    (s.dev.fb n).b (((s.dev.seenAt t).clockTo n t).edgeStamp n t)).safetyEdge n a b ha hb).settle }) ∧
(∀ (n ha hb t : Nat) (a b : Bool) (s : State), sdMode s.dev.sys.mode = true → n < s.dev.axes → (((s.dev.seenAt t).clockTo n t).modFb n
    (fun f => { f with a := filtered (s.dev.filtN n) (s.dev.fb n).a a ha, b := filtered (s.dev.filtN n) (s.dev.fb n).b b hb })).fbSrc n =
    1 → ((filtered (s.dev.filtN n) (s.dev.fb n).a a ha) && !(s.dev.fb n).a) = false → exec (.encoderEdge n ⟨a, ha⟩ ⟨b, hb⟩ t) s = .next {
    s with dev := (((((s.dev.seenAt t).clockTo n t).modFb n (fun f =>
    { f with a := filtered (s.dev.filtN n) (s.dev.fb n).a a ha, b := filtered (s.dev.filtN n) (s.dev.fb n).b b hb }))).safetyEdge n a b ha
    hb).settle }) ∧
(∀ (n ha hb t : Nat) (a b : Bool) (s : State), sdMode s.dev.sys.mode = true → n < s.dev.axes → 2 ≤ (((s.dev.seenAt t).clockTo n t).modFb n
    (fun f => { f with a := filtered (s.dev.filtN n) (s.dev.fb n).a a ha, b := filtered (s.dev.filtN n) (s.dev.fb n).b b hb })).fbSrc n →
    exec (.encoderEdge n ⟨a, ha⟩ ⟨b, hb⟩ t) s = .next { s with dev := (((((s.dev.seenAt t).clockTo n t).modFb n (fun f =>
    { f with a := filtered (s.dev.filtN n) (s.dev.fb n).a a ha, b := filtered (s.dev.filtN n) (s.dev.fb n).b b hb }))).safetyEdge n a b ha
    hb).settle }) ∧
(∀ (n ha hb t : Nat) (a b : Bool) (s : State), (!sdMode s.dev.sys.mode || decide (s.dev.axes ≤ n)) = true → exec (.encoderEdge n ⟨a, ha⟩
    ⟨b, hb⟩ t) s = .next { s with dev := ((s.dev).safetyEdge n a b ha hb).settle }) ∧
(∀ (n held t : Nat) (s : State), sdMode s.dev.sys.mode = true → n < s.dev.axes → s.dev.filtN n ≤ held → (s.dev.fb n).z = false → exec
    (.indexLoad n ⟨held, t⟩) s = .next { s with dev := (
      let d := ((s.dev.seenAt t).clockTo n t).modFb n (fun f => { f with z := true })
      let d := d.source n true (s.dev.edgeStamp n t)
      let mode := field 15 14 (d.rd (A.FB_CFG n))
      if (mode = 1 ∨ mode = 2) ∧ field 1 0 (d.rd (A.FB_CFG n)) ≠ 3 ∧ (!bit 16 (d.rd (A.FB_CFG n)) || ((d.fb n).a && (d.fb n).b)) then
        let d := d.reref n (d.rd48 (A.FB_REF_VAL_LO n)) (s.dev.edgeStamp n t)
        if mode = 1 then d.setFld (A.FB_CFG n) 15 14 0 else d
      else d).settle }) ∧
(∀ (c : Nat) (busy : Bool) (s : State), s.dev.serDue c (s.dev.sys.tick + 1) = true → (s.dev.serPort c).latch = none → (s.dev.serPort
    c).served ≠ s.dev.sys.tick + 1 → exec (.serialFrameStart c busy) s = .next { s with dev := (
      let t := (s.dev.sys.tick + 1) * s.dev.loopPeriod - s.dev.serLead c
      let d := (s.dev.seenAt t).serClip c
      let d := if busy && field 1 0 (d.serCfg c) == 1 then d.serFlag c 12 else d
      d.modFbd (fun f => { f with ports := AList.put f.ports c { d.serPort c with latch := some t, busy } })).settle }) ∧
(∀ (c t : Nat) (line : List (Nat × Bool)) (s : State), (s.dev.serPort c).latch = some t → t + (if field 1 0 (s.dev.serCfg c) = 1 then
    bissFrame (s.dev.serCfg c) (s.dev.serTiming c) line else ssiFrame (s.dev.serCfg c) (s.dev.serTiming c) line).time ≤ (s.dev.sys.tick +
    1) * s.dev.loopPeriod → exec (.serialFrame c line) s = .next { s with dev := (
      let f := if field 1 0 (s.dev.serCfg c) = 1 then bissFrame (s.dev.serCfg c) (s.dev.serTiming c) line else ssiFrame (s.dev.serCfg c) (s.dev.serTiming c) line
      let d := (s.dev.seenAt (t + f.time)).serEnd c (s.dev.sys.tick + 1)
      let d := match d.serAxis c with | some n => d.clockTo n (t + f.time) | none => d
      d.serialJudge c t (s.dev.serPort c).busy f).settle }) ∧
(∀ (c t : Nat) (line : List (Nat × Bool)) (s : State), (s.dev.serPort c).latch = some t → (s.dev.sys.tick + 1) * s.dev.loopPeriod < t +
    (if field 1 0 (s.dev.serCfg c) = 1 then bissFrame (s.dev.serCfg c) (s.dev.serTiming c) line else ssiFrame (s.dev.serCfg c)
    (s.dev.serTiming c) line).time → exec (.serialFrame c line) s = .next { s with dev := (s.dev).settle }) ∧
(∀ (d : Dev) (c n t : Nat) (busy : Bool) (f : SerFrame), f.start = true → f.crcOk = true → f.nE = false → f.nW = false → (field 1 0
    (d.serCfg c) == 1 && busy) = false → (!(field 1 0 (d.serCfg c) == 1) && (List.range (field 18 16 (d.serCfg c))).any (fun i => bit (20
    + i) (d.serCfg c) && (nbit i f.status == bit (24 + i) (d.serCfg c)))) = false → ((if (field 1 0 (d.serCfg c) == 1) = true then
    d.setFld (A.FB_SER_STATUS c) 11 0 f.ld else d).wr64 (A.FB_SER_RAW_LO c) f.data).serAxis c = some n → d.serialJudge c t busy f =
      ((if (field 1 0 (d.serCfg c) == 1) = true then d.setFld (A.FB_SER_STATUS c) 11 0 f.ld else d).wr64 (A.FB_SER_RAW_LO c) f.data).serialGood n c
        (if bit 3 (d.serCfg c) then grayToBin (field 13 8 (d.serCfg c)) f.data else f.data) t) ∧
(∀ (n held t : Nat) (up : Bool) (s : State), sdMode s.dev.sys.mode = true → n < s.dev.axes → n < 32 → s.dev.filtN n ≤ held → ((s.dev.fb
    n).z == up) = false → exec (.latchCapture n up ⟨held, t⟩) s = .next { s with dev := (
      let d := ((s.dev.seenAt t).clockTo n t).modFb n (fun f => { f with z := up })
      let d := d.source n up (s.dev.edgeStamp n t)
      if up then d.zLoad n (s.dev.edgeStamp n t) else d).settle }) ∧
(∀ (src held t : Nat) (up : Bool) (s : State), sdMode s.dev.sys.mode = true → 32 ≤ src → src < 48 → exec (.latchCapture src up ⟨held, t⟩)
    s = .next { s with dev := (((s.dev.seenAt t).each s.dev.axisList (fun d m => d.clockTo m t)).source src up ((t - Config.drumDelay) /
    16 * 16)).settle }) ∧
(∀ (src held t : Nat) (up : Bool) (s : State), sdMode s.dev.sys.mode = true → 48 ≤ src → src < 56 → field 5 0 (s.dev.fbReg (A.FB_LTCH_CFG
    (src - 48))) ≤ held → exec (.latchCapture src up ⟨held, t⟩) s = .next { s with dev := (((s.dev.seenAt t).each s.dev.axisList (fun d m
    => d.clockTo m t)).source src (up != bit 6 (s.dev.fbReg (A.FB_LTCH_CFG (src - 48)))) ((t - (field 5 0 (s.dev.fbReg (A.FB_LTCH_CFG (src
    - 48))) + 1) * 5) / 5 * 5)).settle })

/-- FB_SET with its conditions true and an axis in the mask re-references each axis of the mask to the value, or moves it by the value, at
the frame tick and reports the reference shift and the count of the lowest axis. FB_CMP_ARM with parameters that are not reserved
programs the compare unit of each axis and arms it, or disarms it, and reports the hits the lowest axis had; FB_LATCH_ARM with its
conditions true arms the latch unit of each axis and reports the generation the lowest had; FB_SYNC_LATCH for a time ahead, with no
strobe set, arms the latch units on source 56 and sets the strobe, for a time past completes TIME_PAST, and with a strobe set
WRONG_MODE. SYNC_STROBE at its time fires the strobe and completes the command with the time. FB_QUERY of a mask with an axis reports
the count, the speed and the status of the lowest axis. -/
def Obligations.FeedbackCommands : Prop :=
(∀ (h : Hdr) (add : Bool) (v : Int) (s : State), s.dev.targetCheck 0x020C h = none → s.dev.fbSetCheck h = none → h.mask ≠ 0 → exec (.fbSet
    h add v) s = .next { s with dev := (
      let d := s.dev.each (maskList 32 h.mask) (fun d n => (d.clockTo n d.sys.lastFrame).reref n (if add then (d.fb n).count + v else v) d.sys.lastFrame)
      let n := lowest h.mask
      d.doneAt h Code.done [(16, 6, ofSigned 48 (d.rd48 (A.FB_REF_DELTA_LO n))), (24, 6, ofSigned 48 (d.fb n).count)]).settle }) ∧
(∀ (h : Hdr) (b : List Byte) (s : State), s.dev.targetCheck 0x020D h = none → cmpArmReserved b = false → (cmpArmOf b).disarm = false →
    exec (.fbCmpArm h b) s = .next { s with dev := (
      let p := cmpArmOf b
      let d := s.dev.each (maskList 32 h.mask) (fun d n =>
        let d := (d.modFb n (fun f => f.setWins p.unit [])).wr48 (A.FB_CMP_BASE_LO n p.unit) p.base
        let d := (d.wr (A.FB_CMP_STEP n p.unit) p.step).wr (A.FB_CMP_WIN n p.unit) (BitVec.ofNat 32 (p.pre + 65536 * p.post))
        d.wr (A.FB_CMP_CTRL n p.unit) (BitVec.ofNat 32 (1 + 2 * b2n p.check + 4 * p.src + 256 * b2n p.fall + 65536 * p.hits)))
      d.doneAt h Code.done [(16, 2, s.dev.fld (A.FB_CMP_STATUS (lowest h.mask) p.unit) 15 0)]).settle }) ∧
(∀ (h : Hdr) (b : List Byte) (s : State), s.dev.targetCheck 0x020D h = none → cmpArmReserved b = false → (cmpArmOf b).disarm = true → exec
    (.fbCmpArm h b) s = .next { s with dev := (
      let p := cmpArmOf b
      let d := s.dev.each (maskList 32 h.mask) (fun d n => (d.modFb n (fun f => f.setWins p.unit [])).wb (A.FB_CMP_CTRL n p.unit) 0 false)
      d.doneAt h Code.done [(16, 2, s.dev.fld (A.FB_CMP_STATUS (lowest h.mask) p.unit) 15 0)]).settle }) ∧
(∀ (h : Hdr) (unit src bits : Nat) (s : State), s.dev.targetCheck 0x020E h = none → s.dev.latchArmCheck unit src bits = none → exec
    (.fbLatchArm h unit src bits) s = .next { s with dev := ((s.dev.each (maskList 32 h.mask) (fun d n => d.armLatch n unit src (bits % 2)
    (bits / 2))).doneAt h Code.done [(16, 2, s.dev.fld (A.FB_LAT_GEN (lowest h.mask) unit) 31 16)]).settle }) ∧
(∀ (h : Hdr) (t units : Nat) (s : State), s.dev.targetCheck 0x020F h = none → s.dev.fbd.strobe = none → s.dev.now < t → exec (.fbSyncLatch
    h t units) s = .next { s with dev := (
      let d := s.dev.each (maskList 32 h.mask) (fun d n => d.each (maskList 4 units) (fun d u => d.armLatch n u 56 0 0))
      ((d.wr64 A.FB_SYNC_T_LO t).wr A.FB_SYNC_STATUS 1).modFbd (fun f => { f with strobe := some { t, cmd := h } })).settle }) ∧
(∀ (h : Hdr) (t units : Nat) (s : State), s.dev.targetCheck 0x020F h = none → s.dev.fbd.strobe = none → t ≤ s.dev.now → exec (.fbSyncLatch
    h t units) s = .next { s with dev := (s.dev.doneAt h Code.timePast).settle }) ∧
(∀ (h : Hdr) (t units : Nat) (s : State), s.dev.targetCheck 0x020F h = none → s.dev.fbd.strobe.isSome = true → exec (.fbSyncLatch h t
    units) s = .next { s with dev := (s.dev.doneAt h Code.wrongMode).settle }) ∧
(∀ (x : Strobe) (s : State), s.dev.fbd.strobe = some x → x.t ≤ (s.dev.seenAt x.t).now → exec .syncStrobe s = .next { s with dev := (
      let d := (s.dev.seenAt x.t).modFbd (fun f => { f with strobe := none })
      let now := (s.dev.seenAt x.t).now
      let d := (((d.wb A.FB_SYNC_STATUS 0 false).wb A.FB_SYNC_STATUS 1 true).wb A.FB_SYNC_STATUS 2 false).source 56 true now false
      d.complete x.cmd Code.done now (resultOf [(16, 8, now)])).settle }) ∧
(∀ (h : Hdr) (s : State), s.dev.targetCheck 0x0210 h = none → h.mask ≠ 0 → exec (.fbQuery h) s = .next { s with dev := (
      let n := lowest h.mask
      s.dev.doneNow h Code.done [(16, 6, ofSigned 48 (s.dev.fb n).count), (24, 4, (s.dev.rd (A.FB_SPEED n)).toNat), (28, 4, (s.dev.rd (A.FB_STATUS n)).toNat)]).settle })

/-- PROF_RUN, PROF_MOVE, PROF_VEL, GEAR_ENGAGE, GEAR_RATIO, GEAR_PHASE, GEAR_DISENGAGE, LS_JOIN, LS_SHARE, VM_MOTION and VM_STOP, with
their conditions true at the frame tick F, change nothing but the list of orders, to which the command goes with the time of the next
frame tick; they complete at the takeover. MOTION_TAKEOVER carries out the orders due at the last frame tick, oldest first, each
judged again, and leaves the later ones. -/
def Obligations.MotionOrdersTakeOverAtTheNextFrameTick : Prop :=
(∀ (h : Hdr) (b : List Byte) (s : State), s.dev.targetCheck 0x0302 h = none → s.dev.profRunCheck h b = none → exec (.profRun h b) s =
    .next { s with dev := (s.dev.modMot (fun q =>
    { q with takeovers := q.takeovers ++ [{ op := 0x0302, h, bytes := b, at_ := s.dev.sys.lastFrame + s.dev.framePeriod }] })).settle }) ∧
(∀ (h : Hdr) (b : List Byte) (s : State), s.dev.targetCheck 0x0303 h = none → s.dev.profMoveCheck h b false = none → exec (.profMove h b)
    s = .next { s with dev := (s.dev.modMot (fun q =>
    { q with takeovers := q.takeovers ++ [{ op := 0x0303, h, bytes := b, at_ := s.dev.sys.lastFrame + s.dev.framePeriod }] })).settle }) ∧
(∀ (h : Hdr) (b : List Byte) (s : State), s.dev.targetCheck 0x0304 h = none → s.dev.profVelCheck h b false = none → exec (.profVel h b) s
    = .next { s with dev := (s.dev.modMot (fun q =>
    { q with takeovers := q.takeovers ++ [{ op := 0x0304, h, bytes := b, at_ := s.dev.sys.lastFrame + s.dev.framePeriod }] })).settle }) ∧
(∀ (h : Hdr) (b : List Byte) (s : State), s.dev.targetCheck 0x0401 h = none → s.dev.engageCheck h b = none → exec (.gearEngage h b) s =
    .next { s with dev := (s.dev.modMot (fun q =>
    { q with takeovers := q.takeovers ++ [{ op := 0x0401, h, bytes := b, at_ := s.dev.sys.lastFrame + s.dev.framePeriod }] })).settle }) ∧
(∀ (h : Hdr) (b : List Byte) (s : State), s.dev.targetCheck 0x0402 h = none → s.dev.ratioCheck h b = none → exec (.gearRatio h b) s =
    .next { s with dev := (s.dev.modMot (fun q =>
    { q with takeovers := q.takeovers ++ [{ op := 0x0402, h, bytes := b, at_ := s.dev.sys.lastFrame + s.dev.framePeriod }] })).settle }) ∧
(∀ (h : Hdr) (b : List Byte) (s : State), s.dev.targetCheck 0x0403 h = none → s.dev.engagedCheck h = none → exec (.gearPhase h b) s =
    .next { s with dev := (s.dev.modMot (fun q =>
    { q with takeovers := q.takeovers ++ [{ op := 0x0403, h, bytes := b, at_ := s.dev.sys.lastFrame + s.dev.framePeriod }] })).settle }) ∧
(∀ (h : Hdr) (b : List Byte) (s : State), s.dev.targetCheck 0x0404 h = none → s.dev.disengageCheck h b = none → exec (.gearDisengage h b)
    s = .next { s with dev := (s.dev.modMot (fun q =>
    { q with takeovers := q.takeovers ++ [{ op := 0x0404, h, bytes := b, at_ := s.dev.sys.lastFrame + s.dev.framePeriod }] })).settle }) ∧
(∀ (h : Hdr) (b : List Byte) (s : State), s.dev.targetCheck 0x0405 h = none → s.dev.lsJoinCheck h b = none → exec (.lsJoin h b) s = .next
    { s with dev := (s.dev.modMot (fun q =>
    { q with takeovers := q.takeovers ++ [{ op := 0x0405, h, bytes := b, at_ := s.dev.sys.lastFrame + s.dev.framePeriod }] })).settle }) ∧
(∀ (h : Hdr) (b : List Byte) (s : State), s.dev.targetCheck 0x0406 h = none → s.dev.lsShareCheck h b = none → exec (.lsShare h b) s =
    .next { s with dev := (s.dev.modMot (fun q =>
    { q with takeovers := q.takeovers ++ [{ op := 0x0406, h, bytes := b, at_ := s.dev.sys.lastFrame + s.dev.framePeriod }] })).settle }) ∧
(∀ (h : Hdr) (b : List Byte) (s : State), s.dev.targetCheck 0x0408 h = none → s.dev.vmMotionCheck h b = none → exec (.vmMotion h b) s =
    .next { s with dev := (s.dev.modMot (fun q =>
    { q with takeovers := q.takeovers ++ [{ op := 0x0408, h, bytes := b, at_ := s.dev.sys.lastFrame + s.dev.framePeriod }] })).settle }) ∧
(∀ (h : Hdr) (b : List Byte) (s : State), s.dev.targetCheck 0x0409 h = none → s.dev.vmStopCheck h b = none → exec (.vmStop h b) s = .next
    { s with dev := (s.dev.modMot (fun q =>
    { q with takeovers := q.takeovers ++ [{ op := 0x0409, h, bytes := b, at_ := s.dev.sys.lastFrame + s.dev.framePeriod }] })).settle }) ∧
(∀ (s : State), exec .motionTakeover s = .next { s with dev := ((s.dev.mot.takeovers.filter (fun x => decide (x.at_ ≤
    s.dev.sys.lastFrame))).foldl (fun d x => d.takeover x s.dev.sys.lastFrame) (s.dev.modMot (fun q =>
    { q with takeovers := q.takeovers.filter (fun x => decide (s.dev.sys.lastFrame < x.at_)) }))).settle })

/-- PROF_LOAD of a valid range adds it to the validated ranges of each axis and reports the time of its last knot; one whose check fails
completes with that check's status and result and keeps the ranges as they are. PROF_STOP with its conditions true starts the stop
ramp of each axis at the frame tick and reports the rest time and position of the lowest. PROF_QUERY and GEAR_QUERY report the
generator and the gearing of the lowest axis. GEAR_BLEND_END settles the layers that have run their length and completes their
commands. MASTER_RECORD_ARRIVAL keeps the newest record of the publication, and for the slaves of it puts a record newer than the ones
they have aside for the next frame tick. MASTER_LOST with a master at its ninth miss flags the axis, keeps the count of misses and
ramps the axis down. SYNC_LOSS_SUSPEND, when time is lost, stops every axis that depends on a remote master and lets those of remote
groups leave. -/
def Obligations.ProfilesAndGearEnds : Prop :=
(∀ (h : Hdr) (b : List Byte) (s : State), s.dev.targetCheck 0x0301 h = none → s.dev.profLoadCheck h b = none → exec (.profLoad h b) s =
    .next { s with dev := (
      let range := (leAt b 16 2, leAt b 18 2, nbit 0 (byteAt b 20))
      let d := s.dev.each (maskList 32 h.mask) (fun d n => d.modMo n (fun m => { m with valid := range :: m.valid.filter (· != range) }))
      d.doneAt h Code.done [(20, 8, d.knotT (lowest h.mask) (leAt b 16 2 + leAt b 18 2 - 1))]).settle }) ∧
(∀ (h : Hdr) (b : List Byte) (status : Nat) (res : List (Nat × Nat × Nat)) (s : State), s.dev.targetCheck 0x0301 h = none →
    s.dev.profLoadCheck h b = some (status, res) → exec (.profLoad h b) s = .next { s with dev := (s.dev.doneAt h status res).settle }) ∧
(∀ (h : Hdr) (s : State), s.dev.targetCheck 0x0305 h = none → s.dev.profStopCheck h = none → h.mask ≠ 0 → exec (.profStop h) s = .next {
    s with dev := (
      let d := s.dev.each (maskList 32 h.mask) (fun d n => d.startRamp n d.sys.lastFrame 0)
      let r := d.restOf (lowest h.mask) d.sys.lastFrame
      d.doneAt h Code.done [(16, 8, r.1), (24, 8, ofSigned 64 r.2)]).settle }) ∧
(∀ (h h2 : Hdr) (s : State), s.dev.targetCheck 0x0306 h = none → s.dev.targetCheck 0x040A h2 = none → h.mask ≠ 0 → h2.mask ≠ 0 → exec
    (.profQuery h) s = .next { s with dev := (s.dev.doneNow h Code.done [(16, 8, ofSigned 64 (s.dev.mo (lowest h.mask)).p), (24, 4, (f32Of
    (s.dev.mo (lowest h.mask)).v).toNat), (28, 4, (s.dev.profStatusWord (lowest h.mask)).toNat)]).settle } ∧ exec (.gearQuery h2) s =
    .next { s with dev := (s.dev.doneNow h2 Code.done [(16, 4, (s.dev.gearStatusWord (lowest h2.mask)).toNat), (20, 4,
    (s.dev.gearMasterWord (lowest h2.mask)).toNat), (24, 4, (s.dev.lsMemberWord (lowest h2.mask)).toNat), (28, 4, (s.dev.mo (lowest
    h2.mask)).gear.age)]).settle }) ∧
(∀ (n : Nat) (s : State), ((s.dev.mo n).gear.layers.filter (fun y => !y.pure && y.ended (s.dev.mo n).at_)).isEmpty = false → exec
    (.gearBlendEnd n) s = .next { s with dev := (
      let t := (s.dev.mo n).at_
      let old := (s.dev.mo n).gear.layers
      let new := s.dev.settleLayers n t old
      let below := old.drop ((old.findIdx? (fun y => !y.pure && y.ended t)).getD 0)
      let cmds := below.filterMap (fun y => y.cmd.map (fun c => (c, y.t0 + 1000000 * y.te)))
      let d := s.dev.modMo n (fun m => { m with gear := { m.gear with layers := new } })
      let d := if new.all (fun y => y.pure) then (d.gearTo n 2).modMo n (fun m => { m with hold := m.p, src := .hold }) else d
      cmds.foldl (fun d c => d.complete c.1 Code.done t (resultOf [(16, 8, c.2), (24, 1, (d.mo n).gear.state)])) d).settle }) ∧
(∀ (node : Nat) (b : List Byte) (s : State), exec (.masterRecordArrival node b) s = .next { s with dev := (
      let index := byteAt b 25
      let fb := nbit 0 (byteAt b 24)
      let r := recOf b
      let d := if r.newer (s.dev.pubRec node index fb) then
          s.dev.modMot (fun q => { q with pubs := (node, index, fb, r) :: q.pubs.filter (fun x => !(x.1 == node && x.2.1 == index && x.2.2.1 == fb)) })
        else s.dev
      d.each d.axisList (fun d n => d.modMo n (fun m => { m with gear := { m.gear with layers := m.gear.layers.map (fun y =>
        if y.ms.m.remote == some node && y.ms.m.index == index && y.ms.m.fb == fb && r.newer y.ms.rec_ && r.newer y.ms.next then { y with ms := { y.ms with next := some r } } else y) } }))).settle }) ∧
(∀ (n : Nat) (s : State), (s.dev.mo n).gear.layers.any (fun y => y.ms.m.remote.isSome && decide (9 ≤ y.ms.misses)) = true → exec
    (.masterLost n) s = .next { s with dev := (
      let d := (s.dev.wb (A.GEAR_STATUS n) 12 true).modMo n (fun m => { m with gear := { m.gear with lostMisses := 9 } })
      d.startRamp n d.sys.lastFrame 2 Code.masterLost 4).settle }) ∧
(∀ (s : State), s.dev.time.state = 3 → s.dev.mot.syncHold = false → exec .syncLossSuspend s = .next { s with dev := (
      let axes := s.dev.remoteAxes
      let d := s.dev.modMot (fun q => { q with syncHold := true, syncAxes := maskOf axes })
      d.each axes (fun d n =>
        if (d.mo n).gear.layers.any (fun y => y.ms.m.remote.isSome) then
          (d.startRamp n d.sys.lastFrame 2 Code.superseded).modMo n (fun m => { m with gear := { m.gear with suspend := true } })
        else d.lsLeaving n d.sys.lastFrame false)).settle })

/-- LS_LEAVE of members that are not leaving starts the fade of each at the frame tick and reports the share of the lowest. LS_FADE_END at
the end of the fade puts the axis in HOLD at its present position and starts a park by de-flux. LS_MEMBER_LOST at the ninth miss: at
the home the entry goes inactive and its bit of lost is set; at the member the axis leaves by loss. LS_RECORD_ARRIVAL keeps a newer
record for the next frame tick, at the home for its entry and at the member of that home and group for its axis. -/
def Obligations.LoadShare : Prop :=
(∀ (h : Hdr) (s : State), s.dev.targetCheck 0x0407 h = none → s.dev.lsLeaveCheck h = none → exec (.lsLeave h) s = .next { s with dev :=
    ((s.dev.each (maskList 32 h.mask) (fun d n => d.lsLeaving n d.sys.lastFrame false)).doneAt h Code.done [(16, 4, (s.dev.shareNow
    (lowest h.mask)).toNat)]).settle }) ∧
(∀ (n st : Nat) (w : Rat) (l : LsMember) (s : State), (s.dev.mo n).ls = some l → l.fade = some (st, w) → (s.dev.past (s.dev.time.edge (st
    + 1000000 * s.dev.fld (A.LS_GRP_CFG l.group) 15 8))) = true → st + 1000000 * s.dev.fld (A.LS_GRP_CFG l.group) 15 8 ≤ s.dev.now → exec
    (.lsFadeEnd n) s = .next { s with dev := (
      let d := s.dev.modMo n (fun m => { m with ls := none, hold := m.p, src := .hold })
      (d.setState n .hold 2).startDeflux n []).settle }) ∧
(∀ (g i n : Nat) (r : LsRemote) (s : State), AList.find s.dev.mot.remotes (8 * g + i) = some r → r.active = true → 9 ≤ r.misses → exec
    (.lsMemberLost true g i n) s = .next { s with dev := (
      let d := s.dev.modMot (fun q => { q with remotes := AList.put q.remotes (8 * g + i) { r with active := false } })
      (d.wb (A.LS_GRP_STATUS g) i false).wb (A.LS_GRP_STATUS g) (8 + i) true).settle }) ∧
(∀ (g i n : Nat) (l : LsMember) (s : State), (s.dev.mo n).ls = some l → l.localHome = false → 9 ≤ l.misses → exec (.lsMemberLost false g i
    n) s = .next { s with dev := (s.dev.lsLeaving n s.dev.sys.lastFrame true).settle }) ∧
(∀ (node g i n : Nat) (b : List Byte) (s : State), (AList.get {} s.dev.mot.remotes (8 * g + i)).ts < leAt b 0 8 → exec (.lsRecordArrival
    true node g i n b) s = .next { s with dev := (s.dev.modMot (fun q =>
    { q with remotes := AList.put q.remotes (8 * g + i) { AList.get {} s.dev.mot.remotes (8 * g + i) with next := some (leAt b 0 8, f32At b 8, toSigned 16 (leAt b 12 2)) } })).settle
    }) ∧
(∀ (node g i n : Nat) (b : List Byte) (l : LsMember) (s : State), (s.dev.mo n).ls = some l → l.localHome = false → l.home = node → l.group
    = g → l.recTs < leAt b 0 8 → exec (.lsRecordArrival false node g i n b) s = .next { s with dev := (
      let d := s.dev.modMot (fun q => { q with lsSeen := if q.lsSeen.contains (node, g, n) then q.lsSeen else (node, g, n) :: q.lsSeen })
      d.modMo n (fun m => { m with ls := some { l with nextRec := some (leAt b 0 8, f32At b 8, f32At b 12) } })).settle })

/-- With their conditions true: CAP_CLAIM gives the engine to the sender, or a release stops it with cause 6 and frees it; CAP_ARM
publishes what waits, clears the ring and begins the first record, and completes with its first sample; CAP_FORCE sets the forced
trigger, superseding a CAP_FORCE that waits; CAP_STOP stops the engine with cause 2 and reports the length of the record it cut;
CAP_QUERY reports the state, the generation, the write pointer and the ignored triggers. OCU_SLOT_RESERVED while the engine waits
tries to reserve a slot; OCU_SEQ_TIMEOUT after tmo samples goes to tnext; OCU_RECORD_DONE publishes the oldest record that awaits it. -/
def Obligations.OculusCaptures : Prop :=
(∀ (h : Hdr) (named : Nat) (s : State), s.dev.targetCheck 0x0501 h = none → s.dev.capClaimCheck h 1 named = none → exec (.capClaim h 1
    named) s = .next { s with dev := (Dev.doneAt { s.dev with ocu := { s.dev.ocu with holder := some h.cc } } h Code.done [(16, 2,
    h.cc)]).settle }) ∧
(∀ (h : Hdr) (named : Nat) (s : State), s.dev.targetCheck 0x0501 h = none → s.dev.capClaimCheck h 0 named = none → exec (.capClaim h 0
    named) s = .next { s with dev := (Dev.doneAt { s.dev.ocuStop 6 with ocu := { (s.dev.ocuStop 6).ocu with holder := none } } h Code.done
    [(16, 2, 0)]).settle }) ∧
(∀ (h : Hdr) (clear : Bool) (s : State), s.dev.targetCheck 0x0502 h = none → s.dev.capArmCheck h = none → exec (.capArm h clear) s = .next
    { s with dev := (
      let d := Dev.ocuPublishAll s.dev.ocu.done.length s.dev
      let d := if clear then d.wr A.OCU_IGNORED 0 else d
      let d := (d.wb A.OCU_REC_GEN 0 false).wrAll [(A.OCU_RING_WP, 0), (A.OCU_RING_RP, 0)]
      let d := { d with ocu := { d.ocu with slot := 0, ended := 0, armCmd := some h, forceCmd := none, skip := none, deadFrom := none } }
      d.ocuBegin d.ocuCfgRate).settle }) ∧
(∀ (h : Hdr) (s : State), s.dev.targetCheck 0x0503 h = none → s.dev.capForceCheck h = none → exec (.capForce h) s = .next { s with dev :=
    (Dev.doneWait { s.dev with ocu := { s.dev.ocu with force := if s.dev.ocu.force = 0 then 1 else s.dev.ocu.force, forceCmd := some h } }
    s.dev.ocu.forceCmd Code.superseded).settle }) ∧
(∀ (h : Hdr) (s : State), s.dev.targetCheck 0x0504 h = none → s.dev.capStopCheck h = none → exec (.capStop h) s = .next { s with dev :=
    ((s.dev.ocuStop 2).doneAt h Code.done [(16, 4, if s.dev.ocu.state = 4 then 0 else s.dev.ocuLen)]).settle }) ∧
(∀ (h : Hdr) (s : State), s.dev.targetCheck 0x0505 h = none → h.mask = 0 → exec (.capQuery h) s = .next { s with dev := (s.dev.doneNow h
    Code.done [(16, 4, s.dev.ocuStatusWord.toNat), (20, 4, (s.dev.rd A.OCU_REC_GEN).toNat), (24, 4, (s.dev.rd A.OCU_RING_WP).toNat), (28,
    4, (s.dev.rd A.OCU_IGNORED).toNat)]).settle }) ∧
(∀ (s : State), s.dev.ocu.state = 4 → exec .ocuSlotReserved s = .next { s with dev := (s.dev.ocuReserve).settle }) ∧
(∀ (s : State), (s.dev.ocu.state = 1 ∨ s.dev.ocu.state = 2) → s.dev.ocu.force ≠ 2 → s.dev.rb A.OCU_CFG 6 = false → s.dev.fld
    (A.OCU_SEQ_TMO s.dev.ocu.seqState) 23 0 ≠ 0 → s.dev.fld (A.OCU_SEQ_TMO s.dev.ocu.seqState) 23 0 ≤ s.dev.ocu.age → exec .ocuSeqTimeout
    s = .next { s with dev :=
    ({ s.dev with ocu := { s.dev.ocu with seqState := s.dev.fld (A.OCU_SEQ_COND s.dev.ocu.seqState) 18 16, age := 0, count := 0 } }).settle
    }) ∧
(∀ (r : OcuDone) (rest : List OcuDone) (s : State), s.dev.ocu.done = r :: rest → exec .ocuRecordDone s = .next { s with dev := (
      let d := (s.dev.setMbs (0xC00000 + r.addr) r.header).setMbs (0xC00000 + r.trailerAt) r.trailer
      let d := (d.incWrap A.OCU_REC_GEN 31 16).wb A.OCU_REC_GEN 0 true
      let d := d.wrAll [(A.OCU_REC_ADDR, BitVec.ofNat 32 r.addr), (A.OCU_REC_SEQ, BitVec.ofNat 32 d.ocu.seq),
        (A.OCU_TRIG_OFS, BitVec.ofNat 32 (ofSigned 32 r.ofs)), (A.OCU_DEAD, BitVec.ofNat 32 r.dead)]
      let d := d.wr64 A.OCU_TRIG_T_LO r.trig
      let d := d.wrAll ((r.meas.zipIdx).flatMap (fun (l, ch) => (l.zipIdx).map (fun (v, w) => (A.OCU_MEAS ch w, v))))
      let d := if d.ocuMode = 2 then d.wr A.OCU_RING_WP (d.rd A.OCU_RING_WP + 1) else d
      Dev.raise { d with ocu := { d.ocu with done := rest, seq := (d.ocu.seq + 1) % 2 ^ 32 } } Ev.ocuRecordDone).settle })

/-- With their conditions true: LAN_START has the generator wait for the first due tick of its target, with the sender as its client;
LAN_STOP ends it at once where asked, where it has not begun or where it has no fade, and otherwise begins its fade from the present
envelope, or lets the one that runs go on, and reports the last sample number; LAN_QUERY reports state, sample number and output.
LAN_GENERATOR_START of a generator that waits, at its time, begins it with sample 0. LAN_DONE of a running generator past its last
sample, or of one whose fade has ended, ends it DONE. -/
def Obligations.LanternGenerators : Prop :=
(∀ (h : Hdr) (g : Nat) (s : State), s.dev.targetCheck 0x0506 h = none → s.dev.lanStartCheck h g = none → exec (.lanStart h g) s = .next {
    s with dev := (
      let d := (s.dev.setFld (A.LAN_STATUS g) 1 0 1).setFld (A.LAN_STATUS g) 16 8 h.cc
      d.setLan g { d.lan g with cmd := some h, at_ := d.sys.lastFrame, next := 0, fade := none }).settle }) ∧
(∀ (h : Hdr) (g : Nat) (s : State), s.dev.targetCheck 0x0507 h = none → s.dev.lanStopCheck h g = none → exec (.lanStop h g true) s = .next
    { s with dev := ((s.dev.lanEnd g Code.done).doneAt h Code.done [(16, 4, (s.dev.rd (A.LAN_N g)).toNat)]).settle }) ∧
(∀ (h : Hdr) (g : Nat) (s : State), s.dev.targetCheck 0x0507 h = none → s.dev.lanStopCheck h g = none → s.dev.lanState g = 2 → s.dev.fld
    (A.LAN_FADE g) 15 0 ≠ 0 → exec (.lanStop h g false) s = .next { s with dev := (
      let d := (s.dev.setFld (A.LAN_STATUS g) 1 0 3).setLan g { s.dev.lan g with fade := some ((s.dev.lan g).env, 0) }
      d.doneAt h Code.done [(16, 4, (s.dev.rd (A.LAN_N g)).toNat)]).settle }) ∧
(∀ (h : Hdr) (g : Nat) (s : State), s.dev.targetCheck 0x0508 h = none → g < 4 → exec (.lanQuery h g) s = .next { s with dev :=
    (s.dev.doneNow h Code.done [(16, 4, (s.dev.rd (A.LAN_STATUS g)).toNat), (20, 4, (s.dev.rd (A.LAN_N g)).toNat), (24, 4, (s.dev.rd
    (A.LAN_OUT g)).toNat)]).settle }) ∧
(∀ (g : Nat) (s : State), s.dev.lanState g = 1 → (s.dev.lan g).at_ ≤ s.dev.now → exec (.lanGeneratorStart g) s = .next { s with dev := (
      let l := s.dev.lan g
      let d := s.dev.setFld (A.LAN_STATUS g) 1 0 2
      let d := d.setLan g { l with startTime := d.tickTime, next := 0, prbs := (d.rd (A.LAN_SEED g)).toNat % 2 ^ s.dev.fld (A.LAN_PRBS g) 4 0, left := 0, fade := none, env := 1 }
      let d := d.wr (A.LAN_N g) 0
      d.ocuEvent (96 + g) true (8 * d.tickTime)).settle }) ∧
(∀ (h : Hdr) (g : Nat) (s : State), s.dev.targetCheck 0x0507 h = none → s.dev.lanStopCheck h g = none → (s.dev.lanState g = 1 ∨ s.dev.fld
    (A.LAN_FADE g) 15 0 = 0) → exec (.lanStop h g false) s = .next { s with dev := ((s.dev.lanEnd g Code.done).doneAt h Code.done [(16, 4,
    (s.dev.rd (A.LAN_N g)).toNat)]).settle }) ∧
(∀ (h : Hdr) (g : Nat) (s : State), s.dev.targetCheck 0x0507 h = none → s.dev.lanStopCheck h g = none → s.dev.lanState g = 3 → s.dev.fld
    (A.LAN_FADE g) 15 0 ≠ 0 → exec (.lanStop h g false) s = .next { s with dev := (s.dev.doneAt h Code.done [(16, 4, (s.dev.rd (A.LAN_N
    g)).toNat)]).settle }) ∧
(∀ (g : Nat) (k : Nat) (e : Rat) (s : State), s.dev.lanState g = 3 → (s.dev.lan g).fade = some (e, k) → s.dev.fld (A.LAN_FADE g) 15 0 ≤ k
    → exec (.lanDone g) s = .next { s with dev := (s.dev.lanEnd g Code.done).settle }) ∧
(∀ (g : Nat) (s : State), s.dev.lanState g = 2 → 0 < (s.dev.rd (A.LAN_LEN g)).toNat → (s.dev.rd (A.LAN_LEN g)).toNat ≤ (s.dev.lan g).next
    → exec (.lanDone g) s = .next { s with dev := (s.dev.lanEnd g Code.done).settle })

/-- SAFETY_CYCLE outside BYPASS, BACKUP and VIGIL takes the passed self-tests, judges the expiries, reacts to a readback fault and, while
Turret evaluates, takes the speed channels' values and evaluates the functions of each STO group; in those three modes time alone
moves. With their conditions true: CROSS_COMPARE_FAIL is a device reaction with cause 0x0F. HEARTBEAT_LOSS, SELF_TEST_FAIL and, past
T_ST, SELF_TEST_AGE_EXPIRY are a fault of a healthy channel: it fails with its event, and DEGRADED is entered where that is allowed;
otherwise it is a device reaction with cause 0x10. SBC_LEAD_EXPIRY ends the SS1 in STO; SS1_MAX_EXPIRY before standstill does, as a
breach, of Keep where its own time began first, of Turret otherwise. DEG_WARN raises its event once; DEG_MAX_EXPIRY and
DEG_VOTE_TIMER_EXPIRY are device reactions with cause 0x11. HANDRAIL_TIME_EXPIRY is a violation with cause 0x09 that reacts by SS1.
KEEP_GATE_END, at its time, of a channel that Keep runs records the edges of its gate and counts anew; more of them than Keep's limit
are a violation by Keep; of another channel it only counts anew. -/
def Obligations.SafetyFunctions : Prop :=
(∀ (i : SafIn) (s : State), s.dev.sys.mode ≠ .bypass → s.dev.sys.mode ≠ .backup → s.dev.sys.mode ≠ .vigil → exec (.safetyCycle i) s =
    .next { s with dev := (
      let d := s.dev.seenAt i.at_
      let d := if i.turretPass && !d.saf.turretHalted then d.selfTestPass 1 else d
      let d := if i.keepPass then d.selfTestPass 2 else d
      let d := d.safExpiries
      let d := if i.readback then d.deviceReaction 0x0E true true else d
      let d := d.modSaf (fun q => { q with causeAt := none })
      if d.turretRuns then
        let d := i.speeds.foldl (fun (d : Dev) x => d.modSg x.grp (fun y => { y with v := f32Val x.v })) d
        let d := d.each [0, 1, 2, 3] Dev.takePos
        d.each [0, 1, 2, 3] Dev.groupCycle
      else d.each [0, 1, 2, 3] Dev.degWithoutTurret).settle }) ∧
(∀ (i : SafIn) (s : State), s.dev.sys.mode = .bypass ∨ s.dev.sys.mode = .backup ∨ s.dev.sys.mode = .vigil → exec (.safetyCycle i) s =
    .next { s with dev := (s.dev.seenAt i.at_).settle }) ∧
(∀ (s : State), exec .crossCompareFail s = .next { s with dev := (s.dev.deviceReaction 0x0F true true).settle }) ∧
(∀ (s : State), s.dev.saf.turretOk = true → s.dev.saf.turretHalted = false → exec (.heartbeatLoss true) s = .next { s with dev := (
      let d := Dev.raise { s.dev with saf := { s.dev.saf with turretOk := false } } Ev.safChannelFault 1
      if (d.sys.mode == .ready || d.sys.mode == .run || d.sys.mode == .inspection) && d.rb A.SAF_CFG_GEN 26 && s.dev.saf.keepOk &&
          d.testWithin s.dev.saf.keepTest (d.tSt + 2 * usCnt 250) then d.enterDegraded 1
      else d.deviceReaction 0x10 false true).settle }) ∧
(∀ (s : State), s.dev.saf.turretOk = true → exec (.selfTestFail true) s = .next { s with dev := (
      let d := Dev.raise { s.dev with saf := { s.dev.saf with turretOk := false } } Ev.safChannelFault 1
      if (d.sys.mode == .ready || d.sys.mode == .run || d.sys.mode == .inspection) && d.rb A.SAF_CFG_GEN 26 && s.dev.saf.keepOk &&
          d.testWithin s.dev.saf.keepTest (d.tSt + 2 * usCnt 250) then d.enterDegraded 1
      else d.deviceReaction 0x10 false true).settle }) ∧
(∀ (s : State), s.dev.saf.keepOk = true → exec (.heartbeatLoss false) s = .next { s with dev := (
      let d := Dev.raise { s.dev with saf := { s.dev.saf with keepOk := false } } Ev.safChannelFault 2
      if (d.sys.mode == .ready || d.sys.mode == .run || d.sys.mode == .inspection) && d.rb A.SAF_CFG_GEN 26 && s.dev.saf.turretOk &&
          d.testWithin s.dev.saf.turretTest (d.tSt + 2 * usCnt 250) then d.enterDegraded 2
      else d.deviceReaction 0x10 true false).settle } ∧
    exec (.selfTestFail false) s = exec (.heartbeatLoss false) s) ∧
(∀ (t : Nat) (s : State), s.dev.safetyRuns = true → s.dev.saf.turretTest = some t → s.dev.saf.turretHalted = false → exec
    (.selfTestAgeExpiry true) s = .next { s with dev := ((s.dev.advanceTo (t + s.dev.tSt + 1)).channelFault 1).settle }) ∧
(∀ (g e : Nat) (s : State), s.dev.sbcEnd g = some e → exec (.sbcLeadExpiry g) s = .next { s with dev := ((s.dev.advanceTo e).ss1Sto g
    false true true).settle }) ∧
(∀ (g : Nat) (y : Ss1St) (s : State), (s.dev.sg g).ss1 = some y → y.brakeAt = none → exec (.ss1MaxExpiry g) s = .next { s with dev := (
      let keep := decide (y.keepAt.getD y.start < y.start)
      (s.dev.advanceTo (min (y.keepAt.getD y.start) y.start + msCnt (50 * s.dev.fld (A.SAF_GRP_CFG g) 23 16))).ss1Sto g true (!keep) keep).settle }) ∧
(∀ (s : State), s.dev.sys.mode = .degraded → s.dev.saf.degWarned = false → s.dev.time.cnt + msCnt 10000 ≤ s.dev.saf.degStart + msCnt (1000
    * s.dev.fld A.SAF_CFG_GEN 24 16) → 1 ≤ s.dev.fld A.SAF_CFG_GEN 24 16 → s.dev.time.cnt < s.dev.saf.degStart + msCnt (1000 * s.dev.fld
    A.SAF_CFG_GEN 24 16) → exec .degWarn s = .next { s with dev := (
      let stop := s.dev.saf.degStart + msCnt (1000 * s.dev.fld A.SAF_CFG_GEN 24 16)
      let d := Dev.raise { s.dev.advanceTo (stop - msCnt 10000) with saf := { s.dev.saf with degWarned := true } } Ev.safDegWarn
      if d.past stop then d.deviceReaction 0x11 true true else d).settle }) ∧
(∀ (s : State), s.dev.sys.mode = .degraded → s.dev.saf.degWarned = true → exec .degMaxExpiry s = .next { s with dev := ((s.dev.advanceTo
    (s.dev.saf.degStart + msCnt (1000 * s.dev.fld A.SAF_CFG_GEN 24 16))).deviceReaction 0x11 true true).settle }) ∧
(∀ (s : State), s.dev.sys.mode = .degraded → exec .degVoteTimerExpiry s = .next { s with dev := ((s.dev.advanceTo (s.dev.saf.degStart +
    msCnt (1000 * (s.dev.fld A.SAF_CFG_GEN 24 16 + 1)))).deviceReaction 0x11 true true).settle }) ∧
(∀ (g k e : Nat) (s : State), s.dev.hrEnd g k = some e → s.dev.turretRuns = true → exec (.handrailTimeExpiry g k) s = .next {
    s with dev := (((s.dev.advanceTo e).modSg g (fun x => { x with hr := x.hr.set k none })).violate g 0x09 true false true).settle }) ∧
(∀ (g t : Nat) (s : State), s.dev.safetyRuns = true → s.dev.saf.keepOk = true → s.dev.rb (A.SAF_KEEP_OS g) 5 = true → exec (.keepGateEnd g
    t) s = .next { s with dev := (
      let count := (s.dev.sg g).keepEdges
      let l := s.dev.keepLimit g
      let d := ((s.dev.seenAt t).modSg g (fun x => { x with keepEdges := 0 })).modSg g (fun x => { x with keepCount := count, keepLimit := l.1 })
      if l.1 < count then d.violate g l.2 false true (l.2 == 0x05 && d.rb (A.SAF_FN_EN g) 16) else d).settle }) ∧
(∀ (g t : Nat) (s : State), (!s.dev.safetyRuns || !s.dev.saf.keepOk || !s.dev.rb (A.SAF_KEEP_OS g) 5) = true → exec (.keepGateEnd g t) s =
    .next { s with dev := ((s.dev.seenAt t).modSg g (fun x => { x with keepEdges := 0 })).settle })

/-- SAFETY_INPUT_CHANGE of a channel outside its own test pulse, with a level that passes the pair's filter, judges the discrepancy time
first (but not in reset or VIGIL), takes the level, and lets the functions of the pair act, or wakes the device from VIGIL; a level
that does not pass changes nothing; while the pulse runs the channel holds its level and a low level shows the pulse. With their
conditions true: DISCREPANCY_EXPIRY faults the pair, with latched reactions of its groups. BRAKE_TIMING_EXPIRY sets the fault of the
output and its groups react with cause 0x0C. TEST_PULSE begins a pulse that the channels it feeds, where high, must show;
TEST_PULSE_TIMEOUT of a channel that has not shown it faults its pair. DARK_TEST that fails on an energised pair sets the output's
fault and is a device reaction with cause 0x0E. -/
def Obligations.SafetyPairsAndOutputs : Prop :=
(∀ (i us t : Nat) (chB level : Bool) (s : State), i < 16 → (s.dev.seenAt t).pulsing (2 * i + b2n chB) = false → (s.dev.seenAt
    t).pairFilter i us = true → exec (.safetyInputChange i chB ⟨level, us⟩ t) s = .next { s with dev := (
      let d := s.dev.seenAt t
      let d := if d.inReset || d.sys.mode == .vigil then d else d.discTick i
      let was := d.pairClosed i
      let e := d.pairLevel i chB level
      if e.inReset then e else if e.sys.mode = .vigil then e.vigilInput i was else e.pairActs i was).settle }) ∧
(∀ (i us t : Nat) (chB level : Bool) (s : State), i < 16 → (s.dev.seenAt t).pulsing (2 * i + b2n chB) = false → (s.dev.seenAt
    t).pairFilter i us = false → exec (.safetyInputChange i chB ⟨level, us⟩ t) s = .next { s with dev := (s.dev.seenAt t).settle }) ∧
(∀ (i us t : Nat) (chB level : Bool) (s : State), i < 16 → (s.dev.seenAt t).pulsing (2 * i + b2n chB) = true → exec (.safetyInputChange i
    chB ⟨level, us⟩ t) s = .next { s with dev := (if level then s.dev.seenAt t else (s.dev.seenAt t).modSaf (fun q =>
    { q with tpWait := q.tpWait.filter (· != 2 * i + b2n chB) })).settle }) ∧
(∀ (i e : Nat) (s : State), s.dev.discEnd i = some e → (AList.get ({} : PairSt) s.dev.saf.pairs i).faulted = false → exec
    (.discrepancyExpiry i) s = .next { s with dev := (
      let d := s.dev.advanceTo e
      let d := d.modSaf (fun q => { q with pairs := AList.put q.pairs i { AList.get {} q.pairs i with faulted := true, disc := none } })
      let d := d.raise Ev.safInputFault i
      let d := d.each (d.pairGroups i) (fun d g => d.groupReaction g 0x0D true true)
      d.each [0, 1, 2, 3] Dev.demandPairs).settle }) ∧
(∀ (j e : Nat) (s : State), s.dev.timingEnd j = some e → exec (.brakeTimingExpiry j) s = .next { s with dev := (
      let d := s.dev.advanceTo e
      let d := (d.setOutp j { d.outp j with timing := none }).outFault j
      d.each (maskList 4 (d.fld (A.SAF_OUT_CFG j) 7 4)) (fun d g => d.groupReaction g 0x0C true true)).settle }) ∧
(∀ (k : Nat) (s : State), exec (.testPulse k) s = .next { s with dev := (
      let fed := (List.range 32).filter (fun c => s.dev.fld (A.SAF_IN_CFG (c / 2)) 1 0 != 0 && s.dev.pulseOf c == k + 1)
      { s.dev with saf := { s.dev.saf with
          tpAt := AList.put s.dev.saf.tpAt k s.dev.time.cnt
          tpWait := s.dev.saf.tpWait.filter (fun c => !fed.contains c) ++ fed.filter s.dev.chanLevel } }).settle }) ∧
(∀ (i : Nat) (chB : Bool) (s : State), s.dev.saf.tpWait.contains (2 * i + b2n chB) = true → exec (.testPulseTimeout i chB) s = .next {
    s with dev := (
      let c := 2 * i + b2n chB
      let t := AList.get 0 s.dev.saf.tpAt (s.dev.pulseOf c - 1)
      let d := s.dev.advanceTo (t + usCnt (50 * s.dev.fld A.SAF_TP_CFG 12 8 + 100))
      (d.modSaf (fun q => { q with tpWait := q.tpWait.filter (· != c) })).pairFault i).settle }) ∧
(∀ (j : Nat) (s : State), s.dev.rb (A.SAF_OUT_CFG j) 3 = true → (s.dev.outp j).on = true → exec (.darkTest j false) s = .next {
    s with dev := ((s.dev.outFault j).deviceReaction 0x0E true true).settle } ∧
    exec (.darkTest j true) s = .next { s with dev := (s.dev).settle })

/-- With their conditions true: SAF_CFG_LOAD closes the unlock window, and either both channels switch to an image that passes every
check, or the image is refused with its CRC, the offset and the reason. SAF_RESET resets SAFE_HOLD where it holds and every latched
group whose causes are gone; SAF_GRP_RESET resets the latched groups of its mask. SAF_STO demands the STO of its groups, or withdraws
it; SAF_SDI sets the permitted direction from the present position; SAF_RESCUE_DONE ends DEGRADED by a device reaction with cause
0x15; SAF_INSP_TEST begins its test; SAF_KEY_SIGN leaves the signature at its destination; SAF_QUERY reports. A first SAF_UNLOCK of
0xC35A begins the sequence and 0x5AC3 in time opens the window for 10 s, at whose end UNLOCK_WINDOW_EXPIRY closes it; the window of
PRODUCTION_TEST closes likewise. TURRET_HALT_REQUEST by an open debug port halts Turret and voids every unlock; TURRET_RESUME runs the
self-test again. INSP_TEST_END of a test that finished, or that was aborted or is past its time limit, lifts the torque of a brake
test, writes, signs and delivers the record (its Oculus part free, notes/assumptions/24.md) and completes the test, or completes it
RECORD_FAILED where the number was not committed, and leaves INSPECTION for READY once every axis stands; with no test it changes
nothing. -/
def Obligations.SafetyCommands : Prop :=
(∀ (h : Hdr) (img : List Byte) (keepSame : Bool) (s : State), s.dev.targetCheck 0x0701 h = none → s.dev.safCfgCheck h = none →
    (s.dev.safJudge (some img) keepSame).1 = none → exec (.safCfgLoad h (some img) keepSame) s = .next { s with dev :=
    ((s.dev.windowClose.safSwitch img).doneAt h Code.done [(16, 4, (s.dev.safJudge (some img) keepSame).2)]).settle }) ∧
(∀ (h : Hdr) (image : Option (List Byte)) (keepSame : Bool) (off why : Nat) (s : State), s.dev.targetCheck 0x0701 h = none →
    s.dev.safCfgCheck h = none → (s.dev.safJudge image keepSame).1 = some (why, off) → exec (.safCfgLoad h image keepSame) s = .next {
    s with dev := (s.dev.windowClose.doneAt h Code.cfgRejected [(16, 4, (s.dev.safJudge image keepSame).2), (20, 2, off), (22, 1,
    why)]).settle }) ∧
(∀ (h : Hdr) (s : State), s.dev.targetCheck 0x0702 h = none → h.mask = 0 → s.dev.holding = true → s.dev.rb A.SAF_CFG_GEN 25 = true →
    s.dev.resetReady = true → s.dev.holdClear = true → exec (.safReset h) s = .next { s with dev := (
      let d := s.dev.resetActs s.dev.resettable true
      d.doneAt h Code.done [(16, 4, d.safStatusWord.toNat)]).settle }) ∧
(∀ (h : Hdr) (m : Nat) (s : State), s.dev.targetCheck 0x0703 h = none → h.mask = 0 → m < 16 → s.dev.rb A.SAF_CFG_GEN 25 = true →
    s.dev.resetReady = true → (maskList 4 m).all s.dev.groupClear = true → ((maskList 4 m).filter s.dev.grpLatched).isEmpty = false → exec
    (.safGrpReset h m) s = .next { s with dev := ((s.dev.resetActs ((maskList 4 m).filter s.dev.grpLatched) false).doneAt h Code.done
    [(16, 1, maskOf ((maskList 4 m).filter s.dev.grpLatched))]).settle }) ∧
(∀ (h : Hdr) (m on : Nat) (s : State), s.dev.targetCheck 0x0704 h = none → h.mask = 0 → m < 16 → on < 2 → exec (.safSto h m on) s = .next
    { s with dev := (
      let d := s.dev.each (maskList 4 m) (fun d g =>
        if on = 0 then d.modSg g (fun x => { x with cmdSto := false })
        else if (d.sg g).cmdSto then d
        else d.stoDemand g 0x12 true true (fun x => { x with cmdSto := true }))
      let d := d.refreshOuts
      let d := d.each d.axisList (fun d n => d.modPw n (fun p => { p with sto := d.stoDemanded (stoGroup n) }))
      d.doneAt h Code.done [(16, 1, maskOf ((List.range 4).filter (fun g => (d.sg g).cmdSto)))]).settle }) ∧
(∀ (h : Hdr) (g dir : Nat) (s : State), s.dev.targetCheck 0x0705 h = none → h.mask = 0 → g < 4 → dir < 3 → s.dev.rb (A.SAF_FN_EN g) 2 =
    true → exec (.safSdi h g dir) s = .next { s with dev := ((s.dev.modSg g (fun x => { x with sdi := dir, sdiFrom := x.pos })).doneAt h
    Code.done [(16, 1, dir)]).settle }) ∧
(∀ (h : Hdr) (s : State), s.dev.targetCheck 0x0706 h = none → h.mask = 0 → s.dev.sys.mode = .degraded → exec (.safRescueDone h) s = .next
    { s with dev := ((s.dev.deviceReaction 0x15 true true).doneAt h Code.done [(16, 4, s.dev.msSince s.dev.saf.degStart)]).settle }) ∧
(∀ (h : Hdr) (b : List Byte) (dest : Nat) (s : State), s.dev.targetCheck 0x0707 h = none → s.dev.inspCheck h (some b) = none → (byteAt b 0
    = 2 ∨ byteAt b 0 = 3) → exec (.safInspTest h (some b) dest) s = .next { s with dev := (
      let sel (k : Nat) : Word := BitVec.ofNat 32 (k + 2 ^ 8 * byteAt b 2)
      let d := (s.dev.wrAll [(A.OCU_CH 0, sel 0x1A), (A.OCU_CH 1, sel 0x1B), (A.OCU_CH 2, sel 0x05), (A.OCU_CH 3, BitVec.ofNat 32 (0x40 + 2 ^ 16))]).setFld A.OCU_CFG 31 16 0xF
      d.modSaf (fun q => { q with insp := some { cmd := h, block := bytesAt b 0 128, dest, start := s.dev.time.cnt, startTime := s.dev.sys.lastFrame } })).settle }) ∧
(∀ (h : Hdr) (b : List Byte) (dest : Nat) (s : State), s.dev.targetCheck 0x0707 h = none → s.dev.inspCheck h (some b) = none → byteAt b 0
    = 1 → exec (.safInspTest h (some b) dest) s = .next { s with dev := (
      let sel (k : Nat) : Word := BitVec.ofNat 32 (k + 2 ^ 8 * byteAt b 2)
      let d := (s.dev.wrAll [(A.OCU_CH 0, sel 0x1A), (A.OCU_CH 1, sel 0x1B), (A.OCU_CH 2, sel 0x05), (A.OCU_CH 3, BitVec.ofNat 32 (0x40 + 2 ^ 16))]).setFld A.OCU_CFG 31 16 0xF
      let d := d.modSaf (fun q => { q with insp := some { cmd := h, block := bytesAt b 0 128, dest, start := s.dev.time.cnt, startTime := s.dev.sys.lastFrame } })
      (d.setOutp (byteAt b 8) { d.outp (byteAt b 8) with wish := false }).refreshOuts).settle }) ∧
(∀ (h : Hdr) (b : List Byte) (dest : Nat) (s : State), s.dev.targetCheck 0x0707 h = none → s.dev.inspCheck h (some b) = none → byteAt b 0
    = 4 → exec (.safInspTest h (some b) dest) s = .next { s with dev := (
      let sel (k : Nat) : Word := BitVec.ofNat 32 (k + 2 ^ 8 * byteAt b 2)
      let d := (s.dev.wrAll [(A.OCU_CH 0, sel 0x1A), (A.OCU_CH 1, sel 0x1B), (A.OCU_CH 2, sel 0x05), (A.OCU_CH 3, BitVec.ofNat 32 (0x40 + 2 ^ 16))]).setFld A.OCU_CFG 31 16 0xF
      let d := d.modSaf (fun q => { q with insp := some { cmd := h, block := bytesAt b 0 128, dest, start := s.dev.time.cnt, startTime := s.dev.sys.lastFrame } })
      if byteAt b 8 = 0 then d.groupReaction (byteAt b 1) 0x12 true true else d.startSs1 (byteAt b 1) 0x02 true false true true).settle }) ∧
(∀ (metrics : List F32) (f c : Bool) (s : State), s.dev.saf.insp = none → exec (.inspTestEnd metrics f c) s = .next { s with dev :=
    (s.dev).settle }) ∧
(∀ (metrics : List F32) (f : Bool) (i : InspSt) (s : State), s.dev.saf.insp = some i → (f = true ∧ i.aborted = false ∨ f = false ∧
    (i.aborted = true ∨ i.start + msCnt (leAt i.block 4 4) ≤ s.dev.time.cnt)) → exec (.inspTestEnd metrics f true) s = .next {
    s with dev := (
      let d := s.dev.modSaf (fun q => { q with insp := none, recSeq := (q.recSeq + 1) % 2 ^ 48 })
      let d := if byteAt i.block 0 = 1 && !i.lifted && d.energised (byteAt i.block 2) then (d.setOutp (byteAt i.block 8) { d.outp (byteAt i.block 8) with wish := true }).refreshOuts else d
      let checks := if f then d.inspChecks i.block metrics else 0
      let verdict := if f then (if checks = 0 then 0 else 1) else 2
      let body := d.inspRecord i (!f) d.saf.recSeq metrics verdict checks
      let e := ({ d with free := d.free + 1560 } : Dev).setMbs 0x17F800 (body ++ unitSign body)
      let e := ((e.wr64 A.SAF_REC_SEQ_LO d.saf.recSeq).wb A.SAF_REC_GEN 0 true).incWrap A.SAF_REC_GEN 31 16
      let e := if i.dest = 0 then e.raise Ev.safRecord else (e.raise Ev.safRecord).hostPut i.dest (body ++ unitSign body)
      let e := e.doneNow i.cmd (if f then Code.done else Code.testAborted) [(16, 6, d.saf.recSeq), (22, 1, verdict), (24, 4, checks)]
      if e.sys.mode = .inspection && e.axisList.all (fun n => let st := (e.ax n).state; st == .off || st == .parked || st == .hold) then e.enterMode .ready 0 else e).settle }) ∧
(∀ (metrics : List F32) (f : Bool) (i : InspSt) (s : State), s.dev.saf.insp = some i → (f = true ∧ i.aborted = false ∨ f = false ∧
    (i.aborted = true ∨ i.start + msCnt (leAt i.block 4 4) ≤ s.dev.time.cnt)) → exec (.inspTestEnd metrics f false) s = .next {
    s with dev := (
      let d := s.dev.modSaf (fun q => { q with insp := none, recSeq := (q.recSeq + 1) % 2 ^ 48 })
      let d := if byteAt i.block 0 = 1 && !i.lifted && d.energised (byteAt i.block 2) then (d.setOutp (byteAt i.block 8) { d.outp (byteAt i.block 8) with wish := true }).refreshOuts else d
      let checks := if f then d.inspChecks i.block metrics else 0
      let e := d.doneNow i.cmd Code.recordFailed [(16, 6, d.saf.recSeq), (22, 1, if f then (if checks = 0 then 0 else 1) else 2), (24, 4, checks)]
      if e.sys.mode = .inspection && e.axisList.all (fun n => let st := (e.ax n).state; st == .off || st == .parked || st == .hold) then e.enterMode .ready 0 else e).settle }) ∧
(∀ (h : Hdr) (challenge : List Byte) (dest : Nat) (s : State), s.dev.targetCheck 0x0708 h = none → h.mask = 0 → s.dev.saf.key = true →
    exec (.safKeySign h challenge dest) s = .next { s with dev := ((s.dev.hostPut dest (unitSign (bytesAt challenge 0 32))).doneAt h
    Code.done).settle }) ∧
(∀ (h : Hdr) (s : State), s.dev.targetCheck 0x0709 h = none → h.mask = 0 → exec (.safQuery h) s = .next { s with dev := (s.dev.doneNow h
    Code.done [(16, 4, s.dev.safStatusWord.toNat), (20, 4, (s.dev.rd A.SAF_CAUSE).toNat), (24, 4, s.dev.safDegWord.toNat), (28, 4,
    s.dev.safChWord.toNat)]).settle }) ∧
(∀ (r : Req) (v : Word) (within : Bool) (s : State), s.dev.accepts r (A.SAF_UNLOCK) v = true → s.dev.rb A.SAF_UNLOCK_STATUS 1 = false →
    s.dev.saf.keyAt = none → field 15 0 v = 0xC35A → exec (.safUnlock r v within) s = .next { s with dev := (s.dev.accessed.modSaf (fun q
    => { q with keyAt := some s.dev.time.cnt })).settle }) ∧
(∀ (r : Req) (v : Word) (t : Nat) (s : State), s.dev.accepts r (A.SAF_UNLOCK) v = true → s.dev.rb A.SAF_UNLOCK_STATUS 1 = false →
    s.dev.saf.keyAt = some t → field 15 0 v = 0x5AC3 → exec (.safUnlock r v true) s = .next { s with dev := ((s.dev.accessed.modSaf (fun q
    => { q with keyAt := none, windowEnd := some (s.dev.time.cnt + msCnt 10000) })).wb A.SAF_UNLOCK_STATUS 0 true).settle }) ∧
(∀ (e : Nat) (s : State), s.dev.saf.windowEnd = some e → exec (.unlockWindowExpiry false) s = .next { s with dev := (((s.dev.advanceTo
    e).modSaf (fun q => { q with windowEnd := none })).wb A.SAF_UNLOCK_STATUS 0 false).settle }) ∧
(∀ (e : Nat) (s : State), s.dev.upd.windowEnd = some e → exec (.unlockWindowExpiry true) s = .next { s with dev := (((s.dev.advanceTo
    e).modUpd (fun u => { u with windowEnd := none })).wb A.TEST_UNLOCK_STATUS 0 false).settle }) ∧
(∀ (s : State), s.dev.debugOpen = true → s.dev.saf.turretHalted = false → s.dev.anyEnergised = true → exec .turretHaltRequest s = .next {
    s with dev := (
      let d := ((s.dev.deviceReaction 0x14 true true).unlockVoid).modSaf (fun q => { q with turretHalted := true })
      ((d.each d.axisList Dev.stoAxis).refreshOuts.raise Ev.safTurretHalted 1).unlocksVoid).settle }) ∧
(∀ (s : State), s.dev.debugOpen = true → s.dev.saf.turretHalted = false → s.dev.anyEnergised = false → exec .turretHaltRequest s = .next {
    s with dev := (
      let d := s.dev.unlockVoid.modSaf (fun q => { q with turretHalted := true })
      ((d.each d.axisList Dev.stoAxis).refreshOuts.raise Ev.safTurretHalted 1).unlocksVoid).settle }) ∧
(∀ (pass : Bool) (s : State), s.dev.saf.turretHalted = true → exec (.turretResume pass) s = .next { s with dev := (
      let d := s.dev.modSaf (fun q => { q with turretHalted := false })
      (if pass then d.selfTestPass 1 else d.channelFault 1).refreshOuts.raise Ev.safTurretHalted 0).settle })

/-- Of an accepted write (Dev.accepts): bit 31 clears the sticky fields of SYS_OVERRUN, SYS_S1_PEAK and SYS_DIP_LAST; BELFRY_LOG_SW logs
its value; BELFRY_BKP_CTRL with bit 0 loads the RTC at the next edge of the crystal; a submission ring takes its new tail and its
place in arrival order; a completion queue's head releases what is held; the event queue takes its head; DMA start runs an idle
channel with a share, stop idles a running one, probe probes a halted candidate, DMA_RESUME resumes the halted channels it names that
are no candidates, and a tail is taken; FIELD_OUT_SET and FIELD_OUT_CLR set and clear bits; CAN_TX_PUT and CAN_RX_ACK take their
index; UART_DATA queues a byte; AX_SNAP_CTRL requests a snapshot; TEST_UNLOCK begins its sequence. A read of a counter's low word and
of a pop register answers the word and has its side effect; one of 64 bits is carried out as two of 32, the lower first. -/
def Obligations.RegistersThatCommand : Prop :=
(∀ (r : Req) (v : Word) (s : State), s.dev.accepts r (A.SYS_OVERRUN) v = true → bit 31 v = true → exec (.sysOverrunClr r v) s = .next {
    s with dev := (s.dev.accessed.setFld A.SYS_OVERRUN 15 0 0).settle }) ∧
(∀ (r : Req) (v : Word) (s : State), s.dev.accepts r (A.SYS_S1_PEAK) v = true → bit 31 v = true → exec (.sysS1PeakClr r v) s = .next {
    s with dev := ((s.dev.accessed.setFld A.SYS_S1_PEAK 17 0 0).modCup (fun q => { q with s1Before := 0, s1Used := 0 })).settle }) ∧
(∀ (r : Req) (v : Word) (s : State), s.dev.accepts r (A.SYS_DIP_LAST) v = true → bit 31 v = true → exec (.sysDipLastClr r v) s = .next {
    s with dev := (s.dev.accessed.setFld A.SYS_DIP_LAST 30 24 0).settle }) ∧
(∀ (r : Req) (v : Word) (s : State), s.dev.accepts r (A.BELFRY_LOG_SW) v = true → exec (.belfryLogSw r v) s = .next { s with dev :=
    (s.dev.accessed.logWrite 4 0 (field 15 0 v)).settle }) ∧
(∀ (r : Req) (v : Word) (s : State), s.dev.accepts r (A.BELFRY_BKP_CTRL) v = true → bit 0 v = true → exec (.belfryBkpCtrlRtcLoad r v) s =
    .next { s with dev := (s.dev.accessed.rtcLoad).settle }) ∧
(∀ (r : Req) (cc i q : Nat) (x : Sq) (v : Word) (s : State), s.dev.accepts r (A.HOST_SQ_TAIL cc i) v = true → cc < 512 → i < 8 →
    s.dev.sqAt cc i = some (q, x) → field 11 0 v < 2 ^ x.k → s.dev.sqStopped x = false → (field 11 0 v + 2 ^ x.k - x.tail % 2 ^ x.k) % 2 ^
    x.k ≠ 0 → exec (.hostSqTail r cc i v) s = .next { s with dev := (
      let n := (field 11 0 v + 2 ^ x.k - x.tail % 2 ^ x.k) % 2 ^ x.k
      let d := s.dev.accessed.setSq q { x with tail := x.tail + n, marks := x.marks ++ [(x.tail + n, s.dev.host.nextOrd)] }
      d.modHost (fun h => { h with nextOrd := h.nextOrd + 1 })).settle }) ∧
(∀ (r : Req) (cc i q : Nat) (x : Cq) (v : Word) (s : State), s.dev.accepts r (A.HOST_CQ_HEAD cc i) v = true → cc < 512 → i < 8 →
    s.dev.cqAt cc i = some (q, x) → exec (.hostCqHead r cc i v) s = .next { s with dev := (
      let c := { x with rd := headCount x.wr (2 ^ x.k) (field 11 0 v) }
      (s.dev.accessed.setCq q { c with full := c.full && c.isFull }).cqRelease c.held.length q).settle }) ∧
(∀ (r : Req) (cc : Nat) (v : Word) (s : State), s.dev.accepts r (A.HOST_EVQ_HEAD cc) v = true → cc < 512 → exec (.hostEvqHead r cc v) s =
    .next { s with dev := (
      let q := AList.get {} s.dev.host.evqs cc
      let d := s.dev.accessed.setEvq cc { q with rd := headCount q.wr (s.dev.evqSize cc) (field 11 0 v) }
      if d.evqFull cc then d else d.setEvq cc { AList.get {} d.host.evqs cc with overflowed := false }).settle }) ∧
(∀ (r : Req) (c : Nat) (v : Word) (s : State), s.dev.accepts r (A.DMA_CH_TAIL c) v = true → c < 32 → exec (.dmaChTail r c v) s = .next {
    s with dev := (s.dev.accessed.modCh c (fun x =>
    { if x.head = x.tail then x.wake s.dev.accessed.time.cnt else x with tail := field 11 0 v })).settle }) ∧
(∀ (r : Req) (c : Nat) (s : State), s.dev.accepts r (A.DMA_CH_CTRL c) 1 = true → c < 32 → ((s.dev.ch c).state = .idle ∨ (s.dev.ch c).state
    = .error) → s.dev.fld (A.DMA_CH_OWN c) 23 16 ≠ 0 → exec (.dmaStart r c) s = .next { s with dev := (s.dev.accessed.modCh c (fun x =>
    { x.wake s.dev.accessed.time.cnt with state := .run, pos := 0, probeOk := false })).settle }) ∧
(∀ (r : Req) (c : Nat) (s : State), s.dev.accepts r (A.DMA_CH_CTRL c) 2 = true → c < 32 → (s.dev.ch c).state ≠ .idle → exec (.dmaStop r c)
    s = .next { s with dev := (s.dev.accessed.dmaIdle c).settle }) ∧
(∀ (r : Req) (c : Nat) (s : State), s.dev.accepts r (A.DMA_CH_CTRL c) 4 = true → c < 32 → r.admin = true → (s.dev.ch c).state = .halted →
    (s.dev.ch c).cand = true → s.dev.dma.probing = none → exec (.dmaProbe r c) s = .next { s with dev := ((s.dev.accessed.modCh c (fun x
    => { x with state := .probing, probeOk := false })).modDma (fun q => { q with probing := some c })).settle }) ∧
(∀ (r : Req) (v : Word) (s : State), s.dev.accepts r (A.DMA_RESUME) v = true → exec (.dmaResume r v) s = .next { s with dev := (
      let d := s.dev.accessed.each (maskList 32 v.toNat) (fun d c =>
        if (d.ch c).state == .halted && !(d.ch c).cand then d.modCh c (fun x => { x.wake d.time.cnt with state := .run, probeOk := false }) else d)
      if s.dev.dmaStuck && !d.dmaStuck then d.raise Ev.dmaResumed else d).settle }) ∧
(∀ (r : Req) (v : Word) (s : State), s.dev.accepts r (A.FIELD_OUT_SET) v = true → exec (.fieldOutSet r v) s = .next { s with dev :=
    (s.dev.accessed.fieldOut v.toNat 0xFFFFFFFF).settle }) ∧
(∀ (r : Req) (v : Word) (s : State), s.dev.accepts r (A.FIELD_OUT_CLR) v = true → exec (.fieldOutClr r v) s = .next { s with dev :=
    (s.dev.accessed.fieldOut v.toNat 0).settle }) ∧
(∀ (r : Req) (k : Nat) (v : Word) (s : State), s.dev.accepts r (A.CAN_TX_PUT k) v = true → k < 4 → dist16 (field 15 0 v) (s.dev.cnt16
    (A.CAN_TX_ACK k)) ≤ 64 → dist16 (field 15 0 v) (s.dev.cnt16 (A.CAN_TX_DONE k)) ≤ 64 → exec (.canTxPut r k v) s = .next { s with dev :=
    (Dev.canStart 65 (s.dev.accessed.setFld (A.CAN_TX_PUT k) 15 0 (field 15 0 v)) k).settle }) ∧
(∀ (r : Req) (k : Nat) (v : Word) (s : State), s.dev.accepts r (A.CAN_RX_ACK k) v = true → k < 4 → dist16 (s.dev.cnt16 (A.CAN_RX_WP k))
    (field 15 0 v) ≤ dist16 (s.dev.cnt16 (A.CAN_RX_WP k)) (s.dev.cnt16 (A.CAN_RX_ACK k)) → s.dev.rb A.TEST_CAN_ACK k = false → exec
    (.canRxAck r k v) s = .next { s with dev := (s.dev.accessed.setFld (A.CAN_RX_ACK k) 15 0 (field 15 0 v)).settle }) ∧
(∀ (r : Req) (n : Nat) (v : Word) (s : State), s.dev.accepts r (A.UART_DATA n) v = true → n < 2 → (s.dev.uart n).tx.length < 64 → exec
    (.uartDataWrite r n v) s = .next { s with dev := ((s.dev.accessed.modUart n (fun u =>
    { u with tx := u.tx ++ [BitVec.ofNat 8 (field 7 0 v)] })).uartLoad n).settle }) ∧
(∀ (r : Req) (n : Nat) (v : Word) (s : State), s.dev.accepts r (A.AX_SNAP_CTRL n) v = true → n < 32 → bit 0 v = true → s.dev.lead n = n →
    s.dev.rb (A.AX_SNAP_CTRL n) 0 = false → (s.dev.ax n).state ≠ .fault → exec (.axSnapCtrl r n v) s = .next { s with dev :=
    ((s.dev.accessed.wb (A.AX_SNAP_CTRL n) 0 true).wb (A.AX_SNAP_CTRL n) 1 false).settle }) ∧
(∀ (r : Req) (v : Word) (within : Bool) (s : State), s.dev.accepts r (A.TEST_UNLOCK) v = true → s.dev.rb A.TEST_UNLOCK_STATUS 1 = false →
    s.dev.upd.keyAt = none → field 15 0 v = 0x7E5A → exec (.testUnlock r v within) s = .next { s with dev := (s.dev.accessed.modUpd (fun u
    => { u with keyAt := some s.dev.time.cnt })).settle }) ∧
(∀ (r : Req) (addr width : Nat) (s : State), wideParts width = 0 → exec (.counterLowRead r ⟨addr, width⟩) s = .next { s with dev :=
    ((s.dev.busRead r addr width).2.emit (.read r addr (s.dev.busRead r addr width).1)).settle } ∧
    exec (.popRegisterRead r addr width) s = exec (.counterLowRead r ⟨addr, width⟩) s) ∧
(∀ (r : Req) (addr : Nat) (s : State), exec (.counterLowRead r ⟨addr, 8⟩) s = .next { s with dev := (
      let x := s.dev.busRead r addr 4
      let d := x.2.emit (.read r addr x.1)
      let y := d.busRead r (addr + 4) 4
      y.2.emit (.read r (addr + 4) y.1)).settle } ∧
    exec (.popRegisterRead r addr 8) s = exec (.counterLowRead r ⟨addr, 8⟩) s)

/-- Of an accepted write that leaves every field it names (Dev.taken, its word and no kept field): SYS_TICK_CFG puts its change to the
test, and the root's new ft_sel is pending on another node from its acceptance; the wake budgets and axes rechoose the rest in
progress; EVT_ROUTE, DMA_CH_OWN, PROF_STREAM_WP and OCU_RING_RP take the word alone; BELFRY_RULE starts its edge anew; HOST_ADM_CFG
starts or ends the admin rings and HOST_EVQ_CFG the event queue; FB_LAT_CTRL arms; GEAR_PUB_CFG and LS_GRP_CFG ask for their cyclic
slots or give them back; FIELD_CH_CFG changes the channel; CAN_CTRL with abort set aborts what waits; a perturbation takes its value.
FB_PAIR_COMMIT of a high word commits the pair. REGISTER_WRITE of a plain row takes the word and records the kept field's kind; a
misaligned one and one that the judgement refuses record their fault and change nothing; one of 64 bits is two writes of 32 bits, the
lower first. -/
def Obligations.RegistersThatTakeAWord : Prop :=
(∀ (r : Req) (v : Word) (s : State), s.dev.accepts r (A.SYS_TICK_CFG) v = true → (s.dev.taken r (A.SYS_TICK_CFG) v).2 = none → exec
    (.sysTickCfg r ⟨v, none⟩) s = .next { s with dev := (((s.dev.accessed.wr (A.SYS_TICK_CFG) (s.dev.taken r (A.SYS_TICK_CFG) v).1).wr
    A.SYS_TICK_CFG (s.dev.rd (A.SYS_TICK_CFG))).tickCfg (s.dev.rd (A.SYS_TICK_CFG)) (s.dev.taken r (A.SYS_TICK_CFG) v).1).settle }) ∧
(∀ (r : Req) (v : Word) (t : Nat) (s : State), s.dev.isRoot = false → field 1 0 v ≤ 2 → field 1 0 v ≠ s.dev.fld A.SYS_TICK_CFG 1 0 → exec
    (.sysTickCfg r ⟨v, some t⟩) s = .next { s with dev := (
      let at_ := ceilDiv (t + 8 * s.dev.framePeriod) 1000000 * 1000000
      ((s.dev.setFld A.SYS_TICK_CFG 1 0 (field 1 0 v)).wb A.SYS_TICK_STATUS 8 true).modSys (fun q => { q with rootPending := some (field 1 0 v, at_) })).settle }) ∧
(∀ (r : Req) (i : Nat) (v : Word) (s : State), s.dev.accepts r (A.SYS_WAKE_BUDGET i) v = true → i < 64 → (s.dev.taken r (A.SYS_WAKE_BUDGET
    i) v).2 = none → exec (.sysWakeBudget r i v) s = .next { s with dev := ((s.dev.accessed.wr (A.SYS_WAKE_BUDGET i) (s.dev.taken r
    (A.SYS_WAKE_BUDGET i) v).1).restRechoice).settle }) ∧
(∀ (r : Req) (i : Nat) (v : Word) (s : State), s.dev.accepts r (A.EVT_ROUTE i) v = true → i < 96 → (s.dev.taken r (A.EVT_ROUTE i) v).2 =
    none → exec (.evtRoute r i v) s = .next { s with dev := ((s.dev.accessed.wr (A.EVT_ROUTE i) (s.dev.taken r (A.EVT_ROUTE i)
    v).1)).settle }) ∧
(∀ (r : Req) (i : Nat) (v : Word) (s : State), s.dev.accepts r (A.BELFRY_RULE_ACT i) v = true → i < 32 → (s.dev.taken r (A.BELFRY_RULE_ACT
    i) v).2 = none → exec (.belfryRuleWrite r i true v) s = .next { s with dev := ((s.dev.accessed.wr (A.BELFRY_RULE_ACT i) (s.dev.taken r
    (A.BELFRY_RULE_ACT i) v).1).setBelRule i
    { (s.dev.accessed.wr (A.BELFRY_RULE_ACT i) (s.dev.taken r (A.BELFRY_RULE_ACT i) v).1).belRule i with prev := false }).settle }) ∧
(∀ (r : Req) (i : Nat) (v : Word) (s : State), s.dev.accepts r (A.BELFRY_RULE_COND i) v = true → i < 32 → (s.dev.taken r
    (A.BELFRY_RULE_COND i) v).2 = none → exec (.belfryRuleWrite r i false v) s = .next { s with dev := ((s.dev.accessed.wr
    (A.BELFRY_RULE_COND i) (s.dev.taken r (A.BELFRY_RULE_COND i) v).1).setBelRule i
    { (s.dev.accessed.wr (A.BELFRY_RULE_COND i) (s.dev.taken r (A.BELFRY_RULE_COND i) v).1).belRule i with prev := false }).settle }) ∧
(∀ (r : Req) (v : Word) (s : State), s.dev.accepts r (A.HOST_ADM_CFG) v = true → (s.dev.taken r (A.HOST_ADM_CFG) v).2 = none → exec
    (.hostAdmCfg r v) s = .next { s with dev := ((s.dev.accessed.wr (A.HOST_ADM_CFG) (s.dev.taken r (A.HOST_ADM_CFG) v).1).admCfg
    (s.dev.rd (A.HOST_ADM_CFG)) (s.dev.taken r (A.HOST_ADM_CFG) v).1).settle }) ∧
(∀ (r : Req) (i : Nat) (v : Word) (s : State), s.dev.accepts r (A.HOST_EVQ_CFG i) v = true → i < 512 → (s.dev.taken r (A.HOST_EVQ_CFG i)
    v).2 = none → exec (.hostEvqCfg r i v) s = .next { s with dev := ((s.dev.accessed.wr (A.HOST_EVQ_CFG i) (s.dev.taken r (A.HOST_EVQ_CFG
    i) v).1).evqCfg i (s.dev.rd (A.HOST_EVQ_CFG i)) (s.dev.taken r (A.HOST_EVQ_CFG i) v).1).settle }) ∧
(∀ (r : Req) (i : Nat) (v : Word) (s : State), s.dev.accepts r (A.DMA_CH_OWN i) v = true → i < 32 → (s.dev.taken r (A.DMA_CH_OWN i) v).2 =
    none → exec (.dmaChOwn r i v) s = .next { s with dev := ((s.dev.accessed.wr (A.DMA_CH_OWN i) (s.dev.taken r (A.DMA_CH_OWN i)
    v).1)).settle }) ∧
(∀ (r : Req) (i : Nat) (v : Word) (s : State), s.dev.accepts r (A.FIELD_CH_CFG i) v = true → i < 32 → (s.dev.taken r (A.FIELD_CH_CFG i)
    v).2 = none → exec (.fieldChCfg r i v) s = .next { s with dev := (((s.dev.accessed.wr (A.FIELD_CH_CFG i) (s.dev.taken r
    (A.FIELD_CH_CFG i) v).1).wr (A.FIELD_CH_CFG i) (s.dev.rd (A.FIELD_CH_CFG i))).fieldCfg i (s.dev.taken r (A.FIELD_CH_CFG i)
    v).1).settle }) ∧
(∀ (r : Req) (i : Nat) (s : State), s.dev.accepts r (A.CAN_CTRL i) (s.dev.rd (A.CAN_CTRL i) ||| 0x20) = true → i < 4 → (s.dev.taken r
    (A.CAN_CTRL i) (s.dev.rd (A.CAN_CTRL i) ||| 0x20)).2 = none → bit 5 (s.dev.rd (A.CAN_CTRL i) ||| 0x20) = true → bit 0 (s.dev.taken r
    (A.CAN_CTRL i) (s.dev.rd (A.CAN_CTRL i) ||| 0x20)).1 = bit 0 (s.dev.rd (A.CAN_CTRL i)) → exec (.canAbort r i) s = .next {
    s with dev := ((s.dev.accessed.wr (A.CAN_CTRL i) (s.dev.taken r (A.CAN_CTRL i) (s.dev.rd (A.CAN_CTRL i) ||| 0x20)).1).canAbort
    i).settle }) ∧
(∀ (r : Req) (i u : Nat) (v : Word) (s : State), s.dev.accepts r (A.FB_LAT_CTRL i u) v = true → i < 32 → u < 2 → (s.dev.taken r
    (A.FB_LAT_CTRL i u) v).2 = none → bit 10 v = true → exec (.fbLatCtrlArm r i u v) s = .next { s with dev := ((s.dev.accessed.wr
    (A.FB_LAT_CTRL i u) (s.dev.taken r (A.FB_LAT_CTRL i u) v).1).wb (A.FB_LAT_CTRL i u) 10 true).settle }) ∧
(∀ (r : Req) (i : Nat) (v : Word) (s : State), s.dev.accepts r (A.PROF_STREAM_WP i) v = true → i < 32 → (s.dev.taken r (A.PROF_STREAM_WP
    i) v).2 = none → exec (.profStreamWp r i v) s = .next { s with dev := ((s.dev.accessed.wr (A.PROF_STREAM_WP i) (s.dev.taken r
    (A.PROF_STREAM_WP i) v).1)).settle }) ∧
(∀ (r : Req) (i : Nat) (v : Word) (granted : Bool) (s : State), s.dev.accepts r (A.GEAR_PUB_CFG i) v = true → i < 16 → (s.dev.taken r
    (A.GEAR_PUB_CFG i) v).2 = none → exec (.gearPubCfg r i v granted) s = .next { s with dev := ((s.dev.accessed.wr (A.GEAR_PUB_CFG i)
    (s.dev.taken r (A.GEAR_PUB_CFG i) v).1).pubWritten i (s.dev.rd (A.GEAR_PUB_CFG i)) granted).settle }) ∧
(∀ (r : Req) (i : Nat) (v : Word) (granted : Nat) (s : State), s.dev.accepts r (A.LS_GRP_CFG i) v = true → i < 8 → (s.dev.taken r
    (A.LS_GRP_CFG i) v).2 = none → exec (.lsGrpCfg r i v granted) s = .next { s with dev := ((s.dev.accessed.wr (A.LS_GRP_CFG i)
    (s.dev.taken r (A.LS_GRP_CFG i) v).1).lsWritten i (s.dev.rd (A.LS_GRP_CFG i)) granted).settle }) ∧
(∀ (r : Req) (v : Word) (s : State), s.dev.accepts r (A.OCU_RING_RP) v = true → (s.dev.taken r (A.OCU_RING_RP) v).2 = none → exec
    (.ocuRingRp r v) s = .next { s with dev := ((s.dev.accessed.wr (A.OCU_RING_RP) (s.dev.taken r (A.OCU_RING_RP) v).1)).settle }) ∧
(∀ (r : Req) (addr : Nat) (row : RegRow) (v : Word) (more : List Word) (s : State), s.dev.accepts r addr v = true → regRow (regKey addr) =
    some row → s.dev.accessed.commandReg r row (regKey addr) v {} = none → pairOf row (regKey addr) = none → isPerturbation (regKey addr)
    = false → exec (.registerWrite r addr 4 ⟨v, more⟩) s = .next { s with dev := (
      let d := (s.dev.accessed.wr (regKey addr) (s.dev.taken r addr v).1).regAfter row (regKey addr) (s.dev.rd (regKey addr)) (s.dev.taken r addr v).1 v {}
      match (s.dev.taken r addr v).2 with
      | some k => d.accFault r (regKey addr) k true
      | none => d).settle }) ∧
(∀ (r : Req) (addr width : Nat) (v : Word) (more : List Word) (s : State), s.dev.reaches r = true → misaligned addr width = true →
    wideParts width = 0 → exec (.registerWrite r addr width ⟨v, more⟩) s = .next { s with dev := (s.dev.accessed.accFault r (regKey addr)
    .misaligned true).settle }) ∧
(∀ (r : Req) (addr : Nat) (k : Kind) (v : Word) (more : List Word) (s : State), s.dev.reaches r = true → addr % 4 = 0 →
    s.dev.accessed.judge r (regKey addr) false true = .bad k → exec (.registerWrite r addr 4 ⟨v, more⟩) s = .next { s with dev :=
    (s.dev.accessed.accFault r (regKey addr) k true).settle }) ∧
(∀ (r : Req) (addr : Nat) (v w : Word) (s : State), exec (.registerWrite r addr 8 ⟨v, [w]⟩) s = .next { s with dev := ((s.dev.busWrite r
    addr 4 v).busWrite r (addr + 4) 4 w).settle }) ∧
(∀ (r : Req) (addr : Nat) (row : RegRow) (v : Word) (more : List Word) (s : State), s.dev.accepts r addr v = true → regRow addr = some row
    → regKey addr = addr → s.dev.accessed.commandReg r row addr v {} = none → pairOf row addr = none → isPerturbation addr = true →
    (s.dev.taken r addr v).2 = none → exec (.perturbationWrite r addr 4 ⟨v, more⟩) s = .next { s with dev := (s.dev.accessed.perturb addr
    (s.dev.taken r addr v).1).settle }) ∧
(∀ (r : Req) (addr low : Nat) (row : RegRow) (v : Word) (s : State), s.dev.accepts r addr v = true → regRow addr = some row → regKey addr
    = addr → pairOf row addr = some (low, true) → s.dev.accessed.commandReg r row addr v {} = none → s.dev.limitsCross (row.idx1 addr) low
    (toSigned 48 ((AList.get (s.dev.rd low) s.dev.fbd.staged low).toNat + 2 ^ 32 * field 15 0 v)) = false → low ≠ A.FB_REF_VAL_LO
    (row.idx1 addr) → exec (.fbPairCommit r addr v) s = .next { s with dev := ((s.dev.accessed.modFbd (fun f =>
    { f with staged := AList.del f.staged low })).wr48 low (toSigned 48 ((AList.get (s.dev.rd low) s.dev.fbd.staged low).toNat + 2 ^ 32 *
    field 15 0 v))).settle })

/-- With their conditions true: SUBMISSION_FETCH of a ring whose turn it is takes the entry, on SPI from ring memory: a fetch that is not
reserved passes over the lower classes that wait, a reserved one takes its token, the completion ring's writes succeed or fail from
then on, the head advances, and the entry is checked and accepted, forwarded or rejected; an entry with a fence waits while a command
of its ring is in flight; a failed read on PCIe stops the ring. HELD_COMPLETION_RELEASE writes what a completion ring holds while it
has room. FORWARD_TIMEOUT answers NODE_LOST for the forwarded commands whose 16 frame periods have passed. VECTOR_HOLDOFF_EXPIRY of a
vector with causes signals it, or clears it where all are consumed; MSIX_UNMASK sends a vector that waited. UDP_DATAGRAM from no
binding of the device is dropped and counted; a good one queues its entries and they are checked in order. A Finial frame completes
and is submitted as CC0's, or is discarded; FINIAL_FRAME_TIMEOUT discards one in reception. TICK_CFG_APPLIED moves to the time of the
earliest pending tick change and applies what is due; with none pending, on another node than the root, it applies the root's setting. -/
def Obligations.SubmissionAndCompletion : Prop :=
(∀ (q : Nat) (x : Sq) (entry : List Byte) (readOk cqOk : Bool) (data : Option (List Byte)) (same : Bool) (s : State), AList.find
    s.dev.host.sqs q = some x → s.dev.fetchable x = true → s.dev.host.sqs.any (fun o => o.1 != q && s.dev.goesBefore o.1 o.2 x) = false →
    (!readOk && !s.dev.host.spi) = false → (nbit 0 (byteAt (if s.dev.host.spi then s.dev.mbs (0xE0000 + (x.base + 64 * (x.head % 2 ^ x.k))
    % ringMemory) 64 else bytesAt entry 0 64) 2) && s.dev.host.inflight.any (fun f => f.sq == q)) = false → exec (.submissionFetch q entry
    readOk cqOk data same) s = .next { s with dev := (
      let b := if s.dev.host.spi then s.dev.mbs (0xE0000 + (x.base + 64 * (x.head % 2 ^ x.k)) % ringMemory) 64 else bytesAt entry 0 64
      let d := if s.dev.reserved x then s.dev else s.dev.passOver x.client x.cls
      let d := ((d.takeToken x).cqTakes x.cq cqOk).setSq q { x with head := x.head + 1, marks := x.marks.filter (fun m => decide (x.head + 1 < m.1)) }
      d.submit (hdrOf b x.client d.entryPort q) b (2 ^ 32 * x.mark + x.head) (d.paramData b data) same (s.dev.reserved x)).settle }) ∧
(∀ (q : Nat) (x : Sq) (entry : List Byte) (readOk cqOk : Bool) (data : Option (List Byte)) (same : Bool) (s : State), AList.find
    s.dev.host.sqs q = some x → s.dev.fetchable x = true → s.dev.host.sqs.any (fun o => o.1 != q && s.dev.goesBefore o.1 o.2 x) = false →
    (!readOk && !s.dev.host.spi) = false → (nbit 0 (byteAt (if s.dev.host.spi then s.dev.mbs (0xE0000 + (x.base + 64 * (x.head % 2 ^ x.k))
    % ringMemory) 64 else bytesAt entry 0 64) 2) && s.dev.host.inflight.any (fun f => f.sq == q)) = true → exec (.submissionFetch q entry
    readOk cqOk data same) s = .next { s with dev := (s.dev).settle }) ∧
(∀ (q : Nat) (x : Sq) (entry : List Byte) (readOk cqOk : Bool) (data : Option (List Byte)) (same : Bool) (s : State), AList.find
    s.dev.host.sqs q = some x → s.dev.fetchable x = true → s.dev.host.sqs.any (fun o => o.1 != q && s.dev.goesBefore o.1 o.2 x) = false →
    (!readOk && !s.dev.host.spi) = true → exec (.submissionFetch q entry readOk cqOk data same) s = .next { s with dev := ((s.dev.setSq q
    { x with stopped := true }).raise Ev.hostRingError x.client).settle }) ∧
(∀ (q : Nat) (c : Cq) (s : State), AList.find s.dev.host.cqs q = some c → exec (.heldCompletionRelease q) s = .next { s with dev :=
    (s.dev.cqRelease c.held.length q).settle }) ∧
(∀ (s : State), exec .forwardTimeout s = .next { s with dev := ((s.dev.host.forwarded.filter (fun f => !f.acked && s.dev.past (f.sent + 16
    * s.dev.framePeriod / 2))).foldl (fun (d : Dev) f => d.doneNow f.h Code.nodeLost) s.dev).settle }) ∧
(∀ (cc v : Nat) (s : State), (AList.get {} s.dev.host.vecs (32 * cc + v)).causes.isEmpty = false → exec (.vectorHoldoffExpiry cc v) s =
    .next { s with dev := (
      let x := AList.get {} s.dev.host.vecs (32 * cc + v)
      let d := s.dev.advanceTo (x.first + usCnt (s.dev.fld (A.HOST_VEC_MOD cc v) 15 0))
      if x.causes.all (d.consumed cc) then d.setVec cc v {} else d.signal cc v).settle }) ∧
(∀ (cc v : Nat) (s : State), nbit v (AList.get 0 s.dev.host.pba cc) = true → exec (.msixUnmask cc v) s = .next { s with dev := (Dev.emit
    { s.dev with host := { s.dev.host with masks := AList.put s.dev.host.masks cc (nclr v (AList.get 0 s.dev.host.masks cc)), pba := AList.put s.dev.host.pba cc (nclr v (AList.get 0 s.dev.host.pba cc)) } }
    (.vector cc v)).settle }) ∧
(∀ (p src sp : Nat) (data : List Byte) (reads : List (Option (List Byte) × Bool)) (s : State), s.dev.ringsServed = true → s.dev.rb
    A.HOST_UDP_CFG 16 = true → s.dev.fld A.HOST_UDP_CFG 17 17 = p → s.dev.udpMatch src (leAt data 4 2) = none → exec (.udpDatagram p src
    sp data reads) s = .next { s with dev := ((s.dev.wr A.HOST_UDP_DROPS (BitVec.ofNat 32 (sat 0xFFFFFFFF ((s.dev.rd
    A.HOST_UDP_DROPS).toNat + 1)))).raise Ev.udpDrop).settle }) ∧
(∀ (p src sp b : Nat) (data : List Byte) (reads : List (Option (List Byte) × Bool)) (s : State), s.dev.ringsServed = true → s.dev.rb
    A.HOST_UDP_CFG 16 = true → s.dev.fld A.HOST_UDP_CFG 17 17 = p → s.dev.udpMatch src (leAt data 4 2) = some b → leAt data 0 2 = 0x4253 →
    byteAt data 2 = 1 → 1 ≤ byteAt data 3 → byteAt data 3 ≤ 16 → data.length = 8 + 64 * byteAt data 3 → exec (.udpDatagram p src sp data
    reads) s = .next { s with dev := (
      let ents : List UdpEnt := (List.range (byteAt data 3)).map (fun i =>
        let r := reads.getD i (none, true)
        { binding := b, bytes := bytesAt data (8 + 64 * i) 64, ord := 2 ^ 32 * s.dev.host.nextOrd + i, data := r.1, keepSame := r.2 })
      (s.dev.modHost (fun q => { q with
        nextOrd := q.nextOrd + 1
        udpPeer := AList.put q.udpPeer b (sp, leAt data 6 2)
        udpQueue := q.udpQueue ++ ents })).udpPump).settle }) ∧
(∀ (rest body : List Byte) (s : State), s.dev.upd.finial = true → s.dev.running = true → s.dev.sys.mode ≠ .booting → s.dev.finialBody
    (s.dev.finialFrame rest).1 1 64 = some body → exec (.finialSubmissionFrame rest) s = .next { s with dev := (
      let b := body.take 64
      ((s.dev.finialFrame rest).2.modHost (fun q => { q with nextOrd := q.nextOrd + 1 })).submit (hdrOf b 0 .pcie finialSq) b (2 ^ 32 * s.dev.host.nextOrd) none true).settle }) ∧
(∀ (rest : List Byte) (s : State), s.dev.upd.finial = true → s.dev.running = true → s.dev.sys.mode ≠ .booting → s.dev.finialBody
    (s.dev.finialFrame rest).1 1 64 = none → s.dev.finialBody (s.dev.finialFrame rest).1 3 4160 = none → exec (.finialSubmissionFrame
    rest) s = .next { s with dev := (s.dev.modUpd (fun u => { u with frame := [] })).settle } ∧
    exec (.finialBlockFrame rest) s = .next { s with dev := (s.dev.modUpd (fun u => { u with frame := [] })).settle }) ∧
(∀ (rest body : List Byte) (s : State), s.dev.upd.finial = true → s.dev.running = true → s.dev.sys.mode ≠ .booting → s.dev.finialBody
    (s.dev.finialFrame rest).1 3 4160 = some body → exec (.finialBlockFrame rest) s = .next { s with dev := (
      let b := body.take 64
      ((s.dev.finialFrame rest).2.modHost (fun q => { q with nextOrd := q.nextOrd + 1 })).submit (hdrOf b 0 .pcie finialSq) b (2 ^ 32 * s.dev.host.nextOrd) (some (body.drop 64)) true).settle }) ∧
(∀ (s : State), s.dev.upd.finial = true → s.dev.upd.frame.isEmpty = false → exec .finialFrameTimeout s = .next { s with dev :=
    ((s.dev.advanceTo (s.dev.upd.frameAt + msCnt 100)).modUpd (fun u => { u with frame := [] })).settle }) ∧
(∀ (t : Nat) (root : Option Nat) (s : State), (s.dev.sys.pending.toList.map (·.at_) ++ s.dev.sys.rootPending.toList.map (·.2)).min? = some
    t → exec (.tickCfgApplied root) s = .next { s with dev := (
      let d := s.dev.advanceTo (s.dev.time.edge t)
      (if d.sys.tick * d.loopPeriod < t then d.closeTick else d).tickChanges t).settle }) ∧
(∀ (ft : Nat) (s : State), s.dev.sys.pending = none → s.dev.sys.rootPending = none → s.dev.isRoot = false → ft ≤ 2 → exec (.tickCfgApplied
    (some ft)) s = .next { s with dev := (s.dev.tickApply ft s.dev.sys.mult).settle })

/-- LINK_LOSS_OF_SIGNAL of a link that is not down has it fail: what waits at it fails and this end wraps. LINK_SIGNAL_DETECTED of a down
link trains it; LINK_LOCK of a training one calibrates it, or has it listen in monitor while the bypass is closed; LINK_UP of a
calibrating one carries traffic, with its wrap ended and its queue sent in order, and at a root whose both links are then unwrapped
the ring is unwrapped; LINK_RECALIBRATE of one that is up counts the 16 code errors and calibrates it again; LINK_LOCK_TIMEOUT of one
that has not come up fails it at its 16th frame period. PEER_DELAY takes the mean of the last 16 exchanges. INSERTION at its frame
with both links in monitor opens the bypass switches; with a link down it is abandoned. -/
def Obligations.RingLinks : Prop :=
(∀ (p : Nat) (s : State), (s.dev.setLink p { s.dev.link p with los := true }).linkDown p = false → exec (.linkLossOfSignal p) s = .next {
    s with dev := ((s.dev.setLink p { s.dev.link p with los := true }).linkFail p).settle }) ∧
(∀ (p : Nat) (s : State), (s.dev.setLink p { s.dev.link p with los := false }).linkDown p = true → exec (.linkSignalDetected p) s = .next
    { s with dev := ((s.dev.setLink p { s.dev.link p with los := false }).linkTo p 1).settle }) ∧
(∀ (p : Nat) (s : State), (s.dev.link p).state = 1 → exec (.linkLock p) s = .next { s with dev := (s.dev.linkTo p (if s.dev.rb
    A.FAB_STATUS 11 then 3 else 2)).settle }) ∧
(∀ (p : Nat) (s : State), ((s.dev.link p).state = 3 ∨ (s.dev.link p).state = 5) → exec (.linkUp p) s = .next { s with dev := (
      let l := s.dev.link p
      let d := (s.dev.setLink p { l with queue := [], wrapped := false }).linkTo p 4
      let d := l.queue.foldl (fun (d : Dev) q => d.sendOut q.kind q.node q.bytes q.cmd q.reserved) d
      if d.isRoot && d.rb A.FAB_STATUS 9 && !(d.link 0).wrapped && !(d.link 1).wrapped then
        (d.wb A.FAB_STATUS 9 false).modRing (fun r => { r with epochNext := true, discovering := true }) |>.raise Ev.fabUnwrap
      else d).settle }) ∧
(∀ (p : Nat) (s : State), (s.dev.link p).state = 4 → exec (.linkRecalibrate p) s = .next { s with dev := ((s.dev.setFld (A.FAB_LINK_STATUS
    p) 31 16 (sat 0xFFFF (s.dev.fld (A.FAB_LINK_STATUS p) 31 16 + 16))).linkTo p 5).settle }) ∧
(∀ (p : Nat) (s : State), ((s.dev.link p).state = 1 ∨ (s.dev.link p).state = 3 ∨ (s.dev.link p).state = 5) → exec (.linkLockTimeout p) s =
    .next { s with dev := ((s.dev.advanceTo ((s.dev.link p).since + 16 * s.dev.framePeriod / 2)).linkFail p).settle }) ∧
(∀ (p t1 t2 t3 t4 : Nat) (s : State), exec (.peerDelay p t1 t2 t3 t4) s = .next { s with dev := (
      let x : Int := ((t4 : Int) - t1 - ((t3 : Int) - t2)) / 2
      let ds := (x.toNat :: (s.dev.link p).delays).take 16
      (s.dev.setLink p { s.dev.link p with delays := ds }).setFld (A.FAB_LINK_DELAY p) 19 0 (ds.foldl (· + ·) 0 / ds.length)).settle }) ∧
(∀ (fi : Nat) (s : State), s.dev.ring.insertAt = some fi → (s.dev.link 0).state = 2 → (s.dev.link 1).state = 2 → exec .insertion s = .next
    { s with dev := ((s.dev.advanceTo (s.dev.time.edge fi)).insert).settle }) ∧
(∀ (fi : Nat) (s : State), s.dev.ring.insertAt = some fi → ((s.dev.link 0).state ≠ 2 ∨ (s.dev.link 1).state ≠ 2) → exec .insertion s =
    .next { s with dev := (s.dev.modRing (fun r => { r with insertAt := none })).settle })

/-- On a device in the ring: COMMAND_PACKET of a command for this node from another, outside BOOTING, has the command in flight here and
judged as its target; COMPLETION_PACKET of a forwarded command answers it on its ring, and notes the acceptance where it is ACCEPTED;
EVENT_PACKET of a node that is present, for a client that exists, delivers the event; READ_REQUEST in the register space answers with
the word; READ_RESPONSE of a read that waits gives its word to the host; WRITE_PACKET in the register space writes. CYCLIC_SLOT on a
running device hands the first good copy of a publication or a share in a frame on, and one with a wrong CRC is not used; STATUS_SLOT
with a good CRC records the node as seen. FABRIC_WINDOW_ACCESS to the device itself is an access here; to a node that is not present,
or without a path, it is an error and a read answers all ones; to a node present it is carried. A good SPI write frame writes its
words and answers 0x5A, a good read frame answers its words, or is counted where the host ends it before its token; a frame with a
wrong CRC or a bad header is counted and answered by 0xE1, 0xE2 or 0xFF; SPI_FRAME_VOID is counted. -/
def Obligations.RingPackets : Prop :=
(∀ (src : Nat) (b : List Byte) (data : Option (List Byte)) (same : Bool) (s : State), s.dev.onRing = true → s.dev.sys.mode ≠ .booting →
    b.length = 69 → byteAt b 6 = s.dev.node → src ≤ 63 → src ≠ s.dev.node → exec (.commandPacket src b data same) s = .next {
    s with dev := (
      let h := { hdrOf b (leAt b 64 2) (if byteAt b 68 = 1 then Port.spi else Port.pcie) (leAt b 66 2) with origin := some src }
      ((s.dev.modHost (fun q => { q with nextOrd := q.nextOrd + 1 })).fly h s.dev.node).judgeCmd h (b.take 64) (2 ^ 32 * s.dev.host.nextOrd) data same).settle }) ∧
(∀ (node : Nat) (b : List Byte) (f : Forwarded) (s : State), s.dev.host.forwarded.find? (fun f => f.h.node == node && f.h.tag == leAt b 0
    2 && f.h.sq == leAt b 32 2) = some f → s.dev.onRing = true → b.length = 34 → exec (.completionPacket node b) s = .next { s with dev :=
    (
      let status := leAt b 2 2
      let d := if status = Code.accepted then
          s.dev.modHost (fun q => { q with forwarded := q.forwarded.map (fun x => if x = f then { x with acked := true } else x) })
        else s.dev
      d.answer f.h status (b.take 32)).settle }) ∧
(∀ (node : Nat) (b : List Byte) (s : State), s.dev.onRing = true → s.dev.host.attached = true → b.length = 19 → s.dev.present node = true
    → s.dev.clientExists (leAt b 16 2) = true → exec (.eventPacket node b) s = .next { s with dev := (s.dev.deliver (fun d cc => d.raise
    Ev.evqOverflow cc) (leAt b 16 2) (byteAt b 18 % 32) (leAt b 0 2) node (byteAt b 3) (leAt b 6 2) (leAt b 8 8)).settle }) ∧
(∀ (src addr width : Nat) (v : Word) (s : State), s.dev.onRing = true → addr < 0x1000000 → exec (.readRequest src addr) s = .next {
    s with dev := (
      let x := s.dev.busRead { cc := src, port := .ring } addr 4
      x.2.sendPkt 0x05 src (leBytes 4 addr ++ leBytes 4 x.1.toNat)).settle } ∧
    exec (.writePacket src addr width v) s = .next { s with dev := (s.dev.busWrite { cc := src, port := .ring } addr width v).settle }) ∧
(∀ (node addr : Nat) (v : Word) (s : State), s.dev.onRing = true → s.dev.host.reads.any (fun x => x.1 == node && x.2.1 == addr) = true →
    exec (.readResponse node addr v) s = .next { s with dev := ((s.dev.modHost (fun q =>
    { q with reads := q.reads.eraseP (fun x => x.1 == node && x.2.1 == addr) })).emit (.read Req.manager (node * 2 ^ 24 + addr) v)).settle
    }) ∧
(∀ (node : Nat) (b : List Byte) (s : State), s.dev.running = true → leAt b 28 4 = crc32c (bytesAt b 0 28) → s.dev.ring.slotSeen.contains
    (1, node, byteAt b 25, b2n (nbit 0 (byteAt b 24))) = false → exec (.cyclicSlot (.publication node b)) s = .next { s with dev :=
    ((s.dev.modRing (fun r => { r with slotSeen := (1, node, byteAt b 25, b2n (nbit 0 (byteAt b 24))) :: r.slotSeen })).masterRecord node
    b).settle }) ∧
(∀ (home : Bool) (node g i n : Nat) (b : List Byte) (s : State), s.dev.running = true → leAt b 16 4 = crc32c (bytesAt b 0 16) →
    s.dev.ring.slotSeen.contains (if home then 2 else 3, node, 8 * g + i, n) = false → exec (.cyclicSlot (.share home node g i n b)) s =
    .next { s with dev := ((s.dev.modRing (fun r =>
    { r with slotSeen := (if home then 2 else 3, node, 8 * g + i, n) :: r.slotSeen })).lsRecord home node g i n b).settle }) ∧
(∀ (node : Nat) (b : List Byte) (s : State), leAt b 28 4 ≠ crc32c (bytesAt b 0 28) → exec (.cyclicSlot (.publication node b)) s = .next {
    s with dev := (s.dev).settle }) ∧
(∀ (home : Bool) (node g i n : Nat) (b : List Byte) (s : State), leAt b 16 4 ≠ crc32c (bytesAt b 0 16) → exec (.cyclicSlot (.share home
    node g i n b)) s = .next { s with dev := (s.dev).settle }) ∧
(∀ (node : Nat) (b : List Byte) (s : State), leAt b 12 4 = crc32c (bytesAt b 0 12) → exec (.statusSlot node b) s = .next { s with dev :=
    (s.dev.setNode node
    { s.dev.nodeSt node with seen := true, missed := 0, mode := byteAt b 1, links := byteAt b 2, state := if (s.dev.nodeSt node).state = 3 then 1 else (s.dev.nodeSt node).state }).settle
    }) ∧
(∀ (addr : Nat) (v : Word) (s : State), s.dev.pcie = true → addr / 2 ^ 24 = s.dev.node → s.dev.node ≤ 63 → exec (.fabricWindowAccess addr
    true v) s = .next { s with dev := (s.dev.busWrite Req.manager (addr % 2 ^ 24) 4 v).settle } ∧
    exec (.fabricWindowAccess addr false v) s = .next { s with dev := (s.dev.readOut Req.manager (addr % 2 ^ 24) 4).settle }) ∧
(∀ (addr : Nat) (v : Word) (s : State), s.dev.pcie = true → addr / 2 ^ 24 ≠ s.dev.node → addr / 2 ^ 24 ≤ 63 → (!s.dev.present (addr / 2 ^
    24) || s.dev.noPath) = true → exec (.fabricWindowAccess addr true v) s = .next { s with dev := (s.dev.fabErr (addr / 2 ^ 24) (addr % 2
    ^ 24) true (if s.dev.present (addr / 2 ^ 24) then Code.linkNotReady else Code.nodeLost)).settle } ∧
    exec (.fabricWindowAccess addr false v) s = .next { s with dev := ((s.dev.fabErr (addr / 2 ^ 24) (addr % 2 ^ 24) false (if s.dev.present (addr / 2 ^ 24) then Code.linkNotReady else Code.nodeLost)).emit (.read Req.manager addr 0xFFFFFFFF)).settle }) ∧
(∀ (addr : Nat) (v : Word) (s : State), s.dev.pcie = true → addr / 2 ^ 24 ≠ s.dev.node → addr / 2 ^ 24 ≤ 63 → s.dev.present (addr / 2 ^
    24) = true → s.dev.noPath = false → exec (.fabricWindowAccess addr true v) s = .next { s with dev := (s.dev.sendPkt 0x06 (addr / 2 ^
    24) (leBytes 4 (addr % 2 ^ 24) ++ leBytes 1 4 ++ leBytes 4 v.toNat)).settle } ∧
    exec (.fabricWindowAccess addr false v) s = .next { s with dev := ((s.dev.modHost (fun q => { q with reads := q.reads ++ [(addr / 2 ^ 24, addr % 2 ^ 24, s.dev.time.cnt)] })).sendPkt 0x04 (addr / 2 ^ 24) (leBytes 4 (addr % 2 ^ 24))).settle }) ∧
(∀ (f : List Byte) (s : State), s.dev.spiRuns = true → 7 + 4 * spiWords f ≤ f.length → crcFollows f (5 + 4 * spiWords f) = true →
    spiHeaderBad f 1 = false → exec (.spiWriteFrame f) s = .next { s with dev := (((List.range (spiWords f)).foldl (fun (d : Dev) i =>
    d.spaceWrite spiReq (leAt f 1 3 + 4 * i) (BitVec.ofNat 32 (leAt f (5 + 4 * i) 4))) s.dev).emit (.spi [0x5A])).settle }) ∧
(∀ (f : List Byte) (s : State), s.dev.spiRuns = true → 7 + 4 * spiWords f ≤ f.length → (!crcFollows f (5 + 4 * spiWords f) || spiHeaderBad
    f 1) = true → exec (.spiWriteFrame f) s = .next { s with dev := (if crcFollows f (5 + 4 * spiWords f) then (s.dev.spiErr 1).emit (.spi
    [0xE2]) else (s.dev.spiErr 0).emit (.spi [0xE1])).settle }) ∧
(∀ (f : List Byte) (token : Bool) (s : State), s.dev.spiRuns = true → 7 ≤ f.length → (!crcFollows f 5 || spiHeaderBad f 2) = true → exec
    (.spiReadFrame f token) s = .next { s with dev := (if crcFollows f 5 then (s.dev.spiErr 1).emit (.spi [0xFF]) else (s.dev.spiErr
    0).emit (.spi [0xFF])).settle }) ∧
(∀ (f : List Byte) (s : State), s.dev.spiRuns = true → 7 ≤ f.length → crcFollows f 5 = true → spiHeaderBad f 2 = false → exec
    (.spiReadFrame f true) s = .next { s with dev := (
      let x := s.dev.readWords spiReq (spiWords f) (leAt f 1 3)
      let bytes := (0xA5 : Byte) :: wordsLe x.1
      x.2.2.emit (.spi (bytes ++ leBytes 2 (crc16 bytes)))).settle } ∧
    exec (.spiReadFrame f false) s = .next { s with dev := (s.dev.spiErr 2).settle }) ∧
(∀ (s : State), s.dev.spiRuns = true → exec .spiFrameVoid s = .next { s with dev := (s.dev.spiErr 3).settle })

/-- DISCOVER at the root while it discovers assigns the IDs; at another running node it goes on with the UID and link states of the
device. ASSIGN of the own UID at a running node that is not the root sets the ID. MAP_MIRROR at a node that is not the root keeps the
delay and the order of the active nodes, and on the standby root copies the map. JOIN_REQUEST at the root places a joiner that is not
active and was not removed in this frame, and orders its insertion where FAB_CFG says that is automatic; JOIN_RETRY, the request being
sent and not answered, lets a random number of polls pass (the free value, notes/assumptions/1.md); INSERT_ORDER at a joiner that is
ready sets the ID and the frame. BYPASS_REQUEST at the root, of a node that is neither the root nor the standby and whose bypass keeps
every run within the limit, is granted, otherwise refused with its event; its answer is kept for the rest entry that asked.
NODE_LOST_DETECT at the root, of an active node missed in 3 frames that is not the root, loses it. ROOT_LOSS after 3 frames without a
marker has the standby take over. ISOLATION after iso_frames, at a node in the ring that is not the root and not yet isolated, stops
every axis in MOVE and lets fabric time run at rate 0. -/
def Obligations.RingMapAndRoles : Prop :=
(∀ (b : List Byte) (s : State), s.dev.isRoot = true → s.dev.ring.discovering = true → exec (.discover b) s = .next { s with dev :=
    (s.dev.assignAll (discovered b)).settle }) ∧
(∀ (b : List Byte) (s : State), s.dev.isRoot = false → s.dev.running = true → exec (.discover b) s = .next { s with dev := (s.dev.sendOut
    0x10 0xFF (b ++ s.dev.uid ++ leBytes 1 ((s.dev.link 0).state + 8 * (s.dev.link 1).state))).settle }) ∧
(∀ (id : Nat) (s : State), s.dev.isRoot = false → s.dev.running = true → exec (.assign id s.dev.uid) s = .next { s with dev :=
    ((s.dev.setFld A.FAB_STATUS 5 0 id).wb A.FAB_STATUS 6 true).settle }) ∧
(∀ (m : List MirrorEnt) (delay : Nat) (s : State), s.dev.isRoot = false → exec (.mapMirror m delay) s = .next { s with dev := (
      let active := m.filter (fun e => e.state == 1)
      let order := (List.range 64).flatMap (fun p => (active.filter (fun e => e.pos == p)).map (·.id))
      let d := s.dev.modRing (fun r => { r with monitorDelay := delay, order })
      if s.dev.rb A.FAB_STATUS 8 then m.foldl (fun (d : Dev) e => d.setNode e.id { d.nodeSt e.id with uid := e.uid, state := e.state, pos := e.pos }) d else d).settle }) ∧
(∀ (uid : List Byte) (hops id : Nat) (s : State), s.dev.isRoot = true → id = (s.dev.idOf uid).getD s.dev.freeId → (s.dev.nodeSt
    id).removed ≠ some s.dev.sys.lastFrame → (s.dev.nodeSt id).state ≠ 1 → exec (.joinRequest uid hops) s = .next { s with dev := (
      let d := s.dev.setNode id { s.dev.nodeSt id with uid, state := 4, pos := s.dev.activeCount - hops, vigil := false, insertAt := none }
      if s.dev.rb A.FAB_CFG 2 then d.orderInsert id none else d).settle }) ∧
(∀ (s : State), s.dev.ring.joinSent = true → s.dev.ring.insertAt = none → exec .joinRetry s = .next { s with dev := (s.dev.fresh.2.modRing
    (fun r => { r with joinSent := false, joinSkip := 1 + s.dev.fresh.1 % 8 })).settle }) ∧
(∀ (id fi : Nat) (s : State), s.dev.ring.ready = true → s.dev.rb A.FAB_STATUS 11 = false → exec (.insertOrder id fi) s = .next {
    s with dev := (((s.dev.modRing (fun r => { r with insertAt := some fi, joinSent := false })).setFld A.FAB_STATUS 5 0 id).wb
    A.FAB_STATUS 6 true).settle }) ∧
(∀ (node : Nat) (s : State), s.dev.isRoot = true → s.dev.bypassOk node = true → node ≠ s.dev.node → s.dev.ring.standby ≠ some node → exec
    (.bypassRequest node 0) s = .next { s with dev := (((s.dev.setNode node
    { s.dev.nodeSt node with state := 2, vigil := true }).countNodes).sendOut 0x16 node [1]).settle }) ∧
(∀ (node : Nat) (s : State), s.dev.isRoot = true → (s.dev.bypassOk node = false ∨ node = s.dev.node ∨ s.dev.ring.standby = some node) →
    exec (.bypassRequest node 0) s = .next { s with dev := ((s.dev.raise Ev.fabBypassRefused node).sendOut 0x16 node [2]).settle }) ∧
(∀ (node answer : Nat) (s : State), answer ≠ 0 → s.dev.wake.asked = true → exec (.bypassRequest node answer) s = .next { s with dev :=
    (s.dev.modWake (fun w => { w with bypassGrant := some (answer == 1) })).settle }) ∧
(∀ (node : Nat) (s : State), s.dev.isRoot = true → (s.dev.nodeSt node).state = 1 → 3 ≤ (s.dev.nodeSt node).missed → node ≠ s.dev.node →
    exec (.nodeLostDetect node) s = .next { s with dev := (
      let d := (s.dev.setNode node { s.dev.nodeSt node with state := 3 }).countNodes
      ((d.modRing (fun r => { r with discovering := true })).raise Ev.fabNodeLost node).nodeGone node).settle }) ∧
(∀ (s : State), s.dev.isRoot = false → s.dev.rb A.FAB_STATUS 8 = true → 3 ≤ s.dev.time.missing → exec .rootLoss s = .next { s with dev :=
    (s.dev.takeRoot (some (s.dev.fld A.FAB_STATUS 17 12))).settle }) ∧
(∀ (s : State), s.dev.isRoot = false → s.dev.rb A.FAB_STATUS 11 = true → s.dev.rb A.FAB_STATUS 10 = false → s.dev.fld A.FAB_CFG 15 8 ≤
    s.dev.time.missing → exec .isolation s = .next { s with dev := (
      let d := (s.dev.wb A.FAB_STATUS 10 true).raise Ev.fabIsolated
      let d := d.each d.axisList (fun d n => d.startRamp n d.sys.lastFrame 2)
      let d := d.modTime (fun t => { t with offset := t.offset + 2 * t.cnt * t.rate, rate := 0, rateNext := none, goodMarkers := 0, stepWait := none })
      d.timeTo 0).settle })

/-- On the acting root, with axis mask 0: FAB_DISCOVER starts a discovery and waits for it, renumbering only where every node reports
CONFIGURE; FAB_INSERT orders the insertion of the joining node it names, or of every joining node; FAB_REMOVE of a node that is
neither lost nor unknown, neither the root nor the standby, reports no mode in which axes move, and whose bypass keeps every run
within the limit, bypasses it 2 frame periods on and completes with that time; FAB_STANDBY names a standby that has a host and is not
the root, or none, or hands the role over to it at the next frame tick; FAB_SLOT_ALLOC reports, asks anew for the refused slots, or,
where every node reports CONFIGURE, compacts. FAB_QUERY with axis mask 0 reports on every node. -/
def Obligations.FabricCommands : Prop :=
(∀ (h : Hdr) (r : Nat) (s : State), s.dev.targetCheck 0x0801 h = none → s.dev.fabCheck h = false → (r = 0 ∨ r = 1 ∧ s.dev.allConfigure =
    true) → exec (.fabDiscover h r) s = .next { s with dev := (
      let d := s.dev.modRing (fun q => { q with discovering := true, discoverCmd := some h, renumber := r == 1 })
      (d.doneWait s.dev.ring.discoverCmd Code.done [(16, 1, d.activeCount), (17, 1, d.ring.epoch)]).sendOut 0x10 0xFF []).settle }) ∧
(∀ (h : Hdr) (id : Nat) (s : State), s.dev.targetCheck 0x0802 h = none → s.dev.fabCheck h = false → id < 64 → (s.dev.nodeSt id).state = 4
    → exec (.fabInsert h id) s = .next { s with dev := ((s.dev.joinStart h 1).orderInsert id (some h)).settle }) ∧
(∀ (h : Hdr) (s : State), s.dev.targetCheck 0x0802 h = none → s.dev.fabCheck h = false → (s.dev.nodesIn 4).isEmpty = false → exec
    (.fabInsert h 0xFF) s = .next { s with dev := ((s.dev.joinStart h (s.dev.nodesIn 4).length).each (s.dev.nodesIn 4) (fun d i =>
    d.orderInsert i (some h))).settle }) ∧
(∀ (h : Hdr) (id : Nat) (s : State), s.dev.targetCheck 0x0803 h = none → s.dev.fabCheck h = false → id < 64 → (s.dev.nodeSt id).state ≠ 3
    → (s.dev.nodeSt id).state ≠ 0 → id ≠ s.dev.node → s.dev.ring.standby ≠ some id → (s.dev.nodeSt id).mode ≠ Mode.run.code →
    (s.dev.nodeSt id).mode ≠ Mode.inspection.code → (s.dev.nodeSt id).mode ≠ Mode.degraded.code → s.dev.bypassOk id = true → exec
    (.fabRemove h id) s = .next { s with dev := (
      let t := s.dev.sys.lastFrame + 2 * s.dev.framePeriod
      let d := (s.dev.setNode id { s.dev.nodeSt id with state := 2, vigil := false, removed := some s.dev.sys.lastFrame }).countNodes
      let d := (d.sendOut 0x14 id (leBytes 8 t)).modRing (fun r => { r with epochNext := true })
      (d.nodeGone id).doneAt h Code.done [(16, 8, t)]).settle }) ∧
(∀ (h : Hdr) (s : State), s.dev.targetCheck 0x0804 h = none → s.dev.fabCheck h = false → exec (.fabStandby h 0xFF 0) s = .next {
    s with dev := ((s.dev.modRing (fun r => { r with standby := none })).doneAt h Code.done [(16, 1, 0xFF), (17, 1, s.dev.node)]).settle }) ∧
(∀ (h : Hdr) (id : Nat) (s : State), s.dev.targetCheck 0x0804 h = none → s.dev.fabCheck h = false → id < 64 → (s.dev.nodeSt id).host =
    true → id ≠ s.dev.node → exec (.fabStandby h id 0) s = .next { s with dev := ((s.dev.modRing (fun r =>
    { r with standby := some id })).doneAt h Code.done [(16, 1, id), (17, 1, s.dev.node)]).settle }) ∧
(∀ (h : Hdr) (id : Nat) (s : State), s.dev.targetCheck 0x0804 h = none → s.dev.fabCheck h = false → id < 64 → (s.dev.nodeSt id).host =
    true → id ≠ s.dev.node → exec (.fabStandby h id 1) s = .next { s with dev := (s.dev.modRing (fun r =>
    { r with standby := some id, handover := some h })).settle }) ∧
(∀ (h : Hdr) (s : State), s.dev.targetCheck 0x0805 h = none → s.dev.fabCheck h = false → exec (.fabSlotAlloc h 0) s = .next {
    s with dev := (s.dev.doneAt h Code.done [(16, 2, s.dev.cyclicUsed), (18, 2, s.dev.cyclicLimit), (20, 1,
    s.dev.ring.refused.length)]).settle }) ∧
(∀ (h : Hdr) (s : State), s.dev.targetCheck 0x0805 h = none → s.dev.fabCheck h = false → exec (.fabSlotAlloc h 1) s = .next {
    s with dev := (
      let d := s.dev.ring.refused.reverse.foldl (fun (d : Dev) e => d.slotRequest e false) s.dev
      d.doneAt h Code.done [(16, 2, d.cyclicUsed), (18, 2, d.cyclicLimit), (20, 1, d.ring.refused.length)]).settle }) ∧
(∀ (h : Hdr) (s : State), s.dev.targetCheck 0x0805 h = none → s.dev.fabCheck h = false → s.dev.allConfigure = true → exec (.fabSlotAlloc h
    2) s = .next { s with dev := (
      let d := s.dev.modRing (fun r => { r with slots := compacted (16 * s.dev.activeCount) r.slots, slotNext := some s.dev.slotFrom })
      d.doneAt h Code.done [(16, 2, d.cyclicUsed), (18, 2, d.cyclicLimit), (20, 1, d.ring.refused.length)]).settle }) ∧
(∀ (h : Hdr) (s : State), s.dev.targetCheck 0x0806 h = none → h.mask = 0 → exec (.fabQuery h) s = .next { s with dev := (s.dev.doneNow h
    Code.done [(16, 4, (s.dev.rd A.FAB_STATUS).toNat), (20, 4, (s.dev.linkWord 0).toNat), (24, 4, (s.dev.linkWord 1).toNat), (28, 4,
    s.dev.fabSlotWord.toNat)]).settle })

/-- START_MARKER at a running node that is not the root: a valid one, the first of its frame, is used for flags and time; a node in the
ring passes every one on; a joiner that is ready and outside the ring answers a valid one on ring A that polls with its request, or
lets the poll pass. At the root one on its wrapped leg goes on, and any other ends there. MARKER_MISSING at a running node that is not
the root, in a frame without one, counts it; LOCKED goes to HOLDOVER, and STEP_WAIT to LOST. TIME_LOST past the limit in LOCKED or
HOLDOVER loses the time; TIME_STEP_WAIT with 8 good markers enters STEP_WAIT, but from LOST within the step threshold LOCKED;
FABRIC_STEP in STEP_WAIT, once what is geared across devices stands, steps the time, and where the root's markers announced a step
takes that one. PTP messages: an Announce to a configured slave that ranks no worse makes it the slave, a Sync gives t2 and, in one
step, t1, a Follow_Up t1, the Delay_Req sent t3, and the Delay_Resp the offset; an instance in the master role answers a Delay_Req.
PTP_SOURCE_LOSS of a slave has it listen again with the rate held. ARP_REQUEST for the own address, if it is not 0, is answered.
TIME_QUERY with axis mask 0 reports; TIME_SRC on the root takes source 0 or an instance configured as slave; TIME_PTP_CFG with fields
in range, for a slave on the root alone, and with a transport that has its address, configures an instance. -/
def Obligations.FabricTime : Prop :=
(∀ (m : MarkerIn) (s : State), s.dev.running = true → s.dev.isRoot = false → s.dev.time.markerSeen = false → m.codeErr = false → leAt
    m.bytes 28 4 = crc32c (bytesAt m.bytes 1 27) → exec (.startMarker m) s = .next { s with dev := (
      let d := s.dev.advanceTo (min (m.stamp / 512) (s.dev.time.edge ((s.dev.sys.tick + 1) * s.dev.loopPeriod)))
      let d := (d.markerFlags m).markerTime (d.markerErr m)
      let d := if d.rb A.FAB_STATUS 11 then d.passOn m true else d
      if nbit 0 (byteAt m.bytes 3) && !nbit 0 (byteAt m.bytes 1) && d.ring.ready && !d.rb A.FAB_STATUS 11 && d.ring.insertAt.isNone then
      if d.ring.joinSkip = 0 then (d.modRing (fun r => { r with joinSent := true })).sendOut 0x12 0xFF (d.uid ++ List.replicate 28 0) else d.modRing (fun r => { r with joinSkip := r.joinSkip - 1 }) else d).settle }) ∧
(∀ (m : MarkerIn) (s : State), s.dev.running = true → s.dev.isRoot = false → (s.dev.time.markerSeen = true ∨ m.codeErr = true ∨ leAt
    m.bytes 28 4 ≠ crc32c (bytesAt m.bytes 1 27)) → s.dev.rb A.FAB_STATUS 11 = true → exec (.startMarker m) s = .next { s with dev :=
    ((s.dev.advanceTo (min (m.stamp / 512) (s.dev.time.edge ((s.dev.sys.tick + 1) * s.dev.loopPeriod)))).passOn m (!m.codeErr && leAt
    m.bytes 28 4 == crc32c (bytesAt m.bytes 1 27))).settle }) ∧
(∀ (m : MarkerIn) (s : State), s.dev.running = true → s.dev.isRoot = false → s.dev.time.markerSeen = true → m.codeErr = false → leAt
    m.bytes 28 4 = crc32c (bytesAt m.bytes 1 27) → nbit 0 (byteAt m.bytes 3) = true → nbit 0 (byteAt m.bytes 1) = false → s.dev.ring.ready
    = true → s.dev.rb A.FAB_STATUS 11 = false → s.dev.ring.insertAt = none → exec (.startMarker m) s = .next { s with dev := (
      let d := s.dev.advanceTo (min (m.stamp / 512) (s.dev.time.edge ((s.dev.sys.tick + 1) * s.dev.loopPeriod)))
      if s.dev.ring.joinSkip = 0 then (d.modRing (fun r => { r with joinSent := true })).sendOut 0x12 0xFF (s.dev.uid ++ List.replicate 28 0)
      else d.modRing (fun r => { r with joinSkip := r.joinSkip - 1 })).settle }) ∧
(∀ (m : MarkerIn) (s : State), s.dev.running = true → s.dev.isRoot = true → exec (.startMarker m) s = .next { s with dev := (if s.dev.rb
    A.FAB_STATUS 9 && nbit 1 (byteAt m.bytes 1) then s.dev.passOn m (!m.codeErr && leAt m.bytes 28 4 == crc32c (bytesAt m.bytes 1 27))
    else s.dev).settle }) ∧
(∀ (s : State), s.dev.running = true → s.dev.isRoot = false → s.dev.time.markerSeen = false → exec .markerMissing s = .next {
    s with dev := (
      let d := s.dev.modTime (fun t => { t with missing := t.missing + 1, goodMarkers := 0 })
      if s.dev.time.state = 1 then d.timeTo 2 else if s.dev.time.state = 4 then (d.modTime (fun t => { t with stepWait := none })).timeTo 3 else d).settle }) ∧
(∀ (s : State), (s.dev.time.state = 1 ∨ s.dev.time.state = 2) → (s.dev.fld A.TIME_CFG 23 16 ≤ s.dev.time.missing ∧ s.dev.time.missing ≠ 0
    ∨ 4 ≤ s.dev.time.largeErr) → exec .timeLost s = .next { s with dev := ((s.dev.modTime (fun t =>
    { t with goodMarkers := 0, largeErr := 0, stepWait := none, rateNext := none })).timeTo 3).settle }) ∧
(∀ (e : Int) (s : State), s.dev.time.stepWait = some e → (s.dev.time.state = 0 ∨ s.dev.time.state = 3 ∧ s.dev.stepThr < (e.natAbs : Int))
    → 8 ≤ s.dev.time.goodMarkers → exec .timeStepWait s = .next { s with dev := (s.dev.timeTo 4).settle }) ∧
(∀ (e : Int) (s : State), s.dev.time.stepWait = some e → s.dev.time.state = 3 → (e.natAbs : Int) ≤ s.dev.stepThr → 8 ≤
    s.dev.time.goodMarkers → exec .timeStepWait s = .next { s with dev := (((s.dev.modTime (fun t =>
    { t with stepWait := none, largeErr := 0 })).modMot (fun q => { q with syncHold := false, syncAxes := 0 })).timeTo 1).settle }) ∧
(∀ (t : Nat) (e : Int) (s : State), s.dev.time.rootStep = some (t, e) → exec .fabricStep s = .next { s with dev := ((s.dev.modTime (fun t
    => { t with rootStep := none })).stepTime e).settle }) ∧
(∀ (e : Int) (s : State), s.dev.time.rootStep = none → s.dev.time.stepWait = some e → s.dev.time.state = 4 → s.dev.syncStands = true →
    exec .fabricStep s = .next { s with dev := (
      let d := (s.dev.modTime (fun t => { t with stepWait := none, goodMarkers := 0, integral := 0 })).stepTime e
      (d.modMot (fun q => { q with syncHold := false, syncAxes := 0 })).timeTo 1).settle }) ∧
(∀ (p rank : Nat) (s : State), (s.dev.ptpOf p).cfgRole = 2 → ((s.dev.ptpOf p).best = none ∨ rank ≤ (s.dev.ptpOf p).best.getD 0) → exec
    (.ptpMessage p (.announce rank)) s = .next { s with dev := (s.dev.setPtp p { s.dev.ptpOf p with best := some rank, role := 2 }).settle
    }) ∧
(∀ (p : Nat) (origin : Option Int) (stamp : Int) (s : State), (s.dev.ptpOf p).role = 2 → exec (.ptpMessage p (.sync origin stamp)) s =
    .next { s with dev := (s.dev.setPtp p
    { s.dev.ptpOf p with t2 := some (stamp - (s.dev.ptpOf p).rxDelay), t1 := origin, t3 := none }).settle }) ∧
(∀ (p : Nat) (origin : Int) (s : State), (s.dev.ptpOf p).role = 2 → exec (.ptpMessage p (.followUp origin)) s = .next { s with dev :=
    (s.dev.setPtp p { s.dev.ptpOf p with t1 := some origin }).settle }) ∧
(∀ (p : Nat) (stamp : Int) (s : State), (s.dev.ptpOf p).role = 2 → exec (.ptpMessage p (.delayReqSent stamp)) s = .next { s with dev :=
    (s.dev.setPtp p { s.dev.ptpOf p with t3 := some (stamp + (s.dev.ptpOf p).txDelay) }).settle }) ∧
(∀ (p : Nat) (t1 t2 t3 t4 : Int) (s : State), (s.dev.ptpOf p).role = 2 → (s.dev.ptpOf p).t1 = some t1 → (s.dev.ptpOf p).t2 = some t2 →
    (s.dev.ptpOf p).t3 = some t3 → exec (.ptpMessage p (.delayResp t4)) s = .next { s with dev := ((s.dev.setPtp p
    { s.dev.ptpOf p with t1 := none, t2 := none, t3 := none }).ptpOffset p (((t2 - t1) - (t4 - t3)) / 2)).settle }) ∧
(∀ (p : Nat) (stamp : Int) (who : List Byte) (s : State), (s.dev.ptpOf p).role = 1 → exec (.ptpMessage p (.delayReq stamp who)) s = .next
    { s with dev := (s.dev.emit (.eth p (leBytes 8 (ofSigned 64 (stamp - (s.dev.ptpOf p).rxDelay)) ++ who))).settle }) ∧
(∀ (p : Nat) (s : State), (s.dev.ptpOf p).role = 2 → exec (.ptpSourceLoss p) s = .next { s with dev := (
      let d := (s.dev.setPtp p { s.dev.ptpOf p with role := 3, best := none, t1 := none, t2 := none, t3 := none }).ptpLocked false
      d.modTime (fun t => { t with rateNext := none })).settle }) ∧
(∀ (p target : Nat) (sender : List Byte) (s : State), target = (s.dev.rd (A.HOST_ETH_IP p)).toNat → target ≠ 0 → exec (.arpRequest p
    target sender) s = .next { s with dev := (s.dev.emit (.eth p (beBytes 2 1 ++ beBytes 2 0x0800 ++ [6, 4] ++ beBytes 2 2 ++ (List.range
    6).map (Config.mac p) ++ leBytes 4 target ++ bytesAt sender 0 10))).settle }) ∧
(∀ (h : Hdr) (s : State), s.dev.targetCheck 0x0901 h = none → h.mask = 0 → exec (.timeQuery h) s = .next { s with dev := (s.dev.doneNow h
    Code.done [(16, 8, s.dev.now), (24, 4, s.dev.timeStatusWord.toNat), (28, 4, (s.dev.rd A.TIME_ERR).toNat)]).settle }) ∧
(∀ (h : Hdr) (src : Nat) (s : State), s.dev.targetCheck 0x0902 h = none → h.mask = 0 → src ≤ 2 → s.dev.isRoot = true → (src = 0 ∨
    (s.dev.ptpOf (src - 1)).cfgRole = 2) → exec (.timeSrc h src) s = .next { s with dev := ((s.dev.modTime (fun t =>
    { t with source := src })).doneAt h Code.done [(16, 1, src)]).settle }) ∧
(∀ (h : Hdr) (b : List Byte) (s : State), s.dev.targetCheck 0x0903 h = none → h.mask = 0 → byteAt b 16 ≤ 1 → byteAt b 17 ≤ 2 → byteAt b 18
    ≤ 127 → byteAt b 19 ≤ 3 → (byteAt b 17 = 2 → s.dev.isRoot = true) → (byteAt b 17 = 0 ∨ nbit 1 (byteAt b 19) = true ∨ s.dev.rd
    (A.HOST_ETH_IP (byteAt b 16)) ≠ 0) → exec (.timePtpCfg h b) s = .next { s with dev := (
      let d := s.dev.setPtp (byteAt b 16) { cfgRole := byteAt b 17, role := if byteAt b 17 = 2 then 3 else byteAt b 17, domain := byteAt b 18, flags := byteAt b 19, rxDelay := leAt b 20 4, txDelay := leAt b 24 4, prio1 := byteAt b 28, prio2 := byteAt b 29, configured := true }
      let d := if byteAt b 17 ≠ 2 ∧ d.time.source = byteAt b 16 + 1 then d.modTime (fun t => { t with source := 0 }) else d
      d.doneAt h Code.done [(16, 4, (d.rd A.TIME_PTP_STATUS).toNat)]).settle })

/-- A channel that is ready, the device running, takes the descriptor at its head as dmaRun says: one that breaks R381 or R382, or whose
source it may not read, stops the channel as a local fault; one between host addresses of a PCIe host with no flag but the event moves
its bytes, its bursts paced, advances the head and the count of descriptors, and raises the event. In trigger mode it also uses a
credit. A read failure of kinds 1 to 6 while a channel with a read outstanding runs halts every running channel and marks the
candidates. The probe that runs clears its candidate when it succeeds, and stops the channel with its kind when it fails. The end of
the hold clears it. -/
def Obligations.DmaEngine : Prop :=
(∀ (c : Nat) (desc data : List Byte) (s : State), s.dev.running = true → s.dev.dmaReady c = true → s.dev.rb (A.DMA_CH_TRIG c) 15 = false →
    exec (.dmaDescriptorEnd c desc data) s = .next { s with dev := (s.dev.dmaRun c desc data).settle }) ∧
(∀ (c : Nat) (desc data : List Byte) (s : State), s.dev.running = true → s.dev.dmaReady c = true → s.dev.rb (A.DMA_CH_TRIG c) 15 = true →
    exec (.dmaDescriptorEnd c desc data) s = .next { s with dev := ((s.dev.modCh c (fun x => { x with credits := x.credits - 1 })).dmaRun
    c desc data).settle }) ∧
(∀ (c : Nat) (desc data : List Byte) (s : State), s.dev.running = true → s.dev.dmaReady c = true → s.dev.rb (A.DMA_CH_TRIG c) 15 = false →
    (descReserved desc || (descOf desc).skew || !(descOf desc).sourceOk) = true → exec (.dmaDescriptorEnd c desc data) s = .next {
    s with dev := (((s.dev.dmaPace c 0).modCh c (fun x => { x with state := .error, errKind := 7, pos := 0 })).raise Ev.dmaChError
    c).settle }) ∧
(∀ (c : Nat) (desc data : List Byte) (s : State), s.dev.running = true → s.dev.dmaReady c = true → s.dev.rb (A.DMA_CH_TRIG c) 15 = false →
    descReserved desc = false → s.dev.host.spi = false → (descOf desc).flags = 32 → exec (.dmaDescriptorEnd c desc data) s = .next {
    s with dev := (
      let d := (s.dev.dmaPace c (descOf desc).len).hostPut (descOf desc).dst (bytesAt data 0 (descOf desc).len)
      ((d.modCh c (fun y => { y with head := (y.head + 1) % 2 ^ d.fld (A.DMA_CH_CFG c) 7 4, pos := 0 })).incSat (A.DMA_CH_STATUS c) 31 16).raise Ev.dmaDescIrq c).settle }) ∧
(∀ (k o : Nat) (s : State), 1 ≤ k → k ≤ 6 → ((List.range 32).filter (fun c => (s.dev.ch c).state == .run)).any (fun c => nbit c o) = true
    → exec (.dmaReadFailure k o) s = .next { s with dev := (
      let d := s.dev.each ((List.range 32).filter (fun c => (s.dev.ch c).state == .run)) (fun d c => d.modCh c (fun x => { x with state := .halted, cand := x.cand || nbit c o }))
      let d := (d.setFld A.DMA_STATUS 7 4 k).incSat A.DMA_STATUS 31 16
      (d.wr64 A.DMA_HALT_T_LO d.now).raise Ev.dmaHalted).settle }) ∧
(∀ (c k : Nat) (s : State), s.dev.dma.probing = some c → exec (.dmaProbeEnd true k) s = .next { s with dev := ((s.dev.modDma (fun q =>
    { q with probing := none })).modCh c (fun x => { x with state := .halted, cand := false, probeOk := true })).settle } ∧
    exec (.dmaProbeEnd false k) s = .next { s with dev := ((((s.dev.modDma (fun q => { q with probing := none })).modCh c (fun x => { x with state := .error, cand := false, errKind := k % 16 })).raise Ev.dmaChError c).dmaSettled s.dev.dmaStuck).settle }) ∧
(∀ (t : Nat) (s : State), s.dev.dma.holdEnd = some t → exec .dmaHoldExpiry s = .next { s with dev := (((s.dev.advanceTo t).modDma (fun q
    => { q with holdEnd := none })).wr A.TEST_DMA_HOLD 0).settle })

/-- The raw level of a channel always follows its comparator; the filtered level only after the filter time and where it differs, with an
event where that edge is enabled. A current that has been low, or not low, for wb_ms sets or clears the wire-break condition of an
input that detects it while VFIELD is not low; a shorter one does nothing. Overload of an output that is driven, thermal shutdown, and
a readback that disagrees 100 us after the last change set the conditions of an output, their ends clear them, and dio_fault follows.
A level of VFIELD that changes no flag only updates the measurement; one that does sets the flags, the change flag and its event, and
the outputs follow; where undervoltage takes away what Keep or Turret permits, the device reacts as to a readback that differs.
FIO_WRITE with axis mask 0, of outputs, writes them and reports both registers; of a channel that is none it completes WRONG_MODE.
FIO_QUERY with axis mask 0 reports. BELFRY_SAMPLE with sampling on and not stopped, VSYS present, samples every slot, steps the rules,
and ends the hold of each whose condition no longer stands. -/
def Obligations.FieldChannels : Prop :=
(∀ (c held : Nat) (raw : Bool) (s : State), c < 32 → (held < s.dev.fld (A.FIELD_CH_CFG c) 19 8 ∨ (raw != s.dev.rb (A.FIELD_CH_CFG c) 2) =
    s.dev.rb A.FIELD_LEVEL c) → SMap.wf regReset s.dev.regs = true → exec (.fieldInputEdge c raw held) s = .next { s with dev := (s.dev.wb
    A.FIELD_RAW c raw).settle }) ∧
(∀ (c held : Nat) (raw : Bool) (s : State), c < 32 → s.dev.fld (A.FIELD_CH_CFG c) 19 8 ≤ held → (raw != s.dev.rb (A.FIELD_CH_CFG c) 2) ≠
    s.dev.rb A.FIELD_LEVEL c → SMap.wf regReset s.dev.regs = true → exec (.fieldInputEdge c raw held) s = .next { s with dev := (
      let lv := raw != bit 2 (s.dev.rd (A.FIELD_CH_CFG c))
      let d := (s.dev.wb A.FIELD_RAW c raw).wb A.FIELD_LEVEL c lv
      if (if lv then bit 6 (s.dev.rd (A.FIELD_CH_CFG c)) else bit 7 (s.dev.rd (A.FIELD_CH_CFG c))) then d.raise (Ev.fioEdge c) else d).settle }) ∧
(∀ (c ms : Nat) (low : Bool) (s : State), s.dev.fld (A.FIELD_CH_CFG c) 31 24 ≤ ms → s.dev.isOutput c = false → s.dev.rb (A.FIELD_CH_CFG c)
    3 = true → s.dev.rb A.FIELD_STATUS 2 = false → exec (.wireBreak c ⟨low, ms⟩) s = .next { s with dev := ((s.dev.setFch c
    { s.dev.fch c with wire := low }).dioRefresh).settle }) ∧
(∀ (c ms : Nat) (low : Bool) (s : State), ms < s.dev.fld (A.FIELD_CH_CFG c) 31 24 → exec (.wireBreak c ⟨low, ms⟩) s = .next {
    s with dev := (s.dev).settle }) ∧
(∀ (c : Nat) (s : State), s.dev.isOutput c = true → s.dev.rb A.FIELD_OUT_EFF c = true → exec (.dioFault c .overload) s = .next {
    s with dev := ((s.dev.setFch c { s.dev.fch c with overload := true }).dioRefresh).settle }) ∧
(∀ (c : Nat) (s : State), s.dev.isOutput c = true → exec (.dioFault c .readback) s = .next { s with dev := (((s.dev.advanceTo ((s.dev.fch
    c).effAt + usCnt 100)).setFch c { s.dev.fch c with readback := true }).dioRefresh).settle } ∧
    exec (.dioFaultEnd c .overload) s = .next { s with dev := ((s.dev.setFch c { s.dev.fch c with overload := false }).dioRefresh).settle } ∧
    exec (.dioFaultEnd c .readback) s = .next { s with dev := ((s.dev.setFch c { s.dev.fch c with readback := false }).dioRefresh).settle }) ∧
(∀ (c : Nat) (s : State), s.dev.isOutput c = true → exec (.thermalShutdown c) s = .next { s with dev := ((s.dev.setFch c
    { s.dev.fch c with thermal := true }).dioRefresh).settle } ∧
    exec (.thermalRestart c) s = .next { s with dev := ((s.dev.setFch c { s.dev.fch c with thermal := false }).dioRefresh).settle }) ∧
(∀ (mv held : Nat) (low uv ov : Bool) (s : State), low = hyst (s.dev.rb A.FIELD_STATUS 2) (decide (mv < 18000) && decide (100 ≤ held))
    (decide (18500 < mv) && decide (100 ≤ held)) → uv = hyst (s.dev.rb A.FIELD_STATUS 3) (decide (mv < 14000) && decide (10 ≤ held))
    (decide (18500 < mv) && decide (10000 ≤ held)) → ov = hyst (s.dev.rb A.FIELD_STATUS 4) (decide (33000 < mv) && decide (10 ≤ held))
    (decide (mv < 31000) && decide (10 ≤ held)) → (s.dev.rb A.FIELD_STATUS 2 != low || s.dev.rb A.FIELD_STATUS 3 != uv || s.dev.rb
    A.FIELD_STATUS 4 != ov) = false → exec (.vfieldChange mv held) s = .next { s with dev := (s.dev.setFld A.FIELD_VFIELD 15 0 (sat 0xFFFF
    mv)).settle }) ∧
(∀ (mv held : Nat) (low uv ov : Bool) (s : State), low = hyst (s.dev.rb A.FIELD_STATUS 2) (decide (mv < 18000) && decide (100 ≤ held))
    (decide (18500 < mv) && decide (100 ≤ held)) → uv = hyst (s.dev.rb A.FIELD_STATUS 3) (decide (mv < 14000) && decide (10 ≤ held))
    (decide (18500 < mv) && decide (10000 ≤ held)) → ov = hyst (s.dev.rb A.FIELD_STATUS 4) (decide (33000 < mv) && decide (10 ≤ held))
    (decide (mv < 31000) && decide (10 ≤ held)) → (s.dev.rb A.FIELD_STATUS 2 != low || s.dev.rb A.FIELD_STATUS 3 != uv || s.dev.rb
    A.FIELD_STATUS 4 != ov) = true → (uv && !s.dev.rb A.FIELD_STATUS 3 && (s.dev.stoMask != 15 || s.dev.outMask != 0)) = false → exec
    (.vfieldChange mv held) s = .next { s with dev := (
      let d := s.dev.setFld A.FIELD_VFIELD 15 0 (sat 0xFFFF mv)
      let d := ((d.wb A.FIELD_STATUS 2 low).wb A.FIELD_STATUS 3 uv).wb A.FIELD_STATUS 4 ov
      let d := if low then d.each (List.range 32) (fun d c => d.setFch c { d.fch c with wire := false }) else d
      let d := ((d.wb A.FIELD_STATUS 5 true).raise Ev.vfieldChange).fieldRefresh
      d.refreshOuts).settle }) ∧
(∀ (mv held : Nat) (low uv ov : Bool) (s : State), low = hyst (s.dev.rb A.FIELD_STATUS 2) (decide (mv < 18000) && decide (100 ≤ held))
    (decide (18500 < mv) && decide (100 ≤ held)) → uv = hyst (s.dev.rb A.FIELD_STATUS 3) (decide (mv < 14000) && decide (10 ≤ held))
    (decide (18500 < mv) && decide (10000 ≤ held)) → ov = hyst (s.dev.rb A.FIELD_STATUS 4) (decide (33000 < mv) && decide (10 ≤ held))
    (decide (mv < 31000) && decide (10 ≤ held)) → (s.dev.rb A.FIELD_STATUS 2 != low || s.dev.rb A.FIELD_STATUS 3 != uv || s.dev.rb
    A.FIELD_STATUS 4 != ov) = true → (uv && !s.dev.rb A.FIELD_STATUS 3 && (s.dev.stoMask != 15 || s.dev.outMask != 0)) = true → exec
    (.vfieldChange mv held) s = .next { s with dev := (
      let d := s.dev.setFld A.FIELD_VFIELD 15 0 (sat 0xFFFF mv)
      let d := ((d.wb A.FIELD_STATUS 2 low).wb A.FIELD_STATUS 3 uv).wb A.FIELD_STATUS 4 ov
      let d := if low then d.each (List.range 32) (fun d c => d.setFch c { d.fch c with wire := false }) else d
      let d := ((d.wb A.FIELD_STATUS 5 true).raise Ev.vfieldChange).fieldRefresh
      if d.safetyRuns then d.deviceReaction 0x0E true true else d.refreshOuts).settle }) ∧
(∀ (h : Hdr) (mask v : Nat) (s : State), s.dev.targetCheck 0x0601 h = none → h.mask = 0 → (maskList 32 mask).any (fun c => !s.dev.isOutput
    c) = false → exec (.fioWrite h mask v) s = .next { s with dev := (
      let d := s.dev.fieldOut mask v
      d.doneAt h Code.done [(16, 4, (d.rd A.FIELD_OUT).toNat), (20, 4, (d.rd A.FIELD_OUT_EFF).toNat)]).settle }) ∧
(∀ (h : Hdr) (mask v : Nat) (s : State), s.dev.targetCheck 0x0601 h = none → h.mask = 0 → (maskList 32 mask).any (fun c => !s.dev.isOutput
    c) = true → exec (.fioWrite h mask v) s = .next { s with dev := (s.dev.doneAt h Code.wrongMode [(16, 4, (s.dev.rd A.FIELD_OUT).toNat),
    (20, 4, (s.dev.rd A.FIELD_OUT_EFF).toNat)]).settle }) ∧
(∀ (h : Hdr) (s : State), s.dev.targetCheck 0x0602 h = none → h.mask = 0 → exec (.fioQuery h) s = .next { s with dev := (s.dev.doneNow h
    Code.done [(16, 4, (s.dev.rd A.FIELD_LEVEL).toNat), (20, 4, (s.dev.rd A.FIELD_OUT).toNat), (24, 4, (s.dev.rd A.FIELD_STATUS).toNat),
    (28, 4, (s.dev.rd A.FIELD_VFIELD).toNat)]).settle }) ∧
(∀ (a0 a1 : Nat) (s : State), s.dev.rb A.BELFRY_CFG 0 = true → s.dev.bel.stopped = false → s.dev.pwr.vsysAbsent = false → exec
    (.belfrySample a0 a1) s = .next { s with dev := (
      let d := s.dev.each (List.range 18) (Dev.slotSample · a0 a1 ·)
      let x := (List.range 32).foldl Dev.ruleStep ([], d)
      (x.2.modWake (fun w => { w with rules := w.rules.filter (fun r => x.2.rb A.BELFRY_RULE_STATE r) })).ruleWake x.1).settle })

/-- On a controller that runs: a frame is counted as received and stored as the filters say; an entry that was sent completes with its
count of retries and its SOF time, and the next starts; one that was not is sent again; a reference that was sent advances the
sequence number. A bus error sets its kind and its counter, by 8 as transmitter and by 1 as receiver. Bus off stops what is on the
bus, counts and changes the state; recovery begins at the first 11 recessive bits and ends at 128 of them with both counters 0. A
reference that is due is sent, or skipped while the one before is unsent. CAN_TIME_MASTER sets both registers; CAN_QUERY reports; a
delayed acknowledge index takes effect. -/
def Obligations.CanControllers : Prop :=
(∀ (k : Nat) (f : CanFrame) (s : State), s.dev.canRuns k = true → s.dev.fld (A.CAN_STATUS k) 1 0 < 2 → s.dev.fld (A.CAN_CTRL k) 2 1 ≠ 2 →
    nbit 0 f.flags = false → exec (.canRx k f) s = .next { s with dev := (((s.dev.seenAt f.sof).canRxGood k).canStore k f).settle }) ∧
(∀ (k sof : Nat) (s : State), s.dev.canRuns k = true → (s.dev.can k).bus = some .entry → exec (.canTxDone k true sof) s = .next {
    s with dev := (
      let d := s.dev.seenAt sof
      let d := (d.canCounts k (d.fld (A.CAN_STATUS k) 24 16 - 1) (d.fld (A.CAN_STATUS k) 15 8)).canMeasured k
      let d := if d.fld (A.CAN_CTRL k) 2 1 = 2 then d.canStore k (d.canOwn k sof) else d
      d.canEnd k 1 sof).settle }) ∧
(∀ (k sof : Nat) (s : State), s.dev.canRuns k = true → (s.dev.can k).bus = some .entry → (s.dev.can k).abortTo = none → exec (.canTxDone k
    false sof) s = .next { s with dev := (
      let d := s.dev.seenAt sof
      let a := canSlot k true (d.cnt16 (A.CAN_TX_DONE k))
      (d.modCan k (fun x => { x with tries := sat 255 (x.tries + 1) })).emit (.can k (d.mbs a (16 + canLen (d.mb (a + 4)).toNat (d.mb (a + 5)).toNat)))).settle }) ∧
(∀ (k sof : Nat) (s : State), s.dev.canRuns k = true → (s.dev.can k).bus = some .reference → exec (.canTxDone k true sof) s = .next {
    s with dev := (
      let d := s.dev.seenAt sof
      let d := d.canCounts k (d.fld (A.CAN_STATUS k) 24 16 - 1) (d.fld (A.CAN_STATUS k) 15 8)
      Dev.canStart 65 (d.modCan k (fun x => { x with bus := none, seq := (x.seq + 1) % 128, lastValid := x.curValid, prevSof := sof })) k).settle }) ∧
(∀ (k lec : Nat) (tx : Bool) (s : State), s.dev.canRuns k = true → s.dev.fld (A.CAN_STATUS k) 1 0 < 2 → 1 ≤ lec → lec ≤ 6 → exec
    (.canBusError k lec tx) s = .next { s with dev := (
      let d := s.dev.setFld (A.CAN_STATUS k) 4 2 lec
      let t := d.fld (A.CAN_STATUS k) 24 16
      let r := d.fld (A.CAN_STATUS k) 15 8
      if tx then d.canCounts k (t + 8) r else d.canCounts k t (r + 1)).settle }) ∧
(∀ (k : Nat) (s : State), s.dev.canRuns k = true → 255 < s.dev.fld (A.CAN_STATUS k) 24 16 → s.dev.fld (A.CAN_STATUS k) 1 0 < 2 →
    (s.dev.can k).abortTo = none → exec (.canBusOff k) s = .next { s with dev := (((s.dev.modCan k (fun x =>
    { x with bus := none, refPending := x.refPending || x.bus == some .reference, recessive := 0 })).incSat (A.CAN_COUNT k) 31
    16).canState k 2).settle }) ∧
(∀ (k n : Nat) (s : State), s.dev.canRuns k = true → 2 ≤ s.dev.fld (A.CAN_STATUS k) 1 0 → 1 ≤ n → (s.dev.can k).recessive + n < 128 → exec
    (.canBusOffRecovery k n) s = .next { s with dev := ((s.dev.modCan k (fun x =>
    { x with recessive := (s.dev.can k).recessive + n })).canState k 3).settle }) ∧
(∀ (k n : Nat) (s : State), s.dev.canRuns k = true → 2 ≤ s.dev.fld (A.CAN_STATUS k) 1 0 → 1 ≤ n → 128 ≤ (s.dev.can k).recessive + n → exec
    (.canBusOffRecovery k n) s = .next { s with dev := (
      let d := s.dev.modCan k (fun x => { x with recessive := (s.dev.can k).recessive + n })
      Dev.canStart 65 (((d.setFld (A.CAN_STATUS k) 24 16 0).setFld (A.CAN_STATUS k) 15 8 0).canState k 0) k).settle }) ∧
(∀ (k : Nat) (s : State), s.dev.rb (A.CAN_TM_CFG k) 10 = true → s.dev.canRuns k = true → (s.dev.can k).refNext ≤ (s.dev.seenAt (s.dev.can
    k).refNext).now → ((s.dev.seenAt (s.dev.can k).refNext).can k).refPending = false → ((s.dev.seenAt (s.dev.can k).refNext).can k).bus ≠
    some .reference → exec (.canReference k) s = .next { s with dev := (
      let t := (s.dev.can k).refNext
      let d := s.dev.seenAt t
      let d := d.modCan k (fun x => { x with refNext := t + 1000000 * d.fld (A.CAN_TM_CFG k) 9 0 })
      Dev.canStart 65 (d.modCan k (fun x => { x with refPending := true })) k).settle }) ∧
(∀ (k : Nat) (s : State), s.dev.rb (A.CAN_TM_CFG k) 10 = true → s.dev.canRuns k = true → (s.dev.can k).refNext ≤ (s.dev.seenAt (s.dev.can
    k).refNext).now → ((s.dev.seenAt (s.dev.can k).refNext).can k).refPending = true → exec (.canReference k) s = .next { s with dev := (
      let t := (s.dev.can k).refNext
      let d := s.dev.seenAt t
      let d := d.modCan k (fun x => { x with refNext := t + 1000000 * d.fld (A.CAN_TM_CFG k) 9 0 })
      (d.modCan k (fun x => { x with skips := sat 0xFFFF (x.skips + 1), fresh := true })).raise (Ev.canRefSkip k)).settle }) ∧
(∀ (h : Hdr) (b : List Byte) (s : State), s.dev.targetCheck 0x0603 h = none → h.mask = 0 → byteAt b 16 ≤ 3 → byteAt b 17 ≤ 7 → 1 ≤ leAt b
    18 2 → leAt b 18 2 ≤ 1000 → leAt b 20 4 < 2 ^ 29 → s.dev.rb (A.CAN_CTRL (byteAt b 16)) 0 = true → (nbit 1 (byteAt b 17) && !s.dev.rb
    (A.CAN_CTRL (byteAt b 16)) 3) = false → exec (.canTimeMaster h b) s = .next { s with dev := (
      let d := s.dev.wr (A.CAN_TM_ID (byteAt b 16)) (BitVec.ofNat 32 (leAt b 20 4))
      let d := d.canTmCfg (byteAt b 16) (BitVec.ofNat 32 (leAt b 18 2 + 2 ^ 10 * byteAt b 17))
      d.doneAt h Code.done [(16, 4, (d.canTmWord (byteAt b 16)).toNat)]).settle }) ∧
(∀ (h : Hdr) (k : Nat) (s : State), s.dev.targetCheck 0x0604 h = none → h.mask = 0 → k ≤ 3 → exec (.canQuery h k) s = .next {
    s with dev := (s.dev.doneNow h Code.done [(16, 4, (s.dev.rd (A.CAN_STATUS k)).toNat), (20, 2, s.dev.cnt16 (A.CAN_RX_WP k)), (22, 2,
    s.dev.cnt16 (A.CAN_TX_DONE k)), (24, 4, (s.dev.rd (A.CAN_COUNT k)).toNat), (28, 4, (s.dev.canTmWord k).toNat)]).settle }) ∧
(∀ (k : Nat) (x : CanDelay) (rest : List CanDelay) (s : State), (s.dev.can k).delays = x :: rest → exec (.canAckDelayExpiry k) s = .next {
    s with dev := (((s.dev.advanceTo x.at_).modCan k (fun c => { c with delays := rest })).setFld (if x.tx then A.CAN_TX_ACK k else
    A.CAN_RX_ACK k) 15 0 x.v).settle })

/-- A frame received by a running UART that does not mute itself sets the UART's error flag where it has a parity, framing or break flag,
and joins the receive queue with those flags, raising the receive event where the queue reaches its threshold; with 64 words waiting
it is lost with rx_ovr. One it mutes is no frame, and UART 0 under Finial gives its bytes to Finial. At the end of a byte sent, its
frame having gone, the next one is taken, its time following on and the driver enable held on, or, with none waiting, the idle event
is raised, the driver enable to fall after its lag. -/
def Obligations.UartBytes : Prop :=
(∀ (n bits : Nat) (parity stop : Bool) (s : State), n < 2 → s.dev.uartRuns n = true → (s.dev.rb (A.UART_CFG n) 7 && s.dev.deOn n) = false
    → ¬ (n = 0 ∧ s.dev.upd.finial = true) → exec (.uartRxByte n bits parity stop) s = .next { s with dev := (
      let w := s.dev.uartWord n bits parity stop
      let d := if field 10 8 w ≠ 0 then s.dev.flag (A.UART_STATUS n) 18 (Ev.uartErr n) n else s.dev
      let e := d.modUart n (fun u => { u with rx := u.rx ++ [w] })
      if 64 ≤ (d.uart n).rx.length then d.flag (A.UART_STATUS n) 16 (Ev.uartErr n) n else if (e.uart n).rx.length = e.fld (A.UART_RX_THR n) 6 0 then e.raise (Ev.uartRx n) n else e).settle }) ∧
(∀ (n bits : Nat) (parity stop : Bool) (s : State), s.dev.rb (A.UART_CFG n) 7 = true → s.dev.deOn n = true → ¬ (n = 0 ∧ s.dev.upd.finial =
    true) → exec (.uartRxByte n bits parity stop) s = .next { s with dev := (s.dev).settle }) ∧
(∀ (bits : Nat) (parity stop : Bool) (s : State), s.dev.upd.finial = true → exec (.uartRxByte 0 bits parity stop) s = .next {
    s with dev := (s.dev.finialByte (BitVec.ofNat 8 bits) stop).settle }) ∧
(∀ (n : Nat) (b : Byte) (s : State), s.dev.uartRuns n = true → (s.dev.uart n).shift = some b → (s.dev.uart n).tx = [] → exec
    (.uartTxByteSent n) s = .next { s with dev := (
      let d := (s.dev.advanceTo (((s.dev.uart n).endAt + 7) / 8)).modUart n (fun u => { u with shift := none, deEnd := u.endAt + field 15 12 (s.dev.rd (A.UART_CFG n)) * s.dev.uartBit n })
      (d.emit (.uart n (uartFrame (s.dev.rd (A.UART_CFG n)) b))).raise (Ev.uartTxIdle n) n).settle }) ∧
(∀ (n : Nat) (b c : Byte) (rest : List Byte) (s : State), s.dev.uartRuns n = true → (s.dev.uart n).shift = some b → (s.dev.uart n).tx = c
    :: rest → exec (.uartTxByteSent n) s = .next { s with dev := (
      let d := (s.dev.advanceTo (((s.dev.uart n).endAt + 7) / 8)).modUart n (fun u => { u with shift := none, deEnd := u.endAt + field 15 12 (s.dev.rd (A.UART_CFG n)) * s.dev.uartBit n })
      let d := d.emit (.uart n (uartFrame (s.dev.rd (A.UART_CFG n)) b))
      let lead := if bit 5 (d.rd (A.UART_CFG n)) && !d.deOn n then field 11 8 (d.rd (A.UART_CFG n)) else 0
      d.modUart n (fun u => { u with shift := some c, tx := rest, de := bit 5 (d.rd (A.UART_CFG n)), endAt := max u.endAt (8 * d.time.cnt) + (lead + (uartFrame (d.rd (A.UART_CFG n)) c).length) * d.uartBit n })).settle })

/-- UPD_BEGIN in a mode that allows it, with no session and no trial, opens a session on the slot that is not active: it clears that slot
and any pending record of it, and completes at the end of the erase; a bad length is IMAGE_REJECTED 4. UPD_BLOCK is refused with the
first reason, answered at once where the block is there, and otherwise queued for programming, whose end completes it. UPD_ACTIVATE of
a whole image begins the verification; of one with blocks missing it is IMAGE_REJECTED 7. A verified slot becomes pending; a refused
one invalid; both end the session. The commit of a trial raises the anti-rollback steps to the running slot's version at the end and
makes it active. UPD_CANCEL withdraws the pending slot; UPD_QUERY reports. A failed flash operation is reason 0x0A. -/
def Obligations.UpdateSessions : Prop :=
(∀ (h : Hdr) (length : Nat) (s : State), s.dev.targetCheck 0x0A01 h = none → h.mask = 0 → s.dev.upd.session = none → s.dev.upd.trial =
    false → s.dev.sys.mode ∈ [Mode.configure, .ready, .run, .safeHold, .recovery, .prodTest] → 8192 ≤ length → length ≤ 8388608 → length %
    4096 = 0 → exec (.updBegin h length) s = .next { s with dev := (
      let slot := 1 - s.dev.bootRec.active
      let d := if s.dev.bootRec.pending = some slot then s.dev.putBoot (fun r => { r with pending := none }) else s.dev
      let d := d.setSlot slot {}
      d.modUpd (fun u => { u with session := some { slot, length, blocks := length / 4096, phase := 1, cmd := some h } })).settle }) ∧
(∀ (h : Hdr) (length : Nat) (s : State), s.dev.targetCheck 0x0A01 h = none → h.mask = 0 → s.dev.upd.session = none → s.dev.upd.trial =
    false → s.dev.sys.mode = .configure → (length < 8192 ∨ 8388608 < length ∨ length % 4096 ≠ 0) → exec (.updBegin h length) s = .next {
    s with dev := ((s.dev.modUpd (fun u => { u with reason := 4 })).doneAt h Code.imageRejected [(16, 1, 1 - s.dev.bootRec.active), (18,
    2, length / 4096)]).settle }) ∧
(∀ (x : UpdSess) (s : State), s.dev.upd.session = some x → x.phase = 1 → s.dev.flashRuns = true → exec .updErased s = .next {
    s with dev := (
      let d := s.dev.setSlot x.slot { state := 1 }
      let d := d.modUpd (fun u => { u with session := some { x with phase := 2, cmd := none } })
      (d.raise Ev.updErased).doneWait x.cmd Code.done [(16, 1, x.slot), (18, 2, x.blocks)]).settle }) ∧
(∀ (h : Hdr) (index crc : Nat) (b : List Byte) (x : UpdSess) (s : State), s.dev.targetCheck 0x0A02 h = none → h.mask = 0 →
    s.dev.upd.session = some x → x.phase = 2 → s.dev.blockReason x index crc (bytesAt b 0 4096) = none → (x.prog.any (fun p => p.index ==
    index) || AList.has (s.dev.slotOf x.slot).blocks index) = false → exec (.updBlock h index crc (some b)) s = .next { s with dev :=
    (s.dev.modUpd (fun u =>
    { u with session := some { x with prog := x.prog ++ [{ index, bytes := bytesAt b 0 4096, cmd := h }] } })).settle }) ∧
(∀ (h : Hdr) (index crc r : Nat) (b : List Byte) (x : UpdSess) (s : State), s.dev.targetCheck 0x0A02 h = none → h.mask = 0 →
    s.dev.upd.session = some x → x.phase = 2 → s.dev.blockReason x index crc (bytesAt b 0 4096) = some r → exec (.updBlock h index crc
    (some b)) s = .next { s with dev := ((s.dev.refuse r (leAt (bytesAt b 0 4096) 36 2)).doneAt h (refusedCode r) [(16, 2,
    s.dev.updReceived x), (18, 1, r)]).settle }) ∧
(∀ (h : Hdr) (index crc : Nat) (b : Option (List Byte)) (s : State), s.dev.targetCheck 0x0A02 h = none → h.mask = 0 → s.dev.upd.session =
    none → exec (.updBlock h index crc b) s = .next { s with dev := (s.dev.doneAt h Code.wrongMode).settle }) ∧
(∀ (index : Nat) (x : UpdSess) (p : Prog) (s : State), s.dev.flashRuns = true → s.dev.upd.session = some x → x.prog.find? (fun p =>
    p.index == index) = some p → exec (.updBlockProgrammed index) s = .next { s with dev := (
      let f := { s.dev.slotOf x.slot with blocks := AList.put (s.dev.slotOf x.slot).blocks index p.bytes }
      let d := s.dev.setSlot x.slot { f with state := if f.blocks.length = x.blocks then 3 else 2 }
      let x := { x with prog := x.prog.filter (fun q => q.index != index) }
      (d.modUpd (fun u => { u with session := some x })).doneNow p.cmd Code.done [(16, 2, d.updReceived x)]).settle }) ∧
(∀ (h : Hdr) (x : UpdSess) (s : State), s.dev.targetCheck 0x0A03 h = none → h.mask = 0 → s.dev.upd.session = some x → x.phase = 2 →
    s.dev.updReceived x = x.blocks → exec (.updActivate h) s = .next { s with dev := (s.dev.modUpd (fun u =>
    { u with session := some { x with phase := 3, cmd := some h } })).settle }) ∧
(∀ (h : Hdr) (x : UpdSess) (s : State), s.dev.targetCheck 0x0A03 h = none → h.mask = 0 → s.dev.upd.session = some x → x.phase = 2 →
    s.dev.updReceived x ≠ x.blocks → exec (.updActivate h) s = .next { s with dev := ((s.dev.modUpd (fun u =>
    { u with reason := 7 })).doneAt h Code.imageRejected (s.dev.actRes x.slot 7)).settle }) ∧
(∀ (x : UpdSess) (s : State), s.dev.flashRuns = true → s.dev.upd.session = some x → x.phase = 3 → s.dev.slotReason x.slot (some x.length)
    = none → exec .updVerified s = .next { s with dev := (
      let d := ((s.dev.modUpd (fun u => { u with session := none })).setSlot x.slot { s.dev.slotOf x.slot with state := 4 }).putBoot (fun r => { r with pending := some x.slot })
      (d.raise Ev.updVerified).doneWait x.cmd Code.done (d.actRes x.slot 0)).settle }) ∧
(∀ (x : UpdSess) (r : Nat) (s : State), s.dev.flashRuns = true → s.dev.upd.session = some x → x.phase = 3 → s.dev.slotReason x.slot (some
    x.length) = some r → exec .updVerified s = .next { s with dev := (
      let d := s.dev.modUpd (fun u => { u with session := none })
      ((d.setSlot x.slot { s.dev.slotOf x.slot with state := 5 }).refuse r (s.dev.slotOf x.slot).sv).doneWait x.cmd (refusedCode r) (d.actRes x.slot r)).settle }) ∧
(∀ (h : Hdr) (s : State), s.dev.targetCheck 0x0A03 h = none → h.mask = 0 → s.dev.upd.trial = true → s.dev.upd.commit = none → exec
    (.updCommit h) s = .next { s with dev := (s.dev.modUpd (fun u => { u with commit := some h })).settle }) ∧
(∀ (h : Hdr) (s : State), s.dev.flashRuns = true → s.dev.upd.commit = some h → exec .updCommitted s = .next { s with dev := (
      let run := s.dev.upd.running
      let c := max s.dev.upd.steps (min 64 (s.dev.slotOf run).sv)
      let d := s.dev.modUpd (fun u => { u with steps := c, commit := none, trial := false })
      let d := d.putBoot (fun r => { r with active := run, trial := false })
      (d.raise Ev.updCommitted).doneNow h Code.done (d.actRes run 0)).settle }) ∧
(∀ (h : Hdr) (p : Nat) (s : State), s.dev.targetCheck 0x0A03 h = none → h.mask = 0 → s.dev.bootRec.pending = some p → exec (.updCancel h)
    s = .next { s with dev := ((s.dev.putBoot (fun r => { r with pending := none })).doneAt h Code.done (s.dev.actRes p 0)).settle }) ∧
(∀ (h : Hdr) (s : State), s.dev.targetCheck 0x0A04 h = none → h.mask = 0 → exec (.updQuery h) s = .next { s with dev := (s.dev.doneNow h
    Code.done [(16, 4, s.dev.updStatusWord.toNat), (20, 4, (s.dev.updSlotWord 0).toNat), (24, 4, (s.dev.updSlotWord 1).toNat), (28, 4,
    s.dev.updOtpWord.toNat)]).settle }) ∧
(∀ (index : Nat) (x : UpdSess) (s : State), s.dev.flashRuns = true → s.dev.upd.session = some x → x.phase = 1 → exec
    (.flashOperationTimeout true index) s = .next { s with dev := (
      let d := (s.dev.setSlot x.slot { state := 5 }).modUpd (fun u => { u with session := none })
      ((d.refuse 0x0A 0).raise Ev.updFlashError).doneWait x.cmd Code.imageRejected [(16, 1, x.slot), (18, 2, x.blocks)]).settle }) ∧
(∀ (index : Nat) (x : UpdSess) (p : Prog) (s : State), s.dev.flashRuns = true → s.dev.upd.session = some x → x.prog.find? (fun p =>
    p.index == index) = some p → exec (.flashOperationTimeout false index) s = .next { s with dev := (
      let d := s.dev.modUpd (fun u => { u with session := some { x with prog := x.prog.filter (fun q => q.index != index) } })
      ((d.refuse 0x0A 0).raise Ev.updFlashError).doneNow p.cmd Code.imageRejected [(16, 2, d.updReceived x), (18, 1, 0x0A)]).settle })

/-- A TAP that loads an instruction holds what its opcode acts as. The first scan-control instruction of any TAP causes a device reaction,
removes the torque of every axis and leaves the outputs as the scan state gives them; when the last has gone the device resets with
its cause. A debug token opens the debug port where it is the authority's signature over the UID and the challenge. A debugger halts a
command processor, which voids an unlock sequence in progress, and resumes it, which releases the completions held. The cause code of
the reaction is a free value: R469 gives it no number. -/
def Obligations.ScanAndDebug : Prop :=
(∀ (drum : Bool) (op : Nat) (s : State), ((s.dev.modUpd (fun u => if drum then { u with tapDrum := s.dev.tapActs drum (op % 256) } else
    { u with tapLogic := s.dev.tapActs drum (op % 256) })).upd.scans) = s.dev.upd.scans → exec (.tapInstructionLoad drum op) s = .next {
    s with dev := (s.dev.modUpd (fun u => if drum then { u with tapDrum := s.dev.tapActs drum (op % 256) } else
    { u with tapLogic := s.dev.tapActs drum (op % 256) })).settle }) ∧
(∀ (drum : Bool) (op : Nat) (s : State), s.dev.upd.scans = false → ((s.dev.modUpd (fun u => if drum then
    { u with tapDrum := s.dev.tapActs drum (op % 256) } else { u with tapLogic := s.dev.tapActs drum (op % 256) })).upd.scans) = true →
    exec (.tapInstructionLoad drum op) s = .next { s with dev := (
      let act := s.dev.tapActs drum (op % 256)
      let d := s.dev.modUpd (fun u => if drum then { u with tapDrum := act } else { u with tapLogic := act })
      let x := d.fresh
      let d := (x.2.deviceReaction (x.1 % 256) false true).modSaf (fun q => { q with scan := true })
      (d.each d.axisList Dev.stoAxis).refreshOuts).settle }) ∧
(∀ (drum : Bool) (op : Nat) (s : State), s.dev.upd.scans = true → ((s.dev.modUpd (fun u => if drum then
    { u with tapDrum := s.dev.tapActs drum (op % 256) } else { u with tapLogic := s.dev.tapActs drum (op % 256) })).upd.scans) = false →
    exec (.tapInstructionLoad drum op) s = .next { s with dev := (
      let act := s.dev.tapActs drum (op % 256)
      let d := s.dev.modUpd (fun u => if drum then { u with tapDrum := act } else { u with tapLogic := act })
      ((d.modSaf (fun q => { q with scan := false })).reboot (2 ^ 7)).refreshOuts).settle } ∧
    exec (.scanControlExit drum op) s = .next { s with dev := (
      let act := s.dev.tapActs drum (op % 256)
      let d := s.dev.modUpd (fun u => if drum then { u with tapDrum := act } else { u with tapLogic := act })
      ((d.modSaf (fun q => { q with scan := false })).reboot (2 ^ 7)).refreshOuts).settle }) ∧
(∀ (token : List Byte) (s : State), s.dev.upd.tapLogic = 0x11 → s.dev.upd.dbg = 1 → exec (.dbgAuth token) s = .next { s with dev := (if
    Config.tokenSigned s.dev.uid s.dev.challenge (bytesAt token 0 64) then s.dev.modUpd (fun u => { u with tokenOk := true }) else
    s.dev).settle }) ∧
(∀ (cp : Nat) (s : State), cp < 4 → s.dev.debugOpen = true → nbit cp s.dev.upd.halted = false → exec (.cpHalt cp true) s = .next {
    s with dev := ((s.dev.modUpd (fun u => { u with halted := nset cp u.halted })).unlocksVoid.raise Ev.dbgHalt cp).settle }) ∧
(∀ (cp : Nat) (s : State), cp < 4 → s.dev.debugOpen = true → nbit cp s.dev.upd.halted = true → exec (.cpHalt cp false) s = .next {
    s with dev := (
      let d := s.dev.modUpd (fun u => { u with halted := nclr cp u.halted })
      let d := d.each (d.host.cqs.map (·.1)) (fun d q => d.cqRelease (match AList.find d.host.cqs q with | some c => c.held.length | none => 0) q)
      d.raise Ev.dbgHalt cp).settle })

/-- For every command, every device and every queue behind it: a step is exec of that command on the device with the queue's rest. -/
def Obligations.StepTakesTheFront : Prop :=
∀ (c : Instr) (rest : List Instr) (d : Dev), step { dev := d, pending := c :: rest } = exec c { dev := d, pending := rest }

/-- With no command waiting a step answers the state as it is. This is the model's own choice, notes/assumptions/40.md: everything that
happens in time has its row. -/
def Obligations.StepIdlesOnAnEmptyQueue : Prop :=
∀ (d : Dev), step { dev := d, pending := [] } = .next { dev := d, pending := [] }

/-- For every state whose register map and addressed memories are in canonical form (addresses strictly rising, no entry equal to what an
unlisted address reads as), if a step answers a next state, its maps are in canonical form too: for all 299 commands, so that equal
contents are equal data after any run. -/
def Obligations.EveryStepKeepsTheMapsCanonical : Prop :=
∀ (s t : State), s.Inv → step s = .next t → t.Inv

/-- No command stops the model: for every command and every state, exec answers a next state; its queue is the one it was given, and its
maps are in canonical form whatever they were. A command that is refused by a rule completes with that rule's status, an access that
is refused raises the access-fault event, an event whose condition does not hold changes nothing. -/
def Obligations.EveryCommandAnswers : Prop :=
∀ (c : Instr) (s : State), ∃ t, exec c s = .next t ∧ t.pending = s.pending ∧ t.Inv

/-- From every state, as many steps as commands wait answer a next state with an empty queue, and that state is the one that running the
commands one after the other, first in first out, leaves: for a queue c :: rest, the state after is that of rest from what exec of c
left. -/
def Obligations.QueueDrains : Prop :=
(∀ (s : State), ∃ t, steps s.pending.length s = .next t ∧ t.pending = []) ∧
(∀ (d d2 : Dev) (c : Instr) (rest : List Instr), exec c { dev := d, pending := rest } = .next { dev := d2, pending := rest } → steps
    (rest.length + 1) { dev := d, pending := c :: rest } = steps rest.length { dev := d2, pending := rest })

/-- For each of the 85 commands with an opcode: where check 6 or 7 of R351 turns it away (an axis of its mask is absent, or the sender is
not entitled), it completes with that status at once; every engine of the device stays as it was, and so does every register but those
that events write, and, outside SPI mode, every byte of the addressed memories. -/
def Obligations.CommandsTurnedAwayChangeNothingElse : Prop :=
∀ (c : Instr) (op r : Nat) (h : Hdr) (s : State), orderOf c = some (op, h) → s.dev.targetCheck op h = some r → exec c s = .next {
    s with dev := (s.dev.doneNow h r).settle } ∧ s.dev.still (s.dev.doneNow h r).settle

/-- SYS_NOP, AX_QUERY, FB_QUERY, PROF_QUERY, GEAR_QUERY, CAP_QUERY, LAN_QUERY, SAF_QUERY, PWR_QUERY, FAB_QUERY, TIME_QUERY, FIO_QUERY,
CAN_QUERY and UPD_QUERY, whatever their header and in whatever state: every engine of the device stays as it was, and so does every
register but those that events write, and, outside SPI mode, every byte of the addressed memories. -/
def Obligations.QueriesChangeNothingElse : Prop :=
∀ (c : Instr) (s t : State), isQuery c = true → exec c s = .next t → s.dev.still t.dev

/-- From any device with canonical maps, with any cause bits: every register outside the Belfry retention domain and the backup-cell
domain is at its reset value, but SYS_RST_CAUSE, SYS_SUPPLY_STATUS, FIELD_LEVEL and FIELD_STATUS, which report what the reset finds,
and the raw levels of the field comparators; the registers and the bytes of the two domains are kept, every other byte is at its reset
value; no command is in flight or accepted, no ring exists, no axis holds state; all four STO groups are asserted and every safety
output is de-energised; the device is not in the ring. -/
def Obligations.DeviceResetKeepsTheTwoDomainsOnly : Prop :=
(∀ (d : Dev) (bits a : Nat), SMap.wf regReset d.regs = true → a ≠ A.SYS_RST_CAUSE → a ≠ A.SYS_SUPPLY_STATUS → a ≠ A.FIELD_LEVEL → a ≠
    A.FIELD_STATUS → (d.deviceReset bits).rd a = if keptReg a then d.rd a else regReset a) ∧
(∀ (d : Dev) (bits a : Nat), (d.deviceReset bits).mb a = if 0x20000 ≤ a ∧ a < 0x40000 then d.mb a else 0) ∧
(∀ (d : Dev) (bits : Nat), SMap.wf regReset d.regs = true → (d.deviceReset bits).host.inflight = [] ∧ (d.deviceReset bits).host.accepted =
    [] ∧ (d.deviceReset bits).host.sqs = [] ∧ (d.deviceReset bits).host.cqs = [] ∧ (d.deviceReset bits).core = [] ∧ (d.deviceReset
    bits).stoMask = 15 ∧ (d.deviceReset bits).outMask = 0 ∧ (d.deviceReset bits).rb A.FAB_STATUS 11 = false)

/-- For two devices whose maps are in canonical form: if every register of the one reads as it does in the other, the register maps are
the same list, and if every byte does, the memories are. -/
def Obligations.EqualReadingsAreEqualMaps : Prop :=
(∀ (d e : Dev), d.canonical → e.canonical → (∀ a, d.rd a = e.rd a) → d.regs = e.regs) ∧
(∀ (d e : Dev), d.canonical → e.canonical → (∀ a, d.mb a = e.mb a) → d.mem = e.mem)

/-- State.reset has canonical maps and no command waiting; the registers SYS_WAKE_CFG (idle_ms 0x03E8), SYS_TICK_CFG (ft_sel 0b01) and
SYS_DIP_CFG read as their tables say; every STO group is asserted and no output pair is energised. That the queue is empty is the form
of a block; the mode after reset is BOOTING, the one R53 gives a device that boots. -/
def Obligations.ResetIsClean : Prop :=
State.reset.Inv ∧ State.reset.pending = [] ∧ State.reset.dev.stoMask = 15 ∧ State.reset.dev.outMask = 0 ∧ State.reset.dev.rd
    A.SYS_WAKE_CFG = 0x3E800 ∧ State.reset.dev.fld A.SYS_TICK_CFG 1 0 = 1 ∧ State.reset.dev.sys.mode = .booting

/-- The n bytes that a number takes in a packet, a record or a memory are its digits to base 256, the least significant first, and reading
them back gives the number modulo 256 to the n. Contents of standard frames, the exception of R13, use the reverse order. -/
def Obligations.LittleEndian : Prop :=
(∀ (n v i : Nat), i < n → (leBytes n v).getD i 0 = BitVec.ofNat 8 (v / 256 ^ i)) ∧
(∀ (n v : Nat), (leBytes n v).length = n ∧ ofLe (leBytes n v) = v % 256 ^ n ∧ ofBe (beBytes n v) = v % 256 ^ n)

/-- With a ratio N/D, D above 0, phase φ and engage points m₀ and s₀, and a master at p_m with speed v_m and acceleration a_m: the
position is s₀ + q + φ for an integer q that is within half a count of N × (p_m − m₀)/D, and farther from zero where that is halfway
between two; D times the speed is N times the master's, and D times the acceleration is N times the master's. The result depends on
nothing else, so devices with identical inputs produce identical positions. -/
def Obligations.GearLawIsExactAndRoundedOnce : Prop :=
∀ (d : Dev) (n : Nat) (g : GearLaw) (m : Ref), g.cam = false → 0 < g.d → ∃ q : Int, (d.lawAt n g m).1.p = g.s0 + q + g.phi ∧ 2 * |q * g.d
    - g.n * (m.p - g.m0)| ≤ g.d ∧ (2 * |q * g.d - g.n * (m.p - g.m0)| = g.d → |g.n * (m.p - g.m0)| < |q * g.d|) ∧ (d.lawAt n g m).1.v *
    g.d = g.n * m.v ∧ (d.lawAt n g m).1.a * g.d = g.n * m.a

/-- Of the 16 filters of a controller: with none enabled every frame is accepted, marked 0xFF; otherwise a frame is accepted with filter i
exactly where filter i is enabled and matches and no lower filter is enabled and matches; a frame that no enabled filter matches is
not stored, and nothing but the time and the receive counter changes. A filter matches where (id XOR filter id) AND mask is 0 on bits
[28:0] and, with ide_match = 1, the IDE bit equals the filter's. -/
def Obligations.LowestMatchingFilter : Prop :=
(∀ (d : Dev) (k id : Nat) (ide : Bool), (∀ i, i < 16 → d.rb (A.CAN_FLT_ID k i) 31 = false) → d.canFilter k id ide = some 0xFF) ∧
(∀ (d : Dev) (k id i j : Nat) (ide : Bool), j < 16 → d.rb (A.CAN_FLT_ID k j) 31 = true → (d.canFilter k id ide = some i ↔ i < 16 ∧ d.rb
    (A.CAN_FLT_ID k i) 31 = true ∧ ((id ^^^ field 28 0 (d.rd (A.CAN_FLT_ID k i))) &&& field 28 0 (d.rd (A.CAN_FLT_MASK k i)) = 0 ∧ (bit 29
    (d.rd (A.CAN_FLT_MASK k i)) = true → ide = bit 29 (d.rd (A.CAN_FLT_ID k i)))) ∧ ∀ l < i, d.rb (A.CAN_FLT_ID k l) 31 = true → ¬ ((id
    ^^^ field 28 0 (d.rd (A.CAN_FLT_ID k l))) &&& field 28 0 (d.rd (A.CAN_FLT_MASK k l)) = 0 ∧ (bit 29 (d.rd (A.CAN_FLT_MASK k l)) = true
    → ide = bit 29 (d.rd (A.CAN_FLT_ID k l)))))) ∧
(∀ (d : Dev) (k id j : Nat) (ide : Bool), j < 16 → d.rb (A.CAN_FLT_ID k j) 31 = true → (∀ l < 16, d.rb (A.CAN_FLT_ID k l) 31 = true → ¬
    ((id ^^^ field 28 0 (d.rd (A.CAN_FLT_ID k l))) &&& field 28 0 (d.rd (A.CAN_FLT_MASK k l)) = 0 ∧ (bit 29 (d.rd (A.CAN_FLT_MASK k l)) =
    true → ide = bit 29 (d.rd (A.CAN_FLT_ID k l))))) → d.canFilter k id ide = none) ∧
(∀ (k : Nat) (f : CanFrame) (s : State), s.dev.canRuns k = true → s.dev.fld (A.CAN_STATUS k) 1 0 < 2 → s.dev.fld (A.CAN_CTRL k) 2 1 ≠ 2 →
    nbit 0 f.flags = false → ((s.dev.seenAt f.sof).canRxGood k).canFilter k f.id f.ide = none → exec (.canRx k f) s = .next {
    s with dev := ((s.dev.seenAt f.sof).canRxGood k).settle })

/-- A model with rate code c from 0 to 3 is due in schedule tick j exactly where (j mod 2^c) = phase, so it is due in tick j exactly where
it is due in tick (j mod 8); and for models of such rates the sum that the device holds for tick (j mod 8) is the sum of the costs of
the models due in tick j, for every j. -/
def Obligations.ScheduleRepeatsAfterEightTicks : Prop :=
(∀ (m : Mdl) (t : Nat), m.rate ≤ 3 → (m.dueIn t = true ↔ t % 2 ^ m.rate = m.phase) ∧ m.dueIn (t % 8) = m.dueIn t) ∧
(∀ (ms : List Mdl) (t : Nat), (∀ m ∈ ms, m.rate ≤ 3) → (loads ms).getD (t % 8) 0 = ((ms.filter (fun m => t % 2 ^ m.rate == m.phase)).map
    (fun m => m.cost)).sum)

/-- An aligned 32-bit write by any requester that reaches the registers, to a register of the SAFETY block (0x140000 to 0x17FFFF) whose
table marks no bit RW, W1C or W1S: it is the access fault NOT_PERMITTED and nothing else, so that no engine changes and every register
keeps its value but SYS_ACC_FAULT, SYS_ACC_SRC and those that events write. Turret itself is not bound by this rule: its own commands
write these registers. -/
def Obligations.SafetyIsReadMostly : Prop :=
∀ (d : Dev) (r : Req) (addr : Nat) (v : Word) (row : RegRow), d.reaches r = true → regKey addr = addr → addr % 4 = 0 → 0x140000 ≤ addr →
    addr < 0x180000 → memKind addr = none → regRow addr = some row → row.rw = 0 → row.w1c = 0 → row.w1s = 0 → d.busWrite r addr 4 v =
    d.accessed.accFault r addr .notPermitted true ∧ (d.busWrite r addr 4 v).engines = d.engines ∧ (SMap.wf regReset d.regs = true → ∀ a, ¬
    eventReg a → a ≠ A.SYS_ACC_FAULT → a ≠ A.SYS_ACC_SRC → (d.busWrite r addr 4 v).rd a = d.rd a)

/-- On both TAPs 0x00, 0x01, 0x02, 0x03, 0x04, 0x05, 0x06 act as EXTEST, SAMPLE/PRELOAD, IDCODE, CLAMP, HIGHZ, EXTEST_PULSE and
EXTEST_TRAIN; on the logic die 0x11 acts as DBG_AUTH, and 0x10 as DBG where R475 makes it available; every other opcode acts as
BYPASS, and so do 0x10 and 0x11 on the Drum die. -/
def Obligations.TapOpcodes : Prop :=
∀ (d : Dev) (drum : Bool) (op : Nat), op < 256 → d.tapActs drum op = if op ∈ [0x00, 0x01, 0x02, 0x03, 0x04, 0x05, 0x06] then op else if op
    = 0x11 ∧ drum = false then op else if op = 0x10 ∧ drum = false ∧ (d.upd.dbg = 0 ∨ (d.upd.dbg = 1 ∧ d.upd.tokenOk = true)) then op else
    0xFF

/-- For every register row, old contents and word written: where no field is reserved or kept, the RW bits take the written bits (but for
bits that have no use in the state this leaves, which read 0), the W1C bits that are written 1 are cleared, and every other bit is as
it was; and in every case, faults included, for a row whose bits without use are RW bits, no bit outside the RW bits changes but by
being cleared through W1C. -/
def Obligations.WritesKeepWhatTheyMayNotChange : Prop :=
(∀ (d : Dev) (r : Req) (row : RegRow) (a : Nat) (v w : Word), (d.written r row a v).2 = none → w = (d.rd a &&& ~~~ BitVec.ofNat 32 row.rw)
    ||| (v &&& BitVec.ofNat 32 row.rw) → (d.written r row a v).1 = w &&& ~~~ unusedBits row a w &&& ~~~ clearBits row v) ∧
(∀ (d : Dev) (r : Req) (row : RegRow) (a : Nat) (v : Word), (∀ w, unusedBits row a w &&& ~~~ BitVec.ofNat 32 row.rw = 0) → (d.written r
    row a v).1 &&& ~~~ BitVec.ofNat 32 row.rw = d.rd a &&& ~~~ BitVec.ofNat 32 row.rw &&& ~~~ clearBits row v)

/-- For a demand (vα, vβ) and V_dc above 0 the three duties dx = 0.5 + (vx + v0)/V_dc satisfy: V_dc times the difference of two duties is
the difference of their phase values, so the line-to-line voltages do not depend on v0; the largest and the smallest duty add to 1;
and where no two phase values differ by more than V_dc every duty lies from 0 to 1. -/
def Obligations.SvmIsCentredAndExact : Prop :=
∀ (a b vdc : Rat), 0 < vdc → ∃ x y z : Rat, svm a b vdc = [x, y, z] ∧ (x - y) * vdc = a - (-a / 2 + sqrt3 / 2 * b) ∧ (y - z) * vdc = sqrt3
    * b ∧ ratMax [x, y, z] + ratMin [x, y, z] = 1 ∧ (ratMax [a, -a / 2 + sqrt3 / 2 * b, -a / 2 - sqrt3 / 2 * b] - ratMin [a, -a / 2 +
    sqrt3 / 2 * b, -a / 2 - sqrt3 / 2 * b] ≤ vdc → 0 ≤ ratMin [x, y, z] ∧ ratMax [x, y, z] ≤ 1)

/-- While a completion ring is full, stopped or waits for its processors, a completion due to it joins the end of those it holds; one
whose write fails is held too, and the ring stops with its event. HELD_COMPLETION_RELEASE takes completions from the front of the held
ones only, and for each it takes the ring's write index advances by one: the write index plus the number held is the same before and
after, so none is dropped and none is written twice; the host's read index stays. -/
def Obligations.CompletionsAreNeverDropped : Prop :=
(∀ (d : Dev) (q : Nat) (c : Cq) (x : Held), (d.cqHolds c || !c.held.isEmpty) = true → d.cqPut q c x = d.setCq q
    { c with held := c.held ++ [x] }) ∧
(∀ (d : Dev) (q : Nat) (c : Cq) (x : Held), (d.cqHolds c || !c.held.isEmpty) = false → d.cqFails q = true → d.cqPut q c x = (d.setCq q
    { c with stopped := true, held := [x] }).raise Ev.hostRingError c.client) ∧
(∀ (q : Nat) (c : Cq) (s t : State), AList.find s.dev.host.cqs q = some c → exec (.heldCompletionRelease q) s = .next t → ∃ c', AList.find
    t.dev.host.cqs q = some c' ∧ c'.held <:+ c.held ∧ c'.wr + c'.held.length = c.wr + c.held.length ∧ c'.rd = c.rd)

/-- A pair of modes has conditions exactly where the table of R54 gives SYS_MODE_SET as its trigger, in the order listed. At a device that
does not rest: a code that is reserved, or a transition that is not listed, completes WRONG_MODE with index 0; a listed one whose
condition i is the first that fails completes WRONG_MODE with index i; READY or CONFIGURE from SAFE_HOLD completes SAFETY_BLOCKED
until reset_ok is set. After each of these refusals the mode, and every engine of the device, is what it was. -/
def Obligations.ModeSetRefusals : Prop :=
(∀ (d : Dev) (old new : Mode), (d.modeConds old new).isSome = true ↔ (old, new) ∈ [(Mode.configure, Mode.ready), (.ready, .run), (.run,
    .ready), (.ready, .configure), (.ready, .inspection), (.run, .inspection), (.inspection, .ready), (.safeHold, .ready), (.safeHold,
    .configure), (.safeHold, .recovery), (.configure, .recovery), (.recovery, .configure), (.configure, .prodTest), (.prodTest,
    .configure)]) ∧
(∀ (h : Hdr) (new : Nat) (s : State), s.dev.targetCheck 0x0101 h = none → s.dev.resting = false → new < 16 → ((Mode.ofCode new).bind (fun
    m => s.dev.modeConds s.dev.sys.mode m)) = none → exec (.sysModeSet h new) s = .next { s with dev := (s.dev.doneAt h Code.wrongMode
    [(16, 1, s.dev.sys.mode.code), (17, 1, s.dev.sys.mode.code), (18, 2, 0)]).settle } ∧ (s.dev.doneAt h Code.wrongMode [(16, 1,
    s.dev.sys.mode.code), (17, 1, s.dev.sys.mode.code), (18, 2, 0)]).settle.engines = s.dev.engines) ∧
(∀ (h : Hdr) (new : Nat) (m : Mode) (conds : List Bool) (s : State), s.dev.targetCheck 0x0101 h = none → s.dev.resting = false →
    Mode.ofCode new = some m → s.dev.modeConds s.dev.sys.mode m = some conds → firstFailed conds 1 ≠ 0 → ((s.dev.sys.mode == .safeHold &&
    (m == .ready || m == .configure)) && !s.dev.saf.resetOk) = false → exec (.sysModeSet h new) s = .next { s with dev := (s.dev.doneAt h
    Code.wrongMode [(16, 1, s.dev.sys.mode.code), (17, 1, s.dev.sys.mode.code), (18, 2, firstFailed conds 1)]).settle } ∧ (s.dev.doneAt h
    Code.wrongMode [(16, 1, s.dev.sys.mode.code), (17, 1, s.dev.sys.mode.code), (18, 2, firstFailed conds 1)]).settle.engines =
    s.dev.engines) ∧
(∀ (h : Hdr) (m : Mode) (s : State), s.dev.targetCheck 0x0101 h = none → s.dev.sys.mode = .safeHold → (m = .ready ∨ m = .configure) →
    s.dev.saf.resetOk = false → exec (.sysModeSet h m.code) s = .next { s with dev := (s.dev.doneAt h Code.safetyBlocked [(16, 1,
    s.dev.sys.mode.code), (17, 1, s.dev.sys.mode.code), (18, 2, 0)]).settle } ∧ (s.dev.doneAt h Code.safetyBlocked [(16, 1,
    s.dev.sys.mode.code), (17, 1, s.dev.sys.mode.code), (18, 2, 0)]).settle.engines = s.dev.engines)

/-- An aligned 32-bit access by any requester that reaches the registers, at an offset of the register space inside a block, where neither
a register nor a memory lies (the axis pages and windows, whose absent axes and designated offsets have rules of their own, are left
to those): the read returns 0x0000_0000; the write is ignored; both are the access fault UNMAPPED and nothing else, so that no engine
changes and every register keeps its value but SYS_ACC_FAULT, SYS_ACC_SRC and those that events write. -/
def Obligations.UnmappedAccesses : Prop :=
∀ (d : Dev) (r : Req) (addr : Nat) (v : Word), d.reaches r = true → regKey addr = addr → addr % 4 = 0 → addr < 0x1000000 → axisOfAddr addr
    = none → memKind addr = none → regRow addr = none → d.busRead r addr 4 = (0, d.accessed.accFault r addr .unmapped false) ∧ d.busWrite
    r addr 4 v = d.accessed.accFault r addr .unmapped true ∧ (d.busWrite r addr 4 v).engines = d.engines ∧ (d.busRead r addr 4).2.engines
    = d.engines ∧ (SMap.wf regReset d.regs = true → ∀ a, ¬ eventReg a → a ≠ A.SYS_ACC_FAULT → a ≠ A.SYS_ACC_SRC → (d.busWrite r addr 4
    v).rd a = d.rd a ∧ (d.busRead r addr 4).2.rd a = d.rd a)

/-- Once the outputs follow the reactions, output pair j of the eight is energised exactly where it has a kind, it is wished (a brake) or
of a kind that follows the reactions alone (assumption 19), and the reactions allow it: no device reaction or scan is in force, VFIELD
is not under-voltage, and no group whose STO is demanded governs it. With a device reaction in force all eight are de-energised. Which
STO groups are demanded does not change. -/
def Obligations.OutputsFollowTheReactions : Prop :=
(∀ (d : Dev) (j : Nat), j < 8 → (d.refreshOuts.outp j).on = (((d.outp j).wish || decide (2 ≤ d.fld (A.SAF_OUT_CFG j) 1 0)) && d.fld
    (A.SAF_OUT_CFG j) 1 0 != 0 && d.outAllowed j)) ∧
(∀ (d : Dev), d.saf.deviceSto = true → d.refreshOuts.outMask = 0 ∧ d.refreshOuts.stoMask = 15) ∧
(∀ (d : Dev) (g : Nat), d.refreshOuts.stoDemanded g = d.stoDemanded g)
end

