-- ==== Sys2Proof/Laws/Access.lean ====
section
/-!
SUPPORT. What a write to a register that is accepted does: proofs about register rows cite this and unfold no judgement.
-/

namespace Sys2Proof.Machine

theorem regKey_mod (a : Nat) (h : a % 4 = 0) : regKey a % 4 = 0 := by
  unfold regKey
  split <;> omega

/-- An accepted 32-bit write: the register's command where it is one, a word of a pair where it belongs to one, and otherwise the word it takes
with what follows from it. -/
theorem Dev.busWrite_accepts (d : Dev) (r : Req) (addr : Nat) (v : Word) (hint : Hint) (row : RegRow) (h : d.accepts r addr v = true)
    (hr : regRow (regKey addr) = some row) :
    d.busWrite r addr 4 v hint =
      (match d.accessed.commandReg r row (regKey addr) v hint with
      | some e => e
      | none =>
        match pairOf row (regKey addr) with
        | some (low, high) => d.accessed.pairWrite r (row.idx1 (regKey addr)) (regKey addr) low high v
        | none =>
          let x := d.accessed.written r row (regKey addr) v
          let e := if isPerturbation (regKey addr) then d.accessed.perturb (regKey addr) x.1
            else (d.accessed.wr (regKey addr) x.1).regAfter row (regKey addr) (d.accessed.rd (regKey addr)) x.1 v hint
          match x.2 with
          | some k => e.accFault r (regKey addr) k true
          | none => e) := by
  unfold Dev.accepts at h
  rw [hr] at h
  simp only [Bool.and_eq_true, decide_eq_true_eq, Option.isNone_iff_eq_none, beq_iff_eq] at h
  obtain ⟨⟨⟨⟨h1, h2⟩, h3⟩, h4⟩, h5⟩ := h
  have m : misaligned addr 4 = false := by simp [misaligned, h2]
  have z : regKey addr - regKey addr % 4 = regKey addr := by rw [regKey_mod addr h2]; rfl
  unfold Dev.busWrite
  simp only [show d.modHost (fun h => { h with accKind := 0 }) = d.accessed from rfl, h1, m, z, h3, h4, hr, Dev.writeReg, h5, Bool.not_true, Bool.false_eq_true, if_false,
    show decide (4 < 4) = false from rfl] <;>
  rfl

end Sys2Proof.Machine
end

