-- ==== Sys2Proof/Laws/Maps.lean ====
section
/-!
SUPPORT. Laws of the sparse maps: what a key reads as after a write, that writing keeps the canonical form, that putting a map in
canonical form changes no reading, and that canonical maps that read the same are the same data.
-/

namespace Sys2Proof.Machine

variable {β : Type}

/-! ### Numbered engines -/

@[simp] theorem AList.get_nil (x : β) (i : Nat) : AList.get x [] i = x := rfl

theorem AList.get_cons (x : β) (k : Nat) (v : β) (m : AList β) (i : Nat) :
    AList.get x ((k, v) :: m) i = if k = i then v else AList.get x m i := rfl

@[simp] theorem AList.get_put_self (x : β) (m : AList β) (i : Nat) (v : β) : AList.get x (AList.put m i v) i = v := by
  induction m with
  | nil => simp [AList.put, AList.get]
  | cons p m ih =>
    obtain ⟨k, w⟩ := p
    simp only [AList.put]
    split
    · simp [AList.get]
    · split
      · simp [AList.get]
      · rename_i h1 h2
        simp only [AList.get]
        rw [if_neg (fun h => h2 h.symm)]
        exact ih

theorem AList.get_put_ne (x : β) (m : AList β) (i j : Nat) (v : β) (h : j ≠ i) :
    AList.get x (AList.put m i v) j = AList.get x m j := by
  induction m with
  | nil => simp [AList.put, AList.get, Ne.symm h]
  | cons p m ih =>
    obtain ⟨k, w⟩ := p
    simp only [AList.put]
    split
    · simp [AList.get, Ne.symm h]
    · split
      · rename_i h1 h2
        subst h2
        simp [AList.get, Ne.symm h]
      · simp only [AList.get]
        split
        · rfl
        · exact ih

theorem AList.get_put (x : β) (m : AList β) (i j : Nat) (v : β) :
    AList.get x (AList.put m i v) j = if j = i then v else AList.get x m j := by
  by_cases h : j = i
  · subst h; simp
  · simp [h, AList.get_put_ne x m i j v h]

@[simp] theorem AList.find_put_self (m : AList β) (i : Nat) (v : β) : AList.find (AList.put m i v) i = some v := by
  induction m with
  | nil => simp [AList.put, AList.find]
  | cons p m ih =>
    obtain ⟨k, w⟩ := p
    simp only [AList.put]
    split
    · simp [AList.find]
    · split
      · simp [AList.find]
      · rename_i h1 h2
        simp only [AList.find]
        rw [if_neg (fun h => h2 h.symm)]
        exact ih

/-! ### Maps in canonical form -/

variable [DecidableEq β] (dflt : Nat → β)

omit [DecidableEq β] in
@[simp] theorem SMap.get_nil (a : Nat) : SMap.get dflt [] a = dflt a := rfl

omit [DecidableEq β] in
theorem SMap.get_cons (k : Nat) (v : β) (m : SMap β) (a : Nat) :
    SMap.get dflt ((k, v) :: m) a = if k = a then v else SMap.get dflt m a := rfl

/-- The keys of a canonical map rise from its first. -/
def SMap.below (k : Nat) : SMap β → Prop
  | [] => True
  | (k', _) :: _ => k < k'

omit [DecidableEq β] in
@[simp] theorem SMap.below_nil (k : Nat) : SMap.below k ([] : SMap β) := trivial
omit [DecidableEq β] in
@[simp] theorem SMap.below_cons (k k' : Nat) (v : β) (m : SMap β) : SMap.below k ((k', v) :: m) ↔ k < k' := Iff.rfl

@[simp] theorem SMap.wf_nil : SMap.wf dflt [] = true := rfl

theorem SMap.wf_cons (k : Nat) (v : β) (m : SMap β) :
    SMap.wf dflt ((k, v) :: m) = true ↔ SMap.below k m ∧ v ≠ dflt k ∧ SMap.wf dflt m = true := by
  cases m with
  | nil => simp [SMap.wf]
  | cons p m => obtain ⟨k', v'⟩ := p; simp [SMap.wf, and_assoc]

/-- A key before the first of a canonical map is not listed. -/
theorem SMap.get_of_lt (m : SMap β) (a : Nat) (h : SMap.wf dflt m = true) (hb : SMap.below a m) : SMap.get dflt m a = dflt a := by
  induction m with
  | nil => rfl
  | cons p m ih =>
    obtain ⟨k, v⟩ := p
    rw [SMap.wf_cons] at h
    have hk : a < k := hb
    rw [SMap.get_cons, if_neg (by omega)]
    refine ih h.2.2 ?_
    cases m with
    | nil => trivial
    | cons q m => exact Nat.lt_trans hk h.1

theorem SMap.below_put (m : SMap β) (k a : Nat) (v : β) (hb : SMap.below k m) (h : k < a) (hw : SMap.wf dflt m = true) :
    SMap.below k (SMap.put dflt m a v) := by
  cases m with
  | nil => simp only [SMap.put]; split <;> simp [h]
  | cons p m =>
    obtain ⟨k', w⟩ := p
    have hk : k < k' := hb
    rw [SMap.wf_cons] at hw
    simp only [SMap.put]
    split
    · split <;> simp [h, hk]
    · split
      · split
        · cases m with
          | nil => trivial
          | cons q m => exact Nat.lt_trans hk hw.1
        · simp [h]
      · simp [hk]

/-- Writing keeps the canonical form. -/
theorem SMap.wf_put (m : SMap β) (a : Nat) (v : β) (hw : SMap.wf dflt m = true) : SMap.wf dflt (SMap.put dflt m a v) = true := by
  induction m with
  | nil => simp only [SMap.put]; split <;> simp_all [SMap.wf]
  | cons p m ih =>
    obtain ⟨k, w⟩ := p
    have hc := (SMap.wf_cons dflt k w m).1 hw
    simp only [SMap.put]
    split
    · rename_i hlt
      split
      · exact hw
      · rename_i hv
        rw [SMap.wf_cons]
        exact ⟨hlt, hv, hw⟩
    · split
      · rename_i h1 h2
        subst h2
        split
        · exact hc.2.2
        · rename_i hv
          rw [SMap.wf_cons]
          exact ⟨hc.1, hv, hc.2.2⟩
      · rename_i h1 h2
        rw [SMap.wf_cons]
        exact ⟨SMap.below_put dflt m k a v hc.1 (by omega) hc.2.2, hc.2.1, ih hc.2.2⟩

/-- What a key of a canonical map reads as after a write. -/
theorem SMap.get_put (m : SMap β) (a b : Nat) (v : β) (hw : SMap.wf dflt m = true) :
    SMap.get dflt (SMap.put dflt m a v) b = if b = a then v else SMap.get dflt m b := by
  induction m with
  | nil =>
    simp only [SMap.put]
    split
    · rename_i h; subst h; simp only [SMap.get_nil]; split
      · rename_i h; rw [h]
      · rfl
    · simp only [SMap.get_cons, SMap.get_nil]
      by_cases h : a = b <;> simp [h, eq_comm]
  | cons p m ih =>
    obtain ⟨k, w⟩ := p
    have hc := (SMap.wf_cons dflt k w m).1 hw
    simp only [SMap.put]
    split
    · rename_i hlt
      split
      · rename_i hv
        split
        · rename_i hb
          subst hb
          rw [SMap.get_of_lt dflt _ b hw hlt, hv]
        · rfl
      · rw [SMap.get_cons]
        by_cases h : a = b <;> simp [h, eq_comm]
    · split
      · rename_i h1 h2
        subst h2
        split
        · rename_i hv
          rw [SMap.get_cons]
          by_cases h : b = a
          · subst h; simp [SMap.get_of_lt dflt m b hc.2.2 hc.1, hv]
          · simp [h, Ne.symm h]
        · rw [SMap.get_cons, SMap.get_cons]
          by_cases h : b = a
          · subst h; simp
          · simp [h, Ne.symm h]
      · rename_i h1 h2
        rw [SMap.get_cons, SMap.get_cons, ih hc.2.2]
        by_cases h : k = b
        · subst h; simp [Ne.symm h2]
        · simp [h]

theorem SMap.get_put_self (m : SMap β) (a : Nat) (v : β) (hw : SMap.wf dflt m = true) : SMap.get dflt (SMap.put dflt m a v) a = v := by
  rw [SMap.get_put dflt m a a v hw, if_pos rfl]

theorem SMap.get_put_ne (m : SMap β) (a b : Nat) (v : β) (hw : SMap.wf dflt m = true) (h : b ≠ a) :
    SMap.get dflt (SMap.put dflt m a v) b = SMap.get dflt m b := by
  rw [SMap.get_put dflt m a b v hw, if_neg h]

/-- Any list of entries has a canonical form. -/
@[simp] theorem SMap.wf_canon (m : SMap β) : SMap.wf dflt (SMap.canon dflt m) = true := by
  induction m with
  | nil => rfl
  | cons p m ih => obtain ⟨k, v⟩ := p; exact SMap.wf_put dflt _ k v ih

/-- The canonical form reads as the list did. -/
@[simp] theorem SMap.get_canon (m : SMap β) (a : Nat) : SMap.get dflt (SMap.canon dflt m) a = SMap.get dflt m a := by
  induction m with
  | nil => rfl
  | cons p m ih =>
    obtain ⟨k, v⟩ := p
    simp only [SMap.canon]
    rw [SMap.get_put dflt _ k a v (SMap.wf_canon dflt m), SMap.get_cons, ih]
    by_cases h : k = a
    · subst h; simp
    · simp [h, Ne.symm h]

/-- A canonical map is its own canonical form. -/
theorem SMap.canon_of_wf (m : SMap β) (hw : SMap.wf dflt m = true) : SMap.canon dflt m = m := by
  induction m with
  | nil => rfl
  | cons p m ih =>
    obtain ⟨k, v⟩ := p
    have hc := (SMap.wf_cons dflt k v m).1 hw
    simp only [SMap.canon, ih hc.2.2]
    cases m with
    | nil => simp [SMap.put, hc.2.1]
    | cons q m =>
      obtain ⟨k', v'⟩ := q
      have hk : k < k' := hc.1
      simp [SMap.put, hk, hc.2.1]

end Sys2Proof.Machine
end

