-- ==== Sys2Proof/Laws/State.lean ====
section
/-!
SUPPORT. What each update of the device leaves in each field, and what registers, memories and numbered engines read as after an
update: proofs cite these and unfold no record.
-/

namespace Sys2Proof.Machine

variable (d : Dev)

/-! `Dev.wr` -/
@[simp] theorem Dev.wr_regs (a : Nat) (v : Word) : (d.wr a v).regs = SMap.put regReset d.regs a v := rfl
@[simp] theorem Dev.wr_mem (a : Nat) (v : Word) : (d.wr a v).mem = d.mem := rfl
@[simp] theorem Dev.wr_sys (a : Nat) (v : Word) : (d.wr a v).sys = d.sys := rfl
@[simp] theorem Dev.wr_time (a : Nat) (v : Word) : (d.wr a v).time = d.time := rfl
@[simp] theorem Dev.wr_wake (a : Nat) (v : Word) : (d.wr a v).wake = d.wake := rfl
@[simp] theorem Dev.wr_pwr (a : Nat) (v : Word) : (d.wr a v).pwr = d.pwr := rfl
@[simp] theorem Dev.wr_bel (a : Nat) (v : Word) : (d.wr a v).bel = d.bel := rfl
@[simp] theorem Dev.wr_cup (a : Nat) (v : Word) : (d.wr a v).cup = d.cup := rfl
@[simp] theorem Dev.wr_core (a : Nat) (v : Word) : (d.wr a v).core = d.core := rfl
@[simp] theorem Dev.wr_sense (a : Nat) (v : Word) : (d.wr a v).sense = d.sense := rfl
@[simp] theorem Dev.wr_wave (a : Nat) (v : Word) : (d.wr a v).wave = d.wave := rfl
@[simp] theorem Dev.wr_pwm (a : Nat) (v : Word) : (d.wr a v).pwm = d.pwm := rfl
@[simp] theorem Dev.wr_grps (a : Nat) (v : Word) : (d.wr a v).grps = d.grps := rfl
@[simp] theorem Dev.wr_fbs (a : Nat) (v : Word) : (d.wr a v).fbs = d.fbs := rfl
@[simp] theorem Dev.wr_fbd (a : Nat) (v : Word) : (d.wr a v).fbd = d.fbd := rfl
@[simp] theorem Dev.wr_mots (a : Nat) (v : Word) : (d.wr a v).mots = d.mots := rfl
@[simp] theorem Dev.wr_mot (a : Nat) (v : Word) : (d.wr a v).mot = d.mot := rfl
@[simp] theorem Dev.wr_saf (a : Nat) (v : Word) : (d.wr a v).saf = d.saf := rfl
@[simp] theorem Dev.wr_ocu (a : Nat) (v : Word) : (d.wr a v).ocu = d.ocu := rfl
@[simp] theorem Dev.wr_lans (a : Nat) (v : Word) : (d.wr a v).lans = d.lans := rfl
@[simp] theorem Dev.wr_host (a : Nat) (v : Word) : (d.wr a v).host = d.host := rfl
@[simp] theorem Dev.wr_dma (a : Nat) (v : Word) : (d.wr a v).dma = d.dma := rfl
@[simp] theorem Dev.wr_ring (a : Nat) (v : Word) : (d.wr a v).ring = d.ring := rfl
@[simp] theorem Dev.wr_fios (a : Nat) (v : Word) : (d.wr a v).fios = d.fios := rfl
@[simp] theorem Dev.wr_cans (a : Nat) (v : Word) : (d.wr a v).cans = d.cans := rfl
@[simp] theorem Dev.wr_uarts (a : Nat) (v : Word) : (d.wr a v).uarts = d.uarts := rfl
@[simp] theorem Dev.wr_upd (a : Nat) (v : Word) : (d.wr a v).upd = d.upd := rfl
@[simp] theorem Dev.wr_free (a : Nat) (v : Word) : (d.wr a v).free = d.free := rfl
@[simp] theorem Dev.wr_out (a : Nat) (v : Word) : (d.wr a v).out = d.out := rfl

/-! `Dev.setMb` -/
@[simp] theorem Dev.setMb_regs (a : Nat) (v : Byte) : (d.setMb a v).regs = d.regs := rfl
@[simp] theorem Dev.setMb_mem (a : Nat) (v : Byte) : (d.setMb a v).mem = SMap.put memDflt d.mem a v := rfl
@[simp] theorem Dev.setMb_sys (a : Nat) (v : Byte) : (d.setMb a v).sys = d.sys := rfl
@[simp] theorem Dev.setMb_time (a : Nat) (v : Byte) : (d.setMb a v).time = d.time := rfl
@[simp] theorem Dev.setMb_wake (a : Nat) (v : Byte) : (d.setMb a v).wake = d.wake := rfl
@[simp] theorem Dev.setMb_pwr (a : Nat) (v : Byte) : (d.setMb a v).pwr = d.pwr := rfl
@[simp] theorem Dev.setMb_bel (a : Nat) (v : Byte) : (d.setMb a v).bel = d.bel := rfl
@[simp] theorem Dev.setMb_cup (a : Nat) (v : Byte) : (d.setMb a v).cup = d.cup := rfl
@[simp] theorem Dev.setMb_core (a : Nat) (v : Byte) : (d.setMb a v).core = d.core := rfl
@[simp] theorem Dev.setMb_sense (a : Nat) (v : Byte) : (d.setMb a v).sense = d.sense := rfl
@[simp] theorem Dev.setMb_wave (a : Nat) (v : Byte) : (d.setMb a v).wave = d.wave := rfl
@[simp] theorem Dev.setMb_pwm (a : Nat) (v : Byte) : (d.setMb a v).pwm = d.pwm := rfl
@[simp] theorem Dev.setMb_grps (a : Nat) (v : Byte) : (d.setMb a v).grps = d.grps := rfl
@[simp] theorem Dev.setMb_fbs (a : Nat) (v : Byte) : (d.setMb a v).fbs = d.fbs := rfl
@[simp] theorem Dev.setMb_fbd (a : Nat) (v : Byte) : (d.setMb a v).fbd = d.fbd := rfl
@[simp] theorem Dev.setMb_mots (a : Nat) (v : Byte) : (d.setMb a v).mots = d.mots := rfl
@[simp] theorem Dev.setMb_mot (a : Nat) (v : Byte) : (d.setMb a v).mot = d.mot := rfl
@[simp] theorem Dev.setMb_saf (a : Nat) (v : Byte) : (d.setMb a v).saf = d.saf := rfl
@[simp] theorem Dev.setMb_ocu (a : Nat) (v : Byte) : (d.setMb a v).ocu = d.ocu := rfl
@[simp] theorem Dev.setMb_lans (a : Nat) (v : Byte) : (d.setMb a v).lans = d.lans := rfl
@[simp] theorem Dev.setMb_host (a : Nat) (v : Byte) : (d.setMb a v).host = d.host := rfl
@[simp] theorem Dev.setMb_dma (a : Nat) (v : Byte) : (d.setMb a v).dma = d.dma := rfl
@[simp] theorem Dev.setMb_ring (a : Nat) (v : Byte) : (d.setMb a v).ring = d.ring := rfl
@[simp] theorem Dev.setMb_fios (a : Nat) (v : Byte) : (d.setMb a v).fios = d.fios := rfl
@[simp] theorem Dev.setMb_cans (a : Nat) (v : Byte) : (d.setMb a v).cans = d.cans := rfl
@[simp] theorem Dev.setMb_uarts (a : Nat) (v : Byte) : (d.setMb a v).uarts = d.uarts := rfl
@[simp] theorem Dev.setMb_upd (a : Nat) (v : Byte) : (d.setMb a v).upd = d.upd := rfl
@[simp] theorem Dev.setMb_free (a : Nat) (v : Byte) : (d.setMb a v).free = d.free := rfl
@[simp] theorem Dev.setMb_out (a : Nat) (v : Byte) : (d.setMb a v).out = d.out := rfl

/-! `Dev.modSys` -/
@[simp] theorem Dev.modSys_regs (f : SysSt → SysSt) : (d.modSys f).regs = d.regs := rfl
@[simp] theorem Dev.modSys_mem (f : SysSt → SysSt) : (d.modSys f).mem = d.mem := rfl
@[simp] theorem Dev.modSys_sys (f : SysSt → SysSt) : (d.modSys f).sys = f d.sys := rfl
@[simp] theorem Dev.modSys_time (f : SysSt → SysSt) : (d.modSys f).time = d.time := rfl
@[simp] theorem Dev.modSys_wake (f : SysSt → SysSt) : (d.modSys f).wake = d.wake := rfl
@[simp] theorem Dev.modSys_pwr (f : SysSt → SysSt) : (d.modSys f).pwr = d.pwr := rfl
@[simp] theorem Dev.modSys_bel (f : SysSt → SysSt) : (d.modSys f).bel = d.bel := rfl
@[simp] theorem Dev.modSys_cup (f : SysSt → SysSt) : (d.modSys f).cup = d.cup := rfl
@[simp] theorem Dev.modSys_core (f : SysSt → SysSt) : (d.modSys f).core = d.core := rfl
@[simp] theorem Dev.modSys_sense (f : SysSt → SysSt) : (d.modSys f).sense = d.sense := rfl
@[simp] theorem Dev.modSys_wave (f : SysSt → SysSt) : (d.modSys f).wave = d.wave := rfl
@[simp] theorem Dev.modSys_pwm (f : SysSt → SysSt) : (d.modSys f).pwm = d.pwm := rfl
@[simp] theorem Dev.modSys_grps (f : SysSt → SysSt) : (d.modSys f).grps = d.grps := rfl
@[simp] theorem Dev.modSys_fbs (f : SysSt → SysSt) : (d.modSys f).fbs = d.fbs := rfl
@[simp] theorem Dev.modSys_fbd (f : SysSt → SysSt) : (d.modSys f).fbd = d.fbd := rfl
@[simp] theorem Dev.modSys_mots (f : SysSt → SysSt) : (d.modSys f).mots = d.mots := rfl
@[simp] theorem Dev.modSys_mot (f : SysSt → SysSt) : (d.modSys f).mot = d.mot := rfl
@[simp] theorem Dev.modSys_saf (f : SysSt → SysSt) : (d.modSys f).saf = d.saf := rfl
@[simp] theorem Dev.modSys_ocu (f : SysSt → SysSt) : (d.modSys f).ocu = d.ocu := rfl
@[simp] theorem Dev.modSys_lans (f : SysSt → SysSt) : (d.modSys f).lans = d.lans := rfl
@[simp] theorem Dev.modSys_host (f : SysSt → SysSt) : (d.modSys f).host = d.host := rfl
@[simp] theorem Dev.modSys_dma (f : SysSt → SysSt) : (d.modSys f).dma = d.dma := rfl
@[simp] theorem Dev.modSys_ring (f : SysSt → SysSt) : (d.modSys f).ring = d.ring := rfl
@[simp] theorem Dev.modSys_fios (f : SysSt → SysSt) : (d.modSys f).fios = d.fios := rfl
@[simp] theorem Dev.modSys_cans (f : SysSt → SysSt) : (d.modSys f).cans = d.cans := rfl
@[simp] theorem Dev.modSys_uarts (f : SysSt → SysSt) : (d.modSys f).uarts = d.uarts := rfl
@[simp] theorem Dev.modSys_upd (f : SysSt → SysSt) : (d.modSys f).upd = d.upd := rfl
@[simp] theorem Dev.modSys_free (f : SysSt → SysSt) : (d.modSys f).free = d.free := rfl
@[simp] theorem Dev.modSys_out (f : SysSt → SysSt) : (d.modSys f).out = d.out := rfl

/-! `Dev.modTime` -/
@[simp] theorem Dev.modTime_regs (f : TimeSt → TimeSt) : (d.modTime f).regs = d.regs := rfl
@[simp] theorem Dev.modTime_mem (f : TimeSt → TimeSt) : (d.modTime f).mem = d.mem := rfl
@[simp] theorem Dev.modTime_sys (f : TimeSt → TimeSt) : (d.modTime f).sys = d.sys := rfl
@[simp] theorem Dev.modTime_time (f : TimeSt → TimeSt) : (d.modTime f).time = f d.time := rfl
@[simp] theorem Dev.modTime_wake (f : TimeSt → TimeSt) : (d.modTime f).wake = d.wake := rfl
@[simp] theorem Dev.modTime_pwr (f : TimeSt → TimeSt) : (d.modTime f).pwr = d.pwr := rfl
@[simp] theorem Dev.modTime_bel (f : TimeSt → TimeSt) : (d.modTime f).bel = d.bel := rfl
@[simp] theorem Dev.modTime_cup (f : TimeSt → TimeSt) : (d.modTime f).cup = d.cup := rfl
@[simp] theorem Dev.modTime_core (f : TimeSt → TimeSt) : (d.modTime f).core = d.core := rfl
@[simp] theorem Dev.modTime_sense (f : TimeSt → TimeSt) : (d.modTime f).sense = d.sense := rfl
@[simp] theorem Dev.modTime_wave (f : TimeSt → TimeSt) : (d.modTime f).wave = d.wave := rfl
@[simp] theorem Dev.modTime_pwm (f : TimeSt → TimeSt) : (d.modTime f).pwm = d.pwm := rfl
@[simp] theorem Dev.modTime_grps (f : TimeSt → TimeSt) : (d.modTime f).grps = d.grps := rfl
@[simp] theorem Dev.modTime_fbs (f : TimeSt → TimeSt) : (d.modTime f).fbs = d.fbs := rfl
@[simp] theorem Dev.modTime_fbd (f : TimeSt → TimeSt) : (d.modTime f).fbd = d.fbd := rfl
@[simp] theorem Dev.modTime_mots (f : TimeSt → TimeSt) : (d.modTime f).mots = d.mots := rfl
@[simp] theorem Dev.modTime_mot (f : TimeSt → TimeSt) : (d.modTime f).mot = d.mot := rfl
@[simp] theorem Dev.modTime_saf (f : TimeSt → TimeSt) : (d.modTime f).saf = d.saf := rfl
@[simp] theorem Dev.modTime_ocu (f : TimeSt → TimeSt) : (d.modTime f).ocu = d.ocu := rfl
@[simp] theorem Dev.modTime_lans (f : TimeSt → TimeSt) : (d.modTime f).lans = d.lans := rfl
@[simp] theorem Dev.modTime_host (f : TimeSt → TimeSt) : (d.modTime f).host = d.host := rfl
@[simp] theorem Dev.modTime_dma (f : TimeSt → TimeSt) : (d.modTime f).dma = d.dma := rfl
@[simp] theorem Dev.modTime_ring (f : TimeSt → TimeSt) : (d.modTime f).ring = d.ring := rfl
@[simp] theorem Dev.modTime_fios (f : TimeSt → TimeSt) : (d.modTime f).fios = d.fios := rfl
@[simp] theorem Dev.modTime_cans (f : TimeSt → TimeSt) : (d.modTime f).cans = d.cans := rfl
@[simp] theorem Dev.modTime_uarts (f : TimeSt → TimeSt) : (d.modTime f).uarts = d.uarts := rfl
@[simp] theorem Dev.modTime_upd (f : TimeSt → TimeSt) : (d.modTime f).upd = d.upd := rfl
@[simp] theorem Dev.modTime_free (f : TimeSt → TimeSt) : (d.modTime f).free = d.free := rfl
@[simp] theorem Dev.modTime_out (f : TimeSt → TimeSt) : (d.modTime f).out = d.out := rfl

/-! `Dev.modWake` -/
@[simp] theorem Dev.modWake_regs (f : WakeSt → WakeSt) : (d.modWake f).regs = d.regs := rfl
@[simp] theorem Dev.modWake_mem (f : WakeSt → WakeSt) : (d.modWake f).mem = d.mem := rfl
@[simp] theorem Dev.modWake_sys (f : WakeSt → WakeSt) : (d.modWake f).sys = d.sys := rfl
@[simp] theorem Dev.modWake_time (f : WakeSt → WakeSt) : (d.modWake f).time = d.time := rfl
@[simp] theorem Dev.modWake_wake (f : WakeSt → WakeSt) : (d.modWake f).wake = f d.wake := rfl
@[simp] theorem Dev.modWake_pwr (f : WakeSt → WakeSt) : (d.modWake f).pwr = d.pwr := rfl
@[simp] theorem Dev.modWake_bel (f : WakeSt → WakeSt) : (d.modWake f).bel = d.bel := rfl
@[simp] theorem Dev.modWake_cup (f : WakeSt → WakeSt) : (d.modWake f).cup = d.cup := rfl
@[simp] theorem Dev.modWake_core (f : WakeSt → WakeSt) : (d.modWake f).core = d.core := rfl
@[simp] theorem Dev.modWake_sense (f : WakeSt → WakeSt) : (d.modWake f).sense = d.sense := rfl
@[simp] theorem Dev.modWake_wave (f : WakeSt → WakeSt) : (d.modWake f).wave = d.wave := rfl
@[simp] theorem Dev.modWake_pwm (f : WakeSt → WakeSt) : (d.modWake f).pwm = d.pwm := rfl
@[simp] theorem Dev.modWake_grps (f : WakeSt → WakeSt) : (d.modWake f).grps = d.grps := rfl
@[simp] theorem Dev.modWake_fbs (f : WakeSt → WakeSt) : (d.modWake f).fbs = d.fbs := rfl
@[simp] theorem Dev.modWake_fbd (f : WakeSt → WakeSt) : (d.modWake f).fbd = d.fbd := rfl
@[simp] theorem Dev.modWake_mots (f : WakeSt → WakeSt) : (d.modWake f).mots = d.mots := rfl
@[simp] theorem Dev.modWake_mot (f : WakeSt → WakeSt) : (d.modWake f).mot = d.mot := rfl
@[simp] theorem Dev.modWake_saf (f : WakeSt → WakeSt) : (d.modWake f).saf = d.saf := rfl
@[simp] theorem Dev.modWake_ocu (f : WakeSt → WakeSt) : (d.modWake f).ocu = d.ocu := rfl
@[simp] theorem Dev.modWake_lans (f : WakeSt → WakeSt) : (d.modWake f).lans = d.lans := rfl
@[simp] theorem Dev.modWake_host (f : WakeSt → WakeSt) : (d.modWake f).host = d.host := rfl
@[simp] theorem Dev.modWake_dma (f : WakeSt → WakeSt) : (d.modWake f).dma = d.dma := rfl
@[simp] theorem Dev.modWake_ring (f : WakeSt → WakeSt) : (d.modWake f).ring = d.ring := rfl
@[simp] theorem Dev.modWake_fios (f : WakeSt → WakeSt) : (d.modWake f).fios = d.fios := rfl
@[simp] theorem Dev.modWake_cans (f : WakeSt → WakeSt) : (d.modWake f).cans = d.cans := rfl
@[simp] theorem Dev.modWake_uarts (f : WakeSt → WakeSt) : (d.modWake f).uarts = d.uarts := rfl
@[simp] theorem Dev.modWake_upd (f : WakeSt → WakeSt) : (d.modWake f).upd = d.upd := rfl
@[simp] theorem Dev.modWake_free (f : WakeSt → WakeSt) : (d.modWake f).free = d.free := rfl
@[simp] theorem Dev.modWake_out (f : WakeSt → WakeSt) : (d.modWake f).out = d.out := rfl

/-! `Dev.modPwr` -/
@[simp] theorem Dev.modPwr_regs (f : PowerSt → PowerSt) : (d.modPwr f).regs = d.regs := rfl
@[simp] theorem Dev.modPwr_mem (f : PowerSt → PowerSt) : (d.modPwr f).mem = d.mem := rfl
@[simp] theorem Dev.modPwr_sys (f : PowerSt → PowerSt) : (d.modPwr f).sys = d.sys := rfl
@[simp] theorem Dev.modPwr_time (f : PowerSt → PowerSt) : (d.modPwr f).time = d.time := rfl
@[simp] theorem Dev.modPwr_wake (f : PowerSt → PowerSt) : (d.modPwr f).wake = d.wake := rfl
@[simp] theorem Dev.modPwr_pwr (f : PowerSt → PowerSt) : (d.modPwr f).pwr = f d.pwr := rfl
@[simp] theorem Dev.modPwr_bel (f : PowerSt → PowerSt) : (d.modPwr f).bel = d.bel := rfl
@[simp] theorem Dev.modPwr_cup (f : PowerSt → PowerSt) : (d.modPwr f).cup = d.cup := rfl
@[simp] theorem Dev.modPwr_core (f : PowerSt → PowerSt) : (d.modPwr f).core = d.core := rfl
@[simp] theorem Dev.modPwr_sense (f : PowerSt → PowerSt) : (d.modPwr f).sense = d.sense := rfl
@[simp] theorem Dev.modPwr_wave (f : PowerSt → PowerSt) : (d.modPwr f).wave = d.wave := rfl
@[simp] theorem Dev.modPwr_pwm (f : PowerSt → PowerSt) : (d.modPwr f).pwm = d.pwm := rfl
@[simp] theorem Dev.modPwr_grps (f : PowerSt → PowerSt) : (d.modPwr f).grps = d.grps := rfl
@[simp] theorem Dev.modPwr_fbs (f : PowerSt → PowerSt) : (d.modPwr f).fbs = d.fbs := rfl
@[simp] theorem Dev.modPwr_fbd (f : PowerSt → PowerSt) : (d.modPwr f).fbd = d.fbd := rfl
@[simp] theorem Dev.modPwr_mots (f : PowerSt → PowerSt) : (d.modPwr f).mots = d.mots := rfl
@[simp] theorem Dev.modPwr_mot (f : PowerSt → PowerSt) : (d.modPwr f).mot = d.mot := rfl
@[simp] theorem Dev.modPwr_saf (f : PowerSt → PowerSt) : (d.modPwr f).saf = d.saf := rfl
@[simp] theorem Dev.modPwr_ocu (f : PowerSt → PowerSt) : (d.modPwr f).ocu = d.ocu := rfl
@[simp] theorem Dev.modPwr_lans (f : PowerSt → PowerSt) : (d.modPwr f).lans = d.lans := rfl
@[simp] theorem Dev.modPwr_host (f : PowerSt → PowerSt) : (d.modPwr f).host = d.host := rfl
@[simp] theorem Dev.modPwr_dma (f : PowerSt → PowerSt) : (d.modPwr f).dma = d.dma := rfl
@[simp] theorem Dev.modPwr_ring (f : PowerSt → PowerSt) : (d.modPwr f).ring = d.ring := rfl
@[simp] theorem Dev.modPwr_fios (f : PowerSt → PowerSt) : (d.modPwr f).fios = d.fios := rfl
@[simp] theorem Dev.modPwr_cans (f : PowerSt → PowerSt) : (d.modPwr f).cans = d.cans := rfl
@[simp] theorem Dev.modPwr_uarts (f : PowerSt → PowerSt) : (d.modPwr f).uarts = d.uarts := rfl
@[simp] theorem Dev.modPwr_upd (f : PowerSt → PowerSt) : (d.modPwr f).upd = d.upd := rfl
@[simp] theorem Dev.modPwr_free (f : PowerSt → PowerSt) : (d.modPwr f).free = d.free := rfl
@[simp] theorem Dev.modPwr_out (f : PowerSt → PowerSt) : (d.modPwr f).out = d.out := rfl

/-! `Dev.modBel` -/
@[simp] theorem Dev.modBel_regs (f : BelSt → BelSt) : (d.modBel f).regs = d.regs := rfl
@[simp] theorem Dev.modBel_mem (f : BelSt → BelSt) : (d.modBel f).mem = d.mem := rfl
@[simp] theorem Dev.modBel_sys (f : BelSt → BelSt) : (d.modBel f).sys = d.sys := rfl
@[simp] theorem Dev.modBel_time (f : BelSt → BelSt) : (d.modBel f).time = d.time := rfl
@[simp] theorem Dev.modBel_wake (f : BelSt → BelSt) : (d.modBel f).wake = d.wake := rfl
@[simp] theorem Dev.modBel_pwr (f : BelSt → BelSt) : (d.modBel f).pwr = d.pwr := rfl
@[simp] theorem Dev.modBel_bel (f : BelSt → BelSt) : (d.modBel f).bel = f d.bel := rfl
@[simp] theorem Dev.modBel_cup (f : BelSt → BelSt) : (d.modBel f).cup = d.cup := rfl
@[simp] theorem Dev.modBel_core (f : BelSt → BelSt) : (d.modBel f).core = d.core := rfl
@[simp] theorem Dev.modBel_sense (f : BelSt → BelSt) : (d.modBel f).sense = d.sense := rfl
@[simp] theorem Dev.modBel_wave (f : BelSt → BelSt) : (d.modBel f).wave = d.wave := rfl
@[simp] theorem Dev.modBel_pwm (f : BelSt → BelSt) : (d.modBel f).pwm = d.pwm := rfl
@[simp] theorem Dev.modBel_grps (f : BelSt → BelSt) : (d.modBel f).grps = d.grps := rfl
@[simp] theorem Dev.modBel_fbs (f : BelSt → BelSt) : (d.modBel f).fbs = d.fbs := rfl
@[simp] theorem Dev.modBel_fbd (f : BelSt → BelSt) : (d.modBel f).fbd = d.fbd := rfl
@[simp] theorem Dev.modBel_mots (f : BelSt → BelSt) : (d.modBel f).mots = d.mots := rfl
@[simp] theorem Dev.modBel_mot (f : BelSt → BelSt) : (d.modBel f).mot = d.mot := rfl
@[simp] theorem Dev.modBel_saf (f : BelSt → BelSt) : (d.modBel f).saf = d.saf := rfl
@[simp] theorem Dev.modBel_ocu (f : BelSt → BelSt) : (d.modBel f).ocu = d.ocu := rfl
@[simp] theorem Dev.modBel_lans (f : BelSt → BelSt) : (d.modBel f).lans = d.lans := rfl
@[simp] theorem Dev.modBel_host (f : BelSt → BelSt) : (d.modBel f).host = d.host := rfl
@[simp] theorem Dev.modBel_dma (f : BelSt → BelSt) : (d.modBel f).dma = d.dma := rfl
@[simp] theorem Dev.modBel_ring (f : BelSt → BelSt) : (d.modBel f).ring = d.ring := rfl
@[simp] theorem Dev.modBel_fios (f : BelSt → BelSt) : (d.modBel f).fios = d.fios := rfl
@[simp] theorem Dev.modBel_cans (f : BelSt → BelSt) : (d.modBel f).cans = d.cans := rfl
@[simp] theorem Dev.modBel_uarts (f : BelSt → BelSt) : (d.modBel f).uarts = d.uarts := rfl
@[simp] theorem Dev.modBel_upd (f : BelSt → BelSt) : (d.modBel f).upd = d.upd := rfl
@[simp] theorem Dev.modBel_free (f : BelSt → BelSt) : (d.modBel f).free = d.free := rfl
@[simp] theorem Dev.modBel_out (f : BelSt → BelSt) : (d.modBel f).out = d.out := rfl

/-! `Dev.modCup` -/
@[simp] theorem Dev.modCup_regs (f : CupSt → CupSt) : (d.modCup f).regs = d.regs := rfl
@[simp] theorem Dev.modCup_mem (f : CupSt → CupSt) : (d.modCup f).mem = d.mem := rfl
@[simp] theorem Dev.modCup_sys (f : CupSt → CupSt) : (d.modCup f).sys = d.sys := rfl
@[simp] theorem Dev.modCup_time (f : CupSt → CupSt) : (d.modCup f).time = d.time := rfl
@[simp] theorem Dev.modCup_wake (f : CupSt → CupSt) : (d.modCup f).wake = d.wake := rfl
@[simp] theorem Dev.modCup_pwr (f : CupSt → CupSt) : (d.modCup f).pwr = d.pwr := rfl
@[simp] theorem Dev.modCup_bel (f : CupSt → CupSt) : (d.modCup f).bel = d.bel := rfl
@[simp] theorem Dev.modCup_cup (f : CupSt → CupSt) : (d.modCup f).cup = f d.cup := rfl
@[simp] theorem Dev.modCup_core (f : CupSt → CupSt) : (d.modCup f).core = d.core := rfl
@[simp] theorem Dev.modCup_sense (f : CupSt → CupSt) : (d.modCup f).sense = d.sense := rfl
@[simp] theorem Dev.modCup_wave (f : CupSt → CupSt) : (d.modCup f).wave = d.wave := rfl
@[simp] theorem Dev.modCup_pwm (f : CupSt → CupSt) : (d.modCup f).pwm = d.pwm := rfl
@[simp] theorem Dev.modCup_grps (f : CupSt → CupSt) : (d.modCup f).grps = d.grps := rfl
@[simp] theorem Dev.modCup_fbs (f : CupSt → CupSt) : (d.modCup f).fbs = d.fbs := rfl
@[simp] theorem Dev.modCup_fbd (f : CupSt → CupSt) : (d.modCup f).fbd = d.fbd := rfl
@[simp] theorem Dev.modCup_mots (f : CupSt → CupSt) : (d.modCup f).mots = d.mots := rfl
@[simp] theorem Dev.modCup_mot (f : CupSt → CupSt) : (d.modCup f).mot = d.mot := rfl
@[simp] theorem Dev.modCup_saf (f : CupSt → CupSt) : (d.modCup f).saf = d.saf := rfl
@[simp] theorem Dev.modCup_ocu (f : CupSt → CupSt) : (d.modCup f).ocu = d.ocu := rfl
@[simp] theorem Dev.modCup_lans (f : CupSt → CupSt) : (d.modCup f).lans = d.lans := rfl
@[simp] theorem Dev.modCup_host (f : CupSt → CupSt) : (d.modCup f).host = d.host := rfl
@[simp] theorem Dev.modCup_dma (f : CupSt → CupSt) : (d.modCup f).dma = d.dma := rfl
@[simp] theorem Dev.modCup_ring (f : CupSt → CupSt) : (d.modCup f).ring = d.ring := rfl
@[simp] theorem Dev.modCup_fios (f : CupSt → CupSt) : (d.modCup f).fios = d.fios := rfl
@[simp] theorem Dev.modCup_cans (f : CupSt → CupSt) : (d.modCup f).cans = d.cans := rfl
@[simp] theorem Dev.modCup_uarts (f : CupSt → CupSt) : (d.modCup f).uarts = d.uarts := rfl
@[simp] theorem Dev.modCup_upd (f : CupSt → CupSt) : (d.modCup f).upd = d.upd := rfl
@[simp] theorem Dev.modCup_free (f : CupSt → CupSt) : (d.modCup f).free = d.free := rfl
@[simp] theorem Dev.modCup_out (f : CupSt → CupSt) : (d.modCup f).out = d.out := rfl

/-! `Dev.setAx` -/
@[simp] theorem Dev.setAx_regs (n : Nat) (c : AxCore) : (d.setAx n c).regs = d.regs := rfl
@[simp] theorem Dev.setAx_mem (n : Nat) (c : AxCore) : (d.setAx n c).mem = d.mem := rfl
@[simp] theorem Dev.setAx_sys (n : Nat) (c : AxCore) : (d.setAx n c).sys = d.sys := rfl
@[simp] theorem Dev.setAx_time (n : Nat) (c : AxCore) : (d.setAx n c).time = d.time := rfl
@[simp] theorem Dev.setAx_wake (n : Nat) (c : AxCore) : (d.setAx n c).wake = d.wake := rfl
@[simp] theorem Dev.setAx_pwr (n : Nat) (c : AxCore) : (d.setAx n c).pwr = d.pwr := rfl
@[simp] theorem Dev.setAx_bel (n : Nat) (c : AxCore) : (d.setAx n c).bel = d.bel := rfl
@[simp] theorem Dev.setAx_cup (n : Nat) (c : AxCore) : (d.setAx n c).cup = d.cup := rfl
@[simp] theorem Dev.setAx_core (n : Nat) (c : AxCore) : (d.setAx n c).core = AList.put d.core n c := rfl
@[simp] theorem Dev.setAx_sense (n : Nat) (c : AxCore) : (d.setAx n c).sense = d.sense := rfl
@[simp] theorem Dev.setAx_wave (n : Nat) (c : AxCore) : (d.setAx n c).wave = d.wave := rfl
@[simp] theorem Dev.setAx_pwm (n : Nat) (c : AxCore) : (d.setAx n c).pwm = d.pwm := rfl
@[simp] theorem Dev.setAx_grps (n : Nat) (c : AxCore) : (d.setAx n c).grps = d.grps := rfl
@[simp] theorem Dev.setAx_fbs (n : Nat) (c : AxCore) : (d.setAx n c).fbs = d.fbs := rfl
@[simp] theorem Dev.setAx_fbd (n : Nat) (c : AxCore) : (d.setAx n c).fbd = d.fbd := rfl
@[simp] theorem Dev.setAx_mots (n : Nat) (c : AxCore) : (d.setAx n c).mots = d.mots := rfl
@[simp] theorem Dev.setAx_mot (n : Nat) (c : AxCore) : (d.setAx n c).mot = d.mot := rfl
@[simp] theorem Dev.setAx_saf (n : Nat) (c : AxCore) : (d.setAx n c).saf = d.saf := rfl
@[simp] theorem Dev.setAx_ocu (n : Nat) (c : AxCore) : (d.setAx n c).ocu = d.ocu := rfl
@[simp] theorem Dev.setAx_lans (n : Nat) (c : AxCore) : (d.setAx n c).lans = d.lans := rfl
@[simp] theorem Dev.setAx_host (n : Nat) (c : AxCore) : (d.setAx n c).host = d.host := rfl
@[simp] theorem Dev.setAx_dma (n : Nat) (c : AxCore) : (d.setAx n c).dma = d.dma := rfl
@[simp] theorem Dev.setAx_ring (n : Nat) (c : AxCore) : (d.setAx n c).ring = d.ring := rfl
@[simp] theorem Dev.setAx_fios (n : Nat) (c : AxCore) : (d.setAx n c).fios = d.fios := rfl
@[simp] theorem Dev.setAx_cans (n : Nat) (c : AxCore) : (d.setAx n c).cans = d.cans := rfl
@[simp] theorem Dev.setAx_uarts (n : Nat) (c : AxCore) : (d.setAx n c).uarts = d.uarts := rfl
@[simp] theorem Dev.setAx_upd (n : Nat) (c : AxCore) : (d.setAx n c).upd = d.upd := rfl
@[simp] theorem Dev.setAx_free (n : Nat) (c : AxCore) : (d.setAx n c).free = d.free := rfl
@[simp] theorem Dev.setAx_out (n : Nat) (c : AxCore) : (d.setAx n c).out = d.out := rfl

/-! `Dev.setSns` -/
@[simp] theorem Dev.setSns_regs (n : Nat) (c : AxSense) : (d.setSns n c).regs = d.regs := rfl
@[simp] theorem Dev.setSns_mem (n : Nat) (c : AxSense) : (d.setSns n c).mem = d.mem := rfl
@[simp] theorem Dev.setSns_sys (n : Nat) (c : AxSense) : (d.setSns n c).sys = d.sys := rfl
@[simp] theorem Dev.setSns_time (n : Nat) (c : AxSense) : (d.setSns n c).time = d.time := rfl
@[simp] theorem Dev.setSns_wake (n : Nat) (c : AxSense) : (d.setSns n c).wake = d.wake := rfl
@[simp] theorem Dev.setSns_pwr (n : Nat) (c : AxSense) : (d.setSns n c).pwr = d.pwr := rfl
@[simp] theorem Dev.setSns_bel (n : Nat) (c : AxSense) : (d.setSns n c).bel = d.bel := rfl
@[simp] theorem Dev.setSns_cup (n : Nat) (c : AxSense) : (d.setSns n c).cup = d.cup := rfl
@[simp] theorem Dev.setSns_core (n : Nat) (c : AxSense) : (d.setSns n c).core = d.core := rfl
@[simp] theorem Dev.setSns_sense (n : Nat) (c : AxSense) : (d.setSns n c).sense = AList.put d.sense n c := rfl
@[simp] theorem Dev.setSns_wave (n : Nat) (c : AxSense) : (d.setSns n c).wave = d.wave := rfl
@[simp] theorem Dev.setSns_pwm (n : Nat) (c : AxSense) : (d.setSns n c).pwm = d.pwm := rfl
@[simp] theorem Dev.setSns_grps (n : Nat) (c : AxSense) : (d.setSns n c).grps = d.grps := rfl
@[simp] theorem Dev.setSns_fbs (n : Nat) (c : AxSense) : (d.setSns n c).fbs = d.fbs := rfl
@[simp] theorem Dev.setSns_fbd (n : Nat) (c : AxSense) : (d.setSns n c).fbd = d.fbd := rfl
@[simp] theorem Dev.setSns_mots (n : Nat) (c : AxSense) : (d.setSns n c).mots = d.mots := rfl
@[simp] theorem Dev.setSns_mot (n : Nat) (c : AxSense) : (d.setSns n c).mot = d.mot := rfl
@[simp] theorem Dev.setSns_saf (n : Nat) (c : AxSense) : (d.setSns n c).saf = d.saf := rfl
@[simp] theorem Dev.setSns_ocu (n : Nat) (c : AxSense) : (d.setSns n c).ocu = d.ocu := rfl
@[simp] theorem Dev.setSns_lans (n : Nat) (c : AxSense) : (d.setSns n c).lans = d.lans := rfl
@[simp] theorem Dev.setSns_host (n : Nat) (c : AxSense) : (d.setSns n c).host = d.host := rfl
@[simp] theorem Dev.setSns_dma (n : Nat) (c : AxSense) : (d.setSns n c).dma = d.dma := rfl
@[simp] theorem Dev.setSns_ring (n : Nat) (c : AxSense) : (d.setSns n c).ring = d.ring := rfl
@[simp] theorem Dev.setSns_fios (n : Nat) (c : AxSense) : (d.setSns n c).fios = d.fios := rfl
@[simp] theorem Dev.setSns_cans (n : Nat) (c : AxSense) : (d.setSns n c).cans = d.cans := rfl
@[simp] theorem Dev.setSns_uarts (n : Nat) (c : AxSense) : (d.setSns n c).uarts = d.uarts := rfl
@[simp] theorem Dev.setSns_upd (n : Nat) (c : AxSense) : (d.setSns n c).upd = d.upd := rfl
@[simp] theorem Dev.setSns_free (n : Nat) (c : AxSense) : (d.setSns n c).free = d.free := rfl
@[simp] theorem Dev.setSns_out (n : Nat) (c : AxSense) : (d.setSns n c).out = d.out := rfl

/-! `Dev.setWav` -/
@[simp] theorem Dev.setWav_regs (n : Nat) (c : AxWave) : (d.setWav n c).regs = d.regs := rfl
@[simp] theorem Dev.setWav_mem (n : Nat) (c : AxWave) : (d.setWav n c).mem = d.mem := rfl
@[simp] theorem Dev.setWav_sys (n : Nat) (c : AxWave) : (d.setWav n c).sys = d.sys := rfl
@[simp] theorem Dev.setWav_time (n : Nat) (c : AxWave) : (d.setWav n c).time = d.time := rfl
@[simp] theorem Dev.setWav_wake (n : Nat) (c : AxWave) : (d.setWav n c).wake = d.wake := rfl
@[simp] theorem Dev.setWav_pwr (n : Nat) (c : AxWave) : (d.setWav n c).pwr = d.pwr := rfl
@[simp] theorem Dev.setWav_bel (n : Nat) (c : AxWave) : (d.setWav n c).bel = d.bel := rfl
@[simp] theorem Dev.setWav_cup (n : Nat) (c : AxWave) : (d.setWav n c).cup = d.cup := rfl
@[simp] theorem Dev.setWav_core (n : Nat) (c : AxWave) : (d.setWav n c).core = d.core := rfl
@[simp] theorem Dev.setWav_sense (n : Nat) (c : AxWave) : (d.setWav n c).sense = d.sense := rfl
@[simp] theorem Dev.setWav_wave (n : Nat) (c : AxWave) : (d.setWav n c).wave = AList.put d.wave n c := rfl
@[simp] theorem Dev.setWav_pwm (n : Nat) (c : AxWave) : (d.setWav n c).pwm = d.pwm := rfl
@[simp] theorem Dev.setWav_grps (n : Nat) (c : AxWave) : (d.setWav n c).grps = d.grps := rfl
@[simp] theorem Dev.setWav_fbs (n : Nat) (c : AxWave) : (d.setWav n c).fbs = d.fbs := rfl
@[simp] theorem Dev.setWav_fbd (n : Nat) (c : AxWave) : (d.setWav n c).fbd = d.fbd := rfl
@[simp] theorem Dev.setWav_mots (n : Nat) (c : AxWave) : (d.setWav n c).mots = d.mots := rfl
@[simp] theorem Dev.setWav_mot (n : Nat) (c : AxWave) : (d.setWav n c).mot = d.mot := rfl
@[simp] theorem Dev.setWav_saf (n : Nat) (c : AxWave) : (d.setWav n c).saf = d.saf := rfl
@[simp] theorem Dev.setWav_ocu (n : Nat) (c : AxWave) : (d.setWav n c).ocu = d.ocu := rfl
@[simp] theorem Dev.setWav_lans (n : Nat) (c : AxWave) : (d.setWav n c).lans = d.lans := rfl
@[simp] theorem Dev.setWav_host (n : Nat) (c : AxWave) : (d.setWav n c).host = d.host := rfl
@[simp] theorem Dev.setWav_dma (n : Nat) (c : AxWave) : (d.setWav n c).dma = d.dma := rfl
@[simp] theorem Dev.setWav_ring (n : Nat) (c : AxWave) : (d.setWav n c).ring = d.ring := rfl
@[simp] theorem Dev.setWav_fios (n : Nat) (c : AxWave) : (d.setWav n c).fios = d.fios := rfl
@[simp] theorem Dev.setWav_cans (n : Nat) (c : AxWave) : (d.setWav n c).cans = d.cans := rfl
@[simp] theorem Dev.setWav_uarts (n : Nat) (c : AxWave) : (d.setWav n c).uarts = d.uarts := rfl
@[simp] theorem Dev.setWav_upd (n : Nat) (c : AxWave) : (d.setWav n c).upd = d.upd := rfl
@[simp] theorem Dev.setWav_free (n : Nat) (c : AxWave) : (d.setWav n c).free = d.free := rfl
@[simp] theorem Dev.setWav_out (n : Nat) (c : AxWave) : (d.setWav n c).out = d.out := rfl

/-! `Dev.setPw` -/
@[simp] theorem Dev.setPw_regs (n : Nat) (c : AxPwm) : (d.setPw n c).regs = d.regs := rfl
@[simp] theorem Dev.setPw_mem (n : Nat) (c : AxPwm) : (d.setPw n c).mem = d.mem := rfl
@[simp] theorem Dev.setPw_sys (n : Nat) (c : AxPwm) : (d.setPw n c).sys = d.sys := rfl
@[simp] theorem Dev.setPw_time (n : Nat) (c : AxPwm) : (d.setPw n c).time = d.time := rfl
@[simp] theorem Dev.setPw_wake (n : Nat) (c : AxPwm) : (d.setPw n c).wake = d.wake := rfl
@[simp] theorem Dev.setPw_pwr (n : Nat) (c : AxPwm) : (d.setPw n c).pwr = d.pwr := rfl
@[simp] theorem Dev.setPw_bel (n : Nat) (c : AxPwm) : (d.setPw n c).bel = d.bel := rfl
@[simp] theorem Dev.setPw_cup (n : Nat) (c : AxPwm) : (d.setPw n c).cup = d.cup := rfl
@[simp] theorem Dev.setPw_core (n : Nat) (c : AxPwm) : (d.setPw n c).core = d.core := rfl
@[simp] theorem Dev.setPw_sense (n : Nat) (c : AxPwm) : (d.setPw n c).sense = d.sense := rfl
@[simp] theorem Dev.setPw_wave (n : Nat) (c : AxPwm) : (d.setPw n c).wave = d.wave := rfl
@[simp] theorem Dev.setPw_pwm (n : Nat) (c : AxPwm) : (d.setPw n c).pwm = AList.put d.pwm n c := rfl
@[simp] theorem Dev.setPw_grps (n : Nat) (c : AxPwm) : (d.setPw n c).grps = d.grps := rfl
@[simp] theorem Dev.setPw_fbs (n : Nat) (c : AxPwm) : (d.setPw n c).fbs = d.fbs := rfl
@[simp] theorem Dev.setPw_fbd (n : Nat) (c : AxPwm) : (d.setPw n c).fbd = d.fbd := rfl
@[simp] theorem Dev.setPw_mots (n : Nat) (c : AxPwm) : (d.setPw n c).mots = d.mots := rfl
@[simp] theorem Dev.setPw_mot (n : Nat) (c : AxPwm) : (d.setPw n c).mot = d.mot := rfl
@[simp] theorem Dev.setPw_saf (n : Nat) (c : AxPwm) : (d.setPw n c).saf = d.saf := rfl
@[simp] theorem Dev.setPw_ocu (n : Nat) (c : AxPwm) : (d.setPw n c).ocu = d.ocu := rfl
@[simp] theorem Dev.setPw_lans (n : Nat) (c : AxPwm) : (d.setPw n c).lans = d.lans := rfl
@[simp] theorem Dev.setPw_host (n : Nat) (c : AxPwm) : (d.setPw n c).host = d.host := rfl
@[simp] theorem Dev.setPw_dma (n : Nat) (c : AxPwm) : (d.setPw n c).dma = d.dma := rfl
@[simp] theorem Dev.setPw_ring (n : Nat) (c : AxPwm) : (d.setPw n c).ring = d.ring := rfl
@[simp] theorem Dev.setPw_fios (n : Nat) (c : AxPwm) : (d.setPw n c).fios = d.fios := rfl
@[simp] theorem Dev.setPw_cans (n : Nat) (c : AxPwm) : (d.setPw n c).cans = d.cans := rfl
@[simp] theorem Dev.setPw_uarts (n : Nat) (c : AxPwm) : (d.setPw n c).uarts = d.uarts := rfl
@[simp] theorem Dev.setPw_upd (n : Nat) (c : AxPwm) : (d.setPw n c).upd = d.upd := rfl
@[simp] theorem Dev.setPw_free (n : Nat) (c : AxPwm) : (d.setPw n c).free = d.free := rfl
@[simp] theorem Dev.setPw_out (n : Nat) (c : AxPwm) : (d.setPw n c).out = d.out := rfl

/-! `Dev.setGrp` -/
@[simp] theorem Dev.setGrp_regs (g : Nat) (c : SdGrp) : (d.setGrp g c).regs = d.regs := rfl
@[simp] theorem Dev.setGrp_mem (g : Nat) (c : SdGrp) : (d.setGrp g c).mem = d.mem := rfl
@[simp] theorem Dev.setGrp_sys (g : Nat) (c : SdGrp) : (d.setGrp g c).sys = d.sys := rfl
@[simp] theorem Dev.setGrp_time (g : Nat) (c : SdGrp) : (d.setGrp g c).time = d.time := rfl
@[simp] theorem Dev.setGrp_wake (g : Nat) (c : SdGrp) : (d.setGrp g c).wake = d.wake := rfl
@[simp] theorem Dev.setGrp_pwr (g : Nat) (c : SdGrp) : (d.setGrp g c).pwr = d.pwr := rfl
@[simp] theorem Dev.setGrp_bel (g : Nat) (c : SdGrp) : (d.setGrp g c).bel = d.bel := rfl
@[simp] theorem Dev.setGrp_cup (g : Nat) (c : SdGrp) : (d.setGrp g c).cup = d.cup := rfl
@[simp] theorem Dev.setGrp_core (g : Nat) (c : SdGrp) : (d.setGrp g c).core = d.core := rfl
@[simp] theorem Dev.setGrp_sense (g : Nat) (c : SdGrp) : (d.setGrp g c).sense = d.sense := rfl
@[simp] theorem Dev.setGrp_wave (g : Nat) (c : SdGrp) : (d.setGrp g c).wave = d.wave := rfl
@[simp] theorem Dev.setGrp_pwm (g : Nat) (c : SdGrp) : (d.setGrp g c).pwm = d.pwm := rfl
@[simp] theorem Dev.setGrp_grps (g : Nat) (c : SdGrp) : (d.setGrp g c).grps = AList.put d.grps g c := rfl
@[simp] theorem Dev.setGrp_fbs (g : Nat) (c : SdGrp) : (d.setGrp g c).fbs = d.fbs := rfl
@[simp] theorem Dev.setGrp_fbd (g : Nat) (c : SdGrp) : (d.setGrp g c).fbd = d.fbd := rfl
@[simp] theorem Dev.setGrp_mots (g : Nat) (c : SdGrp) : (d.setGrp g c).mots = d.mots := rfl
@[simp] theorem Dev.setGrp_mot (g : Nat) (c : SdGrp) : (d.setGrp g c).mot = d.mot := rfl
@[simp] theorem Dev.setGrp_saf (g : Nat) (c : SdGrp) : (d.setGrp g c).saf = d.saf := rfl
@[simp] theorem Dev.setGrp_ocu (g : Nat) (c : SdGrp) : (d.setGrp g c).ocu = d.ocu := rfl
@[simp] theorem Dev.setGrp_lans (g : Nat) (c : SdGrp) : (d.setGrp g c).lans = d.lans := rfl
@[simp] theorem Dev.setGrp_host (g : Nat) (c : SdGrp) : (d.setGrp g c).host = d.host := rfl
@[simp] theorem Dev.setGrp_dma (g : Nat) (c : SdGrp) : (d.setGrp g c).dma = d.dma := rfl
@[simp] theorem Dev.setGrp_ring (g : Nat) (c : SdGrp) : (d.setGrp g c).ring = d.ring := rfl
@[simp] theorem Dev.setGrp_fios (g : Nat) (c : SdGrp) : (d.setGrp g c).fios = d.fios := rfl
@[simp] theorem Dev.setGrp_cans (g : Nat) (c : SdGrp) : (d.setGrp g c).cans = d.cans := rfl
@[simp] theorem Dev.setGrp_uarts (g : Nat) (c : SdGrp) : (d.setGrp g c).uarts = d.uarts := rfl
@[simp] theorem Dev.setGrp_upd (g : Nat) (c : SdGrp) : (d.setGrp g c).upd = d.upd := rfl
@[simp] theorem Dev.setGrp_free (g : Nat) (c : SdGrp) : (d.setGrp g c).free = d.free := rfl
@[simp] theorem Dev.setGrp_out (g : Nat) (c : SdGrp) : (d.setGrp g c).out = d.out := rfl

/-! `Dev.setFb` -/
@[simp] theorem Dev.setFb_regs (n : Nat) (c : AxFb) : (d.setFb n c).regs = d.regs := rfl
@[simp] theorem Dev.setFb_mem (n : Nat) (c : AxFb) : (d.setFb n c).mem = d.mem := rfl
@[simp] theorem Dev.setFb_sys (n : Nat) (c : AxFb) : (d.setFb n c).sys = d.sys := rfl
@[simp] theorem Dev.setFb_time (n : Nat) (c : AxFb) : (d.setFb n c).time = d.time := rfl
@[simp] theorem Dev.setFb_wake (n : Nat) (c : AxFb) : (d.setFb n c).wake = d.wake := rfl
@[simp] theorem Dev.setFb_pwr (n : Nat) (c : AxFb) : (d.setFb n c).pwr = d.pwr := rfl
@[simp] theorem Dev.setFb_bel (n : Nat) (c : AxFb) : (d.setFb n c).bel = d.bel := rfl
@[simp] theorem Dev.setFb_cup (n : Nat) (c : AxFb) : (d.setFb n c).cup = d.cup := rfl
@[simp] theorem Dev.setFb_core (n : Nat) (c : AxFb) : (d.setFb n c).core = d.core := rfl
@[simp] theorem Dev.setFb_sense (n : Nat) (c : AxFb) : (d.setFb n c).sense = d.sense := rfl
@[simp] theorem Dev.setFb_wave (n : Nat) (c : AxFb) : (d.setFb n c).wave = d.wave := rfl
@[simp] theorem Dev.setFb_pwm (n : Nat) (c : AxFb) : (d.setFb n c).pwm = d.pwm := rfl
@[simp] theorem Dev.setFb_grps (n : Nat) (c : AxFb) : (d.setFb n c).grps = d.grps := rfl
@[simp] theorem Dev.setFb_fbs (n : Nat) (c : AxFb) : (d.setFb n c).fbs = AList.put d.fbs n c := rfl
@[simp] theorem Dev.setFb_fbd (n : Nat) (c : AxFb) : (d.setFb n c).fbd = d.fbd := rfl
@[simp] theorem Dev.setFb_mots (n : Nat) (c : AxFb) : (d.setFb n c).mots = d.mots := rfl
@[simp] theorem Dev.setFb_mot (n : Nat) (c : AxFb) : (d.setFb n c).mot = d.mot := rfl
@[simp] theorem Dev.setFb_saf (n : Nat) (c : AxFb) : (d.setFb n c).saf = d.saf := rfl
@[simp] theorem Dev.setFb_ocu (n : Nat) (c : AxFb) : (d.setFb n c).ocu = d.ocu := rfl
@[simp] theorem Dev.setFb_lans (n : Nat) (c : AxFb) : (d.setFb n c).lans = d.lans := rfl
@[simp] theorem Dev.setFb_host (n : Nat) (c : AxFb) : (d.setFb n c).host = d.host := rfl
@[simp] theorem Dev.setFb_dma (n : Nat) (c : AxFb) : (d.setFb n c).dma = d.dma := rfl
@[simp] theorem Dev.setFb_ring (n : Nat) (c : AxFb) : (d.setFb n c).ring = d.ring := rfl
@[simp] theorem Dev.setFb_fios (n : Nat) (c : AxFb) : (d.setFb n c).fios = d.fios := rfl
@[simp] theorem Dev.setFb_cans (n : Nat) (c : AxFb) : (d.setFb n c).cans = d.cans := rfl
@[simp] theorem Dev.setFb_uarts (n : Nat) (c : AxFb) : (d.setFb n c).uarts = d.uarts := rfl
@[simp] theorem Dev.setFb_upd (n : Nat) (c : AxFb) : (d.setFb n c).upd = d.upd := rfl
@[simp] theorem Dev.setFb_free (n : Nat) (c : AxFb) : (d.setFb n c).free = d.free := rfl
@[simp] theorem Dev.setFb_out (n : Nat) (c : AxFb) : (d.setFb n c).out = d.out := rfl

/-! `Dev.modFbd` -/
@[simp] theorem Dev.modFbd_regs (f : FbDev → FbDev) : (d.modFbd f).regs = d.regs := rfl
@[simp] theorem Dev.modFbd_mem (f : FbDev → FbDev) : (d.modFbd f).mem = d.mem := rfl
@[simp] theorem Dev.modFbd_sys (f : FbDev → FbDev) : (d.modFbd f).sys = d.sys := rfl
@[simp] theorem Dev.modFbd_time (f : FbDev → FbDev) : (d.modFbd f).time = d.time := rfl
@[simp] theorem Dev.modFbd_wake (f : FbDev → FbDev) : (d.modFbd f).wake = d.wake := rfl
@[simp] theorem Dev.modFbd_pwr (f : FbDev → FbDev) : (d.modFbd f).pwr = d.pwr := rfl
@[simp] theorem Dev.modFbd_bel (f : FbDev → FbDev) : (d.modFbd f).bel = d.bel := rfl
@[simp] theorem Dev.modFbd_cup (f : FbDev → FbDev) : (d.modFbd f).cup = d.cup := rfl
@[simp] theorem Dev.modFbd_core (f : FbDev → FbDev) : (d.modFbd f).core = d.core := rfl
@[simp] theorem Dev.modFbd_sense (f : FbDev → FbDev) : (d.modFbd f).sense = d.sense := rfl
@[simp] theorem Dev.modFbd_wave (f : FbDev → FbDev) : (d.modFbd f).wave = d.wave := rfl
@[simp] theorem Dev.modFbd_pwm (f : FbDev → FbDev) : (d.modFbd f).pwm = d.pwm := rfl
@[simp] theorem Dev.modFbd_grps (f : FbDev → FbDev) : (d.modFbd f).grps = d.grps := rfl
@[simp] theorem Dev.modFbd_fbs (f : FbDev → FbDev) : (d.modFbd f).fbs = d.fbs := rfl
@[simp] theorem Dev.modFbd_fbd (f : FbDev → FbDev) : (d.modFbd f).fbd = f d.fbd := rfl
@[simp] theorem Dev.modFbd_mots (f : FbDev → FbDev) : (d.modFbd f).mots = d.mots := rfl
@[simp] theorem Dev.modFbd_mot (f : FbDev → FbDev) : (d.modFbd f).mot = d.mot := rfl
@[simp] theorem Dev.modFbd_saf (f : FbDev → FbDev) : (d.modFbd f).saf = d.saf := rfl
@[simp] theorem Dev.modFbd_ocu (f : FbDev → FbDev) : (d.modFbd f).ocu = d.ocu := rfl
@[simp] theorem Dev.modFbd_lans (f : FbDev → FbDev) : (d.modFbd f).lans = d.lans := rfl
@[simp] theorem Dev.modFbd_host (f : FbDev → FbDev) : (d.modFbd f).host = d.host := rfl
@[simp] theorem Dev.modFbd_dma (f : FbDev → FbDev) : (d.modFbd f).dma = d.dma := rfl
@[simp] theorem Dev.modFbd_ring (f : FbDev → FbDev) : (d.modFbd f).ring = d.ring := rfl
@[simp] theorem Dev.modFbd_fios (f : FbDev → FbDev) : (d.modFbd f).fios = d.fios := rfl
@[simp] theorem Dev.modFbd_cans (f : FbDev → FbDev) : (d.modFbd f).cans = d.cans := rfl
@[simp] theorem Dev.modFbd_uarts (f : FbDev → FbDev) : (d.modFbd f).uarts = d.uarts := rfl
@[simp] theorem Dev.modFbd_upd (f : FbDev → FbDev) : (d.modFbd f).upd = d.upd := rfl
@[simp] theorem Dev.modFbd_free (f : FbDev → FbDev) : (d.modFbd f).free = d.free := rfl
@[simp] theorem Dev.modFbd_out (f : FbDev → FbDev) : (d.modFbd f).out = d.out := rfl

/-! `Dev.setMo` -/
@[simp] theorem Dev.setMo_regs (n : Nat) (c : AxMot) : (d.setMo n c).regs = d.regs := rfl
@[simp] theorem Dev.setMo_mem (n : Nat) (c : AxMot) : (d.setMo n c).mem = d.mem := rfl
@[simp] theorem Dev.setMo_sys (n : Nat) (c : AxMot) : (d.setMo n c).sys = d.sys := rfl
@[simp] theorem Dev.setMo_time (n : Nat) (c : AxMot) : (d.setMo n c).time = d.time := rfl
@[simp] theorem Dev.setMo_wake (n : Nat) (c : AxMot) : (d.setMo n c).wake = d.wake := rfl
@[simp] theorem Dev.setMo_pwr (n : Nat) (c : AxMot) : (d.setMo n c).pwr = d.pwr := rfl
@[simp] theorem Dev.setMo_bel (n : Nat) (c : AxMot) : (d.setMo n c).bel = d.bel := rfl
@[simp] theorem Dev.setMo_cup (n : Nat) (c : AxMot) : (d.setMo n c).cup = d.cup := rfl
@[simp] theorem Dev.setMo_core (n : Nat) (c : AxMot) : (d.setMo n c).core = d.core := rfl
@[simp] theorem Dev.setMo_sense (n : Nat) (c : AxMot) : (d.setMo n c).sense = d.sense := rfl
@[simp] theorem Dev.setMo_wave (n : Nat) (c : AxMot) : (d.setMo n c).wave = d.wave := rfl
@[simp] theorem Dev.setMo_pwm (n : Nat) (c : AxMot) : (d.setMo n c).pwm = d.pwm := rfl
@[simp] theorem Dev.setMo_grps (n : Nat) (c : AxMot) : (d.setMo n c).grps = d.grps := rfl
@[simp] theorem Dev.setMo_fbs (n : Nat) (c : AxMot) : (d.setMo n c).fbs = d.fbs := rfl
@[simp] theorem Dev.setMo_fbd (n : Nat) (c : AxMot) : (d.setMo n c).fbd = d.fbd := rfl
@[simp] theorem Dev.setMo_mots (n : Nat) (c : AxMot) : (d.setMo n c).mots = AList.put d.mots n c := rfl
@[simp] theorem Dev.setMo_mot (n : Nat) (c : AxMot) : (d.setMo n c).mot = d.mot := rfl
@[simp] theorem Dev.setMo_saf (n : Nat) (c : AxMot) : (d.setMo n c).saf = d.saf := rfl
@[simp] theorem Dev.setMo_ocu (n : Nat) (c : AxMot) : (d.setMo n c).ocu = d.ocu := rfl
@[simp] theorem Dev.setMo_lans (n : Nat) (c : AxMot) : (d.setMo n c).lans = d.lans := rfl
@[simp] theorem Dev.setMo_host (n : Nat) (c : AxMot) : (d.setMo n c).host = d.host := rfl
@[simp] theorem Dev.setMo_dma (n : Nat) (c : AxMot) : (d.setMo n c).dma = d.dma := rfl
@[simp] theorem Dev.setMo_ring (n : Nat) (c : AxMot) : (d.setMo n c).ring = d.ring := rfl
@[simp] theorem Dev.setMo_fios (n : Nat) (c : AxMot) : (d.setMo n c).fios = d.fios := rfl
@[simp] theorem Dev.setMo_cans (n : Nat) (c : AxMot) : (d.setMo n c).cans = d.cans := rfl
@[simp] theorem Dev.setMo_uarts (n : Nat) (c : AxMot) : (d.setMo n c).uarts = d.uarts := rfl
@[simp] theorem Dev.setMo_upd (n : Nat) (c : AxMot) : (d.setMo n c).upd = d.upd := rfl
@[simp] theorem Dev.setMo_free (n : Nat) (c : AxMot) : (d.setMo n c).free = d.free := rfl
@[simp] theorem Dev.setMo_out (n : Nat) (c : AxMot) : (d.setMo n c).out = d.out := rfl

/-! `Dev.modMot` -/
@[simp] theorem Dev.modMot_regs (f : MotSt → MotSt) : (d.modMot f).regs = d.regs := rfl
@[simp] theorem Dev.modMot_mem (f : MotSt → MotSt) : (d.modMot f).mem = d.mem := rfl
@[simp] theorem Dev.modMot_sys (f : MotSt → MotSt) : (d.modMot f).sys = d.sys := rfl
@[simp] theorem Dev.modMot_time (f : MotSt → MotSt) : (d.modMot f).time = d.time := rfl
@[simp] theorem Dev.modMot_wake (f : MotSt → MotSt) : (d.modMot f).wake = d.wake := rfl
@[simp] theorem Dev.modMot_pwr (f : MotSt → MotSt) : (d.modMot f).pwr = d.pwr := rfl
@[simp] theorem Dev.modMot_bel (f : MotSt → MotSt) : (d.modMot f).bel = d.bel := rfl
@[simp] theorem Dev.modMot_cup (f : MotSt → MotSt) : (d.modMot f).cup = d.cup := rfl
@[simp] theorem Dev.modMot_core (f : MotSt → MotSt) : (d.modMot f).core = d.core := rfl
@[simp] theorem Dev.modMot_sense (f : MotSt → MotSt) : (d.modMot f).sense = d.sense := rfl
@[simp] theorem Dev.modMot_wave (f : MotSt → MotSt) : (d.modMot f).wave = d.wave := rfl
@[simp] theorem Dev.modMot_pwm (f : MotSt → MotSt) : (d.modMot f).pwm = d.pwm := rfl
@[simp] theorem Dev.modMot_grps (f : MotSt → MotSt) : (d.modMot f).grps = d.grps := rfl
@[simp] theorem Dev.modMot_fbs (f : MotSt → MotSt) : (d.modMot f).fbs = d.fbs := rfl
@[simp] theorem Dev.modMot_fbd (f : MotSt → MotSt) : (d.modMot f).fbd = d.fbd := rfl
@[simp] theorem Dev.modMot_mots (f : MotSt → MotSt) : (d.modMot f).mots = d.mots := rfl
@[simp] theorem Dev.modMot_mot (f : MotSt → MotSt) : (d.modMot f).mot = f d.mot := rfl
@[simp] theorem Dev.modMot_saf (f : MotSt → MotSt) : (d.modMot f).saf = d.saf := rfl
@[simp] theorem Dev.modMot_ocu (f : MotSt → MotSt) : (d.modMot f).ocu = d.ocu := rfl
@[simp] theorem Dev.modMot_lans (f : MotSt → MotSt) : (d.modMot f).lans = d.lans := rfl
@[simp] theorem Dev.modMot_host (f : MotSt → MotSt) : (d.modMot f).host = d.host := rfl
@[simp] theorem Dev.modMot_dma (f : MotSt → MotSt) : (d.modMot f).dma = d.dma := rfl
@[simp] theorem Dev.modMot_ring (f : MotSt → MotSt) : (d.modMot f).ring = d.ring := rfl
@[simp] theorem Dev.modMot_fios (f : MotSt → MotSt) : (d.modMot f).fios = d.fios := rfl
@[simp] theorem Dev.modMot_cans (f : MotSt → MotSt) : (d.modMot f).cans = d.cans := rfl
@[simp] theorem Dev.modMot_uarts (f : MotSt → MotSt) : (d.modMot f).uarts = d.uarts := rfl
@[simp] theorem Dev.modMot_upd (f : MotSt → MotSt) : (d.modMot f).upd = d.upd := rfl
@[simp] theorem Dev.modMot_free (f : MotSt → MotSt) : (d.modMot f).free = d.free := rfl
@[simp] theorem Dev.modMot_out (f : MotSt → MotSt) : (d.modMot f).out = d.out := rfl

/-! `Dev.modSaf` -/
@[simp] theorem Dev.modSaf_regs (f : SafSt → SafSt) : (d.modSaf f).regs = d.regs := rfl
@[simp] theorem Dev.modSaf_mem (f : SafSt → SafSt) : (d.modSaf f).mem = d.mem := rfl
@[simp] theorem Dev.modSaf_sys (f : SafSt → SafSt) : (d.modSaf f).sys = d.sys := rfl
@[simp] theorem Dev.modSaf_time (f : SafSt → SafSt) : (d.modSaf f).time = d.time := rfl
@[simp] theorem Dev.modSaf_wake (f : SafSt → SafSt) : (d.modSaf f).wake = d.wake := rfl
@[simp] theorem Dev.modSaf_pwr (f : SafSt → SafSt) : (d.modSaf f).pwr = d.pwr := rfl
@[simp] theorem Dev.modSaf_bel (f : SafSt → SafSt) : (d.modSaf f).bel = d.bel := rfl
@[simp] theorem Dev.modSaf_cup (f : SafSt → SafSt) : (d.modSaf f).cup = d.cup := rfl
@[simp] theorem Dev.modSaf_core (f : SafSt → SafSt) : (d.modSaf f).core = d.core := rfl
@[simp] theorem Dev.modSaf_sense (f : SafSt → SafSt) : (d.modSaf f).sense = d.sense := rfl
@[simp] theorem Dev.modSaf_wave (f : SafSt → SafSt) : (d.modSaf f).wave = d.wave := rfl
@[simp] theorem Dev.modSaf_pwm (f : SafSt → SafSt) : (d.modSaf f).pwm = d.pwm := rfl
@[simp] theorem Dev.modSaf_grps (f : SafSt → SafSt) : (d.modSaf f).grps = d.grps := rfl
@[simp] theorem Dev.modSaf_fbs (f : SafSt → SafSt) : (d.modSaf f).fbs = d.fbs := rfl
@[simp] theorem Dev.modSaf_fbd (f : SafSt → SafSt) : (d.modSaf f).fbd = d.fbd := rfl
@[simp] theorem Dev.modSaf_mots (f : SafSt → SafSt) : (d.modSaf f).mots = d.mots := rfl
@[simp] theorem Dev.modSaf_mot (f : SafSt → SafSt) : (d.modSaf f).mot = d.mot := rfl
@[simp] theorem Dev.modSaf_saf (f : SafSt → SafSt) : (d.modSaf f).saf = f d.saf := rfl
@[simp] theorem Dev.modSaf_ocu (f : SafSt → SafSt) : (d.modSaf f).ocu = d.ocu := rfl
@[simp] theorem Dev.modSaf_lans (f : SafSt → SafSt) : (d.modSaf f).lans = d.lans := rfl
@[simp] theorem Dev.modSaf_host (f : SafSt → SafSt) : (d.modSaf f).host = d.host := rfl
@[simp] theorem Dev.modSaf_dma (f : SafSt → SafSt) : (d.modSaf f).dma = d.dma := rfl
@[simp] theorem Dev.modSaf_ring (f : SafSt → SafSt) : (d.modSaf f).ring = d.ring := rfl
@[simp] theorem Dev.modSaf_fios (f : SafSt → SafSt) : (d.modSaf f).fios = d.fios := rfl
@[simp] theorem Dev.modSaf_cans (f : SafSt → SafSt) : (d.modSaf f).cans = d.cans := rfl
@[simp] theorem Dev.modSaf_uarts (f : SafSt → SafSt) : (d.modSaf f).uarts = d.uarts := rfl
@[simp] theorem Dev.modSaf_upd (f : SafSt → SafSt) : (d.modSaf f).upd = d.upd := rfl
@[simp] theorem Dev.modSaf_free (f : SafSt → SafSt) : (d.modSaf f).free = d.free := rfl
@[simp] theorem Dev.modSaf_out (f : SafSt → SafSt) : (d.modSaf f).out = d.out := rfl

/-! `Dev.modOcu` -/
@[simp] theorem Dev.modOcu_regs (f : OcuSt → OcuSt) : (d.modOcu f).regs = d.regs := rfl
@[simp] theorem Dev.modOcu_mem (f : OcuSt → OcuSt) : (d.modOcu f).mem = d.mem := rfl
@[simp] theorem Dev.modOcu_sys (f : OcuSt → OcuSt) : (d.modOcu f).sys = d.sys := rfl
@[simp] theorem Dev.modOcu_time (f : OcuSt → OcuSt) : (d.modOcu f).time = d.time := rfl
@[simp] theorem Dev.modOcu_wake (f : OcuSt → OcuSt) : (d.modOcu f).wake = d.wake := rfl
@[simp] theorem Dev.modOcu_pwr (f : OcuSt → OcuSt) : (d.modOcu f).pwr = d.pwr := rfl
@[simp] theorem Dev.modOcu_bel (f : OcuSt → OcuSt) : (d.modOcu f).bel = d.bel := rfl
@[simp] theorem Dev.modOcu_cup (f : OcuSt → OcuSt) : (d.modOcu f).cup = d.cup := rfl
@[simp] theorem Dev.modOcu_core (f : OcuSt → OcuSt) : (d.modOcu f).core = d.core := rfl
@[simp] theorem Dev.modOcu_sense (f : OcuSt → OcuSt) : (d.modOcu f).sense = d.sense := rfl
@[simp] theorem Dev.modOcu_wave (f : OcuSt → OcuSt) : (d.modOcu f).wave = d.wave := rfl
@[simp] theorem Dev.modOcu_pwm (f : OcuSt → OcuSt) : (d.modOcu f).pwm = d.pwm := rfl
@[simp] theorem Dev.modOcu_grps (f : OcuSt → OcuSt) : (d.modOcu f).grps = d.grps := rfl
@[simp] theorem Dev.modOcu_fbs (f : OcuSt → OcuSt) : (d.modOcu f).fbs = d.fbs := rfl
@[simp] theorem Dev.modOcu_fbd (f : OcuSt → OcuSt) : (d.modOcu f).fbd = d.fbd := rfl
@[simp] theorem Dev.modOcu_mots (f : OcuSt → OcuSt) : (d.modOcu f).mots = d.mots := rfl
@[simp] theorem Dev.modOcu_mot (f : OcuSt → OcuSt) : (d.modOcu f).mot = d.mot := rfl
@[simp] theorem Dev.modOcu_saf (f : OcuSt → OcuSt) : (d.modOcu f).saf = d.saf := rfl
@[simp] theorem Dev.modOcu_ocu (f : OcuSt → OcuSt) : (d.modOcu f).ocu = f d.ocu := rfl
@[simp] theorem Dev.modOcu_lans (f : OcuSt → OcuSt) : (d.modOcu f).lans = d.lans := rfl
@[simp] theorem Dev.modOcu_host (f : OcuSt → OcuSt) : (d.modOcu f).host = d.host := rfl
@[simp] theorem Dev.modOcu_dma (f : OcuSt → OcuSt) : (d.modOcu f).dma = d.dma := rfl
@[simp] theorem Dev.modOcu_ring (f : OcuSt → OcuSt) : (d.modOcu f).ring = d.ring := rfl
@[simp] theorem Dev.modOcu_fios (f : OcuSt → OcuSt) : (d.modOcu f).fios = d.fios := rfl
@[simp] theorem Dev.modOcu_cans (f : OcuSt → OcuSt) : (d.modOcu f).cans = d.cans := rfl
@[simp] theorem Dev.modOcu_uarts (f : OcuSt → OcuSt) : (d.modOcu f).uarts = d.uarts := rfl
@[simp] theorem Dev.modOcu_upd (f : OcuSt → OcuSt) : (d.modOcu f).upd = d.upd := rfl
@[simp] theorem Dev.modOcu_free (f : OcuSt → OcuSt) : (d.modOcu f).free = d.free := rfl
@[simp] theorem Dev.modOcu_out (f : OcuSt → OcuSt) : (d.modOcu f).out = d.out := rfl

/-! `Dev.setLan` -/
@[simp] theorem Dev.setLan_regs (g : Nat) (x : LanSt) : (d.setLan g x).regs = d.regs := rfl
@[simp] theorem Dev.setLan_mem (g : Nat) (x : LanSt) : (d.setLan g x).mem = d.mem := rfl
@[simp] theorem Dev.setLan_sys (g : Nat) (x : LanSt) : (d.setLan g x).sys = d.sys := rfl
@[simp] theorem Dev.setLan_time (g : Nat) (x : LanSt) : (d.setLan g x).time = d.time := rfl
@[simp] theorem Dev.setLan_wake (g : Nat) (x : LanSt) : (d.setLan g x).wake = d.wake := rfl
@[simp] theorem Dev.setLan_pwr (g : Nat) (x : LanSt) : (d.setLan g x).pwr = d.pwr := rfl
@[simp] theorem Dev.setLan_bel (g : Nat) (x : LanSt) : (d.setLan g x).bel = d.bel := rfl
@[simp] theorem Dev.setLan_cup (g : Nat) (x : LanSt) : (d.setLan g x).cup = d.cup := rfl
@[simp] theorem Dev.setLan_core (g : Nat) (x : LanSt) : (d.setLan g x).core = d.core := rfl
@[simp] theorem Dev.setLan_sense (g : Nat) (x : LanSt) : (d.setLan g x).sense = d.sense := rfl
@[simp] theorem Dev.setLan_wave (g : Nat) (x : LanSt) : (d.setLan g x).wave = d.wave := rfl
@[simp] theorem Dev.setLan_pwm (g : Nat) (x : LanSt) : (d.setLan g x).pwm = d.pwm := rfl
@[simp] theorem Dev.setLan_grps (g : Nat) (x : LanSt) : (d.setLan g x).grps = d.grps := rfl
@[simp] theorem Dev.setLan_fbs (g : Nat) (x : LanSt) : (d.setLan g x).fbs = d.fbs := rfl
@[simp] theorem Dev.setLan_fbd (g : Nat) (x : LanSt) : (d.setLan g x).fbd = d.fbd := rfl
@[simp] theorem Dev.setLan_mots (g : Nat) (x : LanSt) : (d.setLan g x).mots = d.mots := rfl
@[simp] theorem Dev.setLan_mot (g : Nat) (x : LanSt) : (d.setLan g x).mot = d.mot := rfl
@[simp] theorem Dev.setLan_saf (g : Nat) (x : LanSt) : (d.setLan g x).saf = d.saf := rfl
@[simp] theorem Dev.setLan_ocu (g : Nat) (x : LanSt) : (d.setLan g x).ocu = d.ocu := rfl
@[simp] theorem Dev.setLan_lans (g : Nat) (x : LanSt) : (d.setLan g x).lans = AList.put d.lans g x := rfl
@[simp] theorem Dev.setLan_host (g : Nat) (x : LanSt) : (d.setLan g x).host = d.host := rfl
@[simp] theorem Dev.setLan_dma (g : Nat) (x : LanSt) : (d.setLan g x).dma = d.dma := rfl
@[simp] theorem Dev.setLan_ring (g : Nat) (x : LanSt) : (d.setLan g x).ring = d.ring := rfl
@[simp] theorem Dev.setLan_fios (g : Nat) (x : LanSt) : (d.setLan g x).fios = d.fios := rfl
@[simp] theorem Dev.setLan_cans (g : Nat) (x : LanSt) : (d.setLan g x).cans = d.cans := rfl
@[simp] theorem Dev.setLan_uarts (g : Nat) (x : LanSt) : (d.setLan g x).uarts = d.uarts := rfl
@[simp] theorem Dev.setLan_upd (g : Nat) (x : LanSt) : (d.setLan g x).upd = d.upd := rfl
@[simp] theorem Dev.setLan_free (g : Nat) (x : LanSt) : (d.setLan g x).free = d.free := rfl
@[simp] theorem Dev.setLan_out (g : Nat) (x : LanSt) : (d.setLan g x).out = d.out := rfl

/-! `Dev.modHost` -/
@[simp] theorem Dev.modHost_regs (f : HostSt → HostSt) : (d.modHost f).regs = d.regs := rfl
@[simp] theorem Dev.modHost_mem (f : HostSt → HostSt) : (d.modHost f).mem = d.mem := rfl
@[simp] theorem Dev.modHost_sys (f : HostSt → HostSt) : (d.modHost f).sys = d.sys := rfl
@[simp] theorem Dev.modHost_time (f : HostSt → HostSt) : (d.modHost f).time = d.time := rfl
@[simp] theorem Dev.modHost_wake (f : HostSt → HostSt) : (d.modHost f).wake = d.wake := rfl
@[simp] theorem Dev.modHost_pwr (f : HostSt → HostSt) : (d.modHost f).pwr = d.pwr := rfl
@[simp] theorem Dev.modHost_bel (f : HostSt → HostSt) : (d.modHost f).bel = d.bel := rfl
@[simp] theorem Dev.modHost_cup (f : HostSt → HostSt) : (d.modHost f).cup = d.cup := rfl
@[simp] theorem Dev.modHost_core (f : HostSt → HostSt) : (d.modHost f).core = d.core := rfl
@[simp] theorem Dev.modHost_sense (f : HostSt → HostSt) : (d.modHost f).sense = d.sense := rfl
@[simp] theorem Dev.modHost_wave (f : HostSt → HostSt) : (d.modHost f).wave = d.wave := rfl
@[simp] theorem Dev.modHost_pwm (f : HostSt → HostSt) : (d.modHost f).pwm = d.pwm := rfl
@[simp] theorem Dev.modHost_grps (f : HostSt → HostSt) : (d.modHost f).grps = d.grps := rfl
@[simp] theorem Dev.modHost_fbs (f : HostSt → HostSt) : (d.modHost f).fbs = d.fbs := rfl
@[simp] theorem Dev.modHost_fbd (f : HostSt → HostSt) : (d.modHost f).fbd = d.fbd := rfl
@[simp] theorem Dev.modHost_mots (f : HostSt → HostSt) : (d.modHost f).mots = d.mots := rfl
@[simp] theorem Dev.modHost_mot (f : HostSt → HostSt) : (d.modHost f).mot = d.mot := rfl
@[simp] theorem Dev.modHost_saf (f : HostSt → HostSt) : (d.modHost f).saf = d.saf := rfl
@[simp] theorem Dev.modHost_ocu (f : HostSt → HostSt) : (d.modHost f).ocu = d.ocu := rfl
@[simp] theorem Dev.modHost_lans (f : HostSt → HostSt) : (d.modHost f).lans = d.lans := rfl
@[simp] theorem Dev.modHost_host (f : HostSt → HostSt) : (d.modHost f).host = f d.host := rfl
@[simp] theorem Dev.modHost_dma (f : HostSt → HostSt) : (d.modHost f).dma = d.dma := rfl
@[simp] theorem Dev.modHost_ring (f : HostSt → HostSt) : (d.modHost f).ring = d.ring := rfl
@[simp] theorem Dev.modHost_fios (f : HostSt → HostSt) : (d.modHost f).fios = d.fios := rfl
@[simp] theorem Dev.modHost_cans (f : HostSt → HostSt) : (d.modHost f).cans = d.cans := rfl
@[simp] theorem Dev.modHost_uarts (f : HostSt → HostSt) : (d.modHost f).uarts = d.uarts := rfl
@[simp] theorem Dev.modHost_upd (f : HostSt → HostSt) : (d.modHost f).upd = d.upd := rfl
@[simp] theorem Dev.modHost_free (f : HostSt → HostSt) : (d.modHost f).free = d.free := rfl
@[simp] theorem Dev.modHost_out (f : HostSt → HostSt) : (d.modHost f).out = d.out := rfl

/-! `Dev.modDma` -/
@[simp] theorem Dev.modDma_regs (f : DmaSt → DmaSt) : (d.modDma f).regs = d.regs := rfl
@[simp] theorem Dev.modDma_mem (f : DmaSt → DmaSt) : (d.modDma f).mem = d.mem := rfl
@[simp] theorem Dev.modDma_sys (f : DmaSt → DmaSt) : (d.modDma f).sys = d.sys := rfl
@[simp] theorem Dev.modDma_time (f : DmaSt → DmaSt) : (d.modDma f).time = d.time := rfl
@[simp] theorem Dev.modDma_wake (f : DmaSt → DmaSt) : (d.modDma f).wake = d.wake := rfl
@[simp] theorem Dev.modDma_pwr (f : DmaSt → DmaSt) : (d.modDma f).pwr = d.pwr := rfl
@[simp] theorem Dev.modDma_bel (f : DmaSt → DmaSt) : (d.modDma f).bel = d.bel := rfl
@[simp] theorem Dev.modDma_cup (f : DmaSt → DmaSt) : (d.modDma f).cup = d.cup := rfl
@[simp] theorem Dev.modDma_core (f : DmaSt → DmaSt) : (d.modDma f).core = d.core := rfl
@[simp] theorem Dev.modDma_sense (f : DmaSt → DmaSt) : (d.modDma f).sense = d.sense := rfl
@[simp] theorem Dev.modDma_wave (f : DmaSt → DmaSt) : (d.modDma f).wave = d.wave := rfl
@[simp] theorem Dev.modDma_pwm (f : DmaSt → DmaSt) : (d.modDma f).pwm = d.pwm := rfl
@[simp] theorem Dev.modDma_grps (f : DmaSt → DmaSt) : (d.modDma f).grps = d.grps := rfl
@[simp] theorem Dev.modDma_fbs (f : DmaSt → DmaSt) : (d.modDma f).fbs = d.fbs := rfl
@[simp] theorem Dev.modDma_fbd (f : DmaSt → DmaSt) : (d.modDma f).fbd = d.fbd := rfl
@[simp] theorem Dev.modDma_mots (f : DmaSt → DmaSt) : (d.modDma f).mots = d.mots := rfl
@[simp] theorem Dev.modDma_mot (f : DmaSt → DmaSt) : (d.modDma f).mot = d.mot := rfl
@[simp] theorem Dev.modDma_saf (f : DmaSt → DmaSt) : (d.modDma f).saf = d.saf := rfl
@[simp] theorem Dev.modDma_ocu (f : DmaSt → DmaSt) : (d.modDma f).ocu = d.ocu := rfl
@[simp] theorem Dev.modDma_lans (f : DmaSt → DmaSt) : (d.modDma f).lans = d.lans := rfl
@[simp] theorem Dev.modDma_host (f : DmaSt → DmaSt) : (d.modDma f).host = d.host := rfl
@[simp] theorem Dev.modDma_dma (f : DmaSt → DmaSt) : (d.modDma f).dma = f d.dma := rfl
@[simp] theorem Dev.modDma_ring (f : DmaSt → DmaSt) : (d.modDma f).ring = d.ring := rfl
@[simp] theorem Dev.modDma_fios (f : DmaSt → DmaSt) : (d.modDma f).fios = d.fios := rfl
@[simp] theorem Dev.modDma_cans (f : DmaSt → DmaSt) : (d.modDma f).cans = d.cans := rfl
@[simp] theorem Dev.modDma_uarts (f : DmaSt → DmaSt) : (d.modDma f).uarts = d.uarts := rfl
@[simp] theorem Dev.modDma_upd (f : DmaSt → DmaSt) : (d.modDma f).upd = d.upd := rfl
@[simp] theorem Dev.modDma_free (f : DmaSt → DmaSt) : (d.modDma f).free = d.free := rfl
@[simp] theorem Dev.modDma_out (f : DmaSt → DmaSt) : (d.modDma f).out = d.out := rfl

/-! `Dev.modRing` -/
@[simp] theorem Dev.modRing_regs (f : RingSt → RingSt) : (d.modRing f).regs = d.regs := rfl
@[simp] theorem Dev.modRing_mem (f : RingSt → RingSt) : (d.modRing f).mem = d.mem := rfl
@[simp] theorem Dev.modRing_sys (f : RingSt → RingSt) : (d.modRing f).sys = d.sys := rfl
@[simp] theorem Dev.modRing_time (f : RingSt → RingSt) : (d.modRing f).time = d.time := rfl
@[simp] theorem Dev.modRing_wake (f : RingSt → RingSt) : (d.modRing f).wake = d.wake := rfl
@[simp] theorem Dev.modRing_pwr (f : RingSt → RingSt) : (d.modRing f).pwr = d.pwr := rfl
@[simp] theorem Dev.modRing_bel (f : RingSt → RingSt) : (d.modRing f).bel = d.bel := rfl
@[simp] theorem Dev.modRing_cup (f : RingSt → RingSt) : (d.modRing f).cup = d.cup := rfl
@[simp] theorem Dev.modRing_core (f : RingSt → RingSt) : (d.modRing f).core = d.core := rfl
@[simp] theorem Dev.modRing_sense (f : RingSt → RingSt) : (d.modRing f).sense = d.sense := rfl
@[simp] theorem Dev.modRing_wave (f : RingSt → RingSt) : (d.modRing f).wave = d.wave := rfl
@[simp] theorem Dev.modRing_pwm (f : RingSt → RingSt) : (d.modRing f).pwm = d.pwm := rfl
@[simp] theorem Dev.modRing_grps (f : RingSt → RingSt) : (d.modRing f).grps = d.grps := rfl
@[simp] theorem Dev.modRing_fbs (f : RingSt → RingSt) : (d.modRing f).fbs = d.fbs := rfl
@[simp] theorem Dev.modRing_fbd (f : RingSt → RingSt) : (d.modRing f).fbd = d.fbd := rfl
@[simp] theorem Dev.modRing_mots (f : RingSt → RingSt) : (d.modRing f).mots = d.mots := rfl
@[simp] theorem Dev.modRing_mot (f : RingSt → RingSt) : (d.modRing f).mot = d.mot := rfl
@[simp] theorem Dev.modRing_saf (f : RingSt → RingSt) : (d.modRing f).saf = d.saf := rfl
@[simp] theorem Dev.modRing_ocu (f : RingSt → RingSt) : (d.modRing f).ocu = d.ocu := rfl
@[simp] theorem Dev.modRing_lans (f : RingSt → RingSt) : (d.modRing f).lans = d.lans := rfl
@[simp] theorem Dev.modRing_host (f : RingSt → RingSt) : (d.modRing f).host = d.host := rfl
@[simp] theorem Dev.modRing_dma (f : RingSt → RingSt) : (d.modRing f).dma = d.dma := rfl
@[simp] theorem Dev.modRing_ring (f : RingSt → RingSt) : (d.modRing f).ring = f d.ring := rfl
@[simp] theorem Dev.modRing_fios (f : RingSt → RingSt) : (d.modRing f).fios = d.fios := rfl
@[simp] theorem Dev.modRing_cans (f : RingSt → RingSt) : (d.modRing f).cans = d.cans := rfl
@[simp] theorem Dev.modRing_uarts (f : RingSt → RingSt) : (d.modRing f).uarts = d.uarts := rfl
@[simp] theorem Dev.modRing_upd (f : RingSt → RingSt) : (d.modRing f).upd = d.upd := rfl
@[simp] theorem Dev.modRing_free (f : RingSt → RingSt) : (d.modRing f).free = d.free := rfl
@[simp] theorem Dev.modRing_out (f : RingSt → RingSt) : (d.modRing f).out = d.out := rfl

/-! `Dev.setFch` -/
@[simp] theorem Dev.setFch_regs (c : Nat) (x : FieldCh) : (d.setFch c x).regs = d.regs := rfl
@[simp] theorem Dev.setFch_mem (c : Nat) (x : FieldCh) : (d.setFch c x).mem = d.mem := rfl
@[simp] theorem Dev.setFch_sys (c : Nat) (x : FieldCh) : (d.setFch c x).sys = d.sys := rfl
@[simp] theorem Dev.setFch_time (c : Nat) (x : FieldCh) : (d.setFch c x).time = d.time := rfl
@[simp] theorem Dev.setFch_wake (c : Nat) (x : FieldCh) : (d.setFch c x).wake = d.wake := rfl
@[simp] theorem Dev.setFch_pwr (c : Nat) (x : FieldCh) : (d.setFch c x).pwr = d.pwr := rfl
@[simp] theorem Dev.setFch_bel (c : Nat) (x : FieldCh) : (d.setFch c x).bel = d.bel := rfl
@[simp] theorem Dev.setFch_cup (c : Nat) (x : FieldCh) : (d.setFch c x).cup = d.cup := rfl
@[simp] theorem Dev.setFch_core (c : Nat) (x : FieldCh) : (d.setFch c x).core = d.core := rfl
@[simp] theorem Dev.setFch_sense (c : Nat) (x : FieldCh) : (d.setFch c x).sense = d.sense := rfl
@[simp] theorem Dev.setFch_wave (c : Nat) (x : FieldCh) : (d.setFch c x).wave = d.wave := rfl
@[simp] theorem Dev.setFch_pwm (c : Nat) (x : FieldCh) : (d.setFch c x).pwm = d.pwm := rfl
@[simp] theorem Dev.setFch_grps (c : Nat) (x : FieldCh) : (d.setFch c x).grps = d.grps := rfl
@[simp] theorem Dev.setFch_fbs (c : Nat) (x : FieldCh) : (d.setFch c x).fbs = d.fbs := rfl
@[simp] theorem Dev.setFch_fbd (c : Nat) (x : FieldCh) : (d.setFch c x).fbd = d.fbd := rfl
@[simp] theorem Dev.setFch_mots (c : Nat) (x : FieldCh) : (d.setFch c x).mots = d.mots := rfl
@[simp] theorem Dev.setFch_mot (c : Nat) (x : FieldCh) : (d.setFch c x).mot = d.mot := rfl
@[simp] theorem Dev.setFch_saf (c : Nat) (x : FieldCh) : (d.setFch c x).saf = d.saf := rfl
@[simp] theorem Dev.setFch_ocu (c : Nat) (x : FieldCh) : (d.setFch c x).ocu = d.ocu := rfl
@[simp] theorem Dev.setFch_lans (c : Nat) (x : FieldCh) : (d.setFch c x).lans = d.lans := rfl
@[simp] theorem Dev.setFch_host (c : Nat) (x : FieldCh) : (d.setFch c x).host = d.host := rfl
@[simp] theorem Dev.setFch_dma (c : Nat) (x : FieldCh) : (d.setFch c x).dma = d.dma := rfl
@[simp] theorem Dev.setFch_ring (c : Nat) (x : FieldCh) : (d.setFch c x).ring = d.ring := rfl
@[simp] theorem Dev.setFch_fios (c : Nat) (x : FieldCh) : (d.setFch c x).fios = AList.put d.fios c x := rfl
@[simp] theorem Dev.setFch_cans (c : Nat) (x : FieldCh) : (d.setFch c x).cans = d.cans := rfl
@[simp] theorem Dev.setFch_uarts (c : Nat) (x : FieldCh) : (d.setFch c x).uarts = d.uarts := rfl
@[simp] theorem Dev.setFch_upd (c : Nat) (x : FieldCh) : (d.setFch c x).upd = d.upd := rfl
@[simp] theorem Dev.setFch_free (c : Nat) (x : FieldCh) : (d.setFch c x).free = d.free := rfl
@[simp] theorem Dev.setFch_out (c : Nat) (x : FieldCh) : (d.setFch c x).out = d.out := rfl

/-! `Dev.modCan` -/
@[simp] theorem Dev.modCan_regs (k : Nat) (f : CanSt → CanSt) : (d.modCan k f).regs = d.regs := rfl
@[simp] theorem Dev.modCan_mem (k : Nat) (f : CanSt → CanSt) : (d.modCan k f).mem = d.mem := rfl
@[simp] theorem Dev.modCan_sys (k : Nat) (f : CanSt → CanSt) : (d.modCan k f).sys = d.sys := rfl
@[simp] theorem Dev.modCan_time (k : Nat) (f : CanSt → CanSt) : (d.modCan k f).time = d.time := rfl
@[simp] theorem Dev.modCan_wake (k : Nat) (f : CanSt → CanSt) : (d.modCan k f).wake = d.wake := rfl
@[simp] theorem Dev.modCan_pwr (k : Nat) (f : CanSt → CanSt) : (d.modCan k f).pwr = d.pwr := rfl
@[simp] theorem Dev.modCan_bel (k : Nat) (f : CanSt → CanSt) : (d.modCan k f).bel = d.bel := rfl
@[simp] theorem Dev.modCan_cup (k : Nat) (f : CanSt → CanSt) : (d.modCan k f).cup = d.cup := rfl
@[simp] theorem Dev.modCan_core (k : Nat) (f : CanSt → CanSt) : (d.modCan k f).core = d.core := rfl
@[simp] theorem Dev.modCan_sense (k : Nat) (f : CanSt → CanSt) : (d.modCan k f).sense = d.sense := rfl
@[simp] theorem Dev.modCan_wave (k : Nat) (f : CanSt → CanSt) : (d.modCan k f).wave = d.wave := rfl
@[simp] theorem Dev.modCan_pwm (k : Nat) (f : CanSt → CanSt) : (d.modCan k f).pwm = d.pwm := rfl
@[simp] theorem Dev.modCan_grps (k : Nat) (f : CanSt → CanSt) : (d.modCan k f).grps = d.grps := rfl
@[simp] theorem Dev.modCan_fbs (k : Nat) (f : CanSt → CanSt) : (d.modCan k f).fbs = d.fbs := rfl
@[simp] theorem Dev.modCan_fbd (k : Nat) (f : CanSt → CanSt) : (d.modCan k f).fbd = d.fbd := rfl
@[simp] theorem Dev.modCan_mots (k : Nat) (f : CanSt → CanSt) : (d.modCan k f).mots = d.mots := rfl
@[simp] theorem Dev.modCan_mot (k : Nat) (f : CanSt → CanSt) : (d.modCan k f).mot = d.mot := rfl
@[simp] theorem Dev.modCan_saf (k : Nat) (f : CanSt → CanSt) : (d.modCan k f).saf = d.saf := rfl
@[simp] theorem Dev.modCan_ocu (k : Nat) (f : CanSt → CanSt) : (d.modCan k f).ocu = d.ocu := rfl
@[simp] theorem Dev.modCan_lans (k : Nat) (f : CanSt → CanSt) : (d.modCan k f).lans = d.lans := rfl
@[simp] theorem Dev.modCan_host (k : Nat) (f : CanSt → CanSt) : (d.modCan k f).host = d.host := rfl
@[simp] theorem Dev.modCan_dma (k : Nat) (f : CanSt → CanSt) : (d.modCan k f).dma = d.dma := rfl
@[simp] theorem Dev.modCan_ring (k : Nat) (f : CanSt → CanSt) : (d.modCan k f).ring = d.ring := rfl
@[simp] theorem Dev.modCan_fios (k : Nat) (f : CanSt → CanSt) : (d.modCan k f).fios = d.fios := rfl
@[simp] theorem Dev.modCan_cans (k : Nat) (f : CanSt → CanSt) : (d.modCan k f).cans = AList.put d.cans k (f (d.can k)) := rfl
@[simp] theorem Dev.modCan_uarts (k : Nat) (f : CanSt → CanSt) : (d.modCan k f).uarts = d.uarts := rfl
@[simp] theorem Dev.modCan_upd (k : Nat) (f : CanSt → CanSt) : (d.modCan k f).upd = d.upd := rfl
@[simp] theorem Dev.modCan_free (k : Nat) (f : CanSt → CanSt) : (d.modCan k f).free = d.free := rfl
@[simp] theorem Dev.modCan_out (k : Nat) (f : CanSt → CanSt) : (d.modCan k f).out = d.out := rfl

/-! `Dev.modUart` -/
@[simp] theorem Dev.modUart_regs (n : Nat) (f : UartSt → UartSt) : (d.modUart n f).regs = d.regs := rfl
@[simp] theorem Dev.modUart_mem (n : Nat) (f : UartSt → UartSt) : (d.modUart n f).mem = d.mem := rfl
@[simp] theorem Dev.modUart_sys (n : Nat) (f : UartSt → UartSt) : (d.modUart n f).sys = d.sys := rfl
@[simp] theorem Dev.modUart_time (n : Nat) (f : UartSt → UartSt) : (d.modUart n f).time = d.time := rfl
@[simp] theorem Dev.modUart_wake (n : Nat) (f : UartSt → UartSt) : (d.modUart n f).wake = d.wake := rfl
@[simp] theorem Dev.modUart_pwr (n : Nat) (f : UartSt → UartSt) : (d.modUart n f).pwr = d.pwr := rfl
@[simp] theorem Dev.modUart_bel (n : Nat) (f : UartSt → UartSt) : (d.modUart n f).bel = d.bel := rfl
@[simp] theorem Dev.modUart_cup (n : Nat) (f : UartSt → UartSt) : (d.modUart n f).cup = d.cup := rfl
@[simp] theorem Dev.modUart_core (n : Nat) (f : UartSt → UartSt) : (d.modUart n f).core = d.core := rfl
@[simp] theorem Dev.modUart_sense (n : Nat) (f : UartSt → UartSt) : (d.modUart n f).sense = d.sense := rfl
@[simp] theorem Dev.modUart_wave (n : Nat) (f : UartSt → UartSt) : (d.modUart n f).wave = d.wave := rfl
@[simp] theorem Dev.modUart_pwm (n : Nat) (f : UartSt → UartSt) : (d.modUart n f).pwm = d.pwm := rfl
@[simp] theorem Dev.modUart_grps (n : Nat) (f : UartSt → UartSt) : (d.modUart n f).grps = d.grps := rfl
@[simp] theorem Dev.modUart_fbs (n : Nat) (f : UartSt → UartSt) : (d.modUart n f).fbs = d.fbs := rfl
@[simp] theorem Dev.modUart_fbd (n : Nat) (f : UartSt → UartSt) : (d.modUart n f).fbd = d.fbd := rfl
@[simp] theorem Dev.modUart_mots (n : Nat) (f : UartSt → UartSt) : (d.modUart n f).mots = d.mots := rfl
@[simp] theorem Dev.modUart_mot (n : Nat) (f : UartSt → UartSt) : (d.modUart n f).mot = d.mot := rfl
@[simp] theorem Dev.modUart_saf (n : Nat) (f : UartSt → UartSt) : (d.modUart n f).saf = d.saf := rfl
@[simp] theorem Dev.modUart_ocu (n : Nat) (f : UartSt → UartSt) : (d.modUart n f).ocu = d.ocu := rfl
@[simp] theorem Dev.modUart_lans (n : Nat) (f : UartSt → UartSt) : (d.modUart n f).lans = d.lans := rfl
@[simp] theorem Dev.modUart_host (n : Nat) (f : UartSt → UartSt) : (d.modUart n f).host = d.host := rfl
@[simp] theorem Dev.modUart_dma (n : Nat) (f : UartSt → UartSt) : (d.modUart n f).dma = d.dma := rfl
@[simp] theorem Dev.modUart_ring (n : Nat) (f : UartSt → UartSt) : (d.modUart n f).ring = d.ring := rfl
@[simp] theorem Dev.modUart_fios (n : Nat) (f : UartSt → UartSt) : (d.modUart n f).fios = d.fios := rfl
@[simp] theorem Dev.modUart_cans (n : Nat) (f : UartSt → UartSt) : (d.modUart n f).cans = d.cans := rfl
@[simp] theorem Dev.modUart_uarts (n : Nat) (f : UartSt → UartSt) : (d.modUart n f).uarts = AList.put d.uarts n (f (d.uart n)) := rfl
@[simp] theorem Dev.modUart_upd (n : Nat) (f : UartSt → UartSt) : (d.modUart n f).upd = d.upd := rfl
@[simp] theorem Dev.modUart_free (n : Nat) (f : UartSt → UartSt) : (d.modUart n f).free = d.free := rfl
@[simp] theorem Dev.modUart_out (n : Nat) (f : UartSt → UartSt) : (d.modUart n f).out = d.out := rfl

/-! `Dev.modUpd` -/
@[simp] theorem Dev.modUpd_regs (f : UpdSt → UpdSt) : (d.modUpd f).regs = d.regs := rfl
@[simp] theorem Dev.modUpd_mem (f : UpdSt → UpdSt) : (d.modUpd f).mem = d.mem := rfl
@[simp] theorem Dev.modUpd_sys (f : UpdSt → UpdSt) : (d.modUpd f).sys = d.sys := rfl
@[simp] theorem Dev.modUpd_time (f : UpdSt → UpdSt) : (d.modUpd f).time = d.time := rfl
@[simp] theorem Dev.modUpd_wake (f : UpdSt → UpdSt) : (d.modUpd f).wake = d.wake := rfl
@[simp] theorem Dev.modUpd_pwr (f : UpdSt → UpdSt) : (d.modUpd f).pwr = d.pwr := rfl
@[simp] theorem Dev.modUpd_bel (f : UpdSt → UpdSt) : (d.modUpd f).bel = d.bel := rfl
@[simp] theorem Dev.modUpd_cup (f : UpdSt → UpdSt) : (d.modUpd f).cup = d.cup := rfl
@[simp] theorem Dev.modUpd_core (f : UpdSt → UpdSt) : (d.modUpd f).core = d.core := rfl
@[simp] theorem Dev.modUpd_sense (f : UpdSt → UpdSt) : (d.modUpd f).sense = d.sense := rfl
@[simp] theorem Dev.modUpd_wave (f : UpdSt → UpdSt) : (d.modUpd f).wave = d.wave := rfl
@[simp] theorem Dev.modUpd_pwm (f : UpdSt → UpdSt) : (d.modUpd f).pwm = d.pwm := rfl
@[simp] theorem Dev.modUpd_grps (f : UpdSt → UpdSt) : (d.modUpd f).grps = d.grps := rfl
@[simp] theorem Dev.modUpd_fbs (f : UpdSt → UpdSt) : (d.modUpd f).fbs = d.fbs := rfl
@[simp] theorem Dev.modUpd_fbd (f : UpdSt → UpdSt) : (d.modUpd f).fbd = d.fbd := rfl
@[simp] theorem Dev.modUpd_mots (f : UpdSt → UpdSt) : (d.modUpd f).mots = d.mots := rfl
@[simp] theorem Dev.modUpd_mot (f : UpdSt → UpdSt) : (d.modUpd f).mot = d.mot := rfl
@[simp] theorem Dev.modUpd_saf (f : UpdSt → UpdSt) : (d.modUpd f).saf = d.saf := rfl
@[simp] theorem Dev.modUpd_ocu (f : UpdSt → UpdSt) : (d.modUpd f).ocu = d.ocu := rfl
@[simp] theorem Dev.modUpd_lans (f : UpdSt → UpdSt) : (d.modUpd f).lans = d.lans := rfl
@[simp] theorem Dev.modUpd_host (f : UpdSt → UpdSt) : (d.modUpd f).host = d.host := rfl
@[simp] theorem Dev.modUpd_dma (f : UpdSt → UpdSt) : (d.modUpd f).dma = d.dma := rfl
@[simp] theorem Dev.modUpd_ring (f : UpdSt → UpdSt) : (d.modUpd f).ring = d.ring := rfl
@[simp] theorem Dev.modUpd_fios (f : UpdSt → UpdSt) : (d.modUpd f).fios = d.fios := rfl
@[simp] theorem Dev.modUpd_cans (f : UpdSt → UpdSt) : (d.modUpd f).cans = d.cans := rfl
@[simp] theorem Dev.modUpd_uarts (f : UpdSt → UpdSt) : (d.modUpd f).uarts = d.uarts := rfl
@[simp] theorem Dev.modUpd_upd (f : UpdSt → UpdSt) : (d.modUpd f).upd = f d.upd := rfl
@[simp] theorem Dev.modUpd_free (f : UpdSt → UpdSt) : (d.modUpd f).free = d.free := rfl
@[simp] theorem Dev.modUpd_out (f : UpdSt → UpdSt) : (d.modUpd f).out = d.out := rfl

/-! `Dev.emit` -/
@[simp] theorem Dev.emit_regs (o : Out) : (d.emit o).regs = d.regs := rfl
@[simp] theorem Dev.emit_mem (o : Out) : (d.emit o).mem = d.mem := rfl
@[simp] theorem Dev.emit_sys (o : Out) : (d.emit o).sys = d.sys := rfl
@[simp] theorem Dev.emit_time (o : Out) : (d.emit o).time = d.time := rfl
@[simp] theorem Dev.emit_wake (o : Out) : (d.emit o).wake = d.wake := rfl
@[simp] theorem Dev.emit_pwr (o : Out) : (d.emit o).pwr = d.pwr := rfl
@[simp] theorem Dev.emit_bel (o : Out) : (d.emit o).bel = d.bel := rfl
@[simp] theorem Dev.emit_cup (o : Out) : (d.emit o).cup = d.cup := rfl
@[simp] theorem Dev.emit_core (o : Out) : (d.emit o).core = d.core := rfl
@[simp] theorem Dev.emit_sense (o : Out) : (d.emit o).sense = d.sense := rfl
@[simp] theorem Dev.emit_wave (o : Out) : (d.emit o).wave = d.wave := rfl
@[simp] theorem Dev.emit_pwm (o : Out) : (d.emit o).pwm = d.pwm := rfl
@[simp] theorem Dev.emit_grps (o : Out) : (d.emit o).grps = d.grps := rfl
@[simp] theorem Dev.emit_fbs (o : Out) : (d.emit o).fbs = d.fbs := rfl
@[simp] theorem Dev.emit_fbd (o : Out) : (d.emit o).fbd = d.fbd := rfl
@[simp] theorem Dev.emit_mots (o : Out) : (d.emit o).mots = d.mots := rfl
@[simp] theorem Dev.emit_mot (o : Out) : (d.emit o).mot = d.mot := rfl
@[simp] theorem Dev.emit_saf (o : Out) : (d.emit o).saf = d.saf := rfl
@[simp] theorem Dev.emit_ocu (o : Out) : (d.emit o).ocu = d.ocu := rfl
@[simp] theorem Dev.emit_lans (o : Out) : (d.emit o).lans = d.lans := rfl
@[simp] theorem Dev.emit_host (o : Out) : (d.emit o).host = d.host := rfl
@[simp] theorem Dev.emit_dma (o : Out) : (d.emit o).dma = d.dma := rfl
@[simp] theorem Dev.emit_ring (o : Out) : (d.emit o).ring = d.ring := rfl
@[simp] theorem Dev.emit_fios (o : Out) : (d.emit o).fios = d.fios := rfl
@[simp] theorem Dev.emit_cans (o : Out) : (d.emit o).cans = d.cans := rfl
@[simp] theorem Dev.emit_uarts (o : Out) : (d.emit o).uarts = d.uarts := rfl
@[simp] theorem Dev.emit_upd (o : Out) : (d.emit o).upd = d.upd := rfl
@[simp] theorem Dev.emit_free (o : Out) : (d.emit o).free = d.free := rfl
@[simp] theorem Dev.emit_out (o : Out) : (d.emit o).out = o :: d.out := rfl

/-! `Dev.settle` -/
@[simp] theorem Dev.settle_regs : d.settle.regs = SMap.canon regReset d.regs := rfl
@[simp] theorem Dev.settle_mem : d.settle.mem = SMap.canon memDflt d.mem := rfl
@[simp] theorem Dev.settle_sys : d.settle.sys = d.sys := rfl
@[simp] theorem Dev.settle_time : d.settle.time = d.time := rfl
@[simp] theorem Dev.settle_wake : d.settle.wake = d.wake := rfl
@[simp] theorem Dev.settle_pwr : d.settle.pwr = d.pwr := rfl
@[simp] theorem Dev.settle_bel : d.settle.bel = d.bel := rfl
@[simp] theorem Dev.settle_cup : d.settle.cup = d.cup := rfl
@[simp] theorem Dev.settle_core : d.settle.core = d.core := rfl
@[simp] theorem Dev.settle_sense : d.settle.sense = d.sense := rfl
@[simp] theorem Dev.settle_wave : d.settle.wave = d.wave := rfl
@[simp] theorem Dev.settle_pwm : d.settle.pwm = d.pwm := rfl
@[simp] theorem Dev.settle_grps : d.settle.grps = d.grps := rfl
@[simp] theorem Dev.settle_fbs : d.settle.fbs = d.fbs := rfl
@[simp] theorem Dev.settle_fbd : d.settle.fbd = d.fbd := rfl
@[simp] theorem Dev.settle_mots : d.settle.mots = d.mots := rfl
@[simp] theorem Dev.settle_mot : d.settle.mot = d.mot := rfl
@[simp] theorem Dev.settle_saf : d.settle.saf = d.saf := rfl
@[simp] theorem Dev.settle_ocu : d.settle.ocu = d.ocu := rfl
@[simp] theorem Dev.settle_lans : d.settle.lans = d.lans := rfl
@[simp] theorem Dev.settle_host : d.settle.host = d.host := rfl
@[simp] theorem Dev.settle_dma : d.settle.dma = d.dma := rfl
@[simp] theorem Dev.settle_ring : d.settle.ring = d.ring := rfl
@[simp] theorem Dev.settle_fios : d.settle.fios = d.fios := rfl
@[simp] theorem Dev.settle_cans : d.settle.cans = d.cans := rfl
@[simp] theorem Dev.settle_uarts : d.settle.uarts = d.uarts := rfl
@[simp] theorem Dev.settle_upd : d.settle.upd = d.upd := rfl
@[simp] theorem Dev.settle_free : d.settle.free = d.free := rfl
@[simp] theorem Dev.settle_out : d.settle.out = d.out := rfl

/-! Readings -/

@[simp] theorem Dev.rd_settle (a : Nat) : d.settle.rd a = d.rd a := SMap.get_canon regReset d.regs a
@[simp] theorem Dev.mb_settle (a : Nat) : d.settle.mb a = d.mb a := SMap.get_canon memDflt d.mem a

theorem Dev.rd_of_regs {d e : Dev} (h : e.regs = d.regs) (a : Nat) : e.rd a = d.rd a := by simp only [Dev.rd, h]
theorem Dev.mb_of_mem {d e : Dev} (h : e.mem = d.mem) (a : Nat) : e.mb a = d.mb a := by simp only [Dev.mb, h]

/-- What a register reads as after a write, where the register map is canonical. -/
theorem Dev.rd_wr (a b : Nat) (v : Word) (h : SMap.wf regReset d.regs = true) : (d.wr a v).rd b = if b = a then v else d.rd b :=
  SMap.get_put regReset d.regs a b v h

/-- What a byte of memory reads as after a write, where the memory is canonical. -/
theorem Dev.mb_setMb (a b : Nat) (v : Byte) (h : Memory.wf d.mem = true) : (d.setMb a v).mb b = if b = a then v else d.mb b :=
  SMap.get_put memDflt d.mem a b v h

/-- Writing a register keeps the register map canonical. -/
theorem Dev.wf_wr (a : Nat) (v : Word) (h : SMap.wf regReset d.regs = true) : SMap.wf regReset (d.wr a v).regs = true :=
  SMap.wf_put regReset d.regs a v h

/-- Writing a byte keeps the memory canonical. -/
theorem Dev.wf_setMb (a : Nat) (v : Byte) (h : Memory.wf d.mem = true) : Memory.wf (d.setMb a v).mem = true :=
  SMap.wf_put memDflt d.mem a v h

/-- Every command leaves canonical maps. -/
theorem Dev.settle_wf : SMap.wf regReset d.settle.regs = true ∧ Memory.wf d.settle.mem = true :=
  ⟨SMap.wf_canon regReset d.regs, SMap.wf_canon memDflt d.mem⟩

/-- A device whose maps are canonical is as it was. -/
theorem Dev.settle_of_wf (h : SMap.wf regReset d.regs = true) (h' : Memory.wf d.mem = true) : d.settle = d := by
  unfold Dev.settle
  rw [SMap.canon_of_wf regReset d.regs h, SMap.canon_of_wf memDflt d.mem h']

/-! Numbered engines -/

theorem Dev.ax_setAx (i j : Nat) (c : AxCore) : (d.setAx i c).ax j = if j = i then c else d.ax j := AList.get_put _ _ _ _ _
@[simp] theorem Dev.ax_setAx_self (i : Nat) (c : AxCore) : (d.setAx i c).ax i = c := by simp [Dev.ax, Dev.setAx]
theorem Dev.sns_setSns (i j : Nat) (c : AxSense) : (d.setSns i c).sns j = if j = i then c else d.sns j := AList.get_put _ _ _ _ _
@[simp] theorem Dev.sns_setSns_self (i : Nat) (c : AxSense) : (d.setSns i c).sns i = c := by simp [Dev.sns, Dev.setSns]
theorem Dev.wav_setWav (i j : Nat) (c : AxWave) : (d.setWav i c).wav j = if j = i then c else d.wav j := AList.get_put _ _ _ _ _
@[simp] theorem Dev.wav_setWav_self (i : Nat) (c : AxWave) : (d.setWav i c).wav i = c := by simp [Dev.wav, Dev.setWav]
theorem Dev.pw_setPw (i j : Nat) (c : AxPwm) : (d.setPw i c).pw j = if j = i then c else d.pw j := AList.get_put _ _ _ _ _
@[simp] theorem Dev.pw_setPw_self (i : Nat) (c : AxPwm) : (d.setPw i c).pw i = c := by simp [Dev.pw, Dev.setPw]
theorem Dev.fb_setFb (i j : Nat) (c : AxFb) : (d.setFb i c).fb j = if j = i then c else d.fb j := AList.get_put _ _ _ _ _
@[simp] theorem Dev.fb_setFb_self (i : Nat) (c : AxFb) : (d.setFb i c).fb i = c := by simp [Dev.fb, Dev.setFb]
theorem Dev.mo_setMo (i j : Nat) (c : AxMot) : (d.setMo i c).mo j = if j = i then c else d.mo j := AList.get_put _ _ _ _ _
@[simp] theorem Dev.mo_setMo_self (i : Nat) (c : AxMot) : (d.setMo i c).mo i = c := by simp [Dev.mo, Dev.setMo]
theorem Dev.grp_setGrp (i j : Nat) (c : SdGrp) : (d.setGrp i c).grp j = if j = i then c else d.grp j := AList.get_put _ _ _ _ _
@[simp] theorem Dev.grp_setGrp_self (i : Nat) (c : SdGrp) : (d.setGrp i c).grp i = c := by simp [Dev.grp, Dev.setGrp]
theorem Dev.ch_setCh (i j : Nat) (c : DmaCh) : (d.setCh i c).ch j = if j = i then c else d.ch j := AList.get_put _ _ _ _ _
@[simp] theorem Dev.ch_setCh_self (i : Nat) (c : DmaCh) : (d.setCh i c).ch i = c := by simp [Dev.ch, Dev.setCh]
theorem Dev.lan_setLan (i j : Nat) (c : LanSt) : (d.setLan i c).lan j = if j = i then c else d.lan j := AList.get_put _ _ _ _ _
@[simp] theorem Dev.lan_setLan_self (i : Nat) (c : LanSt) : (d.setLan i c).lan i = c := by simp [Dev.lan, Dev.setLan]
theorem Dev.fch_setFch (i j : Nat) (c : FieldCh) : (d.setFch i c).fch j = if j = i then c else d.fch j := AList.get_put _ _ _ _ _
@[simp] theorem Dev.fch_setFch_self (i : Nat) (c : FieldCh) : (d.setFch i c).fch i = c := by simp [Dev.fch, Dev.setFch]
theorem Dev.sg_setSg (i j : Nat) (c : GrpSt) : (d.setSg i c).sg j = if j = i then c else d.sg j := AList.get_put _ _ _ _ _
@[simp] theorem Dev.sg_setSg_self (i : Nat) (c : GrpSt) : (d.setSg i c).sg i = c := by simp [Dev.sg, Dev.setSg]
theorem Dev.can_modCan (i j : Nat) (f : CanSt → CanSt) : (d.modCan i f).can j = if j = i then f (d.can i) else d.can j := AList.get_put _ _ _ _ _
theorem Dev.uart_modUart (i j : Nat) (f : UartSt → UartSt) : (d.modUart i f).uart j = if j = i then f (d.uart i) else d.uart j := AList.get_put _ _ _ _ _

/-! A command's effect -/

/-- A meaning answers a next state with the queue as it was. -/
theorem State.perform_next (f : Dev → Dev) (s : State) : s.perform f = .next { s with dev := (f s.dev).settle } := rfl

end Sys2Proof.Machine
end

