-- ==== Sys2Proof/Laws/Frame.lean ====
section
/-!
SUPPORT. What an event and a completion can do: they write registers, memory in SPI mode, the host port's rings and queues, the DMA
channels' credits and the links' queues, and they send; every engine of the device stays as it was.  A proof about an instruction cites
these and unfolds neither.
-/

namespace Sys2Proof.Machine

/-! ### Writes -/

@[simp] theorem Dev.engines_wr (d : Dev) (a : Nat) (v : Word) : (d.wr a v).engines = d.engines := rfl
@[simp] theorem Dev.engines_wb (d : Dev) (a i : Nat) (b : Bool) : (d.wb a i b).engines = d.engines := rfl
@[simp] theorem Dev.engines_setFld (d : Dev) (a hi lo v : Nat) : (d.setFld a hi lo v).engines = d.engines := rfl
@[simp] theorem Dev.engines_incSat (d : Dev) (a hi lo : Nat) : (d.incSat a hi lo).engines = d.engines := rfl
@[simp] theorem Dev.engines_emit (d : Dev) (o : Out) : (d.emit o).engines = d.engines := rfl
@[simp] theorem Dev.engines_modHost (d : Dev) (f : HostSt → HostSt) : (d.modHost f).engines = d.engines := rfl
@[simp] theorem Dev.engines_host (d : Dev) (x : HostSt) : Dev.engines { d with host := x } = d.engines := rfl
@[simp] theorem Dev.engines_settle (d : Dev) : d.settle.engines = d.engines := rfl
@[simp] theorem Dev.engines_setCq (d : Dev) (q : Nat) (c : Cq) : (d.setCq q c).engines = d.engines := rfl
@[simp] theorem Dev.engines_setEvq (d : Dev) (q : Nat) (c : Evq) : (d.setEvq q c).engines = d.engines := rfl
@[simp] theorem Dev.engines_setVec (d : Dev) (cc v : Nat) (x : Vec) : (d.setVec cc v x).engines = d.engines := rfl
@[simp] theorem Dev.engines_setCh (d : Dev) (c : Nat) (x : DmaCh) : (d.setCh c x).engines = d.engines := rfl
@[simp] theorem Dev.engines_modRing (d : Dev) (f : RingSt → RingSt) : (d.modRing f).engines = d.engines := rfl
@[simp] theorem Dev.engines_setLink (d : Dev) (p : Nat) (x : PortSt) : (d.setLink p x).engines = d.engines := rfl

@[simp] theorem Dev.engines_setMbs (d : Dev) (a : Nat) (bs : List Byte) : (d.setMbs a bs).engines = d.engines := by
  induction bs generalizing d a with
  | nil => rfl
  | cons b bs ih => exact (ih (d.setMb a b) (a + 1)).trans rfl

/-- A fold of steps that leave the engines alone leaves them alone. -/
theorem Dev.engines_foldl {β : Type} (f : Dev → β → Dev) (h : ∀ d b, (f d b).engines = d.engines) (l : List β) (d : Dev) :
    (l.foldl f d).engines = d.engines := by
  induction l generalizing d with
  | nil => rfl
  | cons b l ih => exact (ih (f d b)).trans (h d b)

theorem Dev.engines_each (f : Dev → Nat → Dev) (h : ∀ d b, (f d b).engines = d.engines) (l : List Nat) (d : Dev) :
    (d.each l f).engines = d.engines := Dev.engines_foldl f h l d

/-! ### Events -/

@[simp] theorem Dev.engines_toHost (d : Dev) (b o : Nat) (bs : List Byte) (x : Out) : (d.toHost b o bs x).engines = d.engines := by
  unfold Dev.toHost
  split <;> simp

@[simp] theorem Dev.engines_signal (d : Dev) (cc v : Nat) : (d.signal cc v).engines = d.engines := by
  unfold Dev.signal
  dsimp only
  split
  · simp
  · split <;> simp

@[simp] theorem Dev.engines_cause (d : Dev) (cc v : Nat) (c : Cause) : (d.cause cc v c).engines = d.engines := by
  unfold Dev.cause
  dsimp only
  split <;> simp

theorem Dev.engines_deliver (f : Dev → Nat → Dev) (h : ∀ d b, (f d b).engines = d.engines) (d : Dev) (cc v src node count subj time : Nat) :
    (d.deliver f cc v src node count subj time).engines = d.engines := by
  unfold Dev.deliver
  dsimp only
  split
  · split
    · rw [h]; simp
    · simp
  · simp

@[simp] theorem Dev.engines_credit (d : Dev) (src : Nat) (again : Bool) : (d.credit src again).engines = d.engines := by
  unfold Dev.credit
  refine Dev.engines_each _ (fun d b => ?_) _ _
  dsimp only
  split
  · split <;> simp
  · rfl

@[simp] theorem Dev.engines_spoil (d : Dev) (k p : Nat) : (d.spoil k p).2.engines = d.engines := by
  unfold Dev.spoil
  dsimp only
  split <;> simp

@[simp] theorem Dev.engines_packetOn (d : Dev) (p k n : Nat) (bs : List Byte) (r : Bool) : (d.packetOn p k n bs r).engines = d.engines := by
  unfold Dev.packetOn
  simp

@[simp] theorem Dev.engines_sendOut (d : Dev) (k n : Nat) (bs : List Byte) (cmd : Option Hdr) (r : Bool) :
    (d.sendOut k n bs cmd r).engines = d.engines := by
  unfold Dev.sendOut
  dsimp only
  split
  · simp
  · split
    · simp
    · split
      · simp
      · split <;> simp

@[simp] theorem Dev.engines_noteRaise (d : Dev) (src subj : Nat) : (d.noteRaise src subj).engines = d.engines := rfl

@[simp] theorem Dev.engines_mergeRaise (d : Dev) (src subj c : Nat) : (d.mergeRaise src subj c).engines = d.engines := by
  unfold Dev.mergeRaise
  dsimp only
  rw [Dev.engines_modRing]
  split
  · rfl
  · refine Dev.engines_foldl _ (fun d o => ?_) _ _
    split
    · split <;> simp
    · rfl

@[simp] theorem Dev.engines_raiseN (fuel : Nat) (d : Dev) (src subj : Nat) : (d.raiseN fuel src subj).engines = d.engines := by
  induction fuel generalizing d src subj with
  | zero => rfl
  | succ fuel ih =>
    unfold Dev.raiseN
    dsimp only
    split
    · simp
    · split
      · simp
      · split
        · rw [Dev.engines_foldl _ (fun d b => by simp)]; simp
        · rw [Dev.engines_foldl _ (fun d b => Dev.engines_deliver _ (fun d b => ih d _ b) d _ _ _ _ _ _ _)]; simp

@[simp] theorem Dev.engines_raise (d : Dev) (src subj : Nat) : (d.raise src subj).engines = d.engines := Dev.engines_raiseN 4 d src subj

@[simp] theorem Dev.engines_raiseAx (d : Dev) (n k : Nat) : (d.raiseAx n k).engines = d.engines := Dev.engines_raise d _ _

@[simp] theorem Dev.engines_flag (d : Dev) (a i src subj : Nat) : (d.flag a i src subj).engines = d.engines := by
  unfold Dev.flag
  split <;> simp

/-! ### Completions -/

@[simp] theorem Dev.engines_landed (d : Dev) (sq tag st : Nat) : (d.landed sq tag st).engines = d.engines := by
  unfold Dev.landed
  split <;> simp

@[simp] theorem Dev.engines_cqWrite (d : Dev) (q : Nat) (c : Cq) (x : Held) : (d.cqWrite q c x).engines = d.engines := by
  unfold Dev.cqWrite
  dsimp only
  split <;> split <;> simp

@[simp] theorem Dev.engines_cqStop (d : Dev) (q : Nat) (c : Cq) (l : List Held) : (d.cqStop q c l).engines = d.engines := by
  unfold Dev.cqStop
  simp

@[simp] theorem Dev.engines_cqRelease (fuel : Nat) (d : Dev) (q : Nat) : (d.cqRelease fuel q).engines = d.engines := by
  induction fuel generalizing d with
  | zero => rfl
  | succ fuel ih =>
    unfold Dev.cqRelease
    split
    · rfl
    · split
      · rfl
      · split
        · rfl
        · split
          · simp
          · rw [ih]; simp

@[simp] theorem Dev.engines_cqPut (d : Dev) (q : Nat) (c : Cq) (x : Held) : (d.cqPut q c x).engines = d.engines := by
  unfold Dev.cqPut
  split
  · simp
  · split <;> simp

@[simp] theorem Dev.engines_unforward (d : Dev) (h : Hdr) (st : Nat) : (d.unforward h st).engines = d.engines := by
  unfold Dev.unforward
  split <;> simp

@[simp] theorem Dev.engines_udpReply (d : Dev) (b : Nat) (bs : List Byte) : (d.udpReply b bs).engines = d.engines := rfl

@[simp] theorem Dev.engines_answer (d : Dev) (h : Hdr) (st : Nat) (bs : List Byte) : (d.answer h st bs).engines = d.engines := by
  unfold Dev.answer
  dsimp only
  split
  · simp
  · split
    · simp
    · split
      · simp
      · split
        · simp
        · split
          · simp
          · split <;> simp

@[simp] theorem Dev.engines_complete (d : Dev) (h : Hdr) (st t : Nat) (r : List Byte) : (d.complete h st t r).engines = d.engines :=
  Dev.engines_answer d h st _

@[simp] theorem Dev.engines_doneAt (d : Dev) (h : Hdr) (st : Nat) (l : List (Nat × Nat × Nat)) : (d.doneAt h st l).engines = d.engines :=
  Dev.engines_complete d h st _ _

@[simp] theorem Dev.engines_doneNow (d : Dev) (h : Hdr) (st : Nat) (l : List (Nat × Nat × Nat)) : (d.doneNow h st l).engines = d.engines :=
  Dev.engines_complete d h st _ _

@[simp] theorem Dev.engines_doneWait (d : Dev) (h : Option Hdr) (st : Nat) (l : List (Nat × Nat × Nat)) :
    (d.doneWait h st l).engines = d.engines := by
  unfold Dev.doneWait
  split <;> simp

@[simp] theorem Dev.engines_joinStart (d : Dev) (h : Hdr) (n : Nat) : (d.joinStart h n).engines = d.engines := by
  unfold Dev.joinStart
  split <;> simp

@[simp] theorem Dev.engines_partDone (d : Dev) (h : Hdr) (st : Nat) (l : List (Nat × Nat × Nat)) : (d.partDone h st l).engines = d.engines := by
  unfold Dev.partDone
  split
  · simp
  · dsimp only
    split
    · split <;> simp
    · simp

@[simp] theorem Dev.engines_partWait (d : Dev) (h : Option Hdr) (st : Nat) (l : List (Nat × Nat × Nat)) :
    (d.partWait h st l).engines = d.engines := by
  unfold Dev.partWait
  split <;> simp

/-! ### What the engines hold, field by field -/

/-- Equal engines hold the same in each of their fields. -/
theorem Dev.engines_eq {d e : Dev} (h : d.engines = e.engines) :
    d.sys = e.sys ∧ d.time = e.time ∧ d.wake = e.wake ∧ d.pwr = e.pwr ∧ d.bel = e.bel ∧ d.cup = e.cup ∧ d.core = e.core ∧ d.sense = e.sense ∧
      d.wave = e.wave ∧ d.pwm = e.pwm ∧ d.grps = e.grps ∧ d.fbs = e.fbs ∧ d.fbd = e.fbd ∧ d.mots = e.mots ∧ d.mot = e.mot ∧ d.saf = e.saf ∧
      d.ocu = e.ocu ∧ d.lans = e.lans ∧ d.fios = e.fios ∧ d.cans = e.cans ∧ d.uarts = e.uarts ∧ d.upd = e.upd ∧ d.free = e.free := by
  exact ⟨(congrArg Dev.sys h : d.engines.sys = e.engines.sys), (congrArg Dev.time h : d.engines.time = e.engines.time),
    (congrArg Dev.wake h : d.engines.wake = e.engines.wake), (congrArg Dev.pwr h : d.engines.pwr = e.engines.pwr),
    (congrArg Dev.bel h : d.engines.bel = e.engines.bel), (congrArg Dev.cup h : d.engines.cup = e.engines.cup),
    (congrArg Dev.core h : d.engines.core = e.engines.core), (congrArg Dev.sense h : d.engines.sense = e.engines.sense),
    (congrArg Dev.wave h : d.engines.wave = e.engines.wave), (congrArg Dev.pwm h : d.engines.pwm = e.engines.pwm),
    (congrArg Dev.grps h : d.engines.grps = e.engines.grps), (congrArg Dev.fbs h : d.engines.fbs = e.engines.fbs),
    (congrArg Dev.fbd h : d.engines.fbd = e.engines.fbd), (congrArg Dev.mots h : d.engines.mots = e.engines.mots),
    (congrArg Dev.mot h : d.engines.mot = e.engines.mot), (congrArg Dev.saf h : d.engines.saf = e.engines.saf),
    (congrArg Dev.ocu h : d.engines.ocu = e.engines.ocu), (congrArg Dev.lans h : d.engines.lans = e.engines.lans),
    (congrArg Dev.fios h : d.engines.fios = e.engines.fios), (congrArg Dev.cans h : d.engines.cans = e.engines.cans),
    (congrArg Dev.uarts h : d.engines.uarts = e.engines.uarts), (congrArg Dev.upd h : d.engines.upd = e.engines.upd),
    (congrArg Dev.free h : d.engines.free = e.engines.free)⟩

end Sys2Proof.Machine
end

