-- ==== Sys2Proof/Laws/Quiet.lean ====
section
/-!
SUPPORT. Everything that an event and a completion can do, as a frame (`Dev.still`): no engine changes, and no register or byte of memory
but the few that belong to events.  A proof about a command cites these and unfolds neither.
-/

namespace Sys2Proof.Machine

theorem Dev.still_refl (d : Dev) : d.still d := ⟨rfl, rfl, fun h => ⟨h, fun _ _ => rfl⟩, fun _ _ => rfl⟩

theorem Dev.still_trans {a b c : Dev} (h : a.still b) (k : b.still c) : a.still c :=
  ⟨k.1.trans h.1, k.2.1.trans h.2.1,
    fun w => ⟨(k.2.2.1 (h.2.2.1 w).1).1, fun x n => ((k.2.2.1 (h.2.2.1 w).1).2 x n).trans ((h.2.2.1 w).2 x n)⟩,
    fun s x => (k.2.2.2 (h.2.1.trans s) x).trans (h.2.2.2 s x)⟩

/-- A change of neither a register nor a byte of memory, nor an engine or the port's kind. -/
theorem Dev.still_of {d e : Dev} (h : e.engines = d.engines) (s : e.host.spi = d.host.spi) (r : e.regs = d.regs) (m : e.mem = d.mem) :
    d.still e :=
  ⟨h, s, fun w => ⟨by rw [r]; exact w, fun a _ => Dev.rd_of_regs r a⟩, fun _ a => Dev.mb_of_mem m a⟩

theorem Dev.still_settle (d : Dev) : d.still d.settle :=
  ⟨rfl, rfl, fun _ => ⟨d.settle_wf.1, fun a _ => d.rd_settle a⟩, fun _ a => d.mb_settle a⟩

theorem Dev.still_emit (d : Dev) (o : Out) : d.still (d.emit o) := Dev.still_of rfl rfl rfl rfl
theorem Dev.still_setVec (d : Dev) (cc v : Nat) (x : Vec) : d.still (d.setVec cc v x) := Dev.still_of rfl rfl rfl rfl
theorem Dev.still_setCq (d : Dev) (q : Nat) (x : Cq) : d.still (d.setCq q x) := Dev.still_of rfl rfl rfl rfl
theorem Dev.still_setEvq (d : Dev) (q : Nat) (x : Evq) : d.still (d.setEvq q x) := Dev.still_of rfl rfl rfl rfl
theorem Dev.still_setCh (d : Dev) (q : Nat) (x : DmaCh) : d.still (d.setCh q x) := Dev.still_of rfl rfl rfl rfl
theorem Dev.still_modRing (d : Dev) (f : RingSt → RingSt) : d.still (d.modRing f) := Dev.still_of rfl rfl rfl rfl
theorem Dev.still_setLink (d : Dev) (p : Nat) (x : PortSt) : d.still (d.setLink p x) := Dev.still_of rfl rfl rfl rfl

/-- A write of a register that belongs to events. -/
theorem Dev.still_wr (d : Dev) (a : Nat) (v : Word) (h : eventReg a) : d.still (d.wr a v) :=
  ⟨rfl, rfl, fun w => ⟨Dev.wf_wr d a v w, fun b n => by
    rw [Dev.rd_wr d a b v w, if_neg]
    rintro rfl
    exact n h⟩, fun _ _ => rfl⟩

theorem Dev.still_incSat (d : Dev) (a hi lo : Nat) (h : eventReg a) : d.still (d.incSat a hi lo) := d.still_wr a _ h

theorem Dev.still_foldl {β : Type} (f : Dev → β → Dev) (h : ∀ (d : Dev) b, d.still (f d b)) (l : List β) (d : Dev) : d.still (l.foldl f d) := by
  induction l generalizing d with
  | nil => exact d.still_refl
  | cons b l ih => exact Dev.still_trans (h d b) (ih (f d b))

/-! ### Events -/

theorem Dev.spi_setMbs (d : Dev) (a : Nat) (bs : List Byte) : (d.setMbs a bs).host.spi = d.host.spi ∧ (d.setMbs a bs).regs = d.regs := by
  induction bs generalizing d a with
  | nil => exact ⟨rfl, rfl⟩
  | cons b bs ih => exact (ih (d.setMb a b) (a + 1) : _)

theorem Dev.still_toHost (d : Dev) (b o : Nat) (bs : List Byte) (x : Out) : d.still (d.toHost b o bs x) := by
  unfold Dev.toHost
  split
  · rename_i s
    refine ⟨by simp, (Dev.spi_setMbs d _ bs).1, fun w => ?_, fun n => absurd s (by simp [n])⟩
    have r : ((d.setMbs (0xE0000 + (b + o) % 0x20000) bs).emit x).regs = d.regs := (Dev.spi_setMbs d _ bs).2
    exact ⟨by rw [r]; exact w, fun a _ => Dev.rd_of_regs r a⟩
  · exact d.still_emit x

theorem Dev.still_signal (d : Dev) (cc v : Nat) : d.still (d.signal cc v) := by
  unfold Dev.signal
  dsimp only
  refine Dev.still_trans (d.still_setVec cc v {}) ?_
  split
  · exact Dev.still_wr _ _ _ (Or.inl rfl)
  · split
    · exact Dev.still_of rfl rfl rfl rfl
    · exact Dev.still_emit _ _

theorem Dev.still_cause (d : Dev) (cc v : Nat) (c : Cause) : d.still (d.cause cc v c) := by
  unfold Dev.cause
  dsimp only
  split
  · exact d.still_signal cc v
  · exact d.still_setVec cc v _

theorem Dev.still_deliver (f : Dev → Nat → Dev) (h : ∀ (d : Dev) b, d.still (f d b)) (d : Dev) (cc v src node count subj time : Nat) :
    d.still (d.deliver f cc v src node count subj time) := by
  unfold Dev.deliver
  dsimp only
  split
  · split
    · exact Dev.still_trans (Dev.still_trans (Dev.still_setEvq d cc _) (Dev.still_incSat _ _ _ _ (Or.inr (Or.inr (Or.inr ⟨cc, rfl⟩))))) (h _ _)
    · exact Dev.still_trans (Dev.still_setEvq d cc _) (Dev.still_incSat _ _ _ _ (Or.inr (Or.inr (Or.inr ⟨cc, rfl⟩))))
  · exact Dev.still_trans (Dev.still_trans (Dev.still_setEvq d cc _) (Dev.still_toHost _ _ _ _ _)) (Dev.still_cause _ _ _ _)

theorem Dev.still_credit (d : Dev) (src : Nat) (again : Bool) : d.still (d.credit src again) := by
  unfold Dev.credit Dev.each
  have key : ∀ l : List Nat, (∀ c ∈ l, c < 32) → ∀ d : Dev, d.still (l.foldl (fun (d : Dev) c =>
      let w := d.rd (A.DMA_CH_TRIG c)
      if bit 15 w && field 9 0 w == src then
        let x := d.ch c
        if !again && decide (x.credits < 255) then d.setCh c { x with credits := x.credits + 1 }
        else d.setFld (A.DMA_CH_TRIG c) 31 24 (sat 255 (field 31 24 w + 1))
      else d) d) := by
    intro l
    induction l with
    | nil => exact fun _ d => d.still_refl
    | cons c l ih =>
      intro hl d
      rw [List.foldl_cons]
      refine Dev.still_trans ?_ (ih (fun x hx => hl x (List.mem_cons_of_mem _ hx)) _)
      dsimp only
      split
      · split
        · exact Dev.still_setCh _ _ _
        · exact Dev.still_wr _ _ _ (Or.inr (Or.inr (Or.inl ⟨c, hl c (List.mem_cons_self ..), rfl⟩)))
      · exact d.still_refl
  exact key _ (fun c hc => List.mem_range.1 hc) d

theorem Dev.still_spoil (d : Dev) (k p : Nat) : d.still (d.spoil k p).2 := by
  unfold Dev.spoil
  dsimp only
  split
  · exact Dev.still_wr _ _ _ (Or.inr (Or.inl rfl))
  · exact d.still_refl

theorem Dev.still_packetOn (d : Dev) (p k n : Nat) (bs : List Byte) (r : Bool) : d.still (d.packetOn p k n bs r) := by
  unfold Dev.packetOn
  exact Dev.still_trans (Dev.still_trans (d.still_spoil 0 p) (Dev.still_emit _ _)) (Dev.still_modRing _ _)

theorem Dev.still_sendOut (d : Dev) (k n : Nat) (bs : List Byte) (cmd : Option Hdr) (r : Bool) : d.still (d.sendOut k n bs cmd r) := by
  unfold Dev.sendOut
  dsimp only
  split
  · exact d.still_packetOn _ _ _ _ _
  · split
    · exact d.still_packetOn _ _ _ _ _
    · split
      · exact Dev.still_modRing _ _
      · split
        · exact d.still_setLink _ _
        · exact d.still_refl

theorem Dev.still_noteRaise (d : Dev) (src subj : Nat) : d.still (d.noteRaise src subj) := Dev.still_of rfl rfl rfl rfl

theorem Dev.still_mergeRaise (d : Dev) (src subj c : Nat) : d.still (d.mergeRaise src subj c) := by
  unfold Dev.mergeRaise
  dsimp only
  refine Dev.still_trans (Dev.still_trans ?_ (Dev.still_of rfl rfl rfl rfl)) (Dev.still_modRing _ _)
  split
  · exact d.still_refl
  · rename_i spi
    have spi : d.host.spi = true := by simpa using spi
    have key : ∀ (l : List Out) (e : Dev), e.host.spi = true → e.still (l.foldl (fun (d' : Dev) o => match o with
        | .event cc idx bs =>
          if Machine.countUp src subj c d.now bs = bs then d'
          else d'.setMbs (0xE0000 + (d'.rd64 (A.HOST_EVQ_LO cc) + 16 * idx) % 0x20000) (Machine.countUp src subj c d.now bs)
        | _ => d') e) := by
      intro l
      induction l with
      | nil => exact fun e _ => e.still_refl
      | cons o l ih =>
        intro e h
        rw [List.foldl_cons]
        have step : ∀ a bs, e.still (e.setMbs a bs) := fun a bs =>
          ⟨by simp, (Dev.spi_setMbs e a bs).1, fun w => ⟨by rw [(Dev.spi_setMbs e a bs).2]; exact w,
            fun b _ => Dev.rd_of_regs (Dev.spi_setMbs e a bs).2 b⟩, fun n => absurd h (by simp [n])⟩
        split
        · split
          · exact ih e h
          · exact Dev.still_trans (step _ _) (ih _ ((Dev.spi_setMbs e _ _).1.trans h))
        · exact ih e h
    exact key _ d spi

theorem Dev.still_raiseN (fuel : Nat) (d : Dev) (src subj : Nat) : d.still (d.raiseN fuel src subj) := by
  induction fuel generalizing d src subj with
  | zero => exact d.still_refl
  | succ fuel ih =>
    unfold Dev.raiseN
    dsimp only
    refine Dev.still_trans (Dev.still_trans (d.still_credit src (d.raisedNow.any (fun x => x.1 == src))) (Dev.still_noteRaise _ src subj)) ?_
    split
    · exact Dev.still_refl _
    · split
      · exact Dev.still_mergeRaise _ _ _ _
      split
      · exact Dev.still_foldl _ (fun d b => d.still_sendOut _ _ _ _ _) _ _
      · exact Dev.still_foldl _ (fun d b => Dev.still_deliver _ (fun d b => ih d _ b) d _ _ _ _ _ _ _) _ _

/-- All that an event can do. -/
theorem Dev.still_raise (d : Dev) (src subj : Nat) : d.still (d.raise src subj) := Dev.still_raiseN 4 d src subj

/-! ### Access faults -/

@[simp] theorem Dev.engines_accFault (d : Dev) (r : Req) (a : Nat) (k : Kind) (w : Bool) : (d.accFault r a k w).engines = d.engines := by
  unfold Dev.accFault
  dsimp only
  rw [Dev.engines_raise]
  split <;> rfl

/-- All that an access fault does to the registers: its record, and what events write. -/
theorem Dev.rd_accFault (d : Dev) (r : Req) (a : Nat) (k : Kind) (w : Bool) (h : SMap.wf regReset d.regs = true) (b : Nat)
    (h1 : ¬ eventReg b) (h2 : b ≠ A.SYS_ACC_FAULT) (h3 : b ≠ A.SYS_ACC_SRC) : (d.accFault r a k w).rd b = d.rd b := by
  unfold Dev.accFault
  dsimp only
  generalize he : d.modHost (fun q => { q with accKind := k.code }) = e
  have hr : e.regs = d.regs := by rw [← he]; rfl
  have hw : SMap.wf regReset e.regs = true := by rw [hr]; exact h
  split
  · exact (((Dev.still_raise e Ev.accessFault 0).2.2.1 hw).2 b h1).trans (Dev.rd_of_regs hr b)
  · have w1 := Dev.wf_wr e A.SYS_ACC_FAULT (BitVec.ofNat 32 (spaceOffset a + 2 ^ 24 * k.code + 2 ^ 31)) hw
    refine (((Dev.still_raise _ Ev.accessFault 0).2.2.1 (Dev.wf_wr _ A.SYS_ACC_SRC (accSource r w) w1)).2 b h1).trans ?_
    rw [Dev.rd_wr _ _ _ _ w1, if_neg h3, Dev.rd_wr _ _ _ _ hw, if_neg h2]
    exact Dev.rd_of_regs hr b

/-! ### Completions -/

theorem Dev.still_landed (d : Dev) (sq tag st : Nat) : d.still (d.landed sq tag st) := by
  unfold Dev.landed
  split
  · exact d.still_refl
  · exact Dev.still_of rfl rfl rfl rfl

theorem Dev.still_cqWrite (d : Dev) (q : Nat) (c : Cq) (x : Held) : d.still (d.cqWrite q c x) := by
  unfold Dev.cqWrite
  dsimp only
  split
  · split
    · exact Dev.still_trans (Dev.still_trans (Dev.still_trans (Dev.still_trans (Dev.still_setCq d q _) (Dev.still_toHost _ _ _ _ _)) (Dev.still_landed _ _ _ _)) (Dev.still_raise _ _ _)) (Dev.still_signal _ _ _)
    · exact Dev.still_trans (Dev.still_trans (Dev.still_trans (Dev.still_setCq d q _) (Dev.still_toHost _ _ _ _ _)) (Dev.still_landed _ _ _ _)) (Dev.still_signal _ _ _)
  · split
    · exact Dev.still_trans (Dev.still_trans (Dev.still_trans (Dev.still_trans (Dev.still_setCq d q _) (Dev.still_toHost _ _ _ _ _)) (Dev.still_landed _ _ _ _)) (Dev.still_raise _ _ _)) (Dev.still_cause _ _ _ _)
    · exact Dev.still_trans (Dev.still_trans (Dev.still_trans (Dev.still_setCq d q _) (Dev.still_toHost _ _ _ _ _)) (Dev.still_landed _ _ _ _)) (Dev.still_cause _ _ _ _)

theorem Dev.still_cqStop (d : Dev) (q : Nat) (c : Cq) (l : List Held) : d.still (d.cqStop q c l) :=
  Dev.still_trans (Dev.still_setCq d q _) (Dev.still_raise _ _ _)

theorem Dev.still_cqPut (d : Dev) (q : Nat) (c : Cq) (x : Held) : d.still (d.cqPut q c x) := by
  unfold Dev.cqPut
  split
  · exact d.still_setCq _ _
  · split
    · exact d.still_cqStop _ _ _
    · exact d.still_cqWrite _ _ _

theorem Dev.still_unforward (d : Dev) (h : Hdr) (st : Nat) : d.still (d.unforward h st) := by
  unfold Dev.unforward
  split
  · exact d.still_refl
  · exact Dev.still_of rfl rfl rfl rfl

theorem Dev.still_udpReply (d : Dev) (b : Nat) (bs : List Byte) : d.still (d.udpReply b bs) := Dev.still_of rfl rfl rfl rfl

theorem Dev.still_answer (d : Dev) (h : Hdr) (st : Nat) (bs : List Byte) : d.still (d.answer h st bs) := by
  unfold Dev.answer
  dsimp only
  refine Dev.still_trans (d.still_unforward h st) ?_
  split
  · exact Dev.still_refl _
  · split
    · exact Dev.still_trans (Dev.still_sendOut _ _ _ _ _ _) (Dev.still_landed _ _ _ _)
    · split
      · exact Dev.still_trans (Dev.still_udpReply _ _ _) (Dev.still_landed _ _ _ _)
      · split
        · exact Dev.still_trans (Dev.still_emit _ _) (Dev.still_landed _ _ _ _)
        · split
          · exact Dev.still_emit _ _
          · split
            · exact Dev.still_emit _ _
            · exact Dev.still_cqPut _ _ _ _

/-- All that a completion can do. -/
theorem Dev.still_complete (d : Dev) (h : Hdr) (st t : Nat) (r : List Byte) : d.still (d.complete h st t r) := d.still_answer h st _

theorem Dev.still_doneAt (d : Dev) (h : Hdr) (st : Nat) (l : List (Nat × Nat × Nat)) : d.still (d.doneAt h st l) := d.still_complete h st _ _

theorem Dev.still_doneNow (d : Dev) (h : Hdr) (st : Nat) (l : List (Nat × Nat × Nat)) : d.still (d.doneNow h st l) := d.still_complete h st _ _

end Sys2Proof.Machine
end

