-- ==== Sys2Proof/Machine/Balls.lean ====
section
/-!
DEFINITION. The ball map (17_electrical_package.md R498, R499): the name of the ball at each of the 34 × 34 coordinates.  No command acts on
it; it says where the pins that the model speaks of lie.
-/

namespace Sys2Proof.Machine

/-- The letters of a row index, 1 to 34. -/
def rowLetters (r : Nat) : String :=
  ["A", "B", "C", "D", "E", "F", "G", "H", "J", "K", "L", "M", "N", "P", "T", "U", "V", "W", "Y", "AA", "AB", "AC", "AD", "AE", "AF", "AG",
    "AH", "AJ", "AK", "AL", "AM", "AN", "AP", "AT"].getD (r - 1) ""

/-- A number in decimal digits, at least two of them. -/
def twoDigits (n : Nat) : String := (if n < 10 then "0" else "") ++ toString n

/-- The ball at position (k, o) of the block of axis `n` (R498). -/
def axisBallName (n k o : Nat) : String :=
  if k = 5 ∧ o = 0 then "GND"
  else "AX" ++ twoDigits n ++ "_" ++
    ["UH", "UL", "VH", "VL", "WH", "WL", "SWU", "SWV", "SWW", "TRIP", "", "SDIA", "SDIB", "SDVA", "SDVB", "ENCZ", "ENCA", "ENCB"].getD (2 * k + o) ""

/-- The coordinate, row index and column, of position (k, o) of the block of axis `n` (R498). -/
def axisBall (n k o : Nat) : Nat × Nat := if n < 16 then (1 + k, 2 + 2 * n + o) else (34 - k, 2 + 2 * (n - 16) + o)

/-- Names down a column from row index `r` on. -/
def ballsDown (r c : Nat) (names : List String) : List (String × Nat × Nat) := names.zipIdx.map (fun x => (x.1, r + x.2, c))

/-- Names up a column from row index 34 on. -/
def ballsUp (c : Nat) (names : List String) : List (String × Nat × Nat) := names.zipIdx.map (fun x => (x.1, 34 - x.2, c))

/-- `n` numbered names. -/
def numbered (a : String) (n : Nat) (b : String) (start : Nat := 0) : List String :=
  (List.range n).map (fun i => a ++ toString (start + i) ++ b)

/-- The balls of the axis blocks. -/
def axisBalls : List (String × Nat × Nat) :=
  (List.range 32).flatMap (fun n => (List.range 9).flatMap (fun k => [0, 1].map (fun o => (axisBallName n k o, axisBall n k o))))

/-- The balls at the band edges. -/
def edgeBalls : List (String × Nat × Nat) :=
  ballsDown 1 1 (numbered "SDCLK" 8 "" ++ ["GND"]) ++ ballsDown 1 34 (numbered "SDBUS" 8 "" ++ ["GND"]) ++
    ballsUp 1 ["TRIPG_0", "TRIPG_1", "TRIPG_2", "TRIPG_3", "HOSTSEL", "RESET_N", "RECOVERY_N", "XTAL25_IN", "XTAL25_OUT"] ++
    ballsUp 34 ["UART0_TX", "UART0_RX", "UART0_DE", "UART1_TX", "UART1_RX", "UART1_DE", "HSPI_SCLK", "HSPI_CS_N", "HSPI_MOSI"]

/-- The balls of rows K to AF, columns 1 to 8. -/
def fieldBalls : List (String × Nat × Nat) :=
  ballsDown 10 1 (numbered "FIO" 16 "") ++ ballsDown 10 2 (numbered "FIO" 16 "" 16) ++ ballsDown 10 3 (List.replicate 16 "VFIELD") ++
    ballsDown 10 4 ((List.range 16).map (fun i => "SI" ++ twoDigits i ++ "_A")) ++
    ballsDown 10 5 ((List.range 16).map (fun i => "SI" ++ twoDigits i ++ "_B")) ++
    ballsDown 10 6 (numbered "SO" 8 "_H" ++ numbered "SO" 8 "_L") ++
    ballsDown 10 7 (numbered "TP" 4 "" ++ (List.range 4).flatMap (fun g => ["STO" ++ toString g ++ "_A_N", "STO" ++ toString g ++ "_B_N"]) ++
      ["ALM0", "ALM1", "BELL_N", "VBAT"]) ++
    ballsDown 10 8 (["BAIN0", "BAIN1", "AGND", "XTAL32_IN", "XTAL32_OUT", "AGND"] ++ List.replicate 10 "FGND")

/-- The supply balls of rows K to AF, columns 9 to 27. -/
def supplyBalls : List (String × Nat × Nat) :=
  (List.range 19).flatMap (fun i => (List.range 16).map (fun j =>
    let c := 9 + i
    let r := 10 + j
    let name := if c ≤ 12 then (if r % 2 = 0 then (if c ≤ 10 then "VSYS" else "VIO18") else "GND")
      else if (r + c) % 2 = 0 then "VCORE" else "GND"
    (name, r, c)))

/-- The balls of rows K to AF, columns 28 to 34. -/
def signalBalls : List (String × Nat × Nat) :=
  let pairs := ["PCIE_TX0", "PCIE_TX1", "PCIE_TX2", "PCIE_TX3", "PCIE_RX0", "PCIE_RX1", "PCIE_RX2", "PCIE_RX3", "RA_IN", "RA_OUT", "RB_IN", "RB_OUT",
    "ETH0_TX", "ETH0_RX", "ETH1_TX", "ETH1_RX"]
  ballsDown 10 28 ["HSPI_MISO", "HIRQ_N", "QSPI_SCLK", "QSPI_CS_N", "QSPI_IO0", "QSPI_IO1", "QSPI_IO2", "QSPI_IO3", "TCK", "TMS", "TDI", "TDO", "TRST_N",
      "GND", "GND", "GND"] ++
    ballsDown 10 29 (numbered "ENCS" 8 "_CLK" ++ numbered "LTCH" 4 "" ++ ["CAN0_TX", "CAN0_RX", "CAN1_TX", "CAN1_RX"]) ++
    ballsDown 10 30 (numbered "ENCS" 8 "_DAT" ++ numbered "LTCH" 4 "" 4 ++ ["CAN2_TX", "CAN2_RX", "CAN3_TX", "CAN3_RX"]) ++
    ballsDown 10 31 ((List.range 4).flatMap (fun p => ["ENCO" ++ toString p ++ "_A", "ENCO" ++ toString p ++ "_B", "ENCO" ++ toString p ++ "_Z"]) ++
      ["PCIE_REFCLK_P", "PCIE_REFCLK_N", "ETH_MDC", "ETH_MDIO"]) ++
    ballsDown 10 32 (List.replicate 16 "GND") ++
    ballsDown 10 33 (pairs.map (· ++ "_N")) ++ ballsDown 10 34 (pairs.map (· ++ "_P"))

/-- The 1,156 balls of the package with their row index and column (R498, R499). -/
def balls : List (String × Nat × Nat) := axisBalls ++ edgeBalls ++ fieldBalls ++ supplyBalls ++ signalBalls

/-- The coordinate of a ball as the package is lettered. -/
def ballAt (name : String) : Option String := (balls.find? (fun x => x.1 == name)).map (fun x => rowLetters x.2.1 ++ toString x.2.2)

end Sys2Proof.Machine
end

