-- ==== Sys2Proof/Tests/Slice0.lean ====
section
/-! SUPPORT. For every clause of every statement a state and operands that meet its hypotheses; for every check of
WellFormed a command that it refuses; and small tests of single commands, whose expected values stand in the rule
that each test's comment names. -/

set_option maxRecDepth 20000
set_option Elab.async false
set_option linter.unusedVariables false

namespace Sys2Proof.Machine

/-- A device in a mode, for witnesses: every other field as reset leaves it. -/
def wMode (m : Mode) : Dev := { sys := { mode := m } }
/-- The device in READY with its host attached, a VF enabled and registers as a list gives them. -/
def wRegs (l : List (Nat × Word)) : State := { dev := { (wMode .ready).wrAll l with host := { attached := true, vfEnable := true, numVfs := 4, linkUp := true } } }
/-- The same with the register map as reset leaves it. -/
def wReady : State := wRegs []
/-- A valid bank of one state, one output and no inputs at an address: its header with its CRC-32C, the rest zero. -/
def wBank (base : Nat) : List (Nat × Byte) :=
  [(base, 1), (base + 2, 1), (base + 5, 1), (base + 10, 1), (base + 0x1C, 0x2C), (base + 0x1D, 0xAA), (base + 0x1E, 0x1D), (base + 0x1F, 0x7F)]
/-- A device in a mode, its axis 3 in a state, the register map as a list gives it. -/
def wAxis (m : Mode) (st : AxState) (l : List (Nat × Word)) : Dev := { (wMode m).wrAll l with core := [(3, { state := st })], saf := { deviceSto := false } }

/-- A device whose axis 3 has a valid bank 1, in CONFIGURE; its swap as AX_BANK_SWAP judges it. -/
def wSwap : Dev := { wMode .configure with mem := wBank 0x23C000 }
/-- The same once the swap is pending no more. -/
def wSwapped : Dev := wSwap.each [3] (fun d n => d.modAx n (fun c => { c with swapPending := false }))
/-- 255 zero bytes. -/
def crcBlock : List Byte := List.replicate 255 0
/-- The CRC-32C register after 255 zero bytes more. -/
def crcZeros (c : Nat) : Nat := crcBlock.foldl (crcByte 0x82F63B78) c
/-- The CRC-32C register after some blocks of zero bytes. -/
def crcBlocks (k c : Nat) : Nat := (List.replicate k crcBlock).flatten.foldl (crcByte 0x82F63B78) c
theorem crcBlocks_succ (k c : Nat) : crcBlocks (k + 1) c = crcBlocks k (crcZeros c) := by
  simp only [crcBlocks, List.replicate_succ, List.flatten_cons, List.foldl_append, crcZeros]
theorem wBank_crc_1 : crcZeros 0x5F582483 = 0xBFBE0C32 ∧ crcZeros 0xBFBE0C32 = 0x9D0F4143 ∧ crcZeros 0x9D0F4143 = 0x6A0E3C29 ∧ crcZeros 0x6A0E3C29 = 0x1E6CDC3B ∧ crcZeros 0x1E6CDC3B = 0xF080D377 ∧ crcZeros 0xF080D377 = 0x5D8F59E4 ∧ crcZeros 0x5D8F59E4 = 0x82CA1586 ∧ crcZeros 0x82CA1586 = 0x3D7AC219 := by decide +kernel
theorem wBank_crc_2 : crcZeros 0x3D7AC219 = 0x9D6308E7 ∧ crcZeros 0x9D6308E7 = 0xB002B4E1 ∧ crcZeros 0xB002B4E1 = 0xD6406028 ∧ crcZeros 0xD6406028 = 0xFB9A1C82 ∧ crcZeros 0xFB9A1C82 = 0x9439EBB ∧ crcZeros 0x9439EBB = 0x52FDF783 ∧ crcZeros 0x52FDF783 = 0xF54FADA6 ∧ crcZeros 0xF54FADA6 = 0xF71ABB9 := by decide +kernel
theorem wBank_crc_3 : crcZeros 0xF71ABB9 = 0x8A5DAFEE ∧ crcZeros 0x8A5DAFEE = 0x65F572BD ∧ crcZeros 0x65F572BD = 0x25109494 ∧ crcZeros 0x25109494 = 0x31F09AF7 ∧ crcZeros 0x31F09AF7 = 0xAE19E1F6 ∧ crcZeros 0xAE19E1F6 = 0xBF62BDF6 ∧ crcZeros 0xBF62BDF6 = 0x107E80C0 ∧ crcZeros 0x107E80C0 = 0x62F197A7 := by decide +kernel
theorem wBank_crc_4 : crcZeros 0x62F197A7 = 0xD395532C ∧ crcZeros 0xD395532C = 0xCF26F9C2 ∧ crcZeros 0xCF26F9C2 = 0x5DF2C2D6 ∧ crcZeros 0x5DF2C2D6 = 0x5DC86E62 ∧ crcZeros 0x5DC86E62 = 0x421E4DA0 ∧ crcZeros 0x421E4DA0 = 0x6E13DBC6 ∧ crcZeros 0x6E13DBC6 = 0x175FBCF4 ∧ crcZeros 0x175FBCF4 = 0x80E255D3 := by decide +kernel
theorem wBank_zero (a : Nat) (h : 0x23C020 ≤ a) : wSwapped.mb a = 0 := by
  have e : wSwapped.mem = wBank 0x23C000 := rfl
  simp only [Dev.mb, e, wBank, SMap.get]
  repeat rw [if_neg (by omega)]
  rfl
theorem wBank_rest : wSwapped.mbs (0x23C000 + 0x20) (0x2000 - 0x20) = (List.replicate 32 crcBlock).flatten := by
  have e : (List.replicate 32 crcBlock).flatten = List.replicate (0x2000 - 0x20) 0 := by simp [crcBlock]
  rw [e]
  refine List.eq_replicate_iff.2 ⟨by simp [Dev.mbs], fun b hb => ?_⟩
  obtain ⟨i, _, rfl⟩ := List.mem_map.1 hb
  exact wBank_zero _ (by omega)
/-- The CRC-32C of the bank is right. -/
theorem wBank_crc : crc32c (wSwapped.mbs 0x23C000 0x1C ++ [0, 0, 0, 0] ++ wSwapped.mbs (0x23C000 + 0x20) (0x2000 - 0x20)) = 0x7F1DAA2C := by
  have h : (wSwapped.mbs 0x23C000 0x1C ++ [0, 0, 0, 0]).foldl (crcByte 0x82F63B78) 0xFFFFFFFF = 0x5F582483 := by decide +kernel
  obtain ⟨a1, a2, a3, a4, a5, a6, a7, a8⟩ := wBank_crc_1
  obtain ⟨b1, b2, b3, b4, b5, b6, b7, b8⟩ := wBank_crc_2
  obtain ⟨c1, c2, c3, c4, c5, c6, c7, c8⟩ := wBank_crc_3
  obtain ⟨d1, d2, d3, d4, d5, d6, d7, d8⟩ := wBank_crc_4
  have z : crcBlocks 32 0x5F582483 = 0x80E255D3 := by
    rw [crcBlocks_succ, a1, crcBlocks_succ, a2, crcBlocks_succ, a3, crcBlocks_succ, a4, crcBlocks_succ, a5, crcBlocks_succ, a6, crcBlocks_succ, a7, crcBlocks_succ, a8, crcBlocks_succ, b1, crcBlocks_succ, b2, crcBlocks_succ, b3, crcBlocks_succ, b4, crcBlocks_succ, b5, crcBlocks_succ, b6, crcBlocks_succ, b7, crcBlocks_succ, b8, crcBlocks_succ, c1, crcBlocks_succ, c2, crcBlocks_succ, c3, crcBlocks_succ, c4, crcBlocks_succ, c5, crcBlocks_succ, c6, crcBlocks_succ, c7, crcBlocks_succ, c8, crcBlocks_succ, d1, crcBlocks_succ, d2, crcBlocks_succ, d3, crcBlocks_succ, d4, crcBlocks_succ, d5, crcBlocks_succ, d6, crcBlocks_succ, d7, crcBlocks_succ, d8]
    rfl
  rw [crc32c, wBank_rest, List.foldl_append, h]
  have y := z
  unfold crcBlocks at y
  rw [y]
  decide +kernel
/-- Nothing about the bank is wrong. -/
theorem wBank_valid : wSwapped.bankReason (axisBank 3 1) = 0 := by
  unfold Dev.bankReason
  dsimp only
  rw [if_neg (by decide +kernel), if_neg (by decide +kernel), if_neg (by decide +kernel), if_neg (by decide +kernel), if_neg (by decide +kernel),
    if_neg (by decide +kernel)]
  refine if_neg (not_not.2 ?_)
  exact wBank_crc.trans (by decide +kernel)
/-- A bank swap of an axis that is not admitted, with a valid bank, may take effect. -/
theorem swapJudge_done (d : Dev) (n : Nat) (k : Bool)
    (a : (d.members n).any (fun m => let st := (d.ax m).state; !(st == .opened || st == .off || st == .parked)) = false)
    (b : d.bankReason (d.bankOf n (1 - (d.ax n).active)) = 0) (c : (d.ax n).admitted = false) (e : k = false) : (d.swapJudge n k).1 = Code.done := by
  subst e
  simp only [Dev.swapJudge, a, b, c, Bool.and_false, Bool.false_and, Bool.false_eq_true, if_false, ne_eq, not_true_eq_false]

/-- A safety image whose bytes after the last given one are 0. -/
def wImage : List Byte := [0xE8, 3, 1, 0] ++ List.replicate 116 0 ++ [0, 0xB3, 0x12, 0, 0, 0x46, 0x38, 0x80, 0x0A, 2]
/-- Its words. -/
def wWord (o : Nat) : Word := if 0x1084 ≤ o then 0 else imgW wImage o
theorem imgW_wImage : imgW wImage = wWord := by
  funext o
  unfold wWord
  split
  · have z : ∀ i, wImage.getD (o - 0x1000 + i) 0 = 0 := by
      intro i
      apply List.getD_eq_default
      simp only [wImage, List.length_append, List.length_replicate, List.length_cons, List.length_nil]
      omega
    simp only [imgW, leAt, bytesAt, z, List.range_succ, List.range_zero]
    rfl
  · rfl
theorem wImage_crc : crc32c (wImage.take 0xFFC) = 0 := by decide +kernel
theorem wImage_reserved : safOffsets.find? (safReserved wWord) = none := by decide +kernel
theorem wImage_consistent : safOffsets.find? (safInconsistent false wWord) = none := by decide +kernel
theorem wImage_judge (d : Dev) (h : d.sys.is4016 = false) : d.safJudge (some wImage) true = (none, 0) := by
  have e : ofLe (leBytes 4 (crc32c (wImage.take 0xFFC))) = 0 := by rw [wImage_crc]; rfl
  have f : leAt wImage 0xFFC 4 = 0 := by decide +kernel
  simp only [Dev.safJudge, e, f, imgW_wImage, h, wImage_reserved, wImage_consistent, ne_eq, not_true_eq_false, if_false, Bool.not_true, Bool.false_eq_true]

/-- A submission frame of Finial: 64 zero bytes with their CRC-16. -/
def wFinial : List Byte := [0x7E, 1] ++ List.replicate 64 0 ++ [0x08, 0x09]
/-- A block frame of Finial: its first two bytes make the CRC-16 of the frame 0. -/
def wBlockFrame : List Byte := [0x7E, 3, 209, 147] ++ List.replicate 4158 0 ++ [0, 0]
theorem crc16_zeros (n : Nat) : (List.replicate n (0 : Byte)).foldl (fun (c : Nat) b =>
    (List.range 8).foldl (fun (c : Nat) _ => if 32768 ≤ c then (2 * c % 65536) ^^^ 0x1021 else 2 * c) (c ^^^ (256 * b.toNat))) 0 = 0 := by
  induction n with
  | zero => rfl
  | succ n ih =>
    rw [List.replicate_succ, List.foldl_cons]
    exact ih
theorem bytesAt_middle (a b c : List Byte) : bytesAt (a ++ (b ++ c)) a.length b.length = b := by
  apply List.ext_getElem
  · simp only [bytesAt, List.length_map, List.length_range]
  · intro i h1 h2
    simp only [bytesAt, List.getElem_map, List.getElem_range]
    rw [List.getD_append_right _ _ _ _ (Nat.le_add_right _ _), Nat.add_sub_cancel_left, List.getD_append _ _ _ _ h2]
    exact List.getD_eq_getElem _ _ h2
theorem wBlock_bytes : bytesAt wBlockFrame 1 4161 = [3, 209, 147] ++ List.replicate 4158 0 := by
  have e : wBlockFrame = [0x7E] ++ (([3, 209, 147] ++ List.replicate 4158 0) ++ [0, 0]) := by
    unfold wBlockFrame
    generalize List.replicate 4158 (0 : Byte) = z
    rfl
  have l : ([3, 209, 147] ++ List.replicate 4158 (0 : Byte)).length = 4161 := by rw [List.length_append, List.length_replicate]; rfl
  have h := bytesAt_middle [0x7E] ([3, 209, 147] ++ List.replicate 4158 0) [0, 0]
  rw [l] at h
  rw [e]
  exact h
theorem wBlock_crc : crc16 (bytesAt wBlockFrame 1 4161) = 0 := by
  rw [wBlock_bytes, crc16, List.foldl_append]
  exact (congrArg _ (by decide +kernel)).trans (crc16_zeros 4158)
theorem wBlock_body : ({ wReady with dev := { wReady.dev with upd := { finial := true } } } : State).dev.finialBody
    (({ wReady with dev := { wReady.dev with upd := { finial := true } } } : State).dev.finialFrame wBlockFrame).1 3 4160 = some (bytesAt wBlockFrame 2 4160) := by
  have f : (({ wReady with dev := { wReady.dev with upd := { finial := true } } } : State).dev.finialFrame wBlockFrame).1 = wBlockFrame := by
    simp only [Dev.finialFrame, ite_self, List.nil_append]
  rw [f]
  unfold Dev.finialBody
  apply if_pos
  refine ⟨by simp [wBlockFrame], rfl, rfl, ?_, by decide +kernel⟩
  rw [wBlock_crc]
  have g : ∀ i, 4 ≤ i → wBlockFrame.getD i 0 = 0 := by
    intro i hi
    have e : wBlockFrame = [0x7E, 3, 209, 147] ++ List.replicate 4160 0 := by simp [wBlockFrame, List.replicate_succ']
    rw [e, List.getD_append_right _ _ _ _ (by simpa using hi)]
    simp only [List.getD_eq_getElem?_getD, List.getElem?_replicate]
    split <;> rfl
  have z : bytesAt wBlockFrame 4162 2 = [0, 0] := by
    simp only [bytesAt, List.range_succ, List.range_zero, List.nil_append, List.map_append, List.map_cons, List.map_nil]
    rw [g _ (by omega), g _ (by omega)]
    rfl
  simp only [leAt, z]
  rfl

/-- The device in READY with an SPI host. -/
def wSpi : State := { wReady with dev := { wReady.dev with host := { attached := true, spi := true } } }
/-- An SPI write frame of one word, 0, to offset 8, with its CRC-16. -/
def wSpiWrite : List Byte := [1, 8, 0, 0, 0, 0, 0, 0, 0] ++ leBytes 2 (crc16 [1, 8, 0, 0, 0, 0, 0, 0, 0])
/-- An SPI read frame of one word at offset 8, with its CRC-16. -/
def wSpiRead : List Byte := [2, 8, 0, 0, 0] ++ leBytes 2 (crc16 [2, 8, 0, 0, 0])

/-- A block whose CRC matches, of an index that is neither 0 nor there, has no reason to be refused. -/
theorem blockReason_fresh (d : Dev) (x : UpdSess) (b : List Byte) (hp : x.prog = []) (hi : (decide (x.blocks ≤ 1) || AList.has (d.slotOf x.slot).blocks 1 || (AList.find (d.slotOf x.slot).blocks 1).isSome) = false) :
    d.blockReason x 1 (crc32c b) b = none := by
  simp only [Bool.or_eq_false_iff, decide_eq_false_iff_not, Option.isSome_eq_false_iff, Option.isNone_iff_eq_none] at hi
  simp only [Dev.blockReason, hp, List.find?_nil, hi.2, Option.isSome_none, Bool.false_eq_true, ne_eq, not_true_eq_false, if_false, hi.1.1, false_and, or_false, decide_false, Bool.false_and, show ¬ ((1 : Nat) = 0) from by decide]

end Sys2Proof.Machine

open Sys2Proof Sys2Proof.Machine

/-- `Obligations.SystemQueriesAndRegisterCommands`: a state and operands that meet the hypotheses of clause 1. -/
theorem witness_SystemQueriesAndRegisterCommands_1 :
∃ (h : Hdr) (s : State), (s.dev.targetCheck 0x0108 h = none) ∧ (h.mask = 0) :=
  ⟨{}, wReady, by decide +kernel⟩

/-- `Obligations.SystemQueriesAndRegisterCommands`: a state and operands that meet the hypotheses of clause 2. -/
theorem witness_SystemQueriesAndRegisterCommands_2 :
∃ (h : Hdr) (s : State), (s.dev.targetCheck 0x0107 h = none) ∧ (h.mask = 0) ∧ (s.dev.upd.finial = false) :=
  ⟨{}, wReady, by decide +kernel⟩

/-- `Obligations.SystemQueriesAndRegisterCommands`: a state and operands that meet the hypotheses of clause 3. -/
theorem witness_SystemQueriesAndRegisterCommands_3 :
∃ (h : Hdr) (s : State), (s.dev.targetCheck 0x0107 h = none) ∧ (h.mask = 0) ∧ (s.dev.upd.finial = true) :=
  ⟨{}, { dev := { wReady.dev with upd := { finial := true } } }, by decide +kernel⟩

/-- `Obligations.SystemQueriesAndRegisterCommands`: a state and operands that meet the hypotheses of clause 4. -/
theorem witness_SystemQueriesAndRegisterCommands_4 :
∃ (h : Hdr) (offset words : Nat) (s : State), (s.dev.targetCheck 0x0105 h = none) ∧ (h.mask = 0) ∧ (regReserved offset words = false) ∧
    ((s.dev.readWords h.req words offset).2.1 = 0) :=
  ⟨{}, A.SYS_DEV_ID, 1, wReady, by decide +kernel⟩

/-- `Obligations.SystemQueriesAndRegisterCommands`: a state and operands that meet the hypotheses of clause 5. -/
theorem witness_SystemQueriesAndRegisterCommands_5 :
∃ (h : Hdr) (offset words : Nat) (s : State), (s.dev.targetCheck 0x0105 h = none) ∧ (h.mask = 0) ∧ (regReserved offset words = false) ∧
    ((s.dev.readWords h.req words offset).2.1 ≠ 0) :=
  ⟨{}, 0x3C, 1, wReady, by decide +kernel⟩

/-- `Obligations.SystemQueriesAndRegisterCommands`: a state and operands that meet the hypotheses of clause 6. -/
theorem witness_SystemQueriesAndRegisterCommands_6 :
∃ (h : Hdr) (offset words : Nat) (data : List Byte) (s : State), (s.dev.targetCheck 0x0106 h = none) ∧ (h.mask = 0) ∧ (regReserved offset
    words = false) ∧ ((Dev.writeWords h.req ((List.range words).map (fun i => BitVec.ofNat 32 (leAt data (4 * i) 4))) offset s.dev).1 = 0) :=
  ⟨{}, A.SYS_DIP_CFG, 1, [5], wReady, by decide +kernel⟩

/-- `Obligations.SystemQueriesAndRegisterCommands`: a state and operands that meet the hypotheses of clause 7. -/
theorem witness_SystemQueriesAndRegisterCommands_7 :
∃ (h : Hdr) (offset words : Nat) (data : List Byte) (s : State), (s.dev.targetCheck 0x0106 h = none) ∧ (h.mask = 0) ∧ (regReserved offset
    words = false) ∧ ((Dev.writeWords h.req ((List.range words).map (fun i => BitVec.ofNat 32 (leAt data (4 * i) 4))) offset s.dev).1 ≠ 0) :=
  ⟨{}, 0x3C, 1, [5], wReady, by decide +kernel⟩

/-- `Obligations.RingsOwnersAndRoutes`: a state and operands that meet the hypotheses of clause 1. -/
theorem witness_RingsOwnersAndRoutes_1 :
∃ (h : Hdr) (b : List Byte) (q i : Nat) (s : State), (s.dev.targetCheck 0x0103 h = none) ∧ (h.mask = 0) ∧ (ringReserved b = false) ∧
    (s.dev.atPort h = true) ∧ (byteAt b 16 = 1) ∧ ((s.dev.freeRing 1).1 = some q) ∧ (s.dev.freeLocal 1 (leAt b 17 2) (byteAt b 33) = some
    i) ∧ (s.dev.ringBad b = false) :=
  by
  let b : List Byte := putAt (List.replicate 64 0) 16 [1, 0, 0, 5, 0, 0, 0, 0, 0, 0, 0, 0, 0, 0, 0, 0, 0, 1]
  have e : ((wReady.dev.freeRing 1).1).isSome = true := by
    have u : ((wReady.dev.ringsOf 1).map (·.1)) = [] := by decide +kernel
    unfold Dev.freeRing
    simp only [u, List.find?_isSome]
    refine ⟨1, List.mem_map.2 ⟨(16385 - wReady.dev.fresh.1 % 16384) % 16384, ?_, ?_⟩, by simp⟩
    · simp; omega
    · omega
  obtain ⟨q, hq⟩ := Option.isSome_iff_exists.1 e
  have g : wReady.dev.targetCheck 0x0103 {} = none ∧ ringReserved b = false ∧ wReady.dev.atPort {} = true ∧ byteAt b 16 = 1 ∧
      wReady.dev.freeLocal 1 (leAt b 17 2) (byteAt b 33) = some 1 ∧ wReady.dev.ringBad b = false := by decide +kernel
  exact ⟨{}, b, q, 1, wReady, g.1, rfl, g.2.1, g.2.2.1, g.2.2.2.1, hq, g.2.2.2.2.1, g.2.2.2.2.2⟩

/-- `Obligations.RingsOwnersAndRoutes`: a state and operands that meet the hypotheses of clause 2. -/
theorem witness_RingsOwnersAndRoutes_2 :
∃ (h : Hdr) (kind id : Nat) (s : State), (s.dev.targetCheck 0x0104 h = none) ∧ (h.mask = 0) ∧ (s.dev.atPort h = true) ∧ (kind = 1) ∧ (id ≠
    0) ∧ (AList.has s.dev.host.cqs id = true) ∧ (s.dev.host.sqs.any (fun x => x.2.cq == id) = false) :=
  ⟨{}, 1, 3, { dev := { wReady.dev with host := { wReady.dev.host with cqs := [(3, { client := 0, loc := 1, base := 0, k := 5, vector := 0 })] } } }, by decide +kernel⟩

/-- `Obligations.RingsOwnersAndRoutes`: a state and operands that meet the hypotheses of clause 3. -/
theorem witness_RingsOwnersAndRoutes_3 :
∃ (h : Hdr) (kind id : Nat) (s : State), (s.dev.targetCheck 0x0104 h = none) ∧ (h.mask = 0) ∧ (s.dev.atPort h = true) ∧ (kind = 0) ∧ (id ≠
    0) ∧ (AList.has s.dev.host.sqs id = true) ∧ (s.dev.host.inflight.any (fun f => f.sq == id) = false) :=
  ⟨{}, 0, 3, { dev := { wReady.dev with host := { wReady.dev.host with sqs := [(3, { client := 0, loc := 1, cls := 0, cq := 3, base := 0, k := 5 })] } } }, by decide +kernel⟩

/-- `Obligations.RingsOwnersAndRoutes`: a state and operands that meet the hypotheses of clause 4. -/
theorem witness_RingsOwnersAndRoutes_4 :
∃ (h : Hdr) (b : List Byte) (q i : Nat) (s : State), (s.dev.targetCheck 0x0103 h = none) ∧ (h.mask = 0) ∧ (ringReserved b = false) ∧
    (s.dev.atPort h = true) ∧ (byteAt b 16 = 0) ∧ ((s.dev.freeRing 0).1 = some q) ∧ (s.dev.freeLocal 0 (leAt b 17 2) (byteAt b 33) = some
    i) ∧ (s.dev.ringBad b = false) ∧ ((byteAt b 20 == 0 && s.dev.fld (A.HOST_CLIENT (leAt b 17 2)) 17 8 == 0) = false) :=
  by
  let b : List Byte := putAt (List.replicate 64 0) 16 [0, 0, 0, 5, 2, 0, 3, 0, 0, 0, 0, 0, 0, 0, 0, 0, 0, 1]
  let w : State := { dev := { wReady.dev with host := { wReady.dev.host with cqs := [(3, { client := 0, loc := 1, base := 0, k := 5, vector := 0 })] } } }
  have e : ((w.dev.freeRing 0).1).isSome = true := by
    have u : ((w.dev.ringsOf 0).map (·.1)) = [] := by decide +kernel
    unfold Dev.freeRing
    simp only [u, List.find?_isSome]
    refine ⟨1, List.mem_map.2 ⟨(16385 - w.dev.fresh.1 % 16384) % 16384, ?_, ?_⟩, by simp⟩
    · simp; omega
    · omega
  obtain ⟨q, hq⟩ := Option.isSome_iff_exists.1 e
  have g : w.dev.targetCheck 0x0103 {} = none ∧ ringReserved b = false ∧ w.dev.atPort {} = true ∧ byteAt b 16 = 0 ∧
      w.dev.freeLocal 0 (leAt b 17 2) (byteAt b 33) = some 1 ∧ w.dev.ringBad b = false ∧
      (byteAt b 20 == 0 && w.dev.fld (A.HOST_CLIENT (leAt b 17 2)) 17 8 == 0) = false := by decide +kernel
  exact ⟨{}, b, q, 1, w, g.1, rfl, g.2.1, g.2.2.1, g.2.2.2.1, hq, g.2.2.2.2.1, g.2.2.2.2.2.1, g.2.2.2.2.2.2⟩

/-- `Obligations.RingsOwnersAndRoutes`: a state and operands that meet the hypotheses of clause 5. -/
theorem witness_RingsOwnersAndRoutes_5 :
∃ (h : Hdr) (cc weight tcRate rate : Nat) (s : State), (s.dev.targetCheck 0x010A h = none) ∧ (cc ≤ 0x1FF) ∧ ((tcRate ≤ 512 ∨ tcRate =
    0xFFFF)) ∧ (s.dev.atPort h = true) ∧ (s.dev.clientExists cc = true) ∧ (rate = (if tcRate = 0xFFFF then s.dev.fld (A.HOST_CLIENT cc) 17
    8 else tcRate)) ∧ (s.dev.tcSum cc rate ≤ 512) :=
  ⟨{}, 1, 3, 5, 5, wReady, by decide +kernel⟩

/-- `Obligations.RingsOwnersAndRoutes`: a state and operands that meet the hypotheses of clause 6. -/
theorem witness_RingsOwnersAndRoutes_6 :
∃ (h : Hdr) (first count : Nat) (route : Word) (s : State), (s.dev.targetCheck 0x010B h = none) ∧ (s.dev.routeBad first count route =
    false) :=
  ⟨{}, 3, 2, 0x4000, wReady, by decide +kernel⟩

/-- `Obligations.RingsOwnersAndRoutes`: a state and operands that meet the hypotheses of clause 7. -/
theorem witness_RingsOwnersAndRoutes_7 :
∃ (h : Hdr) (owner orphan : Nat) (s : State), (s.dev.targetCheck 0x0211 h = none) ∧ (owner ≤ 0x1FF) ∧ (orphan ≤ 1) ∧ (s.dev.clientExists
    owner = true) ∧ (s.dev.resetting owner = false) ∧ (s.dev.splits h.mask = false) :=
  ⟨{ mask := 5 }, 2, 1, wReady, by decide +kernel⟩

/-- `Obligations.RingsOwnersAndRoutes`: a state and operands that meet the hypotheses of clause 8. -/
theorem witness_RingsOwnersAndRoutes_8 :
∃ (h : Hdr) (cc add : Nat) (s : State), (s.dev.targetCheck 0x0212 h = none) ∧ (cc ≤ 0x1FF) ∧ (add ≤ 1) ∧ (s.dev.clientExists cc = true) ∧
    ((add == 1 && (maskList 32 h.mask).any (fun n => s.dev.owner n == cc)) = false) ∧ ((add == 1 && (maskList 32 h.mask).any (fun n =>
    !(s.dev.observers n).contains cc && decide (7 ≤ (s.dev.observers n).length))) = false) ∧ (s.dev.splits h.mask = false) :=
  ⟨{ mask := 5 }, 2, 1, wReady, by decide +kernel⟩

/-- `Obligations.ModeSetTransitions`: a state and operands that meet the hypotheses of clause 1. -/
theorem witness_ModeSetTransitions_1 :
∃ (h : Hdr) (m : Mode) (conds : List Bool) (s : State), (s.dev.targetCheck 0x0101 h = none) ∧ (s.dev.resting = false) ∧ (s.dev.modeConds
    s.dev.sys.mode m = some conds) ∧ (firstFailed conds 1 = 0) ∧ ((s.dev.sys.mode ≠ .safeHold ∨ m = .recovery)) ∧ (m ≠ .prodTest) :=
  ⟨{}, .run, [true, true], wReady, by decide +kernel⟩

/-- `Obligations.ModeSetTransitions`: a state and operands that meet the hypotheses of clause 2. -/
theorem witness_ModeSetTransitions_2 :
∃ (h : Hdr) (m : Mode) (s : State), (s.dev.targetCheck 0x0101 h = none) ∧ (s.dev.sys.mode = .safeHold) ∧ ((m = .ready ∨ m = .configure)) ∧
    (s.dev.saf.resetOk = true) :=
  ⟨{}, .ready, { dev := { wMode .safeHold with saf := { resetOk := true } } }, by decide +kernel⟩

/-- `Obligations.ModeSetTransitions`: a state and operands that meet the hypotheses of clause 3. -/
theorem witness_ModeSetTransitions_3 :
∃ (h : Hdr) (s : State), (s.dev.targetCheck 0x0101 h = none) ∧ (s.dev.sys.mode = .configure) ∧ (s.dev.testOpen = true) ∧ (s.dev.allOff =
    true) :=
  ⟨{}, { dev := { wMode .configure with upd := { windowEnd := some 5 } } }, by decide +kernel⟩

/-- `Obligations.ModeSetTransitions`: a state and operands that meet the hypotheses of clause 4. -/
theorem witness_ModeSetTransitions_4 :
∃ (h : Hdr) (m : Mode) (conds : List Bool) (s : State), (s.dev.targetCheck 0x0101 h = none) ∧ (s.dev.resting = false) ∧ (s.dev.modeConds
    s.dev.sys.mode m = some conds) ∧ (firstFailed conds 1 ≠ 0) :=
  ⟨{}, .inspection, [false, false, true, true, false], wReady, by decide +kernel⟩

/-- `Obligations.ModeSetTransitions`: a state and operands that meet the hypotheses of clause 5. -/
theorem witness_ModeSetTransitions_5 :
∃ (h : Hdr) (m : Mode) (s : State), (s.dev.targetCheck 0x0101 h = none) ∧ (s.dev.resting = true) :=
  ⟨{}, .ready, { dev := { wReady.dev with sys := { mode := .rest } } }, by decide +kernel⟩

/-- `Obligations.DeviceResetsAndBoot`: a state and operands that meet the hypotheses of clause 1. -/
theorem witness_DeviceResetsAndBoot_1 :
∃ (h : Hdr) (s : State), (s.dev.targetCheck 0x0102 h = none) ∧ (s.dev.sys.mode ∈ [Mode.configure, .ready, .safeHold, .recovery,
    .prodTest]) :=
  ⟨{}, wReady, by decide +kernel⟩

/-- `Obligations.DeviceResetsAndBoot`: a state and operands that meet the hypotheses of clause 2. -/
theorem witness_DeviceResetsAndBoot_2 :
∃ (t : Nat) (s : State), (s.dev.host.resetAt = some t) ∧ (s.dev.upd.commit = none) ∧ (s.dev.inReset = false) :=
  ⟨7, { dev := { sys := { mode := .ready }, host := { resetAt := some 7 } } }, by decide +kernel⟩

/-- `Obligations.DeviceResetsAndBoot`: a state and operands that meet the hypotheses of clause 3. -/
theorem witness_DeviceResetsAndBoot_3 :
∃ (cause : Nat) (s : State), ((cause = 6 ∨ cause = 7)) ∧ (s.dev.inReset = false) :=
  ⟨6, wReady, by decide +kernel⟩

/-- `Obligations.DeviceResetsAndBoot`: a state and operands that meet the hypotheses of clause 4. -/
theorem witness_DeviceResetsAndBoot_4 :
∃ (s : State), (s.dev.upd.halted = 0) ∧ (s.dev.sys.mode ≠ .vigil) ∧ (s.dev.inReset = false) :=
  ⟨wReady, by decide +kernel⟩

/-- `Obligations.DeviceResetsAndBoot`: a state and operands that meet the hypotheses of clause 5. -/
theorem witness_DeviceResetsAndBoot_5 :
∃ (s : State), (s.dev.pwr.vsysAbsent = false) ∧ (s.dev.inReset = false) :=
  ⟨wReady, by decide +kernel⟩

/-- `Obligations.DeviceResetsAndBoot`: a state and operands that meet the hypotheses of clause 6. -/
theorem witness_DeviceResetsAndBoot_6 :
∃ (spi : Bool) (s : State), (s.dev.sys.resetN = false) :=
  ⟨true, { dev := { sys := { mode := .bypass, resetN := false } } }, by decide +kernel⟩

/-- `Obligations.DeviceResetsAndBoot`: a state and operands that meet the hypotheses of clause 7. -/
theorem witness_DeviceResetsAndBoot_7 :
∃ (t : Nat) (s : State), (s.dev.inReset = false) :=
  ⟨0, wReady, by decide +kernel⟩

/-- `Obligations.DeviceResetsAndBoot`: a state and operands that meet the hypotheses of clause 8. -/
theorem witness_DeviceResetsAndBoot_8 :
∃ (recoveryN turretPass keepPass : Bool) (s : State), (s.dev.sys.mode = .booting) ∧ (s.dev.sys.booted = false) :=
  ⟨true, true, true, {}, by decide +kernel⟩

/-- `Obligations.DeviceResetsAndBoot`: a state and operands that meet the hypotheses of clause 9. -/
theorem witness_DeviceResetsAndBoot_9 :
∃ (s : State), (s.dev.sys.mode = .booting) ∧ (s.dev.sys.booted = true) ∧ (s.dev.upd.finial = true) :=
  ⟨{ dev := { sys := { booted := true }, upd := { finial := true } } }, by decide +kernel⟩

/-- `Obligations.DeviceResetsAndBoot`: a state and operands that meet the hypotheses of clause 10. -/
theorem witness_DeviceResetsAndBoot_10 :
∃ (s : State), (s.dev.sys.mode = .booting) ∧ (s.dev.sys.booted = true) ∧ (s.dev.upd.finial = false) ∧ (s.dev.sys.bootReaction = true) :=
  ⟨{ dev := { sys := { booted := true, bootReaction := true } } }, by decide +kernel⟩

/-- `Obligations.DeviceResetsAndBoot`: a state and operands that meet the hypotheses of clause 11. -/
theorem witness_DeviceResetsAndBoot_11 :
∃ (s : State), (s.dev.sys.mode = .booting) ∧ (s.dev.sys.booted = true) ∧ (s.dev.upd.finial = false) ∧ (s.dev.sys.bootReaction = false) :=
  ⟨{ dev := { sys := { booted := true } } }, by decide +kernel⟩

/-- `Obligations.SuppliesAndDips`: a state and operands that meet the hypotheses of clause 1. -/
theorem witness_SuppliesAndDips_1 :
∃ (s : State), (s.dev.pwr.vsysAbsent = true) :=
  ⟨{ dev := { sys := { mode := .bypass }, pwr := { vsysAbsent := true } } }, by decide +kernel⟩

/-- `Obligations.SuppliesAndDips`: a state and operands that meet the hypotheses of clause 2. -/
theorem witness_SuppliesAndDips_2 :
∃ (s : State), (s.dev.pwr.vsysAbsent = false) :=
  ⟨wReady, by decide +kernel⟩

/-- `Obligations.SuppliesAndDips`: a state and operands that meet the hypotheses of clause 3. -/
theorem witness_SuppliesAndDips_3 :
∃ (s : State), (s.dev.pwr.vsysAbsent = false) :=
  ⟨wReady, by decide +kernel⟩

/-- `Obligations.SuppliesAndDips`: a state and operands that meet the hypotheses of clause 4. -/
theorem witness_SuppliesAndDips_4 :
∃ (s : State), (s.dev.pwr.vsysAbsent = false) ∧ (s.dev.rb A.BELFRY_BKP_STATUS 5 = false) :=
  ⟨wReady, by decide +kernel⟩

/-- `Obligations.SuppliesAndDips`: a state and operands that meet the hypotheses of clause 6. -/
theorem witness_SuppliesAndDips_6 :
∃ (s : State), (s.dev.pwr.vsysAbsent = false) ∧ (s.dev.rb A.SYS_SUPPLY_STATUS 0 = true) :=
  ⟨wRegs [(A.SYS_SUPPLY_STATUS, 5)], by decide +kernel⟩

/-- `Obligations.SuppliesAndDips`: a state and operands that meet the hypotheses of clause 7. -/
theorem witness_SuppliesAndDips_7 :
∃ (s : State), (s.dev.pwr.vsysAbsent = false) ∧ (s.dev.rb A.SYS_SUPPLY_STATUS 0 = false) :=
  ⟨wReady, by decide +kernel⟩

/-- `Obligations.SuppliesAndDips`: a state and operands that meet the hypotheses of clause 8. -/
theorem witness_SuppliesAndDips_8 :
∃ (t : Nat) (s : State), (s.dev.pwr.dipStart = some t) ∧ (s.dev.logicOff = false) ∧ (s.dev.pwr.dipStopped = false) :=
  ⟨5, { dev := { wMode .run with pwr := { dipStart := some 5 } } }, by decide +kernel⟩

/-- `Obligations.SuppliesAndDips`: a state and operands that meet the hypotheses of clause 9. -/
theorem witness_SuppliesAndDips_9 :
∃ (rise t : Nat) (s : State), (s.dev.pwr.dipStart = some t) ∧ (usCnt rise ≤ s.dev.dipLimit) :=
  ⟨2000, 5, { dev := { wMode .run with pwr := { dipStart := some 5 } } }, by decide +kernel⟩

/-- `Obligations.SuppliesAndDips`: a state and operands that meet the hypotheses of clause 10. -/
theorem witness_SuppliesAndDips_10 :
∃ (s : State), (s.dev.pwr.vsysAbsent = false) ∧ (s.dev.inReset = false) ∧ (s.dev.pwr.vbatPresent = true) ∧ (s.dev.rb A.BELFRY_BKP_STATUS 5
    = false) :=
  ⟨{ dev := { wMode .run with pwr := { vbatPresent := true } } }, by decide +kernel⟩

/-- `Obligations.SuppliesAndDips`: a state and operands that meet the hypotheses of clause 11. -/
theorem witness_SuppliesAndDips_11 :
∃ (s : State), (s.dev.pwr.vsysAbsent = false) ∧ (s.dev.inReset = false) ∧ (s.dev.pwr.vbatPresent = false) :=
  ⟨{ dev := { wMode .run with pwr := { vbatPresent := false } } }, by decide +kernel⟩

/-- `Obligations.SuppliesAndDips`: a state and operands that meet the hypotheses of clause 12. -/
theorem witness_SuppliesAndDips_12 :
∃ (s : State), (s.dev.pwr.vsysAbsent = true) :=
  ⟨{ dev := { sys := { mode := .backup }, pwr := { vsysAbsent := true } } }, by decide +kernel⟩

/-- `Obligations.SuppliesAndDips`: a state and operands that meet the hypotheses of clause 13. -/
theorem witness_SuppliesAndDips_13 :
∃ (s : State), (s.dev.pwr.vsysAbsent = true) :=
  ⟨{ dev := { sys := { mode := .bypass }, pwr := { vsysAbsent := true } } }, by decide +kernel⟩

/-- `Obligations.SuppliesAndDips`: a state and operands that meet the hypotheses of clause 14. -/
theorem witness_SuppliesAndDips_14 :
∃ (s : State), (s.dev.pwr.vsysAbsent = false) ∧ (s.dev.rb A.SYS_SUPPLY_STATUS 1 = false) :=
  ⟨wReady, by decide +kernel⟩

/-- `Obligations.SuppliesAndDips`: a state and operands that meet the hypotheses of clause 15. -/
theorem witness_SuppliesAndDips_15 :
∃ (s : State), (s.dev.pwr.vsysAbsent = false) ∧ (s.dev.pwr.vcoreLow = false) ∧ (s.dev.inReset = false) :=
  ⟨wReady, by decide +kernel⟩

/-- `Obligations.SuppliesAndDips`: a state and operands that meet the hypotheses of clause 17. -/
theorem witness_SuppliesAndDips_17 :
∃ (logic drum : Int) (s : State), (s.dev.logicOff = false) ∧ (logic < 120) ∧ (drum < 120) :=
  ⟨30, 119, wReady, by decide +kernel⟩

/-- `Obligations.SuppliesAndDips`: a state and operands that meet the hypotheses of clause 18. -/
theorem witness_SuppliesAndDips_18 :
∃ (logic drum : Int) (s : State), (s.dev.logicOff = false) ∧ (max logic drum < 125) ∧ ((120 ≤ logic ∨ 120 ≤ drum)) :=
  ⟨30, 124, wReady, by decide +kernel⟩

/-- `Obligations.SuppliesAndDips`: a state and operands that meet the hypotheses of clause 19. -/
theorem witness_SuppliesAndDips_19 :
∃ (logic drum : Int) (s : State), (s.dev.logicOff = false) ∧ (s.dev.pwr.tjHot = true) ∧ (125 ≤ max logic drum) :=
  ⟨30, 125, { dev := { wReady.dev with pwr := { tjHot := true } } }, by decide +kernel⟩

/-- `Obligations.SuppliesAndDips`: a state and operands that meet the hypotheses of clause 20. -/
theorem witness_SuppliesAndDips_20 :
∃ (logic drum : Int) (s : State), (s.dev.logicOff = false) ∧ (s.dev.pwr.tjHot = false) ∧ (125 ≤ max logic drum) :=
  ⟨30, 125, wReady, by decide +kernel⟩

/-- `Obligations.SuppliesAndDips`: a state and operands that meet the hypotheses of clause 21. -/
theorem witness_SuppliesAndDips_21 :
∃ (i : Nat) (s : State), (i < 2) ∧ (s.dev.rb A.BELFRY_BKP_ALM_CFG (4 * i) = true) ∧ (s.dev.pwr.vsysAbsent = false) :=
  ⟨1, wRegs [(A.BELFRY_BKP_ALM_CFG, 0x11)], by decide +kernel⟩

/-- `Obligations.SuppliesAndDips`: a state and operands that meet the hypotheses of clause 22. -/
theorem witness_SuppliesAndDips_22 :
∃ (i : Nat) (s : State), (i < 2) ∧ (s.dev.rb A.BELFRY_BKP_ALM_CFG (4 * i) = true) ∧ (s.dev.pwr.vbatPresent = true) ∧ (s.dev.pwr.vsysAbsent
    = true) :=
  ⟨1, { dev := { (wMode .backup).wr A.BELFRY_BKP_ALM_CFG 0x11 with pwr := { vbatPresent := true, vsysAbsent := true } } }, by decide +kernel⟩

/-- `Obligations.RestAndWake`: a state and operands that meet the hypotheses of clause 1. -/
theorem witness_RestAndWake_1 :
∃ (s : State), (s.dev.wake.restCmd = none) ∧ (s.dev.restOk none = true) ∧ (s.dev.past (s.dev.wake.idleSince + msCnt (s.dev.fld
    A.SYS_WAKE_CFG 23 8)) = true) :=
  ⟨{ dev := { (wMode .ready).wrAll [(A.SYS_WAKE_CFG, 1)] with time := { cnt := 9 } } }, by decide +kernel⟩

/-- `Obligations.RestAndWake`: a state and operands that meet the hypotheses of clause 2. -/
theorem witness_RestAndWake_2 :
∃ (h : Hdr) (deepest : Nat) (s : State), (s.dev.wake.restCmd = some (h, deepest)) ∧ ((s.dev.modWake (fun w =>
    { w with restCmd := none })).restOk (some h) = true) :=
  ⟨{}, 2, { dev := { (wMode .ready).wrAll [(A.SYS_WAKE_CFG, 1)] with wake := { restCmd := some ({}, 2) } } }, by decide +kernel⟩

/-- `Obligations.RestAndWake`: a state and operands that meet the hypotheses of clause 3. -/
theorem witness_RestAndWake_3 :
∃ (cause : Nat) (s : State), (wakesFrom s.dev.sys.mode cause = true) ∧ (s.dev.wake.run = none) :=
  ⟨4, { dev := wMode .rest }, by decide +kernel⟩

/-- `Obligations.RestAndWake`: a state and operands that meet the hypotheses of clause 4. -/
theorem witness_RestAndWake_4 :
∃ (cause : Nat) (s : State), (s.dev.sys.mode = .ready) ∧ (s.dev.wake.asked = true) ∧ (cause ≤ 5) :=
  ⟨1, { dev := { wMode .ready with wake := { asked := true } } }, by decide +kernel⟩

/-- `Obligations.RestAndWake`: a state and operands that meet the hypotheses of clause 5. -/
theorem witness_RestAndWake_5 :
∃ (r : WakeRun) (s : State), (s.dev.sys.mode = .vigil) ∧ (s.dev.wake.run = some r) ∧ (r.awaiting = none) :=
  ⟨{ cause := 2, start := 0, budget := 9 }, { dev := { wMode .vigil with wake := { run := some { cause := 2, start := 0, budget := 9 } } } }, by decide +kernel⟩

/-- `Obligations.RestAndWake`: a state and operands that meet the hypotheses of clause 6. -/
theorem witness_RestAndWake_6 :
∃ (s : State), (s.dev.sys.mode = .vigil) ∧ (s.dev.wake.run = none) :=
  ⟨{ dev := wMode .vigil }, by decide +kernel⟩

/-- `Obligations.RestAndWake`: a state and operands that meet the hypotheses of clause 7. -/
theorem witness_RestAndWake_7 :
∃ (s : State), (s.dev.sys.mode = .ready) ∧ (s.dev.wake.asked = true) :=
  ⟨{ dev := { wMode .ready with wake := { asked := true } } }, by decide +kernel⟩

/-- `Obligations.RestAndWake`: a state and operands that meet the hypotheses of clause 8. -/
theorem witness_RestAndWake_8 :
∃ (r : WakeRun) (s : State), (s.dev.wake.run = some r) ∧ (r.awaiting = none) ∧ (s.dev.resting = true) :=
  ⟨{ cause := 0, start := 0, budget := 9 }, { dev := { wMode .rest with wake := { run := some { cause := 0, start := 0, budget := 9 } } } }, by decide +kernel⟩

/-- `Obligations.RestAndWake`: a state and operands that meet the hypotheses of clause 9. -/
theorem witness_RestAndWake_9 :
∃ (l : List (Nat × Nat)) (s : State), (s.dev.wake.run = none) ∧ (s.dev.sys.mode = .rest) ∧ (s.dev.restFit false = some l) :=
  ⟨[], { dev := wMode .rest }, by decide +kernel⟩

/-- `Obligations.RestAndWake`: a state and operands that meet the hypotheses of clause 10. -/
theorem witness_RestAndWake_10 :
∃ (l : List (Nat × Nat)) (s : State), (s.dev.wake.run = none) ∧ (s.dev.sys.mode = .vigil) ∧ (s.dev.restFit true = some l) :=
  ⟨[], { dev := wMode .vigil }, by decide +kernel⟩

/-- `Obligations.RestAndWake`: a state and operands that meet the hypotheses of clause 11. -/
theorem witness_RestAndWake_11 :
∃ (l : List (Nat × Nat)) (s : State), (s.dev.wake.run = none) ∧ (s.dev.sys.mode = .vigil) ∧ (s.dev.restFit true = none) ∧ (s.dev.restFit
    false = some l) :=
  ⟨[], { dev := (wMode .vigil).wrAll [(A.SYS_WAKE_BUDGET 0, 0x80003000)] }, by decide +kernel⟩

/-- `Obligations.RestAndWake`: a state and operands that meet the hypotheses of clause 12. -/
theorem witness_RestAndWake_12 :
∃ (s : State), (s.dev.wake.run = none) ∧ (s.dev.resting = true) ∧ (s.dev.wake.deepen = false) ∧ (s.dev.restFit true = none) ∧
    (s.dev.restFit false = none) :=
  ⟨{ dev := (wMode .rest).wrAll [(A.SYS_WAKE_BUDGET 0, 0x80000001)] }, by decide +kernel⟩

/-- `Obligations.RestAndWake`: a state and operands that meet the hypotheses of clause 13. -/
theorem witness_RestAndWake_13 :
∃ (h : Hdr) (budget axes claim : Nat) (s : State), (s.dev.targetCheck 0x0B01 h = none) ∧ (budget < 2 ^ 24) ∧ (claim ≤ 1) ∧ (axes < 2 ^
    s.dev.axes) :=
  ⟨{}, 5000, 3, 1, wReady, by decide +kernel⟩

/-- `Obligations.RestAndWake`: a state and operands that meet the hypotheses of clause 14. -/
theorem witness_RestAndWake_14 :
∃ (h : Hdr) (deepest : Nat) (s : State), (s.dev.targetCheck 0x0B02 h = none) ∧ ((deepest = 2 ∨ deepest = 3)) ∧ (s.dev.restOk (some h) =
    true) :=
  ⟨{}, 3, wRegs [(A.SYS_WAKE_CFG, 1)], by decide +kernel⟩

/-- `Obligations.RestAndWake`: a state and operands that meet the hypotheses of clause 15. -/
theorem witness_RestAndWake_15 :
∃ (h : Hdr) (pattern : Nat) (r : WakeRun) (s : State), (s.dev.targetCheck 0x0B03 h = none) ∧ (pattern ≤ 1) ∧ (((if pattern = 1 &&
    s.dev.isRoot then s.dev.modRing (fun q => { q with wakeLeft := 16 }) else s.dev).wakeUp 0).wake.run = some r) ∧ ((r.awaiting.isNone &&
    ((if pattern = 1 && s.dev.isRoot then s.dev.modRing (fun q => { q with wakeLeft := 16 }) else s.dev).wakeUp 0).resting) = true) :=
  ⟨{}, 0, { cause := 0, start := 0, budget := 0xFFFFFF }, { dev := { wMode .rest with host := { attached := true } } }, by decide +kernel⟩

/-- `Obligations.RestAndWake`: a state and operands that meet the hypotheses of clause 16. -/
theorem witness_RestAndWake_16 :
∃ (h : Hdr) (pattern : Nat) (r : WakeRun) (s : State), (s.dev.targetCheck 0x0B03 h = none) ∧ (pattern ≤ 1) ∧ (((if pattern = 1 &&
    s.dev.isRoot then s.dev.modRing (fun q => { q with wakeLeft := 16 }) else s.dev).wakeUp 0).wake.run = some r) ∧ ((r.awaiting.isNone &&
    ((if pattern = 1 && s.dev.isRoot then s.dev.modRing (fun q => { q with wakeLeft := 16 }) else s.dev).wakeUp 0).resting) = false) :=
  ⟨{}, 0, { cause := 0, start := 0, budget := 0xFFFFFF, awaiting := some [3] }, { dev := { wMode .ready with host := { attached := true }, wake := { run := some { cause := 0, start := 0, budget := 0xFFFFFF, awaiting := some [3] } } } }, by decide +kernel⟩

/-- `Obligations.RestAndWake`: a state and operands that meet the hypotheses of clause 17. -/
theorem witness_RestAndWake_17 :
∃ (h : Hdr) (pattern : Nat) (s : State), (s.dev.targetCheck 0x0B03 h = none) ∧ (pattern ≤ 1) ∧ (((if pattern = 1 && s.dev.isRoot then
    s.dev.modRing (fun q => { q with wakeLeft := 16 }) else s.dev).wakeUp 0).wake.run = none) :=
  ⟨{}, 1, wRegs [(A.FAB_STATUS, 0x80)], by decide +kernel⟩

/-- `Obligations.RestAndWake`: a state and operands that meet the hypotheses of clause 18. -/
theorem witness_RestAndWake_18 :
∃ (h : Hdr) (s : State), (s.dev.targetCheck 0x0B04 h = none) :=
  ⟨{}, wReady, by decide +kernel⟩

/-- `Obligations.ClientResetsAndPcie`: a state and operands that meet the hypotheses of clause 1. -/
theorem witness_ClientResetsAndPcie_1 :
∃ (h : Hdr) (cc : Nat) (s : State), (s.dev.targetCheck 0x0109 h = none) ∧ (s.dev.clientResetCheck h cc = none) :=
  ⟨{}, 2, wReady, by decide +kernel⟩

/-- `Obligations.ClientResetsAndPcie`: a state and operands that meet the hypotheses of clause 2. -/
theorem witness_ClientResetsAndPcie_2 :
∃ (r : ClientReset) (s : State), (s.dev.running = true) ∧ (s.dev.host.resets.find? (fun x => x.cc == r.cc) = some r) ∧ (r.cutDone = false)
    ∧ (r.cut ≤ s.dev.nextFrame) :=
  ⟨{ cc := 2, cut := 5, cmd := none }, { dev := { wReady.dev with host := { wReady.dev.host with resets := [{ cc := 2, cut := 5, cmd := none }] } } }, by decide +kernel⟩

/-- `Obligations.ClientResetsAndPcie`: a state and operands that meet the hypotheses of clause 3. -/
theorem witness_ClientResetsAndPcie_3 :
∃ (cc : Nat) (s : State), (s.dev.running = true) ∧ (s.dev.host.resets.find? (fun x => x.cc == cc) = none) ∧ (s.dev.host.attached = false) :=
  ⟨2, { dev := { wMode .ready with host := { attached := false } } }, by decide +kernel⟩

/-- `Obligations.ClientResetsAndPcie`: a state and operands that meet the hypotheses of clause 4. -/
theorem witness_ClientResetsAndPcie_4 :
∃ (cc : Nat) (r : ClientReset) (s : State), (s.dev.running = true) ∧ (s.dev.host.resets.find? (fun x => x.cc == cc && x.cutDone) = some r) :=
  ⟨2, { cc := 2, cut := 5, cmd := none, cutDone := true }, { dev := { wReady.dev with host := { wReady.dev.host with resets := [{ cc := 2, cut := 5, cmd := none, cutDone := true }] } } }, by decide +kernel⟩

/-- `Obligations.ClientResetsAndPcie`: a state and operands that meet the hypotheses of clause 5. -/
theorem witness_ClientResetsAndPcie_5 :
∃ (cc : Nat) (s : State), (s.dev.pcie = true) ∧ (s.dev.clientExists cc = true) ∧ (cc ≠ 0) :=
  ⟨2, wReady, by decide +kernel⟩

/-- `Obligations.ClientResetsAndPcie`: a state and operands that meet the hypotheses of clause 6. -/
theorem witness_ClientResetsAndPcie_6 :
∃ (s : State), (s.dev.pcie = true) ∧ (s.dev.clientExists 0 = true) :=
  ⟨wReady, by decide +kernel⟩

/-- `Obligations.ClientResetsAndPcie`: a state and operands that meet the hypotheses of clause 7. -/
theorem witness_ClientResetsAndPcie_7 :
∃ (s : State), (s.dev.pcie = true) :=
  ⟨wReady, by decide +kernel⟩

/-- `Obligations.ClientResetsAndPcie`: a state and operands that meet the hypotheses of clause 8. -/
theorem witness_ClientResetsAndPcie_8 :
∃ (t : Nat) (s : State), (s.dev.pcie = true) ∧ (s.dev.host.downSince = some t) :=
  ⟨5, { dev := { wReady.dev with host := { wReady.dev.host with downSince := some 5 } } }, by decide +kernel⟩

/-- `Obligations.ClientResetsAndPcie`: a state and operands that meet the hypotheses of clause 9. -/
theorem witness_ClientResetsAndPcie_9 :
∃ (speed width : Nat) (s : State), (s.dev.pcie = true) ∧ (speed ∈ [1, 2, 3]) ∧ (width ∈ [1, 2, 4]) ∧ (s.dev.host.linkUp = false) :=
  ⟨3, 4, { dev := { wReady.dev with host := { wReady.dev.host with linkUp := false } } }, by decide +kernel⟩

/-- `Obligations.ClientResetsAndPcie`: a state and operands that meet the hypotheses of clause 10. -/
theorem witness_ClientResetsAndPcie_10 :
∃ (speed width : Nat) (s : State), (s.dev.pcie = true) ∧ (s.dev.host.linkUp = true) :=
  ⟨0, 0, wReady, by decide +kernel⟩

/-- `Obligations.ClientResetsAndPcie`: a state and operands that meet the hypotheses of clause 11. -/
theorem witness_ClientResetsAndPcie_11 :
∃ (n : Nat) (s : State), (s.dev.host.spi = false) ∧ (s.dev.running = true) ∧ (s.dev.upd.finial = false) ∧ (n ≤ 511) ∧
    ((s.dev.host.vfEnable && decide (n ≤ s.dev.host.numVfs)) = false) :=
  ⟨8, wReady, by decide +kernel⟩

/-- `Obligations.ClientResetsAndPcie`: a state and operands that meet the hypotheses of clause 12. -/
theorem witness_ClientResetsAndPcie_12 :
∃ (enable : Bool) (n : Nat) (s : State), (s.dev.host.spi = false) ∧ (s.dev.running = true) ∧ (s.dev.ceasing enable n ≠ []) :=
  ⟨true, 2, wReady, by decide +kernel⟩

/-- `Obligations.AdmissionAndClusters`: a state and operands that meet the hypotheses of clause 1. -/
theorem witness_AdmissionAndClusters_1 :
∃ (h : Hdr) (bank slot : Nat) (s : State), (s.dev.targetCheck 0x0201 h = none) ∧ (s.dev.cup.search = none) ∧ (s.dev.admitState h slot =
    none) ∧ ((s.dev.admBanks h.mask bank slot).find? (fun x => s.dev.bankReason x.2.1 != 0) = none) ∧ ((s.dev.each ((s.dev.admBanks h.mask
    bank slot).map (·.1)) (fun d n => d.bankChecked n 0)).released = true) :=
  ⟨{}, 0, 0xFF, { dev := { (wMode .configure).wrAll [(A.SYS_TICK_CFG, 0x100)] with host := { attached := true } } }, by decide +kernel⟩

/-- `Obligations.AdmissionAndClusters`: a state and operands that meet the hypotheses of clause 2. -/
theorem witness_AdmissionAndClusters_2 :
∃ (h : Hdr) (bank slot : Nat) (s : State), (s.dev.targetCheck 0x0201 h = none) ∧ (s.dev.cup.search = none) ∧ (s.dev.admitState h slot =
    none) ∧ ((s.dev.admBanks h.mask bank slot).find? (fun x => s.dev.bankReason x.2.1 != 0) = none) ∧ ((s.dev.each ((s.dev.admBanks h.mask
    bank slot).map (·.1)) (fun d n => d.bankChecked n 0)).released = false) ∧ ((peakOf ((s.dev.each ((s.dev.admBanks h.mask bank slot).map
    (·.1)) (fun d n => d.bankChecked n 0)).place ((s.dev.each ((s.dev.admBanks h.mask bank slot).map (·.1)) (fun d n => d.bankChecked n
    0)).mdls ++ phased s.dev.mdls ((s.dev.admBanks h.mask bank slot).map s.dev.mdlFrom)))).1 ≤ (s.dev.each ((s.dev.admBanks h.mask bank
    slot).map (·.1)) (fun d n => d.bankChecked n 0)).admLimit) :=
  ⟨{}, 0, 0xFF, { dev := { (wMode .configure) with host := { attached := true } } }, by decide +kernel⟩

/-- `Obligations.AdmissionAndClusters`: a state and operands that meet the hypotheses of clause 3. -/
theorem witness_AdmissionAndClusters_3 :
∃ (h h2 : Hdr) (bank slot : Nat) (s : State), (s.dev.targetCheck 0x0201 h = none) ∧ (s.dev.targetCheck 0x0202 h2 = none) ∧
    (s.dev.cup.search.isSome = true) :=
  ⟨{}, {}, 0, 0xFF, { dev := { (wMode .configure) with host := { attached := true }, cup := { search := some { cmd := {}, bank := 0, models := [], start := 0 } } } }, by decide +kernel⟩

/-- `Obligations.AdmissionAndClusters`: a state and operands that meet the hypotheses of clause 4. -/
theorem witness_AdmissionAndClusters_4 :
∃ (h : Hdr) (s : State), (s.dev.targetCheck 0x0202 h = none) ∧ (s.dev.cup.search = none) ∧ (s.dev.releaseCheck h = none) :=
  ⟨{ mask := 0 }, { dev := { (wMode .configure) with host := { attached := true } } }, by decide +kernel⟩

/-- `Obligations.AdmissionAndClusters`: a state and operands that meet the hypotheses of clause 5. -/
theorem witness_AdmissionAndClusters_5 :
∃ (x : SearchSt) (s : State), (s.dev.cup.search = some x) :=
  ⟨{ cmd := {}, bank := 0, models := [], start := 0 }, { dev := { cup := { search := some { cmd := {}, bank := 0, models := [], start := 0 } } } }, by decide +kernel⟩

/-- `Obligations.AdmissionAndClusters`: a state and operands that meet the hypotheses of clause 6. -/
theorem witness_AdmissionAndClusters_6 :
∃ (c code : Nat) (undone : List Nat) (s : State), (c < 2) ∧ (code < 256) ∧ ((if c = 0 then s.dev.cup.ok0 else s.dev.cup.ok1) = true) ∧
    ((s.dev.released || s.dev.cup.primary == c) = false) :=
  ⟨1, 1, [], wReady, by decide +kernel⟩

/-- `Obligations.AdmissionAndClusters`: a state and operands that meet the hypotheses of clause 7. -/
theorem witness_AdmissionAndClusters_7 :
∃ (c code : Nat) (undone : List Nat) (s : State), (c < 2) ∧ (code < 256) ∧ ((if c = 0 then s.dev.cup.ok0 else s.dev.cup.ok1) = true) ∧
    ((if c = 0 then s.dev.cup.ok1 else s.dev.cup.ok0) = true) ∧ ((s.dev.released || s.dev.cup.primary == c) = true) :=
  ⟨0, 1, [], wReady, by decide +kernel⟩

/-- `Obligations.AdmissionAndClusters`: a state and operands that meet the hypotheses of clause 8. -/
theorem witness_AdmissionAndClusters_8 :
∃ (c code : Nat) (undone : List Nat) (s : State), (c < 2) ∧ (code < 256) ∧ ((if c = 0 then s.dev.cup.ok0 else s.dev.cup.ok1) = true) ∧
    ((if c = 0 then s.dev.cup.ok1 else s.dev.cup.ok0) = false) ∧ ((s.dev.released || s.dev.cup.primary == c) = true) :=
  ⟨0, 1, [], { dev := { wReady.dev with cup := { wReady.dev.cup with ok1 := false } } }, by decide +kernel⟩

/-- `Obligations.AdmissionAndClusters`: a state and operands that meet the hypotheses of clause 9. -/
theorem witness_AdmissionAndClusters_9 :
∃ (h : Hdr) (init n : Nat) (s : State), (s.dev.targetCheck 0x0207 h = none) ∧ ((s.dev.each (maskList 32 h.mask) (fun d n => d.modAx n (fun
    c => { c with swapPending := false }))).splits h.mask = false) ∧ ((maskList 32 h.mask).filter (fun n => (s.dev.each (maskList 32
    h.mask) (fun d n => d.modAx n (fun c => { c with swapPending := false }))).lead n == n) = [n]) ∧ (((s.dev.each (maskList 32 h.mask)
    (fun d n => d.modAx n (fun c => { c with swapPending := false }))).swapJudge n (init == 1)).1 = Code.done) :=
  by
  have b : wSwapped.bankOf 3 (1 - (wSwapped.ax 3).active) = axisBank 3 1 := by decide +kernel
  have c : (wSwapped.swapJudge 3 (0 == 1)).1 = Code.done := swapJudge_done _ _ _ (by decide +kernel) (by rw [b]; exact wBank_valid) (by decide +kernel) rfl
  have e : wSwap.targetCheck 0x0207 { mask := 8 } = none ∧ wSwapped.splits 8 = false ∧ (maskList 32 8).filter (fun n => wSwapped.lead n == n) = [3] := by decide +kernel
  exact ⟨{ mask := 8 }, 0, 3, { dev := wSwap }, e.1, e.2.1, e.2.2, c⟩

/-- `Obligations.AdmissionAndClusters`: a state and operands that meet the hypotheses of clause 10. -/
theorem witness_AdmissionAndClusters_10 :
∃ (h : Hdr) (init n : Nat) (s : State), (s.dev.targetCheck 0x0207 h = none) ∧ ((s.dev.each (maskList 32 h.mask) (fun d n => d.modAx n (fun
    c => { c with swapPending := false }))).splits h.mask = false) ∧ ((maskList 32 h.mask).filter (fun n => (s.dev.each (maskList 32
    h.mask) (fun d n => d.modAx n (fun c => { c with swapPending := false }))).lead n == n) = [n]) ∧ (((s.dev.each (maskList 32 h.mask)
    (fun d n => d.modAx n (fun c => { c with swapPending := false }))).swapJudge n (init == 1)).1 ≠ Code.done) :=
  ⟨{ mask := 8 }, 0, 3, { dev := { (wAxis .ready .hold []) with host := { attached := true } } }, by decide +kernel⟩

/-- `Obligations.AdmissionAndClusters`: a state and operands that meet the hypotheses of clause 11. -/
theorem witness_AdmissionAndClusters_11 :
∃ (h : Hdr) (init : Nat) (s : State), (s.dev.targetCheck 0x0207 h = none) ∧ ((s.dev.each (maskList 32 h.mask) (fun d n => d.modAx n (fun c
    => { c with swapPending := false }))).splits h.mask = true) :=
  ⟨{ mask := 8 }, 0, { dev := { wMode .ready with host := { attached := true }, core := [(3, { member := true, admitted := true, lead := 3, slot := 0 }), (4, { member := true, admitted := true, lead := 3, slot := 0 })] } }, by decide +kernel⟩

/-- `Obligations.AxisStateCommands`: a state and operands that meet the hypotheses of clause 1. -/
theorem witness_AxisStateCommands_1 :
∃ (h : Hdr) (target : Nat) (s : State), (s.dev.targetCheck 0x0203 h = none) ∧ (s.dev.enableCheck h target = none) ∧ (s.dev.failing
    ((maskList 32 h.mask).filter (fun n => (s.dev.ax n).state == .parked)) (fun n => !s.dev.startOk n) Code.wrongMode = none) ∧
    (((maskList 32 h.mask).filter (fun n => s.dev.lead n == n)).isEmpty = false) :=
  ⟨{ mask := 8 }, 3, { dev := wAxis .ready .opened [] }, by decide +kernel⟩

/-- `Obligations.AxisStateCommands`: a state and operands that meet the hypotheses of clause 2. -/
theorem witness_AxisStateCommands_2 :
∃ (h : Hdr) (s : State), (s.dev.targetCheck 0x0204 h = none) ∧ (s.dev.openCheck h = none) ∧ (((maskList 32 h.mask).filter (fun n =>
    s.dev.lead n == n)).isEmpty = false) :=
  ⟨{ mask := 8 }, { dev := wAxis .ready .hold [] }, by decide +kernel⟩

/-- `Obligations.AxisStateCommands`: a state and operands that meet the hypotheses of clause 3. -/
theorem witness_AxisStateCommands_3 :
∃ (h : Hdr) (mode : Nat) (s : State), (s.dev.targetCheck 0x0205 h = none) ∧ (s.dev.disableCheck h = none) ∧ (((maskList 32 h.mask).filter
    (fun n => s.dev.lead n == n)).isEmpty = false) :=
  ⟨{ mask := 8 }, 1, { dev := wAxis .ready .hold [] }, by decide +kernel⟩

/-- `Obligations.AxisStateCommands`: a state and operands that meet the hypotheses of clause 4. -/
theorem witness_AxisStateCommands_4 :
∃ (h : Hdr) (s : State), (s.dev.targetCheck 0x0206 h = none) ∧ (s.dev.clearCheck h = none) ∧ (((maskList 32 h.mask).filter (fun n =>
    s.dev.lead n == n)).isEmpty = false) :=
  ⟨{ mask := 8 }, { dev := wAxis .ready .fault [] }, by decide +kernel⟩

/-- `Obligations.AxisStateCommands`: a state and operands that meet the hypotheses of clause 5. -/
theorem witness_AxisStateCommands_5 :
∃ (h : Hdr) (s : State), (s.dev.targetCheck 0x0208 h = none) ∧ (h.mask ≠ 0) :=
  ⟨{ mask := 8 }, wReady, by decide +kernel⟩

/-- `Obligations.AxisStateCommands`: a state and operands that meet the hypotheses of clause 6. -/
theorem witness_AxisStateCommands_6 :
∃ (h : Hdr) (target mode : Nat) (s : State), (h.mask = 0) ∧ (s.dev.targetCheck 0x0203 h = none) ∧ (s.dev.targetCheck 0x0204 h = none) ∧
    (s.dev.targetCheck 0x0205 h = none) ∧ (s.dev.targetCheck 0x0206 h = none) ∧ (s.dev.targetCheck 0x0208 h = none) :=
  ⟨{}, 3, 0, wReady, by decide +kernel⟩

/-- `Obligations.DirectionShortAndRecovery`: a state and operands that meet the hypotheses of clause 1. -/
theorem witness_DirectionShortAndRecovery_1 :
∃ (h : Hdr) (how : Nat) (s : State), (s.dev.targetCheck 0x0209 h = none) ∧ (s.dev.reverseCheck h how = none) ∧ ((maskList 32
    h.mask).isEmpty = false) :=
  ⟨{ mask := 8 }, 1, { dev := wAxis .ready .parked [] }, by decide +kernel⟩

/-- `Obligations.DirectionShortAndRecovery`: a state and operands that meet the hypotheses of clause 2. -/
theorem witness_DirectionShortAndRecovery_2 :
∃ (h : Hdr) (s : State), (s.dev.targetCheck 0x020A h = none) ∧ (s.dev.shortCheck h true = none) ∧ (((maskList 32 h.mask).filter (fun n =>
    (s.dev.ax n).state == .parked)).any (fun n => !s.dev.startOk n) = false) ∧ (((maskList 32 h.mask).filter (fun n => s.dev.lead n ==
    n)).isEmpty = false) :=
  ⟨{ mask := 8 }, { dev := wAxis .configure .opened [(A.AX_SHORT_ILIM 3, 0x3F800000), (A.AX_SD_CFG 3, 3)] }, by decide +kernel⟩

/-- `Obligations.DirectionShortAndRecovery`: a state and operands that meet the hypotheses of clause 3. -/
theorem witness_DirectionShortAndRecovery_3 :
∃ (h : Hdr) (x : ShortSt) (s : State), (s.dev.targetCheck 0x020A h = none) ∧ (s.dev.shortCheck h false = none) ∧ ((s.dev.wav (s.dev.lead
    (lowest h.mask))).short = some x) :=
  ⟨{ mask := 8 }, { start := 0 }, { dev := { wAxis .configure .opened [] with wave := [(3, { short := some { start := 0 } })] } }, by decide +kernel⟩

/-- `Obligations.DirectionShortAndRecovery`: a state and operands that meet the hypotheses of clause 4. -/
theorem witness_DirectionShortAndRecovery_4 :
∃ (n : Nat) (x : ShortSt) (s : State), ((s.dev.wav (s.dev.lead n)).short = some x) ∧ (s.dev.shortCode (s.dev.lead n) ≠ 0) :=
  ⟨3, { start := 0, endTicks := 5 }, { dev := { wAxis .configure .opened [(A.AX_SHORT_CFG 3, 0x50000)] with wave := [(3, { short := some { start := 0, endTicks := 5 } })] } }, by decide +kernel⟩

/-- `Obligations.DirectionShortAndRecovery`: a state and operands that meet the hypotheses of clause 5. -/
theorem witness_DirectionShortAndRecovery_5 :
∃ (n : Nat) (x : ShortSt) (s : State), ((s.dev.wav (s.dev.lead n)).short = some x) ∧ (s.dev.shortCode (s.dev.lead n) = 0) ∧
    ((s.dev.advanceTo (x.start + msCnt (s.dev.fld (A.AX_SHORT_CFG (s.dev.lead n)) 11 0))).shortCode (s.dev.lead n) = 2) :=
  ⟨3, { start := 0 }, { dev := { wAxis .configure .opened [(A.AX_SHORT_CFG 3, 0x50064)] with wave := [(3, { short := some { start := 0 } })] } }, by decide +kernel⟩

/-- `Obligations.DirectionShortAndRecovery`: a state and operands that meet the hypotheses of clause 6. -/
theorem witness_DirectionShortAndRecovery_6 :
∃ (h : Hdr) (allow : Bool) (s : State), (s.dev.targetCheck 0x020B h = none) ∧ (s.dev.recoverCheck h = none) ∧ (((maskList 32
    h.mask).filter (fun n => s.dev.lead n == n)).isEmpty = false) :=
  ⟨{ mask := 8 }, true, { dev := wAxis .ready .parked [] }, by decide +kernel⟩

/-- `Obligations.DirectionShortAndRecovery`: a state and operands that meet the hypotheses of clause 7. -/
theorem witness_DirectionShortAndRecovery_7 :
∃ (n : Nat) (s : State), ((s.dev.wav (s.dev.lead n)).recover.isSome = true) ∧ (s.dev.shortCode (s.dev.lead n) = 2) :=
  ⟨3, { dev := { wAxis .configure .opened [(A.AX_SHORT_CFG 3, 0x50001)] with time := { cnt := 600000 }, wave := [(3, { short := some { start := 0 }, recover := some { step := 3, allowShort := true, cmd := none } })] } }, by decide +kernel⟩

/-- `Obligations.DirectionShortAndRecovery`: a state and operands that meet the hypotheses of clause 8. -/
theorem witness_DirectionShortAndRecovery_8 :
∃ (n t : Nat) (s : State), ((s.dev.wav (s.dev.lead n)).recover.isSome = true) ∧ ((s.dev.shortCode (s.dev.lead n) == 2) = false) ∧
    (((s.dev.ax (s.dev.lead n)).enable).bind (·.deadline) = some t) ∧ (s.dev.past t = true) :=
  ⟨3, 5, { dev := { wMode .ready with time := { cnt := 9 }, core := [(3, { state := .opened, enable := some { toHold := true, cmd := none, deadline := some 5 } })], wave := [(3, { recover := some { step := 5, allowShort := true, cmd := none } })] } }, by decide +kernel⟩

/-- `Obligations.StartUpSequenceEvents`: a state and operands that meet the hypotheses of clause 1. -/
theorem witness_StartUpSequenceEvents_1 :
∃ (n : Nat) (s : State), (((s.dev.members (s.dev.lead n)).filter (fun m => s.dev.catchCode m != 0)).isEmpty = false) :=
  ⟨3, { dev := { wMode .ready with sense := [(3, { catching := some { start := 0, lowNs := 20000000 } })] } }, by decide +kernel⟩

/-- `Obligations.StartUpSequenceEvents`: a state and operands that meet the hypotheses of clause 2. -/
theorem witness_StartUpSequenceEvents_2 :
∃ (n : Nat) (c : CatchSt) (s : State), ((s.dev.sns n).catching = some c) ∧ (((s.dev.members (s.dev.lead n)).filter (fun m =>
    (s.dev.advanceTo (c.start + msCnt (s.dev.fld (A.AX_CATCH_CFG n) 11 0))).catchCode m != 0)).isEmpty = false) :=
  ⟨3, { start := 0, lowNs := 20000000 }, { dev := { wMode .ready with sense := [(3, { catching := some { start := 0, lowNs := 20000000 } })] } }, by decide +kernel⟩

/-- `Obligations.StartUpSequenceEvents`: a state and operands that meet the hypotheses of clause 3. -/
theorem witness_StartUpSequenceEvents_3 :
∃ (n : Nat) (i : InitSt) (s : State), ((s.dev.sns n).init = some i) ∧ (i.left = 0) ∧ (i.step = 1) ∧ (s.dev.rb (A.AX_POS_CFG n) 4 = false) :=
  ⟨3, { step := 1, left := 0 }, { dev := { wMode .ready with sense := [(3, { init := some { step := 1, left := 0 } })] } }, by decide +kernel⟩

/-- `Obligations.StartUpSequenceEvents`: a state and operands that meet the hypotheses of clause 4. -/
theorem witness_StartUpSequenceEvents_4 :
∃ (n : Nat) (i : InitSt) (s : State), ((s.dev.sns n).init = some i) ∧ (i.left = 0) ∧ (i.step < 5) ∧ ((i.step == 1 && !s.dev.rb
    (A.AX_POS_CFG n) 4) = false) :=
  ⟨3, { step := 2, left := 0 }, { dev := { wMode .ready with sense := [(3, { init := some { step := 2, left := 0 } })] } }, by decide +kernel⟩

/-- `Obligations.StartUpSequenceEvents`: a state and operands that meet the hypotheses of clause 5. -/
theorem witness_StartUpSequenceEvents_5 :
∃ (n : Nat) (s : State), ((s.dev.wav (s.dev.lead n)).seqStep = 3) ∧ ((s.dev.advanceTo (s.dev.refluxEnd (s.dev.lead n))).past
    (s.dev.refluxEnd (s.dev.lead n)) = true) :=
  ⟨3, { dev := { wMode .ready with wave := [(3, { seqStep := 3 })] } }, by decide +kernel⟩

/-- `Obligations.StartUpSequenceEvents`: a state and operands that meet the hypotheses of clause 6. -/
theorem witness_StartUpSequenceEvents_6 :
∃ (n : Nat) (s : State), ((s.dev.wav (s.dev.lead n)).seqStep = 4) ∧ ((s.dev.advanceTo (s.dev.brakeEnd (s.dev.lead n))).past
    (s.dev.brakeEnd (s.dev.lead n)) = true) :=
  ⟨3, { dev := { wMode .ready with wave := [(3, { seqStep := 4 })] } }, by decide +kernel⟩

/-- `Obligations.StartUpSequenceEvents`: a state and operands that meet the hypotheses of clause 7. -/
theorem witness_StartUpSequenceEvents_7 :
∃ (n : Nat) (p : ParkSt) (s : State), ((s.dev.wav (s.dev.lead n)).park = some p) ∧ ((s.dev.advanceTo (p.start + s.dev.parkLen (s.dev.lead
    n) p.brake)).past (p.start + s.dev.parkLen (s.dev.lead n) p.brake) = true) :=
  ⟨3, { brake := true, start := 0 }, { dev := { wMode .ready with wave := [(3, { park := some { brake := true, start := 0 } })] } }, by decide +kernel⟩

/-- `Obligations.StartUpSequenceEvents`: a state and operands that meet the hypotheses of clause 8. -/
theorem witness_StartUpSequenceEvents_8 :
∃ (n t : Nat) (e : EnableSt) (s : State), ((s.dev.ax (s.dev.lead n)).enable = some e) ∧ (e.deadline = some t) ∧ ((s.dev.advanceTo t).past
    t = true) ∧ (((s.dev.advanceTo t).countTick (s.dev.lead n)).ax (s.dev.lead n) = s.dev.ax (s.dev.lead n)) ∧ ((s.dev.wav (s.dev.lead
    n)).recover = none) :=
  ⟨3, 5, { toHold := true, cmd := none, deadline := some 5 }, { dev := { wMode .ready with core := [(3, { state := .opened, enable := some { toHold := true, cmd := none, deadline := some 5 } })] } }, by decide +kernel⟩

/-- `Obligations.TicksInOrder`: a state and operands that meet the hypotheses of clause 1. -/
theorem witness_TicksInOrder_1 :
∃ (s : State), (s.dev.running = true) :=
  ⟨wReady, by decide +kernel⟩

/-- `Obligations.TicksInOrder`: a state and operands that meet the hypotheses of clause 2. -/
theorem witness_TicksInOrder_2 :
∃ (s : State), (s.dev.running = false) :=
  ⟨{ dev := wMode .vigil }, by decide +kernel⟩

/-- `Obligations.TicksInOrder`: a state and operands that meet the hypotheses of clause 3. -/
theorem witness_TicksInOrder_3 :
∃ (i : TickIn) (s : State), (s.dev.running = true) :=
  ⟨{}, wReady, by decide +kernel⟩

/-- `Obligations.TicksInOrder`: a state and operands that meet the hypotheses of clause 4. -/
theorem witness_TicksInOrder_4 :
∃ (i : TickIn) (s : State), (s.dev.running = false) :=
  ⟨{}, { dev := wMode .vigil }, by decide +kernel⟩

/-- `Obligations.PwmAndTrips`: a state and operands that meet the hypotheses of clause 1. -/
theorem witness_PwmAndTrips_1 :
∃ (n : Nat) (s : State), ((s.dev.pw n).on = true) ∧ (s.dev.pulseTrain n = false) ∧ (((s.dev.pw n).period + 1 < s.dev.pwmK n ∨
    s.dev.sys.cutTick = true)) :=
  ⟨3, { dev := { wMode .ready with pwm := [(3, { on := true })], sys := { mode := .ready, cutTick := true } } }, by decide +kernel⟩

/-- `Obligations.PwmAndTrips`: a state and operands that meet the hypotheses of clause 2. -/
theorem witness_PwmAndTrips_2 :
∃ (n after clocks : Nat) (level : Bool) (s : State), (n < s.dev.axes) ∧ (filterPasses (s.dev.pw n).tripCfg clocks = true) ∧ ((level != bit
    11 (s.dev.pw n).tripCfg) = true) :=
  ⟨3, 0, 5, true, wReady, by decide +kernel⟩

/-- `Obligations.PwmAndTrips`: a state and operands that meet the hypotheses of clause 3. -/
theorem witness_PwmAndTrips_3 :
∃ (g after clocks : Nat) (level : Bool) (s : State), ((s.dev.sys.is4016 && decide (2 ≤ g)) = false) ∧ (filterPasses (s.dev.pw (8 *
    g)).gCfg clocks = true) ∧ ((level != bit 11 (s.dev.pw (8 * g)).gCfg) = true) :=
  ⟨1, 0, 5, true, wReady, by decide +kernel⟩

/-- `Obligations.PwmAndTrips`: a state and operands that meet the hypotheses of clause 4. -/
theorem witness_PwmAndTrips_4 :
∃ (n after clocks : Nat) (level : Bool) (s : State), (n < s.dev.axes) ∧ (filterPasses (s.dev.pw n).tripCfg clocks = true) ∧ ((level != bit
    11 (s.dev.pw n).tripCfg) = false) :=
  ⟨3, 0, 5, false, wReady, by decide +kernel⟩

/-- `Obligations.PwmAndTrips`: a state and operands that meet the hypotheses of clause 5. -/
theorem witness_PwmAndTrips_5 :
∃ (g after clocks : Nat) (level : Bool) (s : State), ((s.dev.sys.is4016 && decide (2 ≤ g)) = false) ∧ (filterPasses (s.dev.pw (8 *
    g)).gCfg clocks = true) ∧ ((level != bit 11 (s.dev.pw (8 * g)).gCfg) = false) :=
  ⟨1, 0, 5, false, wReady, by decide +kernel⟩

/-- `Obligations.PwmAndTrips`: a state and operands that meet the hypotheses of clause 6. -/
theorem witness_PwmAndTrips_6 :
∃ (n : Nat) (s : State), ((s.dev.pw n).on = true) ∧ ((s.dev.pw n).sto = false) ∧ ((s.dev.pw n).latchDue = true) ∧ (((s.dev.pw n).groupDue
    || s.dev.groupLatch n) = false) :=
  ⟨3, { dev := { wMode .ready with pwm := [(3, { on := true, sto := false, latchDue := true })] } }, by decide +kernel⟩

/-- `Obligations.PwmAndTrips`: a state and operands that meet the hypotheses of clause 7. -/
theorem witness_PwmAndTrips_7 :
∃ (n : Nat) (s : State), ((s.dev.pw n).on = true) ∧ ((s.dev.pw n).sto = false) ∧ (((s.dev.pw n).groupDue || s.dev.groupLatch n) = true) :=
  ⟨3, { dev := { wMode .ready with pwm := [(3, { on := true, sto := false, groupDue := true })] } }, by decide +kernel⟩

/-- `Obligations.PwmAndTrips`: a state and operands that meet the hypotheses of clause 8. -/
theorem witness_PwmAndTrips_8 :
∃ (n : Nat) (s : State), ((s.dev.pw n).winLeft = 0) :=
  ⟨3, wReady, by decide +kernel⟩

/-- `Obligations.PwmAndTrips`: a state and operands that meet the hypotheses of clause 9. -/
theorem witness_PwmAndTrips_9 :
∃ (n l tm : Nat) (rising : Bool) (s : State), ((s.dev.pw n).on = true) ∧ (s.dev.adaptive n = true) ∧ ((s.dev.pw n).sto = false) ∧ ((rising
    != bit 29 (s.dev.pw n).dtCfg) = true) ∧ (((s.dev.pw n).period * s.dev.pwmT n + tm) / 16 ≤ ((s.dev.pw n).period * s.dev.pwmT n +
    (s.dev.leg n l).riseNow) / 16) ∧ ((s.dev.leg n l).riseEdge = true) :=
  ⟨3, 1, 100, true, { dev := { wMode .ready with pwm := [(3, { on := true, sto := false, dtCfg := 0x10000000, legs := [(1, { riseEdge := true, riseNow := 200 })] })] } }, by decide +kernel⟩

/-- `Obligations.PwmAndTrips`: a state and operands that meet the hypotheses of clause 10. -/
theorem witness_PwmAndTrips_10 :
∃ (n l tm : Nat) (rising : Bool) (s : State), ((s.dev.pw n).on = true) ∧ (s.dev.adaptive n = true) ∧ ((s.dev.pw n).sto = false) ∧ ((rising
    != bit 29 (s.dev.pw n).dtCfg) = false) ∧ (((s.dev.pw n).period * s.dev.pwmT n + s.dev.cmpNow n l + tm) / 16 ≤ ((s.dev.pw n).period *
    s.dev.pwmT n + s.dev.cmpNow n l + (s.dev.leg n l).fallNow) / 16) ∧ ((s.dev.leg n l).fallEdge = true) :=
  ⟨3, 1, 100, false, { dev := { wMode .ready with pwm := [(3, { on := true, sto := false, dtCfg := 0x10000000, legs := [(1, { fallEdge := true, fallNow := 200 })] })] } }, by decide +kernel⟩

/-- `Obligations.PwmAndTrips`: a state and operands that meet the hypotheses of clause 11. -/
theorem witness_PwmAndTrips_11 :
∃ (n l : Nat) (s : State), (s.dev.adaptive n = true) ∧ ((s.dev.leg n l).fallback = false) ∧ (64 ≤ (s.dev.leg n l).misses + b2n (s.dev.leg
    n l).riseEdge + b2n (s.dev.leg n l).fallEdge) :=
  ⟨3, 1, { dev := { wMode .ready with pwm := [(3, { dtCfg := 0x10000000, legs := [(1, { misses := 63, riseEdge := true })] })] } }, by decide +kernel⟩

/-- `Obligations.PwmAndTrips`: a state and operands that meet the hypotheses of clause 12. -/
theorem witness_PwmAndTrips_12 :
∃ (n t : Nat) (s : State), ((s.dev.sns n).imLowSince = some t) ∧ (s.dev.past (t + msCnt (s.dev.fld (A.AX_IM_CFG n) 13 0)) = true) :=
  ⟨3, 5, { dev := { (wMode .ready) with time := { cnt := 10000000000 }, sense := [(3, { imLowSince := some 5 })] } }, by decide +kernel⟩

/-- `Obligations.EncoderEdgesAndSerialFrames`: a state and operands that meet the hypotheses of clause 1. -/
theorem witness_EncoderEdgesAndSerialFrames_1 :
∃ (n ha hb t : Nat) (a b : Bool) (s : State), (sdMode s.dev.sys.mode = true) ∧ (n < s.dev.axes) ∧ ((((s.dev.seenAt t).clockTo n t).modFb n
    (fun f => { f with a := filtered (s.dev.filtN n) (s.dev.fb n).a a ha, b := filtered (s.dev.filtN n) (s.dev.fb n).b b hb })).fbSrc n =
    0) ∧ (¬ ((s.dev.fb n).a = filtered (s.dev.filtN n) (s.dev.fb n).a a ha ∧ (s.dev.fb n).b = filtered (s.dev.filtN n) (s.dev.fb n).b b
    hb)) ∧ (¬ ((s.dev.fb n).a ≠ filtered (s.dev.filtN n) (s.dev.fb n).a a ha ∧ (s.dev.fb n).b ≠ filtered (s.dev.filtN n) (s.dev.fb n).b b
    hb)) :=
  ⟨3, 9, 9, 100, true, false, wRegs [(A.FB_CFG 3, 0)], by decide +kernel⟩

/-- `Obligations.EncoderEdgesAndSerialFrames`: a state and operands that meet the hypotheses of clause 2. -/
theorem witness_EncoderEdgesAndSerialFrames_2 :
∃ (n ha hb t : Nat) (a b : Bool) (s : State), (sdMode s.dev.sys.mode = true) ∧ (n < s.dev.axes) ∧ ((((s.dev.seenAt t).clockTo n t).modFb n
    (fun f => { f with a := filtered (s.dev.filtN n) (s.dev.fb n).a a ha, b := filtered (s.dev.filtN n) (s.dev.fb n).b b hb })).fbSrc n =
    0) ∧ ((s.dev.fb n).a ≠ filtered (s.dev.filtN n) (s.dev.fb n).a a ha) ∧ ((s.dev.fb n).b ≠ filtered (s.dev.filtN n) (s.dev.fb n).b b hb) :=
  ⟨3, 9, 9, 100, true, true, wRegs [(A.FB_CFG 3, 0)], by decide +kernel⟩

/-- `Obligations.EncoderEdgesAndSerialFrames`: a state and operands that meet the hypotheses of clause 3. -/
theorem witness_EncoderEdgesAndSerialFrames_3 :
∃ (n ha hb t : Nat) (a b : Bool) (s : State), (sdMode s.dev.sys.mode = true) ∧ (n < s.dev.axes) ∧ ((((s.dev.seenAt t).clockTo n t).modFb n
    (fun f => { f with a := filtered (s.dev.filtN n) (s.dev.fb n).a a ha, b := filtered (s.dev.filtN n) (s.dev.fb n).b b hb })).fbSrc n =
    0) ∧ ((s.dev.fb n).a = filtered (s.dev.filtN n) (s.dev.fb n).a a ha) ∧ ((s.dev.fb n).b = filtered (s.dev.filtN n) (s.dev.fb n).b b hb) :=
  ⟨3, 9, 9, 100, false, false, wRegs [(A.FB_CFG 3, 0)], by decide +kernel⟩

/-- `Obligations.EncoderEdgesAndSerialFrames`: a state and operands that meet the hypotheses of clause 4. -/
theorem witness_EncoderEdgesAndSerialFrames_4 :
∃ (n ha hb t : Nat) (a b : Bool) (s : State), (sdMode s.dev.sys.mode = true) ∧ (n < s.dev.axes) ∧ ((((s.dev.seenAt t).clockTo n t).modFb n
    (fun f => { f with a := filtered (s.dev.filtN n) (s.dev.fb n).a a ha, b := filtered (s.dev.filtN n) (s.dev.fb n).b b hb })).fbSrc n =
    1) ∧ (((filtered (s.dev.filtN n) (s.dev.fb n).a a ha) && !(s.dev.fb n).a) = true) :=
  ⟨3, 9, 9, 100, true, true, wRegs [(A.FB_CFG 3, 1)], by decide +kernel⟩

/-- `Obligations.EncoderEdgesAndSerialFrames`: a state and operands that meet the hypotheses of clause 5. -/
theorem witness_EncoderEdgesAndSerialFrames_5 :
∃ (n ha hb t : Nat) (a b : Bool) (s : State), (sdMode s.dev.sys.mode = true) ∧ (n < s.dev.axes) ∧ ((((s.dev.seenAt t).clockTo n t).modFb n
    (fun f => { f with a := filtered (s.dev.filtN n) (s.dev.fb n).a a ha, b := filtered (s.dev.filtN n) (s.dev.fb n).b b hb })).fbSrc n =
    1) ∧ (((filtered (s.dev.filtN n) (s.dev.fb n).a a ha) && !(s.dev.fb n).a) = false) :=
  ⟨3, 9, 9, 100, false, true, wRegs [(A.FB_CFG 3, 1)], by decide +kernel⟩

/-- `Obligations.EncoderEdgesAndSerialFrames`: a state and operands that meet the hypotheses of clause 6. -/
theorem witness_EncoderEdgesAndSerialFrames_6 :
∃ (n ha hb t : Nat) (a b : Bool) (s : State), (sdMode s.dev.sys.mode = true) ∧ (n < s.dev.axes) ∧ (2 ≤ (((s.dev.seenAt t).clockTo n
    t).modFb n (fun f =>
    { f with a := filtered (s.dev.filtN n) (s.dev.fb n).a a ha, b := filtered (s.dev.filtN n) (s.dev.fb n).b b hb })).fbSrc n) :=
  ⟨3, 9, 9, 100, false, true, wRegs [(A.FB_CFG 3, 2)], by decide +kernel⟩

/-- `Obligations.EncoderEdgesAndSerialFrames`: a state and operands that meet the hypotheses of clause 7. -/
theorem witness_EncoderEdgesAndSerialFrames_7 :
∃ (n ha hb t : Nat) (a b : Bool) (s : State), ((!sdMode s.dev.sys.mode || decide (s.dev.axes ≤ n)) = true) :=
  ⟨3, 9, 9, 100, false, true, { dev := wMode .vigil }, by decide +kernel⟩

/-- `Obligations.EncoderEdgesAndSerialFrames`: a state and operands that meet the hypotheses of clause 8. -/
theorem witness_EncoderEdgesAndSerialFrames_8 :
∃ (n held t : Nat) (s : State), (sdMode s.dev.sys.mode = true) ∧ (n < s.dev.axes) ∧ (s.dev.filtN n ≤ held) ∧ ((s.dev.fb n).z = false) :=
  ⟨3, 9, 100, wRegs [(A.FB_CFG 3, 0x4000)], by decide +kernel⟩

/-- `Obligations.EncoderEdgesAndSerialFrames`: a state and operands that meet the hypotheses of clause 9. -/
theorem witness_EncoderEdgesAndSerialFrames_9 :
∃ (c : Nat) (busy : Bool) (s : State), (s.dev.serDue c (s.dev.sys.tick + 1) = true) ∧ ((s.dev.serPort c).latch = none) ∧ ((s.dev.serPort
    c).served ≠ s.dev.sys.tick + 1) :=
  ⟨1, false, { dev := { wReady.dev with fbd := { cfg := [(A.FB_SER_CFG 1, 4)] } } }, by decide +kernel⟩

/-- `Obligations.EncoderEdgesAndSerialFrames`: a state and operands that meet the hypotheses of clause 10. -/
theorem witness_EncoderEdgesAndSerialFrames_10 :
∃ (c t : Nat) (line : List (Nat × Bool)) (s : State), ((s.dev.serPort c).latch = some t) ∧ (t + (if field 1 0 (s.dev.serCfg c) = 1 then
    bissFrame (s.dev.serCfg c) (s.dev.serTiming c) line else ssiFrame (s.dev.serCfg c) (s.dev.serTiming c) line).time ≤ (s.dev.sys.tick +
    1) * s.dev.loopPeriod) :=
  ⟨1, 5, [], { dev := { wReady.dev with fbd := { ports := [(1, { latch := some 5 })], cfg := [(A.FB_SER_CFG 1, 0x1005), (A.FB_SER_TIMING 1, 1000)] } } }, by decide +kernel⟩

/-- `Obligations.EncoderEdgesAndSerialFrames`: a state and operands that meet the hypotheses of clause 11. -/
theorem witness_EncoderEdgesAndSerialFrames_11 :
∃ (c t : Nat) (line : List (Nat × Bool)) (s : State), ((s.dev.serPort c).latch = some t) ∧ ((s.dev.sys.tick + 1) * s.dev.loopPeriod < t +
    (if field 1 0 (s.dev.serCfg c) = 1 then bissFrame (s.dev.serCfg c) (s.dev.serTiming c) line else ssiFrame (s.dev.serCfg c)
    (s.dev.serTiming c) line).time) :=
  ⟨1, 5, [], { dev := { wReady.dev with fbd := { ports := [(1, { latch := some 5 })], cfg := [(A.FB_SER_CFG 1, 0x1005), (A.FB_SER_TIMING 1, 10)] } } }, by decide +kernel⟩

/-- `Obligations.EncoderEdgesAndSerialFrames`: a state and operands that meet the hypotheses of clause 12. -/
theorem witness_EncoderEdgesAndSerialFrames_12 :
∃ (d : Dev) (c n t : Nat) (busy : Bool) (f : SerFrame), (f.start = true) ∧ (f.crcOk = true) ∧ (f.nE = false) ∧ (f.nW = false) ∧ ((field 1
    0 (d.serCfg c) == 1 && busy) = false) ∧ ((!(field 1 0 (d.serCfg c) == 1) && (List.range (field 18 16 (d.serCfg c))).any (fun i => bit
    (20 + i) (d.serCfg c) && (nbit i f.status == bit (24 + i) (d.serCfg c)))) = false) ∧ (((if (field 1 0 (d.serCfg c) == 1) = true then
    d.setFld (A.FB_SER_STATUS c) 11 0 f.ld else d).wr64 (A.FB_SER_RAW_LO c) f.data).serAxis c = some n) :=
  ⟨{ wReady.dev.wr (A.FB_CFG 3) 0x12 with fbd := { cfg := [(A.FB_SER_CFG 1, 0x1005)] } }, 1, 3, 5, false, { data := 77 }, by decide +kernel⟩

/-- `Obligations.EncoderEdgesAndSerialFrames`: a state and operands that meet the hypotheses of clause 13. -/
theorem witness_EncoderEdgesAndSerialFrames_13 :
∃ (n held t : Nat) (up : Bool) (s : State), (sdMode s.dev.sys.mode = true) ∧ (n < s.dev.axes) ∧ (n < 32) ∧ (s.dev.filtN n ≤ held) ∧
    (((s.dev.fb n).z == up) = false) :=
  ⟨3, 9, 100, true, wReady, by decide +kernel⟩

/-- `Obligations.EncoderEdgesAndSerialFrames`: a state and operands that meet the hypotheses of clause 14. -/
theorem witness_EncoderEdgesAndSerialFrames_14 :
∃ (src held t : Nat) (up : Bool) (s : State), (sdMode s.dev.sys.mode = true) ∧ (32 ≤ src) ∧ (src < 48) :=
  ⟨33, 9, 100, true, wReady, by decide +kernel⟩

/-- `Obligations.EncoderEdgesAndSerialFrames`: a state and operands that meet the hypotheses of clause 15. -/
theorem witness_EncoderEdgesAndSerialFrames_15 :
∃ (src held t : Nat) (up : Bool) (s : State), (sdMode s.dev.sys.mode = true) ∧ (48 ≤ src) ∧ (src < 56) ∧ (field 5 0 (s.dev.fbReg
    (A.FB_LTCH_CFG (src - 48))) ≤ held) :=
  ⟨49, 9, 100, true, wReady, by decide +kernel⟩

/-- `Obligations.FeedbackCommands`: a state and operands that meet the hypotheses of clause 1. -/
theorem witness_FeedbackCommands_1 :
∃ (h : Hdr) (add : Bool) (v : Int) (s : State), (s.dev.targetCheck 0x020C h = none) ∧ (s.dev.fbSetCheck h = none) ∧ (h.mask ≠ 0) :=
  ⟨{ mask := 8 }, true, -5, wRegs [(A.FB_CFG 3, 0)], by decide +kernel⟩

/-- `Obligations.FeedbackCommands`: a state and operands that meet the hypotheses of clause 2. -/
theorem witness_FeedbackCommands_2 :
∃ (h : Hdr) (b : List Byte) (s : State), (s.dev.targetCheck 0x020D h = none) ∧ (cmpArmReserved b = false) ∧ ((cmpArmOf b).disarm = false) :=
  ⟨{ mask := 8 }, putAt (List.replicate 64 0) 28 [5], wReady, by decide +kernel⟩

/-- `Obligations.FeedbackCommands`: a state and operands that meet the hypotheses of clause 3. -/
theorem witness_FeedbackCommands_3 :
∃ (h : Hdr) (b : List Byte) (s : State), (s.dev.targetCheck 0x020D h = none) ∧ (cmpArmReserved b = false) ∧ ((cmpArmOf b).disarm = true) :=
  ⟨{ mask := 8 }, putAt (List.replicate 64 0) 16 [0x81], wReady, by decide +kernel⟩

/-- `Obligations.FeedbackCommands`: a state and operands that meet the hypotheses of clause 4. -/
theorem witness_FeedbackCommands_4 :
∃ (h : Hdr) (unit src bits : Nat) (s : State), (s.dev.targetCheck 0x020E h = none) ∧ (s.dev.latchArmCheck unit src bits = none) :=
  ⟨{ mask := 8 }, 2, 33, 1, wReady, by decide +kernel⟩

/-- `Obligations.FeedbackCommands`: a state and operands that meet the hypotheses of clause 5. -/
theorem witness_FeedbackCommands_5 :
∃ (h : Hdr) (t units : Nat) (s : State), (s.dev.targetCheck 0x020F h = none) ∧ (s.dev.fbd.strobe = none) ∧ (s.dev.now < t) :=
  ⟨{ mask := 8 }, 1000000, 3, wReady, by decide +kernel⟩

/-- `Obligations.FeedbackCommands`: a state and operands that meet the hypotheses of clause 6. -/
theorem witness_FeedbackCommands_6 :
∃ (h : Hdr) (t units : Nat) (s : State), (s.dev.targetCheck 0x020F h = none) ∧ (s.dev.fbd.strobe = none) ∧ (t ≤ s.dev.now) :=
  ⟨{ mask := 8 }, 0, 3, wReady, by decide +kernel⟩

/-- `Obligations.FeedbackCommands`: a state and operands that meet the hypotheses of clause 7. -/
theorem witness_FeedbackCommands_7 :
∃ (h : Hdr) (t units : Nat) (s : State), (s.dev.targetCheck 0x020F h = none) ∧ (s.dev.fbd.strobe.isSome = true) :=
  ⟨{ mask := 8 }, 9, 3, { dev := { wReady.dev with fbd := { strobe := some { t := 5, cmd := {} } } } }, by decide +kernel⟩

/-- `Obligations.FeedbackCommands`: a state and operands that meet the hypotheses of clause 8. -/
theorem witness_FeedbackCommands_8 :
∃ (x : Strobe) (s : State), (s.dev.fbd.strobe = some x) ∧ (x.t ≤ (s.dev.seenAt x.t).now) :=
  ⟨{ t := 1000, cmd := {} }, { dev := { wReady.dev with fbd := { strobe := some { t := 1000, cmd := {} } } } }, by decide +kernel⟩

/-- `Obligations.FeedbackCommands`: a state and operands that meet the hypotheses of clause 9. -/
theorem witness_FeedbackCommands_9 :
∃ (h : Hdr) (s : State), (s.dev.targetCheck 0x0210 h = none) ∧ (h.mask ≠ 0) :=
  ⟨{ mask := 8 }, wReady, by decide +kernel⟩

/-- `Obligations.MotionOrdersTakeOverAtTheNextFrameTick`: a state and operands that meet the hypotheses of clause 1. -/
theorem witness_MotionOrdersTakeOverAtTheNextFrameTick_1 :
∃ (h : Hdr) (b : List Byte) (s : State), (s.dev.targetCheck 0x0302 h = none) ∧ (s.dev.profRunCheck h b = none) :=
  ⟨{ mask := 8 }, putAt (List.replicate 64 0) 16 [1], { dev := wAxis .run .hold [] }, by decide +kernel⟩

/-- `Obligations.MotionOrdersTakeOverAtTheNextFrameTick`: a state and operands that meet the hypotheses of clause 2. -/
theorem witness_MotionOrdersTakeOverAtTheNextFrameTick_2 :
∃ (h : Hdr) (b : List Byte) (s : State), (s.dev.targetCheck 0x0303 h = none) ∧ (s.dev.profMoveCheck h b false = none) :=
  ⟨{ mask := 8 }, [], { dev := { wAxis .run .hold [] with mots := [(3, { lims := [0x3F800000, 0x3F800000, 0x3F800000, 0, 0] })] } }, by decide +kernel⟩

/-- `Obligations.MotionOrdersTakeOverAtTheNextFrameTick`: a state and operands that meet the hypotheses of clause 3. -/
theorem witness_MotionOrdersTakeOverAtTheNextFrameTick_3 :
∃ (h : Hdr) (b : List Byte) (s : State), (s.dev.targetCheck 0x0304 h = none) ∧ (s.dev.profVelCheck h b false = none) :=
  ⟨{ mask := 8 }, [], { dev := { wAxis .run .hold [] with mots := [(3, { lims := [0x3F800000, 0x3F800000, 0x3F800000, 0, 0] })] } }, by decide +kernel⟩

/-- `Obligations.MotionOrdersTakeOverAtTheNextFrameTick`: a state and operands that meet the hypotheses of clause 4. -/
theorem witness_MotionOrdersTakeOverAtTheNextFrameTick_4 :
∃ (h : Hdr) (b : List Byte) (s : State), (s.dev.targetCheck 0x0401 h = none) ∧ (s.dev.engageCheck h b = none) :=
  ⟨{ mask := 8 }, putAt (List.replicate 64 0) 16 [32, 0xFF], { dev := wAxis .run .hold [] }, by decide +kernel⟩

/-- `Obligations.MotionOrdersTakeOverAtTheNextFrameTick`: a state and operands that meet the hypotheses of clause 5. -/
theorem witness_MotionOrdersTakeOverAtTheNextFrameTick_5 :
∃ (h : Hdr) (b : List Byte) (s : State), (s.dev.targetCheck 0x0402 h = none) ∧ (s.dev.ratioCheck h b = none) :=
  ⟨{ mask := 8 }, putAt (List.replicate 64 0) 20 [2], { dev := { wAxis .run .hold [] with mots := [(3, { gear := { layers := [{ ms := { m := { index := 32 } }, law := { n := 1, d := 1 }, kind := .position, t0 := 0, te := 0 }] } })] } }, by decide +kernel⟩

/-- `Obligations.MotionOrdersTakeOverAtTheNextFrameTick`: a state and operands that meet the hypotheses of clause 6. -/
theorem witness_MotionOrdersTakeOverAtTheNextFrameTick_6 :
∃ (h : Hdr) (b : List Byte) (s : State), (s.dev.targetCheck 0x0403 h = none) ∧ (s.dev.engagedCheck h = none) :=
  ⟨{ mask := 8 }, [], { dev := { wAxis .run .hold [] with mots := [(3, { gear := { layers := [{ ms := { m := { index := 32 } }, law := { n := 1, d := 1 }, kind := .position, t0 := 0, te := 0 }] } })] } }, by decide +kernel⟩

/-- `Obligations.MotionOrdersTakeOverAtTheNextFrameTick`: a state and operands that meet the hypotheses of clause 7. -/
theorem witness_MotionOrdersTakeOverAtTheNextFrameTick_7 :
∃ (h : Hdr) (b : List Byte) (s : State), (s.dev.targetCheck 0x0404 h = none) ∧ (s.dev.disengageCheck h b = none) :=
  ⟨{ mask := 8 }, [], { dev := { wAxis .run .hold [] with mots := [(3, { gear := { layers := [{ ms := { m := { index := 32 } }, law := { n := 1, d := 1 }, kind := .position, t0 := 0, te := 0 }] } })] } }, by decide +kernel⟩

/-- `Obligations.MotionOrdersTakeOverAtTheNextFrameTick`: a state and operands that meet the hypotheses of clause 8. -/
theorem witness_MotionOrdersTakeOverAtTheNextFrameTick_8 :
∃ (h : Hdr) (b : List Byte) (s : State), (s.dev.targetCheck 0x0405 h = none) ∧ (s.dev.lsJoinCheck h b = none) :=
  ⟨{ mask := 8 }, putAt (List.replicate 64 0) 16 [0xFF, 0, 1, 0], { dev := wAxis .run .hold [(A.LS_GRP_CFG 0, 1), (A.LS_GRP_MEM 0 2, 0x380)] }, by decide +kernel⟩

/-- `Obligations.MotionOrdersTakeOverAtTheNextFrameTick`: a state and operands that meet the hypotheses of clause 9. -/
theorem witness_MotionOrdersTakeOverAtTheNextFrameTick_9 :
∃ (h : Hdr) (b : List Byte) (s : State), (s.dev.targetCheck 0x0406 h = none) ∧ (s.dev.lsShareCheck h b = none) :=
  ⟨{ mask := 8 }, putAt (List.replicate 64 0) 16 [0xFF, 0, 1, 0], { dev := { wAxis .run .hold [] with mots := [(3, { ls := some { home := 0, group := 0, weight := 5, localHome := true } })] } }, by decide +kernel⟩

/-- `Obligations.MotionOrdersTakeOverAtTheNextFrameTick`: a state and operands that meet the hypotheses of clause 10. -/
theorem witness_MotionOrdersTakeOverAtTheNextFrameTick_10 :
∃ (h : Hdr) (b : List Byte) (s : State), (s.dev.targetCheck 0x0408 h = none) ∧ (s.dev.vmMotionCheck h b = none) :=
  ⟨{}, putAt (List.replicate 64 0) 28 [0, 0, 0x80, 0x3F, 0, 0, 0x80, 0x3F, 0, 0, 0x80, 0x3F], { dev := wMode .run }, by decide +kernel⟩

/-- `Obligations.MotionOrdersTakeOverAtTheNextFrameTick`: a state and operands that meet the hypotheses of clause 11. -/
theorem witness_MotionOrdersTakeOverAtTheNextFrameTick_11 :
∃ (h : Hdr) (b : List Byte) (s : State), (s.dev.targetCheck 0x0409 h = none) ∧ (s.dev.vmStopCheck h b = none) :=
  ⟨{}, putAt (List.replicate 64 0) 28 [0, 0, 0x80, 0x3F, 0, 0, 0x80, 0x3F, 0, 0, 0x80, 0x3F], { dev := wMode .run }, by decide +kernel⟩

/-- `Obligations.ProfilesAndGearEnds`: a state and operands that meet the hypotheses of clause 1. -/
theorem witness_ProfilesAndGearEnds_1 :
∃ (h : Hdr) (b : List Byte) (s : State), (s.dev.targetCheck 0x0301 h = none) ∧ (s.dev.profLoadCheck h b = none) :=
  ⟨{}, [], wReady, by decide +kernel⟩

/-- `Obligations.ProfilesAndGearEnds`: a state and operands that meet the hypotheses of clause 2. -/
theorem witness_ProfilesAndGearEnds_2 :
∃ (h : Hdr) (b : List Byte) (status : Nat) (res : List (Nat × Nat × Nat)) (s : State), (s.dev.targetCheck 0x0301 h = none) ∧
    (s.dev.profLoadCheck h b = some (status, res)) :=
  ⟨{ mask := 8 }, putAt (List.replicate 64 0) 18 [1], Code.profileInvalid, [(16, 1, 8), (18, 2, 0)], wReady, by decide +kernel⟩

/-- `Obligations.ProfilesAndGearEnds`: a state and operands that meet the hypotheses of clause 3. -/
theorem witness_ProfilesAndGearEnds_3 :
∃ (h : Hdr) (s : State), (s.dev.targetCheck 0x0305 h = none) ∧ (s.dev.profStopCheck h = none) ∧ (h.mask ≠ 0) :=
  ⟨{ mask := 8 }, { dev := wAxis .run .hold [] }, by decide +kernel⟩

/-- `Obligations.ProfilesAndGearEnds`: a state and operands that meet the hypotheses of clause 4. -/
theorem witness_ProfilesAndGearEnds_4 :
∃ (h h2 : Hdr) (s : State), (s.dev.targetCheck 0x0306 h = none) ∧ (s.dev.targetCheck 0x040A h2 = none) ∧ (h.mask ≠ 0) ∧ (h2.mask ≠ 0) :=
  ⟨{ mask := 8 }, { mask := 8 }, wReady, by decide +kernel⟩

/-- `Obligations.ProfilesAndGearEnds`: a state and operands that meet the hypotheses of clause 5. -/
theorem witness_ProfilesAndGearEnds_5 :
∃ (n : Nat) (s : State), (((s.dev.mo n).gear.layers.filter (fun y => !y.pure && y.ended (s.dev.mo n).at_)).isEmpty = false) :=
  ⟨3, { dev := { wAxis .run .hold [] with mots := [(3, { gear := { layers := [{ ms := { m := { index := 32 } }, law := { n := 1, d := 1 }, kind := .velocity, t0 := 0, te := 0 }] } })] } }, by decide +kernel⟩

/-- `Obligations.ProfilesAndGearEnds`: a state and operands that meet the hypotheses of clause 7. -/
theorem witness_ProfilesAndGearEnds_7 :
∃ (n : Nat) (s : State), ((s.dev.mo n).gear.layers.any (fun y => y.ms.m.remote.isSome && decide (9 ≤ y.ms.misses)) = true) :=
  ⟨3, { dev := { wAxis .run .hold [] with mots := [(3, { gear := { layers := [{ ms := { m := { index := 32, remote := some 2 }, misses := 9 }, law := { n := 1, d := 1 }, kind := .position, t0 := 0, te := 0 }] } })] } }, by decide +kernel⟩

/-- `Obligations.ProfilesAndGearEnds`: a state and operands that meet the hypotheses of clause 8. -/
theorem witness_ProfilesAndGearEnds_8 :
∃ (s : State), (s.dev.time.state = 3) ∧ (s.dev.mot.syncHold = false) :=
  ⟨{ dev := { wMode .run with time := { state := 3 } } }, by decide +kernel⟩

/-- `Obligations.LoadShare`: a state and operands that meet the hypotheses of clause 1. -/
theorem witness_LoadShare_1 :
∃ (h : Hdr) (s : State), (s.dev.targetCheck 0x0407 h = none) ∧ (s.dev.lsLeaveCheck h = none) :=
  ⟨{ mask := 8 }, { dev := { wAxis .run .hold [] with mots := [(3, { ls := some { home := 0, group := 0, weight := 5, localHome := true } })] } }, by decide +kernel⟩

/-- `Obligations.LoadShare`: a state and operands that meet the hypotheses of clause 2. -/
theorem witness_LoadShare_2 :
∃ (n st : Nat) (w : Rat) (l : LsMember) (s : State), ((s.dev.mo n).ls = some l) ∧ (l.fade = some (st, w)) ∧ ((s.dev.past (s.dev.time.edge
    (st + 1000000 * s.dev.fld (A.LS_GRP_CFG l.group) 15 8))) = true) ∧ (st + 1000000 * s.dev.fld (A.LS_GRP_CFG l.group) 15 8 ≤ s.dev.now) :=
  ⟨3, 0, 0, { home := 0, group := 0, weight := 5, localHome := true, fade := some (0, 0) }, { dev := { wAxis .run .hold [(A.LS_GRP_CFG 0, 1)] with mots := [(3, { ls := some { home := 0, group := 0, weight := 5, localHome := true, fade := some (0, 0) } })] } }, by decide +kernel⟩

/-- `Obligations.LoadShare`: a state and operands that meet the hypotheses of clause 3. -/
theorem witness_LoadShare_3 :
∃ (g i n : Nat) (r : LsRemote) (s : State), (AList.find s.dev.mot.remotes (8 * g + i) = some r) ∧ (r.active = true) ∧ (9 ≤ r.misses) :=
  ⟨0, 3, 0, { active := true, misses := 9 }, { dev := { wMode .run with mot := { remotes := [(3, { active := true, misses := 9 })] } } }, by decide +kernel⟩

/-- `Obligations.LoadShare`: a state and operands that meet the hypotheses of clause 4. -/
theorem witness_LoadShare_4 :
∃ (g i n : Nat) (l : LsMember) (s : State), ((s.dev.mo n).ls = some l) ∧ (l.localHome = false) ∧ (9 ≤ l.misses) :=
  ⟨0, 0, 3, { home := 2, group := 0, weight := 5, localHome := false, misses := 9 }, { dev := { wAxis .run .hold [] with mots := [(3, { ls := some { home := 2, group := 0, weight := 5, localHome := false, misses := 9 } })] } }, by decide +kernel⟩

/-- `Obligations.LoadShare`: a state and operands that meet the hypotheses of clause 5. -/
theorem witness_LoadShare_5 :
∃ (node g i n : Nat) (b : List Byte) (s : State), ((AList.get {} s.dev.mot.remotes (8 * g + i)).ts < leAt b 0 8) :=
  ⟨2, 0, 3, 0, [7], { dev := wMode .run }, by decide +kernel⟩

/-- `Obligations.LoadShare`: a state and operands that meet the hypotheses of clause 6. -/
theorem witness_LoadShare_6 :
∃ (node g i n : Nat) (b : List Byte) (l : LsMember) (s : State), ((s.dev.mo n).ls = some l) ∧ (l.localHome = false) ∧ (l.home = node) ∧
    (l.group = g) ∧ (l.recTs < leAt b 0 8) :=
  ⟨2, 0, 0, 3, [7], { home := 2, group := 0, weight := 5, localHome := false }, { dev := { wAxis .run .hold [] with mots := [(3, { ls := some { home := 2, group := 0, weight := 5, localHome := false } })] } }, by decide +kernel⟩

/-- `Obligations.OculusCaptures`: a state and operands that meet the hypotheses of clause 1. -/
theorem witness_OculusCaptures_1 :
∃ (h : Hdr) (named : Nat) (s : State), (s.dev.targetCheck 0x0501 h = none) ∧ (s.dev.capClaimCheck h 1 named = none) :=
  ⟨{}, 0, wReady, by decide +kernel⟩

/-- `Obligations.OculusCaptures`: a state and operands that meet the hypotheses of clause 2. -/
theorem witness_OculusCaptures_2 :
∃ (h : Hdr) (named : Nat) (s : State), (s.dev.targetCheck 0x0501 h = none) ∧ (s.dev.capClaimCheck h 0 named = none) :=
  ⟨{}, 0, { dev := { (wMode .ready).wrAll [] with ocu := { holder := some 0 } } }, by decide +kernel⟩

/-- `Obligations.OculusCaptures`: a state and operands that meet the hypotheses of clause 3. -/
theorem witness_OculusCaptures_3 :
∃ (h : Hdr) (clear : Bool) (s : State), (s.dev.targetCheck 0x0502 h = none) ∧ (s.dev.capArmCheck h = none) :=
  ⟨{}, true, { dev := { (wMode .ready).wrAll [(A.OCU_CFG, 0x10040), (A.OCU_MEM_SIZE, 0x4000), (A.OCU_POST, 16), (A.OCU_CH 0, 1)] with ocu := { holder := some 0 } } }, by decide +kernel⟩

/-- `Obligations.OculusCaptures`: a state and operands that meet the hypotheses of clause 4. -/
theorem witness_OculusCaptures_4 :
∃ (h : Hdr) (s : State), (s.dev.targetCheck 0x0503 h = none) ∧ (s.dev.capForceCheck h = none) :=
  ⟨{}, { dev := { (wMode .ready).wrAll [] with ocu := { holder := some 0, state := 2 } } }, by decide +kernel⟩

/-- `Obligations.OculusCaptures`: a state and operands that meet the hypotheses of clause 5. -/
theorem witness_OculusCaptures_5 :
∃ (h : Hdr) (s : State), (s.dev.targetCheck 0x0504 h = none) ∧ (s.dev.capStopCheck h = none) :=
  ⟨{}, { dev := { (wMode .ready).wrAll [] with ocu := { holder := some 0, state := 2 } } }, by decide +kernel⟩

/-- `Obligations.OculusCaptures`: a state and operands that meet the hypotheses of clause 6. -/
theorem witness_OculusCaptures_6 :
∃ (h : Hdr) (s : State), (s.dev.targetCheck 0x0505 h = none) ∧ (h.mask = 0) :=
  ⟨{}, wReady, by decide +kernel⟩

/-- `Obligations.OculusCaptures`: a state and operands that meet the hypotheses of clause 7. -/
theorem witness_OculusCaptures_7 :
∃ (s : State), (s.dev.ocu.state = 4) :=
  ⟨{ dev := { (wMode .ready).wrAll [] with ocu := { state := 4 } } }, by decide +kernel⟩

/-- `Obligations.OculusCaptures`: a state and operands that meet the hypotheses of clause 8. -/
theorem witness_OculusCaptures_8 :
∃ (s : State), ((s.dev.ocu.state = 1 ∨ s.dev.ocu.state = 2)) ∧ (s.dev.ocu.force ≠ 2) ∧ (s.dev.rb A.OCU_CFG 6 = false) ∧ (s.dev.fld
    (A.OCU_SEQ_TMO s.dev.ocu.seqState) 23 0 ≠ 0) ∧ (s.dev.fld (A.OCU_SEQ_TMO s.dev.ocu.seqState) 23 0 ≤ s.dev.ocu.age) :=
  ⟨{ dev := { (wMode .ready).wrAll [(A.OCU_SEQ_TMO 0, 5)] with ocu := { state := 2, age := 9 } } }, by decide +kernel⟩

/-- `Obligations.OculusCaptures`: a state and operands that meet the hypotheses of clause 9. -/
theorem witness_OculusCaptures_9 :
∃ (r : OcuDone) (rest : List OcuDone) (s : State), (s.dev.ocu.done = r :: rest) :=
  ⟨{ addr := 0, header := [], trailer := [], trailerAt := 0, trig := 0, ofs := 0, dead := 0, meas := [] }, [], { dev := { (wMode .ready).wrAll [] with ocu := { done := [{ addr := 0, header := [], trailer := [], trailerAt := 0, trig := 0, ofs := 0, dead := 0, meas := [] }] } } }, by decide +kernel⟩

/-- `Obligations.LanternGenerators`: a state and operands that meet the hypotheses of clause 1. -/
theorem witness_LanternGenerators_1 :
∃ (h : Hdr) (g : Nat) (s : State), (s.dev.targetCheck 0x0506 h = none) ∧ (s.dev.lanStartCheck h g = none) :=
  ⟨{ mask := 8 }, 1, { dev := wAxis .ready .hold [(A.LAN_CFG 1, 0x10003), (A.LAN_PRBS 1, 0x107), (A.LAN_SEED 1, 1)] }, by decide +kernel⟩

/-- `Obligations.LanternGenerators`: a state and operands that meet the hypotheses of clause 2. -/
theorem witness_LanternGenerators_2 :
∃ (h : Hdr) (g : Nat) (s : State), (s.dev.targetCheck 0x0507 h = none) ∧ (s.dev.lanStopCheck h g = none) :=
  ⟨{ mask := 8 }, 1, { dev := wAxis .ready .hold [(A.LAN_CFG 1, 3), (A.LAN_STATUS 1, 2)] }, by decide +kernel⟩

/-- `Obligations.LanternGenerators`: a state and operands that meet the hypotheses of clause 3. -/
theorem witness_LanternGenerators_3 :
∃ (h : Hdr) (g : Nat) (s : State), (s.dev.targetCheck 0x0507 h = none) ∧ (s.dev.lanStopCheck h g = none) ∧ (s.dev.lanState g = 2) ∧
    (s.dev.fld (A.LAN_FADE g) 15 0 ≠ 0) :=
  ⟨{ mask := 8 }, 1, { dev := wAxis .ready .hold [(A.LAN_CFG 1, 3), (A.LAN_STATUS 1, 2), (A.LAN_FADE 1, 8)] }, by decide +kernel⟩

/-- `Obligations.LanternGenerators`: a state and operands that meet the hypotheses of clause 4. -/
theorem witness_LanternGenerators_4 :
∃ (h : Hdr) (g : Nat) (s : State), (s.dev.targetCheck 0x0508 h = none) ∧ (g < 4) :=
  ⟨{}, 1, wReady, by decide +kernel⟩

/-- `Obligations.LanternGenerators`: a state and operands that meet the hypotheses of clause 5. -/
theorem witness_LanternGenerators_5 :
∃ (g : Nat) (s : State), (s.dev.lanState g = 1) ∧ ((s.dev.lan g).at_ ≤ s.dev.now) :=
  ⟨1, { dev := wAxis .ready .hold [(A.LAN_STATUS 1, 1)] }, by decide +kernel⟩

/-- `Obligations.LanternGenerators`: a state and operands that meet the hypotheses of clause 6. -/
theorem witness_LanternGenerators_6 :
∃ (h : Hdr) (g : Nat) (s : State), (s.dev.targetCheck 0x0507 h = none) ∧ (s.dev.lanStopCheck h g = none) ∧ ((s.dev.lanState g = 1 ∨
    s.dev.fld (A.LAN_FADE g) 15 0 = 0)) :=
  ⟨{ mask := 8 }, 1, { dev := wAxis .ready .hold [(A.LAN_CFG 1, 3), (A.LAN_STATUS 1, 2)] }, by decide +kernel⟩

/-- `Obligations.LanternGenerators`: a state and operands that meet the hypotheses of clause 7. -/
theorem witness_LanternGenerators_7 :
∃ (h : Hdr) (g : Nat) (s : State), (s.dev.targetCheck 0x0507 h = none) ∧ (s.dev.lanStopCheck h g = none) ∧ (s.dev.lanState g = 3) ∧
    (s.dev.fld (A.LAN_FADE g) 15 0 ≠ 0) :=
  ⟨{ mask := 8 }, 1, { dev := wAxis .ready .hold [(A.LAN_CFG 1, 3), (A.LAN_STATUS 1, 3), (A.LAN_FADE 1, 8)] }, by decide +kernel⟩

/-- `Obligations.LanternGenerators`: a state and operands that meet the hypotheses of clause 8. -/
theorem witness_LanternGenerators_8 :
∃ (g : Nat) (k : Nat) (e : Rat) (s : State), (s.dev.lanState g = 3) ∧ ((s.dev.lan g).fade = some (e, k)) ∧ (s.dev.fld (A.LAN_FADE g) 15 0
    ≤ k) :=
  ⟨1, 9, 0, { dev := { wAxis .ready .hold [(A.LAN_STATUS 1, 3), (A.LAN_FADE 1, 8)] with lans := [(1, { fade := some (0, 9) })] } }, by decide +kernel⟩

/-- `Obligations.LanternGenerators`: a state and operands that meet the hypotheses of clause 9. -/
theorem witness_LanternGenerators_9 :
∃ (g : Nat) (s : State), (s.dev.lanState g = 2) ∧ (0 < (s.dev.rd (A.LAN_LEN g)).toNat) ∧ ((s.dev.rd (A.LAN_LEN g)).toNat ≤ (s.dev.lan
    g).next) :=
  ⟨1, { dev := { wAxis .ready .hold [(A.LAN_STATUS 1, 2), (A.LAN_LEN 1, 5)] with lans := [(1, { next := 5 })] } }, by decide +kernel⟩

/-- `Obligations.SafetyFunctions`: a state and operands that meet the hypotheses of clause 1. -/
theorem witness_SafetyFunctions_1 :
∃ (i : SafIn) (s : State), (s.dev.sys.mode ≠ .bypass) ∧ (s.dev.sys.mode ≠ .backup) ∧ (s.dev.sys.mode ≠ .vigil) :=
  ⟨{ at_ := 0 }, wReady, by decide +kernel⟩

/-- `Obligations.SafetyFunctions`: a state and operands that meet the hypotheses of clause 2. -/
theorem witness_SafetyFunctions_2 :
∃ (i : SafIn) (s : State), (s.dev.sys.mode = .bypass ∨ s.dev.sys.mode = .backup ∨ s.dev.sys.mode = .vigil) :=
  ⟨{ at_ := 0 }, { dev := wMode .vigil }, by decide +kernel⟩

/-- `Obligations.SafetyFunctions`: a state and operands that meet the hypotheses of clause 4. -/
theorem witness_SafetyFunctions_4 :
∃ (s : State), (s.dev.saf.turretOk = true) ∧ (s.dev.saf.turretHalted = false) :=
  ⟨{ dev := { (wMode .ready).wrAll [] with saf := { turretOk := true } } }, by decide +kernel⟩

/-- `Obligations.SafetyFunctions`: a state and operands that meet the hypotheses of clause 5. -/
theorem witness_SafetyFunctions_5 :
∃ (s : State), (s.dev.saf.turretOk = true) :=
  ⟨{ dev := { (wMode .ready).wrAll [] with saf := { turretOk := true } } }, by decide +kernel⟩

/-- `Obligations.SafetyFunctions`: a state and operands that meet the hypotheses of clause 6. -/
theorem witness_SafetyFunctions_6 :
∃ (s : State), (s.dev.saf.keepOk = true) :=
  ⟨{ dev := { (wMode .ready).wrAll [] with saf := { keepOk := true } } }, by decide +kernel⟩

/-- `Obligations.SafetyFunctions`: a state and operands that meet the hypotheses of clause 7. -/
theorem witness_SafetyFunctions_7 :
∃ (t : Nat) (s : State), (s.dev.safetyRuns = true) ∧ (s.dev.saf.turretTest = some t) ∧ (s.dev.saf.turretHalted = false) :=
  ⟨5, { dev := { (wMode .ready).wrAll [] with saf := { turretTest := some 5 } } }, by decide +kernel⟩

/-- `Obligations.SafetyFunctions`: a state and operands that meet the hypotheses of clause 8. -/
theorem witness_SafetyFunctions_8 :
∃ (g e : Nat) (s : State), (s.dev.sbcEnd g = some e) :=
  ⟨1, 5, { dev := { (wMode .ready).wrAll [] with saf := { groups := [(1, { ss1 := some { start := 0, v0 := 0, brakeAt := some 5, code := 2 } })] } } }, by decide +kernel⟩

/-- `Obligations.SafetyFunctions`: a state and operands that meet the hypotheses of clause 9. -/
theorem witness_SafetyFunctions_9 :
∃ (g : Nat) (y : Ss1St) (s : State), ((s.dev.sg g).ss1 = some y) ∧ (y.brakeAt = none) :=
  ⟨1, { start := 0, v0 := 0, code := 2 }, { dev := { (wMode .ready).wrAll [] with saf := { groups := [(1, { ss1 := some { start := 0, v0 := 0, code := 2 } })] } } }, by decide +kernel⟩

/-- `Obligations.SafetyFunctions`: a state and operands that meet the hypotheses of clause 10. -/
theorem witness_SafetyFunctions_10 :
∃ (s : State), (s.dev.sys.mode = .degraded) ∧ (s.dev.saf.degWarned = false) ∧ (s.dev.time.cnt + msCnt 10000 ≤ s.dev.saf.degStart + msCnt
    (1000 * s.dev.fld A.SAF_CFG_GEN 24 16)) ∧ (1 ≤ s.dev.fld A.SAF_CFG_GEN 24 16) ∧ (s.dev.time.cnt < s.dev.saf.degStart + msCnt (1000 *
    s.dev.fld A.SAF_CFG_GEN 24 16)) :=
  ⟨{ dev := { (wMode .degraded).wr A.SAF_CFG_GEN 0x3C03E8 with saf := { degStart := 5 } } }, by decide +kernel⟩

/-- `Obligations.SafetyFunctions`: a state and operands that meet the hypotheses of clause 11. -/
theorem witness_SafetyFunctions_11 :
∃ (s : State), (s.dev.sys.mode = .degraded) ∧ (s.dev.saf.degWarned = true) :=
  ⟨{ dev := { wMode .degraded with saf := { degWarned := true } } }, by decide +kernel⟩

/-- `Obligations.SafetyFunctions`: a state and operands that meet the hypotheses of clause 12. -/
theorem witness_SafetyFunctions_12 :
∃ (s : State), (s.dev.sys.mode = .degraded) :=
  ⟨{ dev := wMode .degraded }, by decide +kernel⟩

/-- `Obligations.SafetyFunctions`: a state and operands that meet the hypotheses of clause 13. -/
theorem witness_SafetyFunctions_13 :
∃ (g k e : Nat) (s : State), (s.dev.hrEnd g k = some e) ∧ (s.dev.turretRuns = true) :=
  ⟨1, 0, 5, { dev := { (wMode .ready).wrAll [] with saf := { turretOk := true, groups := [(1, { hr := [some 5, none] })] } } }, by decide +kernel⟩

/-- `Obligations.SafetyFunctions`: a state and operands that meet the hypotheses of clause 14. -/
theorem witness_SafetyFunctions_14 :
∃ (g t : Nat) (s : State), (s.dev.safetyRuns = true) ∧ (s.dev.saf.keepOk = true) ∧ (s.dev.rb (A.SAF_KEEP_OS g) 5 = true) :=
  ⟨1, 5, { dev := { (wMode .ready).wrAll [(A.SAF_KEEP_OS 1, 0x19020)] with saf := { keepOk := true } } }, by decide +kernel⟩

/-- `Obligations.SafetyFunctions`: a state and operands that meet the hypotheses of clause 15. -/
theorem witness_SafetyFunctions_15 :
∃ (g t : Nat) (s : State), ((!s.dev.safetyRuns || !s.dev.saf.keepOk || !s.dev.rb (A.SAF_KEEP_OS g) 5) = true) :=
  ⟨1, 5, { dev := { (wMode .ready).wrAll [] with saf := { keepOk := true } } }, by decide +kernel⟩

/-- `Obligations.SafetyPairsAndOutputs`: a state and operands that meet the hypotheses of clause 1. -/
theorem witness_SafetyPairsAndOutputs_1 :
∃ (i us t : Nat) (chB level : Bool) (s : State), (i < 16) ∧ ((s.dev.seenAt t).pulsing (2 * i + b2n chB) = false) ∧ ((s.dev.seenAt
    t).pairFilter i us = true) :=
  ⟨3, 5, 100, false, true, wReady, by decide +kernel⟩

/-- `Obligations.SafetyPairsAndOutputs`: a state and operands that meet the hypotheses of clause 2. -/
theorem witness_SafetyPairsAndOutputs_2 :
∃ (i us t : Nat) (chB level : Bool) (s : State), (i < 16) ∧ ((s.dev.seenAt t).pulsing (2 * i + b2n chB) = false) ∧ ((s.dev.seenAt
    t).pairFilter i us = false) :=
  ⟨3, 5, 100, false, true, { dev := (wMode .ready).wr (A.SAF_IN_CFG 3) 0x101 }, by decide +kernel⟩

/-- `Obligations.SafetyPairsAndOutputs`: a state and operands that meet the hypotheses of clause 3. -/
theorem witness_SafetyPairsAndOutputs_3 :
∃ (i us t : Nat) (chB level : Bool) (s : State), (i < 16) ∧ ((s.dev.seenAt t).pulsing (2 * i + b2n chB) = true) :=
  ⟨3, 0, 0, false, false, { dev := { (wMode .ready).wrAll [(A.SAF_IN_CFG 3, 0x5), (A.SAF_TP_CFG, 0x400)] with saf := { tpAt := [(0, 5)] } } }, by decide +kernel⟩

/-- `Obligations.SafetyPairsAndOutputs`: a state and operands that meet the hypotheses of clause 4. -/
theorem witness_SafetyPairsAndOutputs_4 :
∃ (i e : Nat) (s : State), (s.dev.discEnd i = some e) ∧ ((AList.get ({} : PairSt) s.dev.saf.pairs i).faulted = false) :=
  ⟨3, 5, { dev := { (wMode .ready).wrAll [] with saf := { pairs := [(3, { disc := some 5 })] } } }, by decide +kernel⟩

/-- `Obligations.SafetyPairsAndOutputs`: a state and operands that meet the hypotheses of clause 5. -/
theorem witness_SafetyPairsAndOutputs_5 :
∃ (j e : Nat) (s : State), (s.dev.timingEnd j = some e) :=
  ⟨3, 5, { dev := { (wMode .ready).wrAll [] with saf := { outs := [(3, { timing := some 5 })] } } }, by decide +kernel⟩

/-- `Obligations.SafetyPairsAndOutputs`: a state and operands that meet the hypotheses of clause 7. -/
theorem witness_SafetyPairsAndOutputs_7 :
∃ (i : Nat) (chB : Bool) (s : State), (s.dev.saf.tpWait.contains (2 * i + b2n chB) = true) :=
  ⟨3, false, { dev := { (wMode .ready).wrAll [] with saf := { tpWait := [6] } } }, by decide +kernel⟩

/-- `Obligations.SafetyPairsAndOutputs`: a state and operands that meet the hypotheses of clause 8. -/
theorem witness_SafetyPairsAndOutputs_8 :
∃ (j : Nat) (s : State), (s.dev.rb (A.SAF_OUT_CFG j) 3 = true) ∧ ((s.dev.outp j).on = true) :=
  ⟨3, { dev := { (wMode .ready).wrAll [(A.SAF_OUT_CFG 3, 8)] with saf := { outs := [(3, { on := true })] } } }, by decide +kernel⟩

/-- `Obligations.SafetyCommands`: a state and operands that meet the hypotheses of clause 1. -/
theorem witness_SafetyCommands_1 :
∃ (h : Hdr) (img : List Byte) (keepSame : Bool) (s : State), (s.dev.targetCheck 0x0701 h = none) ∧ (s.dev.safCfgCheck h = none) ∧
    ((s.dev.safJudge (some img) keepSame).1 = none) :=
  ⟨{}, wImage, true, { dev := { (wMode .configure).wrAll [] with host := { attached := true }, saf := { windowEnd := some 9 } } }, by decide +kernel, by decide +kernel, congrArg Prod.fst (wImage_judge _ rfl)⟩

/-- `Obligations.SafetyCommands`: a state and operands that meet the hypotheses of clause 2. -/
theorem witness_SafetyCommands_2 :
∃ (h : Hdr) (image : Option (List Byte)) (keepSame : Bool) (off why : Nat) (s : State), (s.dev.targetCheck 0x0701 h = none) ∧
    (s.dev.safCfgCheck h = none) ∧ ((s.dev.safJudge image keepSame).1 = some (why, off)) :=
  ⟨{}, none, true, 0, 0x05, { dev := { (wMode .configure).wrAll [] with host := { attached := true }, saf := { windowEnd := some 9 } } }, by decide +kernel⟩

/-- `Obligations.SafetyCommands`: a state and operands that meet the hypotheses of clause 3. -/
theorem witness_SafetyCommands_3 :
∃ (h : Hdr) (s : State), (s.dev.targetCheck 0x0702 h = none) ∧ (h.mask = 0) ∧ (s.dev.holding = true) ∧ (s.dev.rb A.SAF_CFG_GEN 25 = true)
    ∧ (s.dev.resetReady = true) ∧ (s.dev.holdClear = true) :=
  ⟨{}, { dev := { (wMode .safeHold).wrAll [(A.SAF_CFG_GEN, 0x20003E8), (A.SAF_STATUS, 1)] with host := { attached := true }, saf := { turretOk := true, keepOk := true, turretTest := some 0, keepTest := some 0 } } }, by decide +kernel⟩

/-- `Obligations.SafetyCommands`: a state and operands that meet the hypotheses of clause 4. -/
theorem witness_SafetyCommands_4 :
∃ (h : Hdr) (m : Nat) (s : State), (s.dev.targetCheck 0x0703 h = none) ∧ (h.mask = 0) ∧ (m < 16) ∧ (s.dev.rb A.SAF_CFG_GEN 25 = true) ∧
    (s.dev.resetReady = true) ∧ ((maskList 4 m).all s.dev.groupClear = true) ∧ (((maskList 4 m).filter s.dev.grpLatched).isEmpty = false) :=
  ⟨{}, 2, { dev := { (wMode .ready).wrAll [(A.SAF_CFG_GEN, 0x20003E8), (A.SAF_STATUS, 1)] with host := { attached := true }, saf := { turretOk := true, keepOk := true, turretTest := some 0, keepTest := some 0, groups := [(1, { latched := true })] } } }, by decide +kernel⟩

/-- `Obligations.SafetyCommands`: a state and operands that meet the hypotheses of clause 5. -/
theorem witness_SafetyCommands_5 :
∃ (h : Hdr) (m on : Nat) (s : State), (s.dev.targetCheck 0x0704 h = none) ∧ (h.mask = 0) ∧ (m < 16) ∧ (on < 2) :=
  ⟨{}, 2, 1, wReady, by decide +kernel⟩

/-- `Obligations.SafetyCommands`: a state and operands that meet the hypotheses of clause 6. -/
theorem witness_SafetyCommands_6 :
∃ (h : Hdr) (g dir : Nat) (s : State), (s.dev.targetCheck 0x0705 h = none) ∧ (h.mask = 0) ∧ (g < 4) ∧ (dir < 3) ∧ (s.dev.rb (A.SAF_FN_EN
    g) 2 = true) :=
  ⟨{}, 1, 2, wRegs [(A.SAF_FN_EN 1, 4)], by decide +kernel⟩

/-- `Obligations.SafetyCommands`: a state and operands that meet the hypotheses of clause 7. -/
theorem witness_SafetyCommands_7 :
∃ (h : Hdr) (s : State), (s.dev.targetCheck 0x0706 h = none) ∧ (h.mask = 0) ∧ (s.dev.sys.mode = .degraded) :=
  ⟨{}, { dev := { (wMode .degraded).wrAll [] with host := { attached := true }, saf := {  } } }, by decide +kernel⟩

/-- `Obligations.SafetyCommands`: a state and operands that meet the hypotheses of clause 8. -/
theorem witness_SafetyCommands_8 :
∃ (h : Hdr) (b : List Byte) (dest : Nat) (s : State), (s.dev.targetCheck 0x0707 h = none) ∧ (s.dev.inspCheck h (some b) = none) ∧ ((byteAt
    b 0 = 2 ∨ byteAt b 0 = 3)) :=
  ⟨{}, 3 :: 1 :: 8 :: List.replicate 125 0, 0, { dev := { (wMode .inspection).wrAll [(A.SAF_IN_CFG 0, 0x26000001), (A.SAF_IN_CFG 1, 0x29000002)] with host := { attached := true }, saf := { key := true, pairs := [(0, { a := true, b := true }), (1, { a := true })] } } }, by decide +kernel⟩

/-- `Obligations.SafetyCommands`: a state and operands that meet the hypotheses of clause 9. -/
theorem witness_SafetyCommands_9 :
∃ (h : Hdr) (b : List Byte) (dest : Nat) (s : State), (s.dev.targetCheck 0x0707 h = none) ∧ (s.dev.inspCheck h (some b) = none) ∧ (byteAt
    b 0 = 1) :=
  ⟨{}, 1 :: 1 :: 8 :: List.replicate 125 0, 0, { dev := { (wMode .inspection).wrAll [(A.SAF_IN_CFG 0, 0x26000001)] with host := { attached := true }, saf := { key := true, pairs := [(0, { a := true, b := true })] }, core := [(8, { state := .hold })] } }, by decide +kernel⟩

/-- `Obligations.SafetyCommands`: a state and operands that meet the hypotheses of clause 10. -/
theorem witness_SafetyCommands_10 :
∃ (h : Hdr) (b : List Byte) (dest : Nat) (s : State), (s.dev.targetCheck 0x0707 h = none) ∧ (s.dev.inspCheck h (some b) = none) ∧ (byteAt
    b 0 = 4) :=
  ⟨{}, 4 :: 1 :: 8 :: List.replicate 125 0, 0, { dev := { (wMode .inspection).wrAll [(A.SAF_IN_CFG 0, 0x26000001)] with host := { attached := true }, saf := { key := true, pairs := [(0, { a := true, b := true })] }, core := [(8, { state := .move })] } }, by decide +kernel⟩

/-- `Obligations.SafetyCommands`: a state and operands that meet the hypotheses of clause 11. -/
theorem witness_SafetyCommands_11 :
∃ (metrics : List F32) (f c : Bool) (s : State), (s.dev.saf.insp = none) :=
  ⟨[], true, true, wReady, by decide +kernel⟩

/-- `Obligations.SafetyCommands`: a state and operands that meet the hypotheses of clause 12. -/
theorem witness_SafetyCommands_12 :
∃ (metrics : List F32) (f : Bool) (i : InspSt) (s : State), (s.dev.saf.insp = some i) ∧ ((f = true ∧ i.aborted = false ∨ f = false ∧
    (i.aborted = true ∨ i.start + msCnt (leAt i.block 4 4) ≤ s.dev.time.cnt))) :=
  ⟨[], false, { cmd := {}, block := [], dest := 0, start := 0, startTime := 0, aborted := true }, { dev := { (wMode .inspection).wrAll [] with host := { attached := true }, saf := { insp := some { cmd := {}, block := [], dest := 0, start := 0, startTime := 0, aborted := true } } } }, by decide +kernel⟩

/-- `Obligations.SafetyCommands`: a state and operands that meet the hypotheses of clause 13. -/
theorem witness_SafetyCommands_13 :
∃ (metrics : List F32) (f : Bool) (i : InspSt) (s : State), (s.dev.saf.insp = some i) ∧ ((f = true ∧ i.aborted = false ∨ f = false ∧
    (i.aborted = true ∨ i.start + msCnt (leAt i.block 4 4) ≤ s.dev.time.cnt))) :=
  ⟨[], false, { cmd := {}, block := [], dest := 0, start := 0, startTime := 0, aborted := true }, { dev := { (wMode .inspection).wrAll [] with host := { attached := true }, saf := { insp := some { cmd := {}, block := [], dest := 0, start := 0, startTime := 0, aborted := true } } } }, by decide +kernel⟩

/-- `Obligations.SafetyCommands`: a state and operands that meet the hypotheses of clause 14. -/
theorem witness_SafetyCommands_14 :
∃ (h : Hdr) (challenge : List Byte) (dest : Nat) (s : State), (s.dev.targetCheck 0x0708 h = none) ∧ (h.mask = 0) ∧ (s.dev.saf.key = true) :=
  ⟨{}, [], 64, { dev := { (wMode .ready).wrAll [] with host := { attached := true }, saf := { key := true } } }, by decide +kernel⟩

/-- `Obligations.SafetyCommands`: a state and operands that meet the hypotheses of clause 15. -/
theorem witness_SafetyCommands_15 :
∃ (h : Hdr) (s : State), (s.dev.targetCheck 0x0709 h = none) ∧ (h.mask = 0) :=
  ⟨{}, wReady, by decide +kernel⟩

/-- `Obligations.SafetyCommands`: a state and operands that meet the hypotheses of clause 16. -/
theorem witness_SafetyCommands_16 :
∃ (r : Req) (v : Word) (within : Bool) (s : State), (s.dev.accepts r (A.SAF_UNLOCK) v = true) ∧ (s.dev.rb A.SAF_UNLOCK_STATUS 1 = false) ∧
    (s.dev.saf.keyAt = none) ∧ (field 15 0 v = 0xC35A) :=
  ⟨Req.manager, 0xC35A, true, wReady, by decide +kernel⟩

/-- `Obligations.SafetyCommands`: a state and operands that meet the hypotheses of clause 17. -/
theorem witness_SafetyCommands_17 :
∃ (r : Req) (v : Word) (t : Nat) (s : State), (s.dev.accepts r (A.SAF_UNLOCK) v = true) ∧ (s.dev.rb A.SAF_UNLOCK_STATUS 1 = false) ∧
    (s.dev.saf.keyAt = some t) ∧ (field 15 0 v = 0x5AC3) :=
  ⟨Req.manager, 0x5AC3, 5, { wReady with dev := { wReady.dev with saf := { keyAt := some 5 } } }, by decide +kernel⟩

/-- `Obligations.SafetyCommands`: a state and operands that meet the hypotheses of clause 18. -/
theorem witness_SafetyCommands_18 :
∃ (e : Nat) (s : State), (s.dev.saf.windowEnd = some e) :=
  ⟨9, { dev := { (wMode .ready).wrAll [] with host := { attached := true }, saf := { windowEnd := some 9 } } }, by decide +kernel⟩

/-- `Obligations.SafetyCommands`: a state and operands that meet the hypotheses of clause 19. -/
theorem witness_SafetyCommands_19 :
∃ (e : Nat) (s : State), (s.dev.upd.windowEnd = some e) :=
  ⟨9, { dev := { upd := { windowEnd := some 9 } } }, by decide +kernel⟩

/-- `Obligations.SafetyCommands`: a state and operands that meet the hypotheses of clause 20. -/
theorem witness_SafetyCommands_20 :
∃ (s : State), (s.dev.debugOpen = true) ∧ (s.dev.saf.turretHalted = false) ∧ (s.dev.anyEnergised = true) :=
  ⟨{ dev := { (wMode .ready) with upd := { tapLogic := 0x10 }, saf := { outs := [(1, { on := true })] } } }, by decide +kernel⟩

/-- `Obligations.SafetyCommands`: a state and operands that meet the hypotheses of clause 21. -/
theorem witness_SafetyCommands_21 :
∃ (s : State), (s.dev.debugOpen = true) ∧ (s.dev.saf.turretHalted = false) ∧ (s.dev.anyEnergised = false) :=
  ⟨{ dev := { (wMode .ready) with upd := { tapLogic := 0x10 } } }, by decide +kernel⟩

/-- `Obligations.SafetyCommands`: a state and operands that meet the hypotheses of clause 22. -/
theorem witness_SafetyCommands_22 :
∃ (pass : Bool) (s : State), (s.dev.saf.turretHalted = true) :=
  ⟨true, { dev := { (wMode .ready).wrAll [] with host := { attached := true }, saf := { turretHalted := true } } }, by decide +kernel⟩

/-- `Obligations.RegistersThatCommand`: a state and operands that meet the hypotheses of clause 1. -/
theorem witness_RegistersThatCommand_1 :
∃ (r : Req) (v : Word) (s : State), (s.dev.accepts r (A.SYS_OVERRUN) v = true) ∧ (bit 31 v = true) :=
  ⟨Req.manager, 0x80000000, wReady, by decide +kernel⟩

/-- `Obligations.RegistersThatCommand`: a state and operands that meet the hypotheses of clause 2. -/
theorem witness_RegistersThatCommand_2 :
∃ (r : Req) (v : Word) (s : State), (s.dev.accepts r (A.SYS_S1_PEAK) v = true) ∧ (bit 31 v = true) :=
  ⟨Req.manager, 0x80000000, wReady, by decide +kernel⟩

/-- `Obligations.RegistersThatCommand`: a state and operands that meet the hypotheses of clause 3. -/
theorem witness_RegistersThatCommand_3 :
∃ (r : Req) (v : Word) (s : State), (s.dev.accepts r (A.SYS_DIP_LAST) v = true) ∧ (bit 31 v = true) :=
  ⟨Req.manager, 0x80000000, wReady, by decide +kernel⟩

/-- `Obligations.RegistersThatCommand`: a state and operands that meet the hypotheses of clause 4. -/
theorem witness_RegistersThatCommand_4 :
∃ (r : Req) (v : Word) (s : State), (s.dev.accepts r (A.BELFRY_LOG_SW) v = true) :=
  ⟨Req.manager, 7, wReady, by decide +kernel⟩

/-- `Obligations.RegistersThatCommand`: a state and operands that meet the hypotheses of clause 5. -/
theorem witness_RegistersThatCommand_5 :
∃ (r : Req) (v : Word) (s : State), (s.dev.accepts r (A.BELFRY_BKP_CTRL) v = true) ∧ (bit 0 v = true) :=
  ⟨Req.manager, 1, wReady, by decide +kernel⟩

/-- `Obligations.RegistersThatCommand`: a state and operands that meet the hypotheses of clause 6. -/
theorem witness_RegistersThatCommand_6 :
∃ (r : Req) (cc i q : Nat) (x : Sq) (v : Word) (s : State), (s.dev.accepts r (A.HOST_SQ_TAIL cc i) v = true) ∧ (cc < 512) ∧ (i < 8) ∧
    (s.dev.sqAt cc i = some (q, x)) ∧ (field 11 0 v < 2 ^ x.k) ∧ (s.dev.sqStopped x = false) ∧ ((field 11 0 v + 2 ^ x.k - x.tail % 2 ^
    x.k) % 2 ^ x.k ≠ 0) :=
  ⟨Req.manager, 0, 0, 0, { client := 0, loc := 0, cls := 1, cq := 0, base := 0, k := 4 }, 3, { wReady with dev := { wReady.dev with host := { wReady.dev.host with sqs := [(0, { client := 0, loc := 0, cls := 1, cq := 0, base := 0, k := 4 })] } } }, by decide +kernel⟩

/-- `Obligations.RegistersThatCommand`: a state and operands that meet the hypotheses of clause 7. -/
theorem witness_RegistersThatCommand_7 :
∃ (r : Req) (cc i q : Nat) (x : Cq) (v : Word) (s : State), (s.dev.accepts r (A.HOST_CQ_HEAD cc i) v = true) ∧ (cc < 512) ∧ (i < 8) ∧
    (s.dev.cqAt cc i = some (q, x)) :=
  ⟨Req.manager, 0, 0, 0, { client := 0, loc := 0, base := 0, k := 4, vector := 0 }, 0, { wReady with dev := { wReady.dev with host := { wReady.dev.host with cqs := [(0, { client := 0, loc := 0, base := 0, k := 4, vector := 0 })] } } }, by decide +kernel⟩

/-- `Obligations.RegistersThatCommand`: a state and operands that meet the hypotheses of clause 8. -/
theorem witness_RegistersThatCommand_8 :
∃ (r : Req) (cc : Nat) (v : Word) (s : State), (s.dev.accepts r (A.HOST_EVQ_HEAD cc) v = true) ∧ (cc < 512) :=
  ⟨Req.manager, 0, 0, wReady, by decide +kernel⟩

/-- `Obligations.RegistersThatCommand`: a state and operands that meet the hypotheses of clause 9. -/
theorem witness_RegistersThatCommand_9 :
∃ (r : Req) (c : Nat) (v : Word) (s : State), (s.dev.accepts r (A.DMA_CH_TAIL c) v = true) ∧ (c < 32) :=
  ⟨Req.manager, 3, 5, wReady, by decide +kernel⟩

/-- `Obligations.RegistersThatCommand`: a state and operands that meet the hypotheses of clause 10. -/
theorem witness_RegistersThatCommand_10 :
∃ (r : Req) (c : Nat) (s : State), (s.dev.accepts r (A.DMA_CH_CTRL c) 1 = true) ∧ (c < 32) ∧ (((s.dev.ch c).state = .idle ∨ (s.dev.ch
    c).state = .error)) ∧ (s.dev.fld (A.DMA_CH_OWN c) 23 16 ≠ 0) :=
  ⟨Req.manager, 3, wRegs [(A.DMA_CH_OWN 3, 0x40000)], by decide +kernel⟩

/-- `Obligations.RegistersThatCommand`: a state and operands that meet the hypotheses of clause 11. -/
theorem witness_RegistersThatCommand_11 :
∃ (r : Req) (c : Nat) (s : State), (s.dev.accepts r (A.DMA_CH_CTRL c) 2 = true) ∧ (c < 32) ∧ ((s.dev.ch c).state ≠ .idle) :=
  ⟨Req.manager, 3, { wReady with dev := { wReady.dev with dma := { chans := [(3, { state := .run })] } } }, by decide +kernel⟩

/-- `Obligations.RegistersThatCommand`: a state and operands that meet the hypotheses of clause 12. -/
theorem witness_RegistersThatCommand_12 :
∃ (r : Req) (c : Nat) (s : State), (s.dev.accepts r (A.DMA_CH_CTRL c) 4 = true) ∧ (c < 32) ∧ (r.admin = true) ∧ ((s.dev.ch c).state =
    .halted) ∧ ((s.dev.ch c).cand = true) ∧ (s.dev.dma.probing = none) :=
  ⟨Req.manager, 3, { wReady with dev := { wReady.dev with dma := { chans := [(3, { state := .halted, cand := true })] } } }, by decide +kernel⟩

/-- `Obligations.RegistersThatCommand`: a state and operands that meet the hypotheses of clause 13. -/
theorem witness_RegistersThatCommand_13 :
∃ (r : Req) (v : Word) (s : State), (s.dev.accepts r (A.DMA_RESUME) v = true) :=
  ⟨Req.manager, 8, wReady, by decide +kernel⟩

/-- `Obligations.RegistersThatCommand`: a state and operands that meet the hypotheses of clause 14. -/
theorem witness_RegistersThatCommand_14 :
∃ (r : Req) (v : Word) (s : State), (s.dev.accepts r (A.FIELD_OUT_SET) v = true) :=
  ⟨Req.manager, 8, wReady, by decide +kernel⟩

/-- `Obligations.RegistersThatCommand`: a state and operands that meet the hypotheses of clause 15. -/
theorem witness_RegistersThatCommand_15 :
∃ (r : Req) (v : Word) (s : State), (s.dev.accepts r (A.FIELD_OUT_CLR) v = true) :=
  ⟨Req.manager, 8, wReady, by decide +kernel⟩

/-- `Obligations.RegistersThatCommand`: a state and operands that meet the hypotheses of clause 16. -/
theorem witness_RegistersThatCommand_16 :
∃ (r : Req) (k : Nat) (v : Word) (s : State), (s.dev.accepts r (A.CAN_TX_PUT k) v = true) ∧ (k < 4) ∧ (dist16 (field 15 0 v) (s.dev.cnt16
    (A.CAN_TX_ACK k)) ≤ 64) ∧ (dist16 (field 15 0 v) (s.dev.cnt16 (A.CAN_TX_DONE k)) ≤ 64) :=
  ⟨Req.manager, 2, 5, wReady, by decide +kernel⟩

/-- `Obligations.RegistersThatCommand`: a state and operands that meet the hypotheses of clause 17. -/
theorem witness_RegistersThatCommand_17 :
∃ (r : Req) (k : Nat) (v : Word) (s : State), (s.dev.accepts r (A.CAN_RX_ACK k) v = true) ∧ (k < 4) ∧ (dist16 (s.dev.cnt16 (A.CAN_RX_WP
    k)) (field 15 0 v) ≤ dist16 (s.dev.cnt16 (A.CAN_RX_WP k)) (s.dev.cnt16 (A.CAN_RX_ACK k))) ∧ (s.dev.rb A.TEST_CAN_ACK k = false) :=
  ⟨Req.manager, 2, 0, wReady, by decide +kernel⟩

/-- `Obligations.RegistersThatCommand`: a state and operands that meet the hypotheses of clause 18. -/
theorem witness_RegistersThatCommand_18 :
∃ (r : Req) (n : Nat) (v : Word) (s : State), (s.dev.accepts r (A.UART_DATA n) v = true) ∧ (n < 2) ∧ ((s.dev.uart n).tx.length < 64) :=
  ⟨Req.manager, 1, 5, wReady, by decide +kernel⟩

/-- `Obligations.RegistersThatCommand`: a state and operands that meet the hypotheses of clause 19. -/
theorem witness_RegistersThatCommand_19 :
∃ (r : Req) (n : Nat) (v : Word) (s : State), (s.dev.accepts r (A.AX_SNAP_CTRL n) v = true) ∧ (n < 32) ∧ (bit 0 v = true) ∧ (s.dev.lead n
    = n) ∧ (s.dev.rb (A.AX_SNAP_CTRL n) 0 = false) ∧ ((s.dev.ax n).state ≠ .fault) :=
  ⟨Req.manager, 3, 1, wReady, by decide +kernel⟩

/-- `Obligations.RegistersThatCommand`: a state and operands that meet the hypotheses of clause 20. -/
theorem witness_RegistersThatCommand_20 :
∃ (r : Req) (v : Word) (within : Bool) (s : State), (s.dev.accepts r (A.TEST_UNLOCK) v = true) ∧ (s.dev.rb A.TEST_UNLOCK_STATUS 1 = false)
    ∧ (s.dev.upd.keyAt = none) ∧ (field 15 0 v = 0x7E5A) :=
  ⟨Req.manager, 0x7E5A, true, wReady, by decide +kernel⟩

/-- `Obligations.RegistersThatCommand`: a state and operands that meet the hypotheses of clause 21. -/
theorem witness_RegistersThatCommand_21 :
∃ (r : Req) (addr width : Nat) (s : State), (wideParts width = 0) :=
  ⟨Req.manager, 0x110, 4, wReady, by decide +kernel⟩

/-- `Obligations.RegistersThatTakeAWord`: a state and operands that meet the hypotheses of clause 1. -/
theorem witness_RegistersThatTakeAWord_1 :
∃ (r : Req) (v : Word) (s : State), (s.dev.accepts r (A.SYS_TICK_CFG) v = true) ∧ ((s.dev.taken r (A.SYS_TICK_CFG) v).2 = none) :=
  ⟨Req.manager, 0x101, { wReady with dev := { wReady.dev with sys := { mode := .configure } } }, by decide +kernel⟩

/-- `Obligations.RegistersThatTakeAWord`: a state and operands that meet the hypotheses of clause 2. -/
theorem witness_RegistersThatTakeAWord_2 :
∃ (r : Req) (v : Word) (t : Nat) (s : State), (s.dev.isRoot = false) ∧ (field 1 0 v ≤ 2) ∧ (field 1 0 v ≠ s.dev.fld A.SYS_TICK_CFG 1 0) :=
  ⟨Req.manager, 2, 5, wReady, by decide +kernel⟩

/-- `Obligations.RegistersThatTakeAWord`: a state and operands that meet the hypotheses of clause 3. -/
theorem witness_RegistersThatTakeAWord_3 :
∃ (r : Req) (i : Nat) (v : Word) (s : State), (s.dev.accepts r (A.SYS_WAKE_BUDGET i) v = true) ∧ (i < 64) ∧ ((s.dev.taken r
    (A.SYS_WAKE_BUDGET i) v).2 = none) :=
  ⟨Req.manager, 1, 100, wReady, by decide +kernel⟩

/-- `Obligations.RegistersThatTakeAWord`: a state and operands that meet the hypotheses of clause 4. -/
theorem witness_RegistersThatTakeAWord_4 :
∃ (r : Req) (i : Nat) (v : Word) (s : State), (s.dev.accepts r (A.EVT_ROUTE i) v = true) ∧ (i < 96) ∧ ((s.dev.taken r (A.EVT_ROUTE i) v).2
    = none) :=
  ⟨Req.manager, 1, 0, wReady, by decide +kernel⟩

/-- `Obligations.RegistersThatTakeAWord`: a state and operands that meet the hypotheses of clause 5. -/
theorem witness_RegistersThatTakeAWord_5 :
∃ (r : Req) (i : Nat) (v : Word) (s : State), (s.dev.accepts r (A.BELFRY_RULE_ACT i) v = true) ∧ (i < 32) ∧ ((s.dev.taken r
    (A.BELFRY_RULE_ACT i) v).2 = none) :=
  ⟨Req.manager, 1, 0, wReady, by decide +kernel⟩

/-- `Obligations.RegistersThatTakeAWord`: a state and operands that meet the hypotheses of clause 6. -/
theorem witness_RegistersThatTakeAWord_6 :
∃ (r : Req) (i : Nat) (v : Word) (s : State), (s.dev.accepts r (A.BELFRY_RULE_COND i) v = true) ∧ (i < 32) ∧ ((s.dev.taken r
    (A.BELFRY_RULE_COND i) v).2 = none) :=
  ⟨Req.manager, 1, 0, wReady, by decide +kernel⟩

/-- `Obligations.RegistersThatTakeAWord`: a state and operands that meet the hypotheses of clause 7. -/
theorem witness_RegistersThatTakeAWord_7 :
∃ (r : Req) (v : Word) (s : State), (s.dev.accepts r (A.HOST_ADM_CFG) v = true) ∧ ((s.dev.taken r (A.HOST_ADM_CFG) v).2 = none) :=
  ⟨Req.manager, 0x80000044, wReady, by decide +kernel⟩

/-- `Obligations.RegistersThatTakeAWord`: a state and operands that meet the hypotheses of clause 8. -/
theorem witness_RegistersThatTakeAWord_8 :
∃ (r : Req) (i : Nat) (v : Word) (s : State), (s.dev.accepts r (A.HOST_EVQ_CFG i) v = true) ∧ (i < 512) ∧ ((s.dev.taken r (A.HOST_EVQ_CFG
    i) v).2 = none) :=
  ⟨Req.manager, 0, 0x80000004, wReady, by decide +kernel⟩

/-- `Obligations.RegistersThatTakeAWord`: a state and operands that meet the hypotheses of clause 9. -/
theorem witness_RegistersThatTakeAWord_9 :
∃ (r : Req) (i : Nat) (v : Word) (s : State), (s.dev.accepts r (A.DMA_CH_OWN i) v = true) ∧ (i < 32) ∧ ((s.dev.taken r (A.DMA_CH_OWN i)
    v).2 = none) :=
  ⟨Req.manager, 1, 0x10000, wReady, by decide +kernel⟩

/-- `Obligations.RegistersThatTakeAWord`: a state and operands that meet the hypotheses of clause 10. -/
theorem witness_RegistersThatTakeAWord_10 :
∃ (r : Req) (i : Nat) (v : Word) (s : State), (s.dev.accepts r (A.FIELD_CH_CFG i) v = true) ∧ (i < 32) ∧ ((s.dev.taken r (A.FIELD_CH_CFG
    i) v).2 = none) :=
  ⟨Req.manager, 1, 0x0a000002, wReady, by decide +kernel⟩

/-- `Obligations.RegistersThatTakeAWord`: a state and operands that meet the hypotheses of clause 11. -/
theorem witness_RegistersThatTakeAWord_11 :
∃ (r : Req) (i : Nat) (s : State), (s.dev.accepts r (A.CAN_CTRL i) (s.dev.rd (A.CAN_CTRL i) ||| 0x20) = true) ∧ (i < 4) ∧ ((s.dev.taken r
    (A.CAN_CTRL i) (s.dev.rd (A.CAN_CTRL i) ||| 0x20)).2 = none) ∧ (bit 5 (s.dev.rd (A.CAN_CTRL i) ||| 0x20) = true) ∧ (bit 0 (s.dev.taken
    r (A.CAN_CTRL i) (s.dev.rd (A.CAN_CTRL i) ||| 0x20)).1 = bit 0 (s.dev.rd (A.CAN_CTRL i))) :=
  ⟨Req.manager, 1, wReady, by decide +kernel⟩

/-- `Obligations.RegistersThatTakeAWord`: a state and operands that meet the hypotheses of clause 12. -/
theorem witness_RegistersThatTakeAWord_12 :
∃ (r : Req) (i u : Nat) (v : Word) (s : State), (s.dev.accepts r (A.FB_LAT_CTRL i u) v = true) ∧ (i < 32) ∧ (u < 2) ∧ ((s.dev.taken r
    (A.FB_LAT_CTRL i u) v).2 = none) ∧ (bit 10 v = true) :=
  ⟨Req.manager, 3, 1, 0x400, wReady, by decide +kernel⟩

/-- `Obligations.RegistersThatTakeAWord`: a state and operands that meet the hypotheses of clause 13. -/
theorem witness_RegistersThatTakeAWord_13 :
∃ (r : Req) (i : Nat) (v : Word) (s : State), (s.dev.accepts r (A.PROF_STREAM_WP i) v = true) ∧ (i < 32) ∧ ((s.dev.taken r
    (A.PROF_STREAM_WP i) v).2 = none) :=
  ⟨Req.manager, 3, 5, wReady, by decide +kernel⟩

/-- `Obligations.RegistersThatTakeAWord`: a state and operands that meet the hypotheses of clause 14. -/
theorem witness_RegistersThatTakeAWord_14 :
∃ (r : Req) (i : Nat) (v : Word) (granted : Bool) (s : State), (s.dev.accepts r (A.GEAR_PUB_CFG i) v = true) ∧ (i < 16) ∧ ((s.dev.taken r
    (A.GEAR_PUB_CFG i) v).2 = none) :=
  ⟨Req.manager, 1, 0x80, true, { wReady with dev := { wReady.dev with sys := { mode := .configure } } }, by decide +kernel⟩

/-- `Obligations.RegistersThatTakeAWord`: a state and operands that meet the hypotheses of clause 15. -/
theorem witness_RegistersThatTakeAWord_15 :
∃ (r : Req) (i : Nat) (v : Word) (granted : Nat) (s : State), (s.dev.accepts r (A.LS_GRP_CFG i) v = true) ∧ (i < 8) ∧ ((s.dev.taken r
    (A.LS_GRP_CFG i) v).2 = none) :=
  ⟨Req.manager, 1, 0x6401, 1, { wReady with dev := { wReady.dev with sys := { mode := .configure } } }, by decide +kernel⟩

/-- `Obligations.RegistersThatTakeAWord`: a state and operands that meet the hypotheses of clause 16. -/
theorem witness_RegistersThatTakeAWord_16 :
∃ (r : Req) (v : Word) (s : State), (s.dev.accepts r (A.OCU_RING_RP) v = true) ∧ ((s.dev.taken r (A.OCU_RING_RP) v).2 = none) :=
  ⟨Req.manager, 0, wReady, by decide +kernel⟩

/-- `Obligations.RegistersThatTakeAWord`: a state and operands that meet the hypotheses of clause 17. -/
theorem witness_RegistersThatTakeAWord_17 :
∃ (r : Req) (addr : Nat) (row : RegRow) (v : Word) (more : List Word) (s : State), (s.dev.accepts r addr v = true) ∧ (regRow (regKey addr)
    = some row) ∧ (s.dev.accessed.commandReg r row (regKey addr) v {} = none) ∧ (pairOf row (regKey addr) = none) ∧ (isPerturbation
    (regKey addr) = false) :=
  ⟨Req.manager, A.EVT_ROUTE 1, (regRow (A.EVT_ROUTE 1)).getD (mkRow "" 0 0 0 0 0 0 0 0 0 [] .any .any), 0, [], wReady, by decide +kernel⟩

/-- `Obligations.RegistersThatTakeAWord`: a state and operands that meet the hypotheses of clause 18. -/
theorem witness_RegistersThatTakeAWord_18 :
∃ (r : Req) (addr width : Nat) (v : Word) (more : List Word) (s : State), (s.dev.reaches r = true) ∧ (misaligned addr width = true) ∧
    (wideParts width = 0) :=
  ⟨Req.manager, 2, 4, 0, [], wReady, by decide +kernel⟩

/-- `Obligations.RegistersThatTakeAWord`: a state and operands that meet the hypotheses of clause 19. -/
theorem witness_RegistersThatTakeAWord_19 :
∃ (r : Req) (addr : Nat) (k : Kind) (v : Word) (more : List Word) (s : State), (s.dev.reaches r = true) ∧ (addr % 4 = 0) ∧
    (s.dev.accessed.judge r (regKey addr) false true = .bad k) :=
  ⟨{ cc := 1, port := .pcie }, A.HOST_ADM_CFG, .notPermitted, 0, [], wReady, by decide +kernel⟩

/-- `Obligations.RegistersThatTakeAWord`: a state and operands that meet the hypotheses of clause 21. -/
theorem witness_RegistersThatTakeAWord_21 :
∃ (r : Req) (addr : Nat) (row : RegRow) (v : Word) (more : List Word) (s : State), (s.dev.accepts r addr v = true) ∧ (regRow addr = some
    row) ∧ (regKey addr = addr) ∧ (s.dev.accessed.commandReg r row addr v {} = none) ∧ (pairOf row addr = none) ∧ (isPerturbation addr =
    true) ∧ ((s.dev.taken r addr v).2 = none) :=
  ⟨Req.manager, A.TEST_CAN_ACK, (regRow A.TEST_CAN_ACK).getD (mkRow "" 0 0 0 0 0 0 0 0 0 [] .any .any), 0x101, [], { wReady with dev := { wReady.dev with sys := { mode := .configure } } }, by decide +kernel⟩

/-- `Obligations.RegistersThatTakeAWord`: a state and operands that meet the hypotheses of clause 22. -/
theorem witness_RegistersThatTakeAWord_22 :
∃ (r : Req) (addr low : Nat) (row : RegRow) (v : Word) (s : State), (s.dev.accepts r addr v = true) ∧ (regRow addr = some row) ∧ (regKey
    addr = addr) ∧ (pairOf row addr = some (low, true)) ∧ (s.dev.accessed.commandReg r row addr v {} = none) ∧ (s.dev.limitsCross
    (row.idx1 addr) low (toSigned 48 ((AList.get (s.dev.rd low) s.dev.fbd.staged low).toNat + 2 ^ 32 * field 15 0 v)) = false) ∧ (low ≠
    A.FB_REF_VAL_LO (row.idx1 addr)) :=
  ⟨Req.manager, A.FB_ORIGIN_LO 3 + 4, A.FB_ORIGIN_LO 3, (regRow (A.FB_ORIGIN_LO 3 + 4)).getD (mkRow "" 0 0 0 0 0 0 0 0 0 [] .any .any), 1, wReady, by decide +kernel⟩

/-- `Obligations.SubmissionAndCompletion`: a state and operands that meet the hypotheses of clause 1. -/
theorem witness_SubmissionAndCompletion_1 :
∃ (q : Nat) (x : Sq) (entry : List Byte) (readOk cqOk : Bool) (data : Option (List Byte)) (same : Bool) (s : State), (AList.find
    s.dev.host.sqs q = some x) ∧ (s.dev.fetchable x = true) ∧ (s.dev.host.sqs.any (fun o => o.1 != q && s.dev.goesBefore o.1 o.2 x) =
    false) ∧ ((!readOk && !s.dev.host.spi) = false) ∧ ((nbit 0 (byteAt (if s.dev.host.spi then s.dev.mbs (0xE0000 + (x.base + 64 * (x.head
    % 2 ^ x.k)) % ringMemory) 64 else bytesAt entry 0 64) 2) && s.dev.host.inflight.any (fun f => f.sq == q)) = false) :=
  ⟨5, { client := 0, loc := 0, cls := 1, cq := 5, base := 0, k := 4, tail := 1 }, [], true, true, none, true, { wReady with dev := { wReady.dev with host := { wReady.dev.host with sqs := [(5, { client := 0, loc := 0, cls := 1, cq := 5, base := 0, k := 4, tail := 1 })], cqs := [(5, { client := 0, loc := 0, base := 0, k := 4, vector := 0 })] } } }, by decide +kernel⟩

/-- `Obligations.SubmissionAndCompletion`: a state and operands that meet the hypotheses of clause 2. -/
theorem witness_SubmissionAndCompletion_2 :
∃ (q : Nat) (x : Sq) (entry : List Byte) (readOk cqOk : Bool) (data : Option (List Byte)) (same : Bool) (s : State), (AList.find
    s.dev.host.sqs q = some x) ∧ (s.dev.fetchable x = true) ∧ (s.dev.host.sqs.any (fun o => o.1 != q && s.dev.goesBefore o.1 o.2 x) =
    false) ∧ ((!readOk && !s.dev.host.spi) = false) ∧ ((nbit 0 (byteAt (if s.dev.host.spi then s.dev.mbs (0xE0000 + (x.base + 64 * (x.head
    % 2 ^ x.k)) % ringMemory) 64 else bytesAt entry 0 64) 2) && s.dev.host.inflight.any (fun f => f.sq == q)) = true) :=
  ⟨5, { client := 0, loc := 0, cls := 1, cq := 5, base := 0, k := 4, tail := 1 }, [0, 0, 1], true, true, none, true, { wReady with dev := { wReady.dev with host := { wReady.dev.host with inflight := [{ cc := 0, sq := 5, tag := 0, node := 0 }], sqs := [(5, { client := 0, loc := 0, cls := 1, cq := 5, base := 0, k := 4, tail := 1 })], cqs := [(5, { client := 0, loc := 0, base := 0, k := 4, vector := 0 })] } } }, by decide +kernel⟩

/-- `Obligations.SubmissionAndCompletion`: a state and operands that meet the hypotheses of clause 3. -/
theorem witness_SubmissionAndCompletion_3 :
∃ (q : Nat) (x : Sq) (entry : List Byte) (readOk cqOk : Bool) (data : Option (List Byte)) (same : Bool) (s : State), (AList.find
    s.dev.host.sqs q = some x) ∧ (s.dev.fetchable x = true) ∧ (s.dev.host.sqs.any (fun o => o.1 != q && s.dev.goesBefore o.1 o.2 x) =
    false) ∧ ((!readOk && !s.dev.host.spi) = true) :=
  ⟨5, { client := 0, loc := 0, cls := 1, cq := 5, base := 0, k := 4, tail := 1 }, [], false, true, none, true, { wReady with dev := { wReady.dev with host := { wReady.dev.host with sqs := [(5, { client := 0, loc := 0, cls := 1, cq := 5, base := 0, k := 4, tail := 1 })], cqs := [(5, { client := 0, loc := 0, base := 0, k := 4, vector := 0 })] } } }, by decide +kernel⟩

/-- `Obligations.SubmissionAndCompletion`: a state and operands that meet the hypotheses of clause 4. -/
theorem witness_SubmissionAndCompletion_4 :
∃ (q : Nat) (c : Cq) (s : State), (AList.find s.dev.host.cqs q = some c) :=
  ⟨5, { client := 0, loc := 0, base := 0, k := 4, vector := 0 }, { wReady with dev := { wReady.dev with host := { wReady.dev.host with sqs := [(5, { client := 0, loc := 0, cls := 1, cq := 5, base := 0, k := 4, tail := 1 })], cqs := [(5, { client := 0, loc := 0, base := 0, k := 4, vector := 0 })] } } }, by decide +kernel⟩

/-- `Obligations.SubmissionAndCompletion`: a state and operands that meet the hypotheses of clause 6. -/
theorem witness_SubmissionAndCompletion_6 :
∃ (cc v : Nat) (s : State), ((AList.get {} s.dev.host.vecs (32 * cc + v)).causes.isEmpty = false) :=
  ⟨0, 3, { wReady with dev := { wReady.dev with host := { wReady.dev.host with vecs := [(3, { causes := [{ cq := none, idx := 0 }] })] } } }, by decide +kernel⟩

/-- `Obligations.SubmissionAndCompletion`: a state and operands that meet the hypotheses of clause 7. -/
theorem witness_SubmissionAndCompletion_7 :
∃ (cc v : Nat) (s : State), (nbit v (AList.get 0 s.dev.host.pba cc) = true) :=
  ⟨0, 3, { wReady with dev := { wReady.dev with host := { wReady.dev.host with pba := [(0, 8)] } } }, by decide +kernel⟩

/-- `Obligations.SubmissionAndCompletion`: a state and operands that meet the hypotheses of clause 8. -/
theorem witness_SubmissionAndCompletion_8 :
∃ (p src sp : Nat) (data : List Byte) (reads : List (Option (List Byte) × Bool)) (s : State), (s.dev.ringsServed = true) ∧ (s.dev.rb
    A.HOST_UDP_CFG 16 = true) ∧ (s.dev.fld A.HOST_UDP_CFG 17 17 = p) ∧ (s.dev.udpMatch src (leAt data 4 2) = none) :=
  ⟨0, 1, 2, [], [], wRegs [(A.HOST_UDP_CFG, 0x10000)], by decide +kernel⟩

/-- `Obligations.SubmissionAndCompletion`: a state and operands that meet the hypotheses of clause 9. -/
theorem witness_SubmissionAndCompletion_9 :
∃ (p src sp b : Nat) (data : List Byte) (reads : List (Option (List Byte) × Bool)) (s : State), (s.dev.ringsServed = true) ∧ (s.dev.rb
    A.HOST_UDP_CFG 16 = true) ∧ (s.dev.fld A.HOST_UDP_CFG 17 17 = p) ∧ (s.dev.udpMatch src (leAt data 4 2) = some b) ∧ (leAt data 0 2 =
    0x4253) ∧ (byteAt data 2 = 1) ∧ (1 ≤ byteAt data 3) ∧ (byteAt data 3 ≤ 16) ∧ (data.length = 8 + 64 * byteAt data 3) :=
  ⟨0, 1, 2, 0, [0x53, 0x42, 1, 1, 0, 0, 0, 0] ++ List.replicate 64 0, [], wRegs [(A.HOST_UDP_CFG, 0x10000), (A.HOST_UDP_BIND 0, 0x8000), (A.HOST_UDP_ADDR 0, 1)], by decide +kernel⟩

/-- `Obligations.SubmissionAndCompletion`: a state and operands that meet the hypotheses of clause 10. -/
theorem witness_SubmissionAndCompletion_10 :
∃ (rest body : List Byte) (s : State), (s.dev.upd.finial = true) ∧ (s.dev.running = true) ∧ (s.dev.sys.mode ≠ .booting) ∧
    (s.dev.finialBody (s.dev.finialFrame rest).1 1 64 = some body) :=
  ⟨wFinial, bytesAt wFinial 2 64, { wReady with dev := { wReady.dev with upd := { finial := true } } }, by decide +kernel⟩

/-- `Obligations.SubmissionAndCompletion`: a state and operands that meet the hypotheses of clause 11. -/
theorem witness_SubmissionAndCompletion_11 :
∃ (rest : List Byte) (s : State), (s.dev.upd.finial = true) ∧ (s.dev.running = true) ∧ (s.dev.sys.mode ≠ .booting) ∧ (s.dev.finialBody
    (s.dev.finialFrame rest).1 1 64 = none) ∧ (s.dev.finialBody (s.dev.finialFrame rest).1 3 4160 = none) :=
  ⟨[], { wReady with dev := { wReady.dev with upd := { finial := true } } }, by decide +kernel⟩

/-- `Obligations.SubmissionAndCompletion`: a state and operands that meet the hypotheses of clause 12. -/
theorem witness_SubmissionAndCompletion_12 :
∃ (rest body : List Byte) (s : State), (s.dev.upd.finial = true) ∧ (s.dev.running = true) ∧ (s.dev.sys.mode ≠ .booting) ∧
    (s.dev.finialBody (s.dev.finialFrame rest).1 3 4160 = some body) :=
  ⟨wBlockFrame, bytesAt wBlockFrame 2 4160, { wReady with dev := { wReady.dev with upd := { finial := true } } }, by decide +kernel, by decide +kernel, by decide +kernel, wBlock_body⟩

/-- `Obligations.SubmissionAndCompletion`: a state and operands that meet the hypotheses of clause 13. -/
theorem witness_SubmissionAndCompletion_13 :
∃ (s : State), (s.dev.upd.finial = true) ∧ (s.dev.upd.frame.isEmpty = false) :=
  ⟨{ dev := { upd := { finial := true, frame := [1] } } }, by decide +kernel⟩

/-- `Obligations.SubmissionAndCompletion`: a state and operands that meet the hypotheses of clause 14. -/
theorem witness_SubmissionAndCompletion_14 :
∃ (t : Nat) (root : Option Nat) (s : State), ((s.dev.sys.pending.toList.map (·.at_) ++ s.dev.sys.rootPending.toList.map (·.2)).min? = some
    t) :=
  ⟨0, none, { dev := { (wMode .configure).wr A.FAB_STATUS 0x80 with sys := { mode := .configure, pending := some { ftSel := 1, mult := 0, at_ := 0 } } } }, by decide +kernel⟩

/-- `Obligations.SubmissionAndCompletion`: a state and operands that meet the hypotheses of clause 15. -/
theorem witness_SubmissionAndCompletion_15 :
∃ (ft : Nat) (s : State), (s.dev.sys.pending = none) ∧ (s.dev.sys.rootPending = none) ∧ (s.dev.isRoot = false) ∧ (ft ≤ 2) :=
  ⟨2, wReady, by decide +kernel⟩

/-- `Obligations.RingLinks`: a state and operands that meet the hypotheses of clause 1. -/
theorem witness_RingLinks_1 :
∃ (p : Nat) (s : State), ((s.dev.setLink p { s.dev.link p with los := true }).linkDown p = false) :=
  ⟨1, { dev := { (wMode .ready).wrAll [] with ring := { ports := [(1, { state := 4 })] } } }, by decide +kernel⟩

/-- `Obligations.RingLinks`: a state and operands that meet the hypotheses of clause 2. -/
theorem witness_RingLinks_2 :
∃ (p : Nat) (s : State), ((s.dev.setLink p { s.dev.link p with los := false }).linkDown p = true) :=
  ⟨1, { dev := { (wMode .ready).wrAll [] with ring := { ports := [(1, { state := 0 })] } } }, by decide +kernel⟩

/-- `Obligations.RingLinks`: a state and operands that meet the hypotheses of clause 3. -/
theorem witness_RingLinks_3 :
∃ (p : Nat) (s : State), ((s.dev.link p).state = 1) :=
  ⟨1, { dev := { (wMode .ready).wrAll [] with ring := { ports := [(1, { state := 1 })] } } }, by decide +kernel⟩

/-- `Obligations.RingLinks`: a state and operands that meet the hypotheses of clause 4. -/
theorem witness_RingLinks_4 :
∃ (p : Nat) (s : State), (((s.dev.link p).state = 3 ∨ (s.dev.link p).state = 5)) :=
  ⟨1, { dev := { (wMode .ready).wrAll [] with ring := { ports := [(1, { state := 3 })] } } }, by decide +kernel⟩

/-- `Obligations.RingLinks`: a state and operands that meet the hypotheses of clause 5. -/
theorem witness_RingLinks_5 :
∃ (p : Nat) (s : State), ((s.dev.link p).state = 4) :=
  ⟨1, { dev := { (wMode .ready).wrAll [] with ring := { ports := [(1, { state := 4 })] } } }, by decide +kernel⟩

/-- `Obligations.RingLinks`: a state and operands that meet the hypotheses of clause 6. -/
theorem witness_RingLinks_6 :
∃ (p : Nat) (s : State), (((s.dev.link p).state = 1 ∨ (s.dev.link p).state = 3 ∨ (s.dev.link p).state = 5)) :=
  ⟨1, { dev := { (wMode .ready).wrAll [] with ring := { ports := [(1, { state := 3 })] } } }, by decide +kernel⟩

/-- `Obligations.RingLinks`: a state and operands that meet the hypotheses of clause 8. -/
theorem witness_RingLinks_8 :
∃ (fi : Nat) (s : State), (s.dev.ring.insertAt = some fi) ∧ ((s.dev.link 0).state = 2) ∧ ((s.dev.link 1).state = 2) :=
  ⟨500, { dev := { (wMode .ready).wrAll [] with ring := { ports := [(0, { state := 2 }), (1, { state := 2 })], insertAt := some 500 } } }, by decide +kernel⟩

/-- `Obligations.RingLinks`: a state and operands that meet the hypotheses of clause 9. -/
theorem witness_RingLinks_9 :
∃ (fi : Nat) (s : State), (s.dev.ring.insertAt = some fi) ∧ (((s.dev.link 0).state ≠ 2 ∨ (s.dev.link 1).state ≠ 2)) :=
  ⟨500, { dev := { (wMode .ready).wrAll [] with ring := { ports := [(0, { state := 2 }), (1, { state := 0 })], insertAt := some 500 } } }, by decide +kernel⟩

/-- `Obligations.RingPackets`: a state and operands that meet the hypotheses of clause 1. -/
theorem witness_RingPackets_1 :
∃ (src : Nat) (b : List Byte) (data : Option (List Byte)) (same : Bool) (s : State), (s.dev.onRing = true) ∧ (s.dev.sys.mode ≠ .booting) ∧
    (b.length = 69) ∧ (byteAt b 6 = s.dev.node) ∧ (src ≤ 63) ∧ (src ≠ s.dev.node) :=
  ⟨2, List.replicate 69 0, none, true, wRegs [(A.FAB_STATUS, 0x800)], by decide +kernel⟩

/-- `Obligations.RingPackets`: a state and operands that meet the hypotheses of clause 2. -/
theorem witness_RingPackets_2 :
∃ (node : Nat) (b : List Byte) (f : Forwarded) (s : State), (s.dev.host.forwarded.find? (fun f => f.h.node == node && f.h.tag == leAt b 0
    2 && f.h.sq == leAt b 32 2) = some f) ∧ (s.dev.onRing = true) ∧ (b.length = 34) :=
  ⟨2, List.replicate 34 0, { h := { node := 2 }, op := 0x0101, sent := 0 }, { dev := { (wMode .ready).wr A.FAB_STATUS 0x800 with host := { forwarded := [{ h := { node := 2 }, op := 0x0101, sent := 0 }] } } }, by decide +kernel⟩

/-- `Obligations.RingPackets`: a state and operands that meet the hypotheses of clause 3. -/
theorem witness_RingPackets_3 :
∃ (node : Nat) (b : List Byte) (s : State), (s.dev.onRing = true) ∧ (s.dev.host.attached = true) ∧ (b.length = 19) ∧ (s.dev.present node =
    true) ∧ (s.dev.clientExists (leAt b 16 2) = true) :=
  ⟨2, List.replicate 19 0, { dev := { (wMode .ready).wr A.FAB_STATUS 0x800 with host := { attached := true }, ring := { nodes := [(2, { state := 1 })] } } }, by decide +kernel⟩

/-- `Obligations.RingPackets`: a state and operands that meet the hypotheses of clause 4. -/
theorem witness_RingPackets_4 :
∃ (src addr width : Nat) (v : Word) (s : State), (s.dev.onRing = true) ∧ (addr < 0x1000000) :=
  ⟨2, 8, 4, 0, wRegs [(A.FAB_STATUS, 0x800)], by decide +kernel⟩

/-- `Obligations.RingPackets`: a state and operands that meet the hypotheses of clause 5. -/
theorem witness_RingPackets_5 :
∃ (node addr : Nat) (v : Word) (s : State), (s.dev.onRing = true) ∧ (s.dev.host.reads.any (fun x => x.1 == node && x.2.1 == addr) = true) :=
  ⟨2, 8, 7, { dev := { (wMode .ready).wr A.FAB_STATUS 0x800 with host := { reads := [(2, 8, 0)] } } }, by decide +kernel⟩

/-- `Obligations.RingPackets`: a state and operands that meet the hypotheses of clause 6. -/
theorem witness_RingPackets_6 :
∃ (node : Nat) (b : List Byte) (s : State), (s.dev.running = true) ∧ (leAt b 28 4 = crc32c (bytesAt b 0 28)) ∧
    (s.dev.ring.slotSeen.contains (1, node, byteAt b 25, b2n (nbit 0 (byteAt b 24))) = false) :=
  ⟨2, List.replicate 28 0 ++ leBytes 4 (crc32c (List.replicate 28 0)), wReady, by decide +kernel⟩

/-- `Obligations.RingPackets`: a state and operands that meet the hypotheses of clause 7. -/
theorem witness_RingPackets_7 :
∃ (home : Bool) (node g i n : Nat) (b : List Byte) (s : State), (s.dev.running = true) ∧ (leAt b 16 4 = crc32c (bytesAt b 0 16)) ∧
    (s.dev.ring.slotSeen.contains (if home then 2 else 3, node, 8 * g + i, n) = false) :=
  ⟨true, 2, 1, 0, 3, List.replicate 16 0 ++ leBytes 4 (crc32c (List.replicate 16 0)), wReady, by decide +kernel⟩

/-- `Obligations.RingPackets`: a state and operands that meet the hypotheses of clause 8. -/
theorem witness_RingPackets_8 :
∃ (node : Nat) (b : List Byte) (s : State), (leAt b 28 4 ≠ crc32c (bytesAt b 0 28)) :=
  ⟨2, [1], wReady, by decide +kernel⟩

/-- `Obligations.RingPackets`: a state and operands that meet the hypotheses of clause 9. -/
theorem witness_RingPackets_9 :
∃ (home : Bool) (node g i n : Nat) (b : List Byte) (s : State), (leAt b 16 4 ≠ crc32c (bytesAt b 0 16)) :=
  ⟨true, 2, 1, 0, 3, [1], wReady, by decide +kernel⟩

/-- `Obligations.RingPackets`: a state and operands that meet the hypotheses of clause 10. -/
theorem witness_RingPackets_10 :
∃ (node : Nat) (b : List Byte) (s : State), (leAt b 12 4 = crc32c (bytesAt b 0 12)) :=
  ⟨2, List.replicate 12 0 ++ leBytes 4 (crc32c (List.replicate 12 0)), wReady, by decide +kernel⟩

/-- `Obligations.RingPackets`: a state and operands that meet the hypotheses of clause 11. -/
theorem witness_RingPackets_11 :
∃ (addr : Nat) (v : Word) (s : State), (s.dev.pcie = true) ∧ (addr / 2 ^ 24 = s.dev.node) ∧ (s.dev.node ≤ 63) :=
  ⟨8, 0, wReady, by decide +kernel⟩

/-- `Obligations.RingPackets`: a state and operands that meet the hypotheses of clause 12. -/
theorem witness_RingPackets_12 :
∃ (addr : Nat) (v : Word) (s : State), (s.dev.pcie = true) ∧ (addr / 2 ^ 24 ≠ s.dev.node) ∧ (addr / 2 ^ 24 ≤ 63) ∧ ((!s.dev.present (addr
    / 2 ^ 24) || s.dev.noPath) = true) :=
  ⟨0x2000008, 0, wReady, by decide +kernel⟩

/-- `Obligations.RingPackets`: a state and operands that meet the hypotheses of clause 13. -/
theorem witness_RingPackets_13 :
∃ (addr : Nat) (v : Word) (s : State), (s.dev.pcie = true) ∧ (addr / 2 ^ 24 ≠ s.dev.node) ∧ (addr / 2 ^ 24 ≤ 63) ∧ (s.dev.present (addr /
    2 ^ 24) = true) ∧ (s.dev.noPath = false) :=
  ⟨0x2000008, 0, { dev := { (wMode .ready).wr A.FAB_STATUS 0x800 with host := { attached := true, linkUp := true }, ring := { nodes := [(2, { state := 1 })], ports := [(0, { state := 4 })] } } }, by decide +kernel⟩

/-- `Obligations.RingPackets`: a state and operands that meet the hypotheses of clause 14. -/
theorem witness_RingPackets_14 :
∃ (f : List Byte) (s : State), (s.dev.spiRuns = true) ∧ (7 + 4 * spiWords f ≤ f.length) ∧ (crcFollows f (5 + 4 * spiWords f) = true) ∧
    (spiHeaderBad f 1 = false) :=
  ⟨wSpiWrite, wSpi, by decide +kernel⟩

/-- `Obligations.RingPackets`: a state and operands that meet the hypotheses of clause 15. -/
theorem witness_RingPackets_15 :
∃ (f : List Byte) (s : State), (s.dev.spiRuns = true) ∧ (7 + 4 * spiWords f ≤ f.length) ∧ ((!crcFollows f (5 + 4 * spiWords f) ||
    spiHeaderBad f 1) = true) :=
  ⟨List.replicate 11 0, wSpi, by decide +kernel⟩

/-- `Obligations.RingPackets`: a state and operands that meet the hypotheses of clause 16. -/
theorem witness_RingPackets_16 :
∃ (f : List Byte) (token : Bool) (s : State), (s.dev.spiRuns = true) ∧ (7 ≤ f.length) ∧ ((!crcFollows f 5 || spiHeaderBad f 2) = true) :=
  ⟨[0, 0, 0, 0, 0, 1, 1], true, wSpi, by decide +kernel⟩

/-- `Obligations.RingPackets`: a state and operands that meet the hypotheses of clause 17. -/
theorem witness_RingPackets_17 :
∃ (f : List Byte) (s : State), (s.dev.spiRuns = true) ∧ (7 ≤ f.length) ∧ (crcFollows f 5 = true) ∧ (spiHeaderBad f 2 = false) :=
  ⟨wSpiRead, wSpi, by decide +kernel⟩

/-- `Obligations.RingPackets`: a state and operands that meet the hypotheses of clause 18. -/
theorem witness_RingPackets_18 :
∃ (s : State), (s.dev.spiRuns = true) :=
  ⟨wSpi, by decide +kernel⟩

/-- `Obligations.RingMapAndRoles`: a state and operands that meet the hypotheses of clause 1. -/
theorem witness_RingMapAndRoles_1 :
∃ (b : List Byte) (s : State), (s.dev.isRoot = true) ∧ (s.dev.ring.discovering = true) :=
  ⟨[], { dev := { (wMode .ready).wrAll [(A.FAB_STATUS, 0x880)] with host := { attached := true }, ring := { discovering := true } } }, by decide +kernel⟩

/-- `Obligations.RingMapAndRoles`: a state and operands that meet the hypotheses of clause 2. -/
theorem witness_RingMapAndRoles_2 :
∃ (b : List Byte) (s : State), (s.dev.isRoot = false) ∧ (s.dev.running = true) :=
  ⟨[], wReady, by decide +kernel⟩

/-- `Obligations.RingMapAndRoles`: a state and operands that meet the hypotheses of clause 3. -/
theorem witness_RingMapAndRoles_3 :
∃ (id : Nat) (s : State), (s.dev.isRoot = false) ∧ (s.dev.running = true) :=
  ⟨3, wReady, by decide +kernel⟩

/-- `Obligations.RingMapAndRoles`: a state and operands that meet the hypotheses of clause 4. -/
theorem witness_RingMapAndRoles_4 :
∃ (m : List MirrorEnt) (delay : Nat) (s : State), (s.dev.isRoot = false) :=
  ⟨[], 7, wRegs [(A.FAB_STATUS, 0x100)], by decide +kernel⟩

/-- `Obligations.RingMapAndRoles`: a state and operands that meet the hypotheses of clause 5. -/
theorem witness_RingMapAndRoles_5 :
∃ (uid : List Byte) (hops id : Nat) (s : State), (s.dev.isRoot = true) ∧ (id = (s.dev.idOf uid).getD s.dev.freeId) ∧ ((s.dev.nodeSt
    id).removed ≠ some s.dev.sys.lastFrame) ∧ ((s.dev.nodeSt id).state ≠ 1) :=
  ⟨[5], 0, 0, { dev := { (wMode .ready).wrAll [(A.FAB_STATUS, 0x880), (A.FAB_CFG, 0xA06)] with host := { attached := true }, ring := {  } } }, by decide +kernel⟩

/-- `Obligations.RingMapAndRoles`: a state and operands that meet the hypotheses of clause 6. -/
theorem witness_RingMapAndRoles_6 :
∃ (s : State), (s.dev.ring.joinSent = true) ∧ (s.dev.ring.insertAt = none) :=
  ⟨{ dev := { (wMode .ready).wrAll [] with host := { attached := true }, ring := { joinSent := true } } }, by decide +kernel⟩

/-- `Obligations.RingMapAndRoles`: a state and operands that meet the hypotheses of clause 7. -/
theorem witness_RingMapAndRoles_7 :
∃ (id fi : Nat) (s : State), (s.dev.ring.ready = true) ∧ (s.dev.rb A.FAB_STATUS 11 = false) :=
  ⟨3, 500, { dev := { (wMode .ready).wrAll [] with host := { attached := true }, ring := { ready := true } } }, by decide +kernel⟩

/-- `Obligations.RingMapAndRoles`: a state and operands that meet the hypotheses of clause 8. -/
theorem witness_RingMapAndRoles_8 :
∃ (node : Nat) (s : State), (s.dev.isRoot = true) ∧ (s.dev.bypassOk node = true) ∧ (node ≠ s.dev.node) ∧ (s.dev.ring.standby ≠ some node) :=
  ⟨3, { dev := { (wMode .ready).wrAll [(A.FAB_STATUS, 0x880), (A.FAB_CFG, 0xA02)] with host := { attached := true }, ring := { nodes := [(3, { state := 1, pos := 1 }), (4, { state := 1, pos := 2 })] } } }, by decide +kernel⟩

/-- `Obligations.RingMapAndRoles`: a state and operands that meet the hypotheses of clause 9. -/
theorem witness_RingMapAndRoles_9 :
∃ (node : Nat) (s : State), (s.dev.isRoot = true) ∧ ((s.dev.bypassOk node = false ∨ node = s.dev.node ∨ s.dev.ring.standby = some node)) :=
  ⟨3, { dev := { (wMode .ready).wrAll [(A.FAB_STATUS, 0x880), (A.FAB_CFG, 0xA02)] with host := { attached := true }, ring := { nodes := [(3, { state := 1, pos := 1 }), (4, { state := 2, pos := 2 }), (5, { state := 2, pos := 3 })] } } }, by decide +kernel⟩

/-- `Obligations.RingMapAndRoles`: a state and operands that meet the hypotheses of clause 10. -/
theorem witness_RingMapAndRoles_10 :
∃ (node answer : Nat) (s : State), (answer ≠ 0) ∧ (s.dev.wake.asked = true) :=
  ⟨3, 1, { dev := { wMode .ready with wake := { asked := true } } }, by decide +kernel⟩

/-- `Obligations.RingMapAndRoles`: a state and operands that meet the hypotheses of clause 11. -/
theorem witness_RingMapAndRoles_11 :
∃ (node : Nat) (s : State), (s.dev.isRoot = true) ∧ ((s.dev.nodeSt node).state = 1) ∧ (3 ≤ (s.dev.nodeSt node).missed) ∧ (node ≠
    s.dev.node) :=
  ⟨3, { dev := { (wMode .ready).wrAll [(A.FAB_STATUS, 0x880)] with host := { attached := true }, ring := { nodes := [(3, { state := 1, missed := 3 })] } } }, by decide +kernel⟩

/-- `Obligations.RingMapAndRoles`: a state and operands that meet the hypotheses of clause 12. -/
theorem witness_RingMapAndRoles_12 :
∃ (s : State), (s.dev.isRoot = false) ∧ (s.dev.rb A.FAB_STATUS 8 = true) ∧ (3 ≤ s.dev.time.missing) :=
  ⟨{ dev := { (wMode .ready).wr A.FAB_STATUS 0x900 with time := { missing := 3 } } }, by decide +kernel⟩

/-- `Obligations.RingMapAndRoles`: a state and operands that meet the hypotheses of clause 13. -/
theorem witness_RingMapAndRoles_13 :
∃ (s : State), (s.dev.isRoot = false) ∧ (s.dev.rb A.FAB_STATUS 11 = true) ∧ (s.dev.rb A.FAB_STATUS 10 = false) ∧ (s.dev.fld A.FAB_CFG 15 8
    ≤ s.dev.time.missing) :=
  ⟨{ dev := { (wMode .ready).wr A.FAB_STATUS 0x800 with time := { missing := 255 } } }, by decide +kernel⟩

/-- `Obligations.FabricCommands`: a state and operands that meet the hypotheses of clause 1. -/
theorem witness_FabricCommands_1 :
∃ (h : Hdr) (r : Nat) (s : State), (s.dev.targetCheck 0x0801 h = none) ∧ (s.dev.fabCheck h = false) ∧ ((r = 0 ∨ r = 1 ∧ s.dev.allConfigure
    = true)) :=
  ⟨{}, 0, { dev := { (wMode .ready).wrAll [(A.FAB_STATUS, 0x880)] with host := { attached := true }, ring := {  } } }, by decide +kernel⟩

/-- `Obligations.FabricCommands`: a state and operands that meet the hypotheses of clause 2. -/
theorem witness_FabricCommands_2 :
∃ (h : Hdr) (id : Nat) (s : State), (s.dev.targetCheck 0x0802 h = none) ∧ (s.dev.fabCheck h = false) ∧ (id < 64) ∧ ((s.dev.nodeSt
    id).state = 4) :=
  ⟨{}, 3, { dev := { (wMode .ready).wrAll [(A.FAB_STATUS, 0x880)] with host := { attached := true }, ring := { nodes := [(3, { state := 4 })] } } }, by decide +kernel⟩

/-- `Obligations.FabricCommands`: a state and operands that meet the hypotheses of clause 3. -/
theorem witness_FabricCommands_3 :
∃ (h : Hdr) (s : State), (s.dev.targetCheck 0x0802 h = none) ∧ (s.dev.fabCheck h = false) ∧ ((s.dev.nodesIn 4).isEmpty = false) :=
  ⟨{}, { dev := { (wMode .ready).wrAll [(A.FAB_STATUS, 0x880)] with host := { attached := true }, ring := { nodes := [(3, { state := 4 })] } } }, by decide +kernel⟩

/-- `Obligations.FabricCommands`: a state and operands that meet the hypotheses of clause 4. -/
theorem witness_FabricCommands_4 :
∃ (h : Hdr) (id : Nat) (s : State), (s.dev.targetCheck 0x0803 h = none) ∧ (s.dev.fabCheck h = false) ∧ (id < 64) ∧ ((s.dev.nodeSt
    id).state ≠ 3) ∧ ((s.dev.nodeSt id).state ≠ 0) ∧ (id ≠ s.dev.node) ∧ (s.dev.ring.standby ≠ some id) ∧ ((s.dev.nodeSt id).mode ≠
    Mode.run.code) ∧ ((s.dev.nodeSt id).mode ≠ Mode.inspection.code) ∧ ((s.dev.nodeSt id).mode ≠ Mode.degraded.code) ∧ (s.dev.bypassOk id
    = true) :=
  ⟨{}, 3, { dev := { (wMode .ready).wrAll [(A.FAB_STATUS, 0x880), (A.FAB_CFG, 0xA02)] with host := { attached := true }, ring := { nodes := [(3, { state := 1, pos := 1 }), (4, { state := 1, pos := 2 })] } } }, by decide +kernel⟩

/-- `Obligations.FabricCommands`: a state and operands that meet the hypotheses of clause 5. -/
theorem witness_FabricCommands_5 :
∃ (h : Hdr) (s : State), (s.dev.targetCheck 0x0804 h = none) ∧ (s.dev.fabCheck h = false) :=
  ⟨{}, { dev := { (wMode .ready).wrAll [(A.FAB_STATUS, 0x880)] with host := { attached := true }, ring := {  } } }, by decide +kernel⟩

/-- `Obligations.FabricCommands`: a state and operands that meet the hypotheses of clause 6. -/
theorem witness_FabricCommands_6 :
∃ (h : Hdr) (id : Nat) (s : State), (s.dev.targetCheck 0x0804 h = none) ∧ (s.dev.fabCheck h = false) ∧ (id < 64) ∧ ((s.dev.nodeSt id).host
    = true) ∧ (id ≠ s.dev.node) :=
  ⟨{}, 3, { dev := { (wMode .ready).wrAll [(A.FAB_STATUS, 0x880)] with host := { attached := true }, ring := { nodes := [(3, { state := 1, host := true })] } } }, by decide +kernel⟩

/-- `Obligations.FabricCommands`: a state and operands that meet the hypotheses of clause 7. -/
theorem witness_FabricCommands_7 :
∃ (h : Hdr) (id : Nat) (s : State), (s.dev.targetCheck 0x0804 h = none) ∧ (s.dev.fabCheck h = false) ∧ (id < 64) ∧ ((s.dev.nodeSt id).host
    = true) ∧ (id ≠ s.dev.node) :=
  ⟨{}, 3, { dev := { (wMode .ready).wrAll [(A.FAB_STATUS, 0x880)] with host := { attached := true }, ring := { nodes := [(3, { state := 1, host := true })] } } }, by decide +kernel⟩

/-- `Obligations.FabricCommands`: a state and operands that meet the hypotheses of clause 8. -/
theorem witness_FabricCommands_8 :
∃ (h : Hdr) (s : State), (s.dev.targetCheck 0x0805 h = none) ∧ (s.dev.fabCheck h = false) :=
  ⟨{}, { dev := { (wMode .ready).wrAll [(A.FAB_STATUS, 0x880)] with host := { attached := true }, ring := {  } } }, by decide +kernel⟩

/-- `Obligations.FabricCommands`: a state and operands that meet the hypotheses of clause 9. -/
theorem witness_FabricCommands_9 :
∃ (h : Hdr) (s : State), (s.dev.targetCheck 0x0805 h = none) ∧ (s.dev.fabCheck h = false) :=
  ⟨{}, { dev := { (wMode .ready).wrAll [(A.FAB_STATUS, 0x880)] with host := { attached := true }, ring := {  } } }, by decide +kernel⟩

/-- `Obligations.FabricCommands`: a state and operands that meet the hypotheses of clause 10. -/
theorem witness_FabricCommands_10 :
∃ (h : Hdr) (s : State), (s.dev.targetCheck 0x0805 h = none) ∧ (s.dev.fabCheck h = false) ∧ (s.dev.allConfigure = true) :=
  ⟨{}, { dev := { (wMode .configure).wr A.FAB_STATUS 0x880 with host := { attached := true } } }, by decide +kernel⟩

/-- `Obligations.FabricCommands`: a state and operands that meet the hypotheses of clause 11. -/
theorem witness_FabricCommands_11 :
∃ (h : Hdr) (s : State), (s.dev.targetCheck 0x0806 h = none) ∧ (h.mask = 0) :=
  ⟨{}, wReady, by decide +kernel⟩

/-- `Obligations.FabricTime`: a state and operands that meet the hypotheses of clause 1. -/
theorem witness_FabricTime_1 :
∃ (m : MarkerIn) (s : State), (s.dev.running = true) ∧ (s.dev.isRoot = false) ∧ (s.dev.time.markerSeen = false) ∧ (m.codeErr = false) ∧
    (leAt m.bytes 28 4 = crc32c (bytesAt m.bytes 1 27)) :=
  ⟨{ port := 0, bytes := List.replicate 28 0 ++ leBytes 4 (crc32c (List.replicate 27 0)), stamp := 0, residence := 0 }, wReady, by decide +kernel⟩

/-- `Obligations.FabricTime`: a state and operands that meet the hypotheses of clause 2. -/
theorem witness_FabricTime_2 :
∃ (m : MarkerIn) (s : State), (s.dev.running = true) ∧ (s.dev.isRoot = false) ∧ ((s.dev.time.markerSeen = true ∨ m.codeErr = true ∨ leAt
    m.bytes 28 4 ≠ crc32c (bytesAt m.bytes 1 27))) ∧ (s.dev.rb A.FAB_STATUS 11 = true) :=
  ⟨{ port := 0, bytes := List.replicate 28 0 ++ leBytes 4 (crc32c (List.replicate 27 0)), stamp := 0, residence := 0, codeErr := true }, wRegs [(A.FAB_STATUS, 0x800)], by decide +kernel⟩

/-- `Obligations.FabricTime`: a state and operands that meet the hypotheses of clause 3. -/
theorem witness_FabricTime_3 :
∃ (m : MarkerIn) (s : State), (s.dev.running = true) ∧ (s.dev.isRoot = false) ∧ (s.dev.time.markerSeen = true) ∧ (m.codeErr = false) ∧
    (leAt m.bytes 28 4 = crc32c (bytesAt m.bytes 1 27)) ∧ (nbit 0 (byteAt m.bytes 3) = true) ∧ (nbit 0 (byteAt m.bytes 1) = false) ∧
    (s.dev.ring.ready = true) ∧ (s.dev.rb A.FAB_STATUS 11 = false) ∧ (s.dev.ring.insertAt = none) :=
  ⟨{ port := 0, bytes := [0, 0, 0, 1] ++ List.replicate 24 0 ++ leBytes 4 (crc32c ([0, 0, 1] ++ List.replicate 24 0)), stamp := 0, residence := 0 }, { dev := { wMode .ready with time := { markerSeen := true }, ring := { ready := true } } }, by decide +kernel⟩

/-- `Obligations.FabricTime`: a state and operands that meet the hypotheses of clause 4. -/
theorem witness_FabricTime_4 :
∃ (m : MarkerIn) (s : State), (s.dev.running = true) ∧ (s.dev.isRoot = true) :=
  ⟨{ port := 0, bytes := [], stamp := 0, residence := 0 }, { dev := { (wMode .ready).wrAll [(A.FAB_STATUS, 0x880)] with host := { attached := true }, ring := {  } } }, by decide +kernel⟩

/-- `Obligations.FabricTime`: a state and operands that meet the hypotheses of clause 5. -/
theorem witness_FabricTime_5 :
∃ (s : State), (s.dev.running = true) ∧ (s.dev.isRoot = false) ∧ (s.dev.time.markerSeen = false) :=
  ⟨{ dev := { wMode .ready with time := { state := 1 } } }, by decide +kernel⟩

/-- `Obligations.FabricTime`: a state and operands that meet the hypotheses of clause 6. -/
theorem witness_FabricTime_6 :
∃ (s : State), ((s.dev.time.state = 1 ∨ s.dev.time.state = 2)) ∧ ((s.dev.fld A.TIME_CFG 23 16 ≤ s.dev.time.missing ∧ s.dev.time.missing ≠
    0 ∨ 4 ≤ s.dev.time.largeErr)) :=
  ⟨{ dev := { wMode .ready with time := { state := 2, largeErr := 4 } } }, by decide +kernel⟩

/-- `Obligations.FabricTime`: a state and operands that meet the hypotheses of clause 7. -/
theorem witness_FabricTime_7 :
∃ (e : Int) (s : State), (s.dev.time.stepWait = some e) ∧ ((s.dev.time.state = 0 ∨ s.dev.time.state = 3 ∧ s.dev.stepThr < (e.natAbs :
    Int))) ∧ (8 ≤ s.dev.time.goodMarkers) :=
  ⟨7, { dev := { wMode .ready with time := { stepWait := some 7, goodMarkers := 8 } } }, by decide +kernel⟩

/-- `Obligations.FabricTime`: a state and operands that meet the hypotheses of clause 8. -/
theorem witness_FabricTime_8 :
∃ (e : Int) (s : State), (s.dev.time.stepWait = some e) ∧ (s.dev.time.state = 3) ∧ ((e.natAbs : Int) ≤ s.dev.stepThr) ∧ (8 ≤
    s.dev.time.goodMarkers) :=
  ⟨0, { dev := { wMode .ready with time := { state := 3, stepWait := some 0, goodMarkers := 8 } } }, by decide +kernel⟩

/-- `Obligations.FabricTime`: a state and operands that meet the hypotheses of clause 9. -/
theorem witness_FabricTime_9 :
∃ (t : Nat) (e : Int) (s : State), (s.dev.time.rootStep = some (t, e)) :=
  ⟨0, 7, { dev := { wMode .ready with time := { rootStep := some (0, 7) } } }, by decide +kernel⟩

/-- `Obligations.FabricTime`: a state and operands that meet the hypotheses of clause 10. -/
theorem witness_FabricTime_10 :
∃ (e : Int) (s : State), (s.dev.time.rootStep = none) ∧ (s.dev.time.stepWait = some e) ∧ (s.dev.time.state = 4) ∧ (s.dev.syncStands =
    true) :=
  ⟨7, { dev := { wMode .ready with time := { stepWait := some 7, state := 4 } } }, by decide +kernel⟩

/-- `Obligations.FabricTime`: a state and operands that meet the hypotheses of clause 11. -/
theorem witness_FabricTime_11 :
∃ (p rank : Nat) (s : State), ((s.dev.ptpOf p).cfgRole = 2) ∧ (((s.dev.ptpOf p).best = none ∨ rank ≤ (s.dev.ptpOf p).best.getD 0)) :=
  ⟨1, 5, { dev := { wMode .ready with ring := { ptp := [(1, { cfgRole := 2 })] } } }, by decide +kernel⟩

/-- `Obligations.FabricTime`: a state and operands that meet the hypotheses of clause 12. -/
theorem witness_FabricTime_12 :
∃ (p : Nat) (origin : Option Int) (stamp : Int) (s : State), ((s.dev.ptpOf p).role = 2) :=
  ⟨1, none, 5, { dev := { wMode .ready with ring := { ptp := [(1, { role := 2 })] } } }, by decide +kernel⟩

/-- `Obligations.FabricTime`: a state and operands that meet the hypotheses of clause 13. -/
theorem witness_FabricTime_13 :
∃ (p : Nat) (origin : Int) (s : State), ((s.dev.ptpOf p).role = 2) :=
  ⟨1, 5, { dev := { wMode .ready with ring := { ptp := [(1, { role := 2 })] } } }, by decide +kernel⟩

/-- `Obligations.FabricTime`: a state and operands that meet the hypotheses of clause 14. -/
theorem witness_FabricTime_14 :
∃ (p : Nat) (stamp : Int) (s : State), ((s.dev.ptpOf p).role = 2) :=
  ⟨1, 5, { dev := { wMode .ready with ring := { ptp := [(1, { role := 2 })] } } }, by decide +kernel⟩

/-- `Obligations.FabricTime`: a state and operands that meet the hypotheses of clause 15. -/
theorem witness_FabricTime_15 :
∃ (p : Nat) (t1 t2 t3 t4 : Int) (s : State), ((s.dev.ptpOf p).role = 2) ∧ ((s.dev.ptpOf p).t1 = some t1) ∧ ((s.dev.ptpOf p).t2 = some t2)
    ∧ ((s.dev.ptpOf p).t3 = some t3) :=
  ⟨1, 0, 5, 7, 9, { dev := { wMode .ready with ring := { ptp := [(1, { role := 2, t1 := some 0, t2 := some 5, t3 := some 7 })] } } }, by decide +kernel⟩

/-- `Obligations.FabricTime`: a state and operands that meet the hypotheses of clause 16. -/
theorem witness_FabricTime_16 :
∃ (p : Nat) (stamp : Int) (who : List Byte) (s : State), ((s.dev.ptpOf p).role = 1) :=
  ⟨1, 5, [], { dev := { wMode .ready with ring := { ptp := [(1, { role := 1 })] } } }, by decide +kernel⟩

/-- `Obligations.FabricTime`: a state and operands that meet the hypotheses of clause 17. -/
theorem witness_FabricTime_17 :
∃ (p : Nat) (s : State), ((s.dev.ptpOf p).role = 2) :=
  ⟨1, { dev := { wMode .ready with ring := { ptp := [(1, { role := 2 })] } } }, by decide +kernel⟩

/-- `Obligations.FabricTime`: a state and operands that meet the hypotheses of clause 18. -/
theorem witness_FabricTime_18 :
∃ (p target : Nat) (sender : List Byte) (s : State), (target = (s.dev.rd (A.HOST_ETH_IP p)).toNat) ∧ (target ≠ 0) :=
  ⟨1, 5, [], wRegs [(A.HOST_ETH_IP 1, 5)], by decide +kernel⟩

/-- `Obligations.FabricTime`: a state and operands that meet the hypotheses of clause 19. -/
theorem witness_FabricTime_19 :
∃ (h : Hdr) (s : State), (s.dev.targetCheck 0x0901 h = none) ∧ (h.mask = 0) :=
  ⟨{}, wReady, by decide +kernel⟩

/-- `Obligations.FabricTime`: a state and operands that meet the hypotheses of clause 20. -/
theorem witness_FabricTime_20 :
∃ (h : Hdr) (src : Nat) (s : State), (s.dev.targetCheck 0x0902 h = none) ∧ (h.mask = 0) ∧ (src ≤ 2) ∧ (s.dev.isRoot = true) ∧ ((src = 0 ∨
    (s.dev.ptpOf (src - 1)).cfgRole = 2)) :=
  ⟨{}, 2, { dev := { (wMode .ready).wrAll [(A.FAB_STATUS, 0x880)] with host := { attached := true }, ring := { ptp := [(1, { cfgRole := 2 })] } } }, by decide +kernel⟩

/-- `Obligations.FabricTime`: a state and operands that meet the hypotheses of clause 21. -/
theorem witness_FabricTime_21 :
∃ (h : Hdr) (b : List Byte) (s : State), (s.dev.targetCheck 0x0903 h = none) ∧ (h.mask = 0) ∧ (byteAt b 16 ≤ 1) ∧ (byteAt b 17 ≤ 2) ∧
    (byteAt b 18 ≤ 127) ∧ (byteAt b 19 ≤ 3) ∧ ((byteAt b 17 = 2 → s.dev.isRoot = true)) ∧ ((byteAt b 17 = 0 ∨ nbit 1 (byteAt b 19) = true
    ∨ s.dev.rd (A.HOST_ETH_IP (byteAt b 16)) ≠ 0)) :=
  ⟨{}, putAt (List.replicate 64 0) 16 [1, 2, 0, 2], { dev := { (wMode .ready).wrAll [(A.FAB_STATUS, 0x880)] with host := { attached := true }, ring := {  } } }, by decide +kernel⟩

/-- `Obligations.DmaEngine`: a state and operands that meet the hypotheses of clause 1. -/
theorem witness_DmaEngine_1 :
∃ (c : Nat) (desc data : List Byte) (s : State), (s.dev.running = true) ∧ (s.dev.dmaReady c = true) ∧ (s.dev.rb (A.DMA_CH_TRIG c) 15 =
    false) :=
  ⟨3, [], [], { wReady with dev := { wReady.dev with dma := { chans := [(3, { state := .run, tail := 1 })] } } }, by decide +kernel⟩

/-- `Obligations.DmaEngine`: a state and operands that meet the hypotheses of clause 2. -/
theorem witness_DmaEngine_2 :
∃ (c : Nat) (desc data : List Byte) (s : State), (s.dev.running = true) ∧ (s.dev.dmaReady c = true) ∧ (s.dev.rb (A.DMA_CH_TRIG c) 15 =
    true) :=
  ⟨3, [], [], { wRegs [(A.DMA_CH_TRIG 3, 0x8000)] with dev := { (wRegs [(A.DMA_CH_TRIG 3, 0x8000)]).dev with dma := { chans := [(3, { state := .run, tail := 1, credits := 2 })] } } }, by decide +kernel⟩

/-- `Obligations.DmaEngine`: a state and operands that meet the hypotheses of clause 3. -/
theorem witness_DmaEngine_3 :
∃ (c : Nat) (desc data : List Byte) (s : State), (s.dev.running = true) ∧ (s.dev.dmaReady c = true) ∧ (s.dev.rb (A.DMA_CH_TRIG c) 15 =
    false) ∧ ((descReserved desc || (descOf desc).skew || !(descOf desc).sourceOk) = true) :=
  ⟨3, [], [], { wReady with dev := { wReady.dev with dma := { chans := [(3, { state := .run, tail := 1 })] } } }, by decide +kernel⟩

/-- `Obligations.DmaEngine`: a state and operands that meet the hypotheses of clause 4. -/
theorem witness_DmaEngine_4 :
∃ (c : Nat) (desc data : List Byte) (s : State), (s.dev.running = true) ∧ (s.dev.dmaReady c = true) ∧ (s.dev.rb (A.DMA_CH_TRIG c) 15 =
    false) ∧ (descReserved desc = false) ∧ (s.dev.host.spi = false) ∧ ((descOf desc).flags = 32) :=
  ⟨3, putAt (List.replicate 32 0) 16 [8, 0, 0, 0, 32], [], { wReady with dev := { wReady.dev with dma := { chans := [(3, { state := .run, tail := 1 })] } } }, by decide +kernel⟩

/-- `Obligations.DmaEngine`: a state and operands that meet the hypotheses of clause 5. -/
theorem witness_DmaEngine_5 :
∃ (k o : Nat) (s : State), (1 ≤ k) ∧ (k ≤ 6) ∧ (((List.range 32).filter (fun c => (s.dev.ch c).state == .run)).any (fun c => nbit c o) =
    true) :=
  ⟨2, 8, { wReady with dev := { wReady.dev with dma := { chans := [(3, { state := .run, tail := 1 }), (4, { state := .run, tail := 1 })] } } }, by decide +kernel⟩

/-- `Obligations.DmaEngine`: a state and operands that meet the hypotheses of clause 6. -/
theorem witness_DmaEngine_6 :
∃ (c k : Nat) (s : State), (s.dev.dma.probing = some c) :=
  ⟨3, 2, { wReady with dev := { wReady.dev with dma := { chans := [(3, { state := .probing })], probing := some 3 } } }, by decide +kernel⟩

/-- `Obligations.DmaEngine`: a state and operands that meet the hypotheses of clause 7. -/
theorem witness_DmaEngine_7 :
∃ (t : Nat) (s : State), (s.dev.dma.holdEnd = some t) :=
  ⟨500, { wReady with dev := { wReady.dev with dma := { chans := [], holdEnd := some 500 } } }, by decide +kernel⟩

/-- `Obligations.FieldChannels`: a state and operands that meet the hypotheses of clause 1. -/
theorem witness_FieldChannels_1 :
∃ (c held : Nat) (raw : Bool) (s : State), (c < 32) ∧ ((held < s.dev.fld (A.FIELD_CH_CFG c) 19 8 ∨ (raw != s.dev.rb (A.FIELD_CH_CFG c) 2)
    = s.dev.rb A.FIELD_LEVEL c)) ∧ (SMap.wf regReset s.dev.regs = true) :=
  ⟨5, 3, true, wRegs [(A.FIELD_CH_CFG 5, 0xA00)], by decide +kernel⟩

/-- `Obligations.FieldChannels`: a state and operands that meet the hypotheses of clause 2. -/
theorem witness_FieldChannels_2 :
∃ (c held : Nat) (raw : Bool) (s : State), (c < 32) ∧ (s.dev.fld (A.FIELD_CH_CFG c) 19 8 ≤ held) ∧ ((raw != s.dev.rb (A.FIELD_CH_CFG c) 2)
    ≠ s.dev.rb A.FIELD_LEVEL c) ∧ (SMap.wf regReset s.dev.regs = true) :=
  ⟨5, 13, true, wRegs [(A.FIELD_CH_CFG 5, 0xA00)], by decide +kernel⟩

/-- `Obligations.FieldChannels`: a state and operands that meet the hypotheses of clause 3. -/
theorem witness_FieldChannels_3 :
∃ (c ms : Nat) (low : Bool) (s : State), (s.dev.fld (A.FIELD_CH_CFG c) 31 24 ≤ ms) ∧ (s.dev.isOutput c = false) ∧ (s.dev.rb
    (A.FIELD_CH_CFG c) 3 = true) ∧ (s.dev.rb A.FIELD_STATUS 2 = false) :=
  ⟨5, 0, true, wRegs [(A.FIELD_CH_CFG 5, 0xA08)], by decide +kernel⟩

/-- `Obligations.FieldChannels`: a state and operands that meet the hypotheses of clause 4. -/
theorem witness_FieldChannels_4 :
∃ (c ms : Nat) (low : Bool) (s : State), (ms < s.dev.fld (A.FIELD_CH_CFG c) 31 24) :=
  ⟨5, 0, true, wRegs [(A.FIELD_CH_CFG 5, 0x1000A08)], by decide +kernel⟩

/-- `Obligations.FieldChannels`: a state and operands that meet the hypotheses of clause 5. -/
theorem witness_FieldChannels_5 :
∃ (c : Nat) (s : State), (s.dev.isOutput c = true) ∧ (s.dev.rb A.FIELD_OUT_EFF c = true) :=
  ⟨5, wRegs [(A.FIELD_CH_CFG 5, 2), (A.FIELD_OUT_EFF, 0x20)], by decide +kernel⟩

/-- `Obligations.FieldChannels`: a state and operands that meet the hypotheses of clause 6. -/
theorem witness_FieldChannels_6 :
∃ (c : Nat) (s : State), (s.dev.isOutput c = true) :=
  ⟨5, wRegs [(A.FIELD_CH_CFG 5, 2)], by decide +kernel⟩

/-- `Obligations.FieldChannels`: a state and operands that meet the hypotheses of clause 7. -/
theorem witness_FieldChannels_7 :
∃ (c : Nat) (s : State), (s.dev.isOutput c = true) :=
  ⟨5, wRegs [(A.FIELD_CH_CFG 5, 2)], by decide +kernel⟩

/-- `Obligations.FieldChannels`: a state and operands that meet the hypotheses of clause 8. -/
theorem witness_FieldChannels_8 :
∃ (mv held : Nat) (low uv ov : Bool) (s : State), (low = hyst (s.dev.rb A.FIELD_STATUS 2) (decide (mv < 18000) && decide (100 ≤ held))
    (decide (18500 < mv) && decide (100 ≤ held))) ∧ (uv = hyst (s.dev.rb A.FIELD_STATUS 3) (decide (mv < 14000) && decide (10 ≤ held))
    (decide (18500 < mv) && decide (10000 ≤ held))) ∧ (ov = hyst (s.dev.rb A.FIELD_STATUS 4) (decide (33000 < mv) && decide (10 ≤ held))
    (decide (mv < 31000) && decide (10 ≤ held))) ∧ ((s.dev.rb A.FIELD_STATUS 2 != low || s.dev.rb A.FIELD_STATUS 3 != uv || s.dev.rb
    A.FIELD_STATUS 4 != ov) = false) :=
  ⟨24000, 5, false, false, false, wReady, by decide +kernel⟩

/-- `Obligations.FieldChannels`: a state and operands that meet the hypotheses of clause 9. -/
theorem witness_FieldChannels_9 :
∃ (mv held : Nat) (low uv ov : Bool) (s : State), (low = hyst (s.dev.rb A.FIELD_STATUS 2) (decide (mv < 18000) && decide (100 ≤ held))
    (decide (18500 < mv) && decide (100 ≤ held))) ∧ (uv = hyst (s.dev.rb A.FIELD_STATUS 3) (decide (mv < 14000) && decide (10 ≤ held))
    (decide (18500 < mv) && decide (10000 ≤ held))) ∧ (ov = hyst (s.dev.rb A.FIELD_STATUS 4) (decide (33000 < mv) && decide (10 ≤ held))
    (decide (mv < 31000) && decide (10 ≤ held))) ∧ ((s.dev.rb A.FIELD_STATUS 2 != low || s.dev.rb A.FIELD_STATUS 3 != uv || s.dev.rb
    A.FIELD_STATUS 4 != ov) = true) ∧ ((uv && !s.dev.rb A.FIELD_STATUS 3 && (s.dev.stoMask != 15 || s.dev.outMask != 0)) = false) :=
  ⟨12000, 100, true, true, false, wReady, by decide +kernel⟩

/-- `Obligations.FieldChannels`: a state and operands that meet the hypotheses of clause 10. -/
theorem witness_FieldChannels_10 :
∃ (mv held : Nat) (low uv ov : Bool) (s : State), (low = hyst (s.dev.rb A.FIELD_STATUS 2) (decide (mv < 18000) && decide (100 ≤ held))
    (decide (18500 < mv) && decide (100 ≤ held))) ∧ (uv = hyst (s.dev.rb A.FIELD_STATUS 3) (decide (mv < 14000) && decide (10 ≤ held))
    (decide (18500 < mv) && decide (10000 ≤ held))) ∧ (ov = hyst (s.dev.rb A.FIELD_STATUS 4) (decide (33000 < mv) && decide (10 ≤ held))
    (decide (mv < 31000) && decide (10 ≤ held))) ∧ ((s.dev.rb A.FIELD_STATUS 2 != low || s.dev.rb A.FIELD_STATUS 3 != uv || s.dev.rb
    A.FIELD_STATUS 4 != ov) = true) ∧ ((uv && !s.dev.rb A.FIELD_STATUS 3 && (s.dev.stoMask != 15 || s.dev.outMask != 0)) = true) :=
  ⟨12000, 100, true, true, false, { dev := { wMode .ready with saf := { outs := [(0, { on := true })] } } }, by decide +kernel⟩

/-- `Obligations.FieldChannels`: a state and operands that meet the hypotheses of clause 11. -/
theorem witness_FieldChannels_11 :
∃ (h : Hdr) (mask v : Nat) (s : State), (s.dev.targetCheck 0x0601 h = none) ∧ (h.mask = 0) ∧ ((maskList 32 mask).any (fun c =>
    !s.dev.isOutput c) = false) :=
  ⟨{}, 0x20, 0x20, wRegs [(A.FIELD_CH_CFG 5, 2)], by decide +kernel⟩

/-- `Obligations.FieldChannels`: a state and operands that meet the hypotheses of clause 12. -/
theorem witness_FieldChannels_12 :
∃ (h : Hdr) (mask v : Nat) (s : State), (s.dev.targetCheck 0x0601 h = none) ∧ (h.mask = 0) ∧ ((maskList 32 mask).any (fun c =>
    !s.dev.isOutput c) = true) :=
  ⟨{}, 0x20, 0x20, wReady, by decide +kernel⟩

/-- `Obligations.FieldChannels`: a state and operands that meet the hypotheses of clause 13. -/
theorem witness_FieldChannels_13 :
∃ (h : Hdr) (s : State), (s.dev.targetCheck 0x0602 h = none) ∧ (h.mask = 0) :=
  ⟨{}, wReady, by decide +kernel⟩

/-- `Obligations.FieldChannels`: a state and operands that meet the hypotheses of clause 14. -/
theorem witness_FieldChannels_14 :
∃ (a0 a1 : Nat) (s : State), (s.dev.rb A.BELFRY_CFG 0 = true) ∧ (s.dev.bel.stopped = false) ∧ (s.dev.pwr.vsysAbsent = false) :=
  ⟨5, 6, wRegs [(A.BELFRY_CFG, 1)], by decide +kernel⟩

/-- `Obligations.CanControllers`: a state and operands that meet the hypotheses of clause 1. -/
theorem witness_CanControllers_1 :
∃ (k : Nat) (f : CanFrame) (s : State), (s.dev.canRuns k = true) ∧ (s.dev.fld (A.CAN_STATUS k) 1 0 < 2) ∧ (s.dev.fld (A.CAN_CTRL k) 2 1 ≠
    2) ∧ (nbit 0 f.flags = false) :=
  ⟨1, { id := 5, dlc := 1, data := [7], sof := 9 }, { wRegs [(A.CAN_CTRL 1, 1)] with dev := { (wRegs [(A.CAN_CTRL 1, 1)]).dev with cans := [(1, {})] } }, by decide +kernel⟩

/-- `Obligations.CanControllers`: a state and operands that meet the hypotheses of clause 2. -/
theorem witness_CanControllers_2 :
∃ (k sof : Nat) (s : State), (s.dev.canRuns k = true) ∧ ((s.dev.can k).bus = some .entry) :=
  ⟨1, 9, { wRegs [(A.CAN_CTRL 1, 1)] with dev := { (wRegs [(A.CAN_CTRL 1, 1)]).dev with cans := [(1, { bus := some .entry })] } }, by decide +kernel⟩

/-- `Obligations.CanControllers`: a state and operands that meet the hypotheses of clause 3. -/
theorem witness_CanControllers_3 :
∃ (k sof : Nat) (s : State), (s.dev.canRuns k = true) ∧ ((s.dev.can k).bus = some .entry) ∧ ((s.dev.can k).abortTo = none) :=
  ⟨1, 9, { wRegs [(A.CAN_CTRL 1, 1)] with dev := { (wRegs [(A.CAN_CTRL 1, 1)]).dev with cans := [(1, { bus := some .entry })] } }, by decide +kernel⟩

/-- `Obligations.CanControllers`: a state and operands that meet the hypotheses of clause 4. -/
theorem witness_CanControllers_4 :
∃ (k sof : Nat) (s : State), (s.dev.canRuns k = true) ∧ ((s.dev.can k).bus = some .reference) :=
  ⟨1, 9, { wRegs [(A.CAN_CTRL 1, 1)] with dev := { (wRegs [(A.CAN_CTRL 1, 1)]).dev with cans := [(1, { bus := some .reference })] } }, by decide +kernel⟩

/-- `Obligations.CanControllers`: a state and operands that meet the hypotheses of clause 5. -/
theorem witness_CanControllers_5 :
∃ (k lec : Nat) (tx : Bool) (s : State), (s.dev.canRuns k = true) ∧ (s.dev.fld (A.CAN_STATUS k) 1 0 < 2) ∧ (1 ≤ lec) ∧ (lec ≤ 6) :=
  ⟨1, 3, true, { wRegs [(A.CAN_CTRL 1, 1)] with dev := { (wRegs [(A.CAN_CTRL 1, 1)]).dev with cans := [(1, {})] } }, by decide +kernel⟩

/-- `Obligations.CanControllers`: a state and operands that meet the hypotheses of clause 6. -/
theorem witness_CanControllers_6 :
∃ (k : Nat) (s : State), (s.dev.canRuns k = true) ∧ (255 < s.dev.fld (A.CAN_STATUS k) 24 16) ∧ (s.dev.fld (A.CAN_STATUS k) 1 0 < 2) ∧
    ((s.dev.can k).abortTo = none) :=
  ⟨1, { wRegs [(A.CAN_CTRL 1, 1), (A.CAN_STATUS 1, 0x1000001)] with dev := { (wRegs [(A.CAN_CTRL 1, 1), (A.CAN_STATUS 1, 0x1000001)]).dev with cans := [(1, { bus := some .entry })] } }, by decide +kernel⟩

/-- `Obligations.CanControllers`: a state and operands that meet the hypotheses of clause 7. -/
theorem witness_CanControllers_7 :
∃ (k n : Nat) (s : State), (s.dev.canRuns k = true) ∧ (2 ≤ s.dev.fld (A.CAN_STATUS k) 1 0) ∧ (1 ≤ n) ∧ ((s.dev.can k).recessive + n < 128) :=
  ⟨1, 3, { wRegs [(A.CAN_CTRL 1, 1), (A.CAN_STATUS 1, 2)] with dev := { (wRegs [(A.CAN_CTRL 1, 1), (A.CAN_STATUS 1, 2)]).dev with cans := [(1, {})] } }, by decide +kernel⟩

/-- `Obligations.CanControllers`: a state and operands that meet the hypotheses of clause 8. -/
theorem witness_CanControllers_8 :
∃ (k n : Nat) (s : State), (s.dev.canRuns k = true) ∧ (2 ≤ s.dev.fld (A.CAN_STATUS k) 1 0) ∧ (1 ≤ n) ∧ (128 ≤ (s.dev.can k).recessive + n) :=
  ⟨1, 128, { wRegs [(A.CAN_CTRL 1, 1), (A.CAN_STATUS 1, 2)] with dev := { (wRegs [(A.CAN_CTRL 1, 1), (A.CAN_STATUS 1, 2)]).dev with cans := [(1, {})] } }, by decide +kernel⟩

/-- `Obligations.CanControllers`: a state and operands that meet the hypotheses of clause 9. -/
theorem witness_CanControllers_9 :
∃ (k : Nat) (s : State), (s.dev.rb (A.CAN_TM_CFG k) 10 = true) ∧ (s.dev.canRuns k = true) ∧ ((s.dev.can k).refNext ≤ (s.dev.seenAt
    (s.dev.can k).refNext).now) ∧ (((s.dev.seenAt (s.dev.can k).refNext).can k).refPending = false) ∧ (((s.dev.seenAt (s.dev.can
    k).refNext).can k).bus ≠ some .reference) :=
  ⟨1, { wRegs [(A.CAN_CTRL 1, 1), (A.CAN_TM_CFG 1, 0x40A)] with dev := { (wRegs [(A.CAN_CTRL 1, 1), (A.CAN_TM_CFG 1, 0x40A)]).dev with cans := [(1, {})] } }, by decide +kernel⟩

/-- `Obligations.CanControllers`: a state and operands that meet the hypotheses of clause 10. -/
theorem witness_CanControllers_10 :
∃ (k : Nat) (s : State), (s.dev.rb (A.CAN_TM_CFG k) 10 = true) ∧ (s.dev.canRuns k = true) ∧ ((s.dev.can k).refNext ≤ (s.dev.seenAt
    (s.dev.can k).refNext).now) ∧ (((s.dev.seenAt (s.dev.can k).refNext).can k).refPending = true) :=
  ⟨1, { wRegs [(A.CAN_CTRL 1, 1), (A.CAN_TM_CFG 1, 0x40A)] with dev := { (wRegs [(A.CAN_CTRL 1, 1), (A.CAN_TM_CFG 1, 0x40A)]).dev with cans := [(1, { refPending := true })] } }, by decide +kernel⟩

/-- `Obligations.CanControllers`: a state and operands that meet the hypotheses of clause 11. -/
theorem witness_CanControllers_11 :
∃ (h : Hdr) (b : List Byte) (s : State), (s.dev.targetCheck 0x0603 h = none) ∧ (h.mask = 0) ∧ (byteAt b 16 ≤ 3) ∧ (byteAt b 17 ≤ 7) ∧ (1 ≤
    leAt b 18 2) ∧ (leAt b 18 2 ≤ 1000) ∧ (leAt b 20 4 < 2 ^ 29) ∧ (s.dev.rb (A.CAN_CTRL (byteAt b 16)) 0 = true) ∧ ((nbit 1 (byteAt b 17)
    && !s.dev.rb (A.CAN_CTRL (byteAt b 16)) 3) = false) :=
  ⟨{}, putAt (List.replicate 64 0) 16 [1, 1, 10], wRegs [(A.CAN_CTRL 1, 1)], by decide +kernel⟩

/-- `Obligations.CanControllers`: a state and operands that meet the hypotheses of clause 12. -/
theorem witness_CanControllers_12 :
∃ (h : Hdr) (k : Nat) (s : State), (s.dev.targetCheck 0x0604 h = none) ∧ (h.mask = 0) ∧ (k ≤ 3) :=
  ⟨{}, 3, wReady, by decide +kernel⟩

/-- `Obligations.CanControllers`: a state and operands that meet the hypotheses of clause 13. -/
theorem witness_CanControllers_13 :
∃ (k : Nat) (x : CanDelay) (rest : List CanDelay) (s : State), ((s.dev.can k).delays = x :: rest) :=
  ⟨1, { tx := true, v := 3, at_ := 500 }, [], { wRegs [(A.CAN_CTRL 1, 1)] with dev := { (wRegs [(A.CAN_CTRL 1, 1)]).dev with cans := [(1, { delays := [{ tx := true, v := 3, at_ := 500 }] })] } }, by decide +kernel⟩

/-- `Obligations.UartBytes`: a state and operands that meet the hypotheses of clause 1. -/
theorem witness_UartBytes_1 :
∃ (n bits : Nat) (parity stop : Bool) (s : State), (n < 2) ∧ (s.dev.uartRuns n = true) ∧ ((s.dev.rb (A.UART_CFG n) 7 && s.dev.deOn n) =
    false) ∧ (¬ (n = 0 ∧ s.dev.upd.finial = true)) :=
  ⟨1, 0x41, true, true, { wRegs [(A.UART_CFG 1, 3)] with dev := { (wRegs [(A.UART_CFG 1, 3)]).dev with uarts := [(1, {})] } }, by decide +kernel⟩

/-- `Obligations.UartBytes`: a state and operands that meet the hypotheses of clause 2. -/
theorem witness_UartBytes_2 :
∃ (n bits : Nat) (parity stop : Bool) (s : State), (s.dev.rb (A.UART_CFG n) 7 = true) ∧ (s.dev.deOn n = true) ∧ (¬ (n = 0 ∧
    s.dev.upd.finial = true)) :=
  ⟨1, 0x41, true, true, { wRegs [(A.UART_CFG 1, 0xA3)] with dev := { (wRegs [(A.UART_CFG 1, 0xA3)]).dev with uarts := [(1, { shift := some 0x41, de := true })] } }, by decide +kernel⟩

/-- `Obligations.UartBytes`: a state and operands that meet the hypotheses of clause 3. -/
theorem witness_UartBytes_3 :
∃ (bits : Nat) (parity stop : Bool) (s : State), (s.dev.upd.finial = true) :=
  ⟨0x7E, true, true, { dev := { wMode .ready with upd := { finial := true } } }, by decide +kernel⟩

/-- `Obligations.UartBytes`: a state and operands that meet the hypotheses of clause 4. -/
theorem witness_UartBytes_4 :
∃ (n : Nat) (b : Byte) (s : State), (s.dev.uartRuns n = true) ∧ ((s.dev.uart n).shift = some b) ∧ ((s.dev.uart n).tx = []) :=
  ⟨1, 0x41, { wRegs [(A.UART_CFG 1, 3)] with dev := { (wRegs [(A.UART_CFG 1, 3)]).dev with uarts := [(1, { shift := some 0x41, de := true })] } }, by decide +kernel⟩

/-- `Obligations.UartBytes`: a state and operands that meet the hypotheses of clause 5. -/
theorem witness_UartBytes_5 :
∃ (n : Nat) (b c : Byte) (rest : List Byte) (s : State), (s.dev.uartRuns n = true) ∧ ((s.dev.uart n).shift = some b) ∧ ((s.dev.uart n).tx
    = c :: rest) :=
  ⟨1, 0x41, 0x42, [], { wRegs [(A.UART_CFG 1, 3)] with dev := { (wRegs [(A.UART_CFG 1, 3)]).dev with uarts := [(1, { shift := some 0x41, tx := [0x42], de := true })] } }, by decide +kernel⟩

/-- `Obligations.UpdateSessions`: a state and operands that meet the hypotheses of clause 1. -/
theorem witness_UpdateSessions_1 :
∃ (h : Hdr) (length : Nat) (s : State), (s.dev.targetCheck 0x0A01 h = none) ∧ (h.mask = 0) ∧ (s.dev.upd.session = none) ∧ (s.dev.upd.trial
    = false) ∧ (s.dev.sys.mode ∈ [Mode.configure, .ready, .run, .safeHold, .recovery, .prodTest]) ∧ (8192 ≤ length) ∧ (length ≤ 8388608) ∧
    (length % 4096 = 0) :=
  ⟨{}, 8192, wReady, by decide +kernel⟩

/-- `Obligations.UpdateSessions`: a state and operands that meet the hypotheses of clause 2. -/
theorem witness_UpdateSessions_2 :
∃ (h : Hdr) (length : Nat) (s : State), (s.dev.targetCheck 0x0A01 h = none) ∧ (h.mask = 0) ∧ (s.dev.upd.session = none) ∧ (s.dev.upd.trial
    = false) ∧ (s.dev.sys.mode = .configure) ∧ ((length < 8192 ∨ 8388608 < length ∨ length % 4096 ≠ 0)) :=
  ⟨{}, 8193, { dev := { (wMode .configure).wrAll [] with host := { attached := true }, upd := {  } } }, by decide +kernel⟩

/-- `Obligations.UpdateSessions`: a state and operands that meet the hypotheses of clause 3. -/
theorem witness_UpdateSessions_3 :
∃ (x : UpdSess) (s : State), (s.dev.upd.session = some x) ∧ (x.phase = 1) ∧ (s.dev.flashRuns = true) :=
  ⟨{ slot := 1, length := 8192, blocks := 2, phase := 1, cmd := none }, { dev := { (wMode .configure).wrAll [] with host := { attached := true }, upd := { session := some { slot := 1, length := 8192, blocks := 2, phase := 1, cmd := none } } } }, by decide +kernel⟩

/-- `Obligations.UpdateSessions`: a state and operands that meet the hypotheses of clause 4. -/
theorem witness_UpdateSessions_4 :
∃ (h : Hdr) (index crc : Nat) (b : List Byte) (x : UpdSess) (s : State), (s.dev.targetCheck 0x0A02 h = none) ∧ (h.mask = 0) ∧
    (s.dev.upd.session = some x) ∧ (x.phase = 2) ∧ (s.dev.blockReason x index crc (bytesAt b 0 4096) = none) ∧ ((x.prog.any (fun p =>
    p.index == index) || AList.has (s.dev.slotOf x.slot).blocks index) = false) :=
  ⟨{}, 1, crc32c (bytesAt [] 0 4096), [], { slot := 1, length := 8192, blocks := 2, phase := 2, cmd := none }, { dev := { (wMode .configure).wrAll [] with host := { attached := true }, upd := { session := some { slot := 1, length := 8192, blocks := 2, phase := 2, cmd := none } } } }, by decide +kernel, by decide +kernel, by decide +kernel, by decide +kernel, blockReason_fresh _ _ _ rfl (by decide +kernel), by decide +kernel⟩

/-- `Obligations.UpdateSessions`: a state and operands that meet the hypotheses of clause 5. -/
theorem witness_UpdateSessions_5 :
∃ (h : Hdr) (index crc r : Nat) (b : List Byte) (x : UpdSess) (s : State), (s.dev.targetCheck 0x0A02 h = none) ∧ (h.mask = 0) ∧
    (s.dev.upd.session = some x) ∧ (x.phase = 2) ∧ (s.dev.blockReason x index crc (bytesAt b 0 4096) = some r) :=
  ⟨{}, 0, 0, 1, [], { slot := 1, length := 8192, blocks := 2, phase := 2, cmd := none }, { dev := { (wMode .configure).wrAll [] with host := { attached := true }, upd := { session := some { slot := 1, length := 8192, blocks := 2, phase := 2, cmd := none } } } }, by decide +kernel⟩

/-- `Obligations.UpdateSessions`: a state and operands that meet the hypotheses of clause 6. -/
theorem witness_UpdateSessions_6 :
∃ (h : Hdr) (index crc : Nat) (b : Option (List Byte)) (s : State), (s.dev.targetCheck 0x0A02 h = none) ∧ (h.mask = 0) ∧
    (s.dev.upd.session = none) :=
  ⟨{}, 0, 0, none, wReady, by decide +kernel⟩

/-- `Obligations.UpdateSessions`: a state and operands that meet the hypotheses of clause 7. -/
theorem witness_UpdateSessions_7 :
∃ (index : Nat) (x : UpdSess) (p : Prog) (s : State), (s.dev.flashRuns = true) ∧ (s.dev.upd.session = some x) ∧ (x.prog.find? (fun p =>
    p.index == index) = some p) :=
  ⟨1, { slot := 1, length := 8192, blocks := 2, phase := 2, cmd := none, prog := [{ index := 1, bytes := [5], cmd := {} }] }, { index := 1, bytes := [5], cmd := {} }, { dev := { (wMode .configure).wrAll [] with host := { attached := true }, upd := { session := some { slot := 1, length := 8192, blocks := 2, phase := 2, cmd := none, prog := [{ index := 1, bytes := [5], cmd := {} }] } } } }, by decide +kernel⟩

/-- `Obligations.UpdateSessions`: a state and operands that meet the hypotheses of clause 8. -/
theorem witness_UpdateSessions_8 :
∃ (h : Hdr) (x : UpdSess) (s : State), (s.dev.targetCheck 0x0A03 h = none) ∧ (h.mask = 0) ∧ (s.dev.upd.session = some x) ∧ (x.phase = 2) ∧
    (s.dev.updReceived x = x.blocks) :=
  ⟨{}, { slot := 1, length := 8192, blocks := 2, phase := 2, cmd := none }, { dev := { (wMode .configure).wrAll [] with host := { attached := true }, upd := { session := some { slot := 1, length := 8192, blocks := 2, phase := 2, cmd := none }, slots := [(1, { state := 3, blocks := [(0, []), (1, [])] })] } } }, by decide +kernel⟩

/-- `Obligations.UpdateSessions`: a state and operands that meet the hypotheses of clause 9. -/
theorem witness_UpdateSessions_9 :
∃ (h : Hdr) (x : UpdSess) (s : State), (s.dev.targetCheck 0x0A03 h = none) ∧ (h.mask = 0) ∧ (s.dev.upd.session = some x) ∧ (x.phase = 2) ∧
    (s.dev.updReceived x ≠ x.blocks) :=
  ⟨{}, { slot := 1, length := 8192, blocks := 2, phase := 2, cmd := none }, { dev := { (wMode .configure).wrAll [] with host := { attached := true }, upd := { session := some { slot := 1, length := 8192, blocks := 2, phase := 2, cmd := none } } } }, by decide +kernel⟩

/-- `Obligations.UpdateSessions`: a state and operands that meet the hypotheses of clause 10. -/
theorem witness_UpdateSessions_10 :
∃ (x : UpdSess) (s : State), (s.dev.flashRuns = true) ∧ (s.dev.upd.session = some x) ∧ (x.phase = 3) ∧ (s.dev.slotReason x.slot (some
    x.length) = none) :=
  ⟨{ slot := 1, length := 8192, blocks := 2, phase := 3, cmd := none }, { dev := { (wMode .configure).wrAll [] with host := { attached := true }, upd := { session := some { slot := 1, length := 8192, blocks := 2, phase := 3, cmd := none }, slots := [(1, { state := 3, factory := true })] } } }, by decide +kernel⟩

/-- `Obligations.UpdateSessions`: a state and operands that meet the hypotheses of clause 11. -/
theorem witness_UpdateSessions_11 :
∃ (x : UpdSess) (r : Nat) (s : State), (s.dev.flashRuns = true) ∧ (s.dev.upd.session = some x) ∧ (x.phase = 3) ∧ (s.dev.slotReason x.slot
    (some x.length) = some r) :=
  ⟨{ slot := 1, length := 8192, blocks := 2, phase := 3, cmd := none }, 1, { dev := { (wMode .configure).wrAll [] with host := { attached := true }, upd := { session := some { slot := 1, length := 8192, blocks := 2, phase := 3, cmd := none } } } }, by decide +kernel⟩

/-- `Obligations.UpdateSessions`: a state and operands that meet the hypotheses of clause 12. -/
theorem witness_UpdateSessions_12 :
∃ (h : Hdr) (s : State), (s.dev.targetCheck 0x0A03 h = none) ∧ (h.mask = 0) ∧ (s.dev.upd.trial = true) ∧ (s.dev.upd.commit = none) :=
  ⟨{}, { dev := { (wMode .configure).wrAll [] with host := { attached := true }, upd := { trial := true } } }, by decide +kernel⟩

/-- `Obligations.UpdateSessions`: a state and operands that meet the hypotheses of clause 13. -/
theorem witness_UpdateSessions_13 :
∃ (h : Hdr) (s : State), (s.dev.flashRuns = true) ∧ (s.dev.upd.commit = some h) :=
  ⟨{}, { dev := { (wMode .configure).wrAll [] with host := { attached := true }, upd := { trial := true, commit := some {} } } }, by decide +kernel⟩

/-- `Obligations.UpdateSessions`: a state and operands that meet the hypotheses of clause 14. -/
theorem witness_UpdateSessions_14 :
∃ (h : Hdr) (p : Nat) (s : State), (s.dev.targetCheck 0x0A03 h = none) ∧ (h.mask = 0) ∧ (s.dev.bootRec.pending = some p) :=
  ⟨{}, 1, { dev := { (wMode .configure).wrAll [] with host := { attached := true }, upd := { recs := [(0, { seq := 3, active := 0, pending := some 1, trial := false })] } } }, by decide +kernel⟩

/-- `Obligations.UpdateSessions`: a state and operands that meet the hypotheses of clause 15. -/
theorem witness_UpdateSessions_15 :
∃ (h : Hdr) (s : State), (s.dev.targetCheck 0x0A04 h = none) ∧ (h.mask = 0) :=
  ⟨{}, wReady, by decide +kernel⟩

/-- `Obligations.UpdateSessions`: a state and operands that meet the hypotheses of clause 16. -/
theorem witness_UpdateSessions_16 :
∃ (index : Nat) (x : UpdSess) (s : State), (s.dev.flashRuns = true) ∧ (s.dev.upd.session = some x) ∧ (x.phase = 1) :=
  ⟨0, { slot := 1, length := 8192, blocks := 2, phase := 1, cmd := none }, { dev := { (wMode .configure).wrAll [] with host := { attached := true }, upd := { session := some { slot := 1, length := 8192, blocks := 2, phase := 1, cmd := none } } } }, by decide +kernel⟩

/-- `Obligations.UpdateSessions`: a state and operands that meet the hypotheses of clause 17. -/
theorem witness_UpdateSessions_17 :
∃ (index : Nat) (x : UpdSess) (p : Prog) (s : State), (s.dev.flashRuns = true) ∧ (s.dev.upd.session = some x) ∧ (x.prog.find? (fun p =>
    p.index == index) = some p) :=
  ⟨1, { slot := 1, length := 8192, blocks := 2, phase := 2, cmd := none, prog := [{ index := 1, bytes := [5], cmd := {} }] }, { index := 1, bytes := [5], cmd := {} }, { dev := { (wMode .configure).wrAll [] with host := { attached := true }, upd := { session := some { slot := 1, length := 8192, blocks := 2, phase := 2, cmd := none, prog := [{ index := 1, bytes := [5], cmd := {} }] } } } }, by decide +kernel⟩

/-- `Obligations.ScanAndDebug`: a state and operands that meet the hypotheses of clause 1. -/
theorem witness_ScanAndDebug_1 :
∃ (drum : Bool) (op : Nat) (s : State), (((s.dev.modUpd (fun u => if drum then { u with tapDrum := s.dev.tapActs drum (op % 256) } else
    { u with tapLogic := s.dev.tapActs drum (op % 256) })).upd.scans) = s.dev.upd.scans) :=
  ⟨false, 0x11, wReady, by decide +kernel⟩

/-- `Obligations.ScanAndDebug`: a state and operands that meet the hypotheses of clause 2. -/
theorem witness_ScanAndDebug_2 :
∃ (drum : Bool) (op : Nat) (s : State), (s.dev.upd.scans = false) ∧ (((s.dev.modUpd (fun u => if drum then
    { u with tapDrum := s.dev.tapActs drum (op % 256) } else { u with tapLogic := s.dev.tapActs drum (op % 256) })).upd.scans) = true) :=
  ⟨false, 0, wReady, by decide +kernel⟩

/-- `Obligations.ScanAndDebug`: a state and operands that meet the hypotheses of clause 3. -/
theorem witness_ScanAndDebug_3 :
∃ (drum : Bool) (op : Nat) (s : State), (s.dev.upd.scans = true) ∧ (((s.dev.modUpd (fun u => if drum then
    { u with tapDrum := s.dev.tapActs drum (op % 256) } else { u with tapLogic := s.dev.tapActs drum (op % 256) })).upd.scans) = false) :=
  ⟨false, 2, { wReady with dev := { wReady.dev with upd := { tapLogic := 0 } } }, by decide +kernel⟩

/-- `Obligations.ScanAndDebug`: a state and operands that meet the hypotheses of clause 4. -/
theorem witness_ScanAndDebug_4 :
∃ (token : List Byte) (s : State), (s.dev.upd.tapLogic = 0x11) ∧ (s.dev.upd.dbg = 1) :=
  ⟨[], { wReady with dev := { wReady.dev with upd := { tapLogic := 0x11, dbg := 1 } } }, by decide +kernel⟩

/-- `Obligations.ScanAndDebug`: a state and operands that meet the hypotheses of clause 5. -/
theorem witness_ScanAndDebug_5 :
∃ (cp : Nat) (s : State), (cp < 4) ∧ (s.dev.debugOpen = true) ∧ (nbit cp s.dev.upd.halted = false) :=
  ⟨2, { wReady with dev := { wReady.dev with upd := { tapLogic := 0x10 } } }, by decide +kernel⟩

/-- `Obligations.ScanAndDebug`: a state and operands that meet the hypotheses of clause 6. -/
theorem witness_ScanAndDebug_6 :
∃ (cp : Nat) (s : State), (cp < 4) ∧ (s.dev.debugOpen = true) ∧ (nbit cp s.dev.upd.halted = true) :=
  ⟨2, { wReady with dev := { wReady.dev with upd := { tapLogic := 0x10, halted := 4 } } }, by decide +kernel⟩

/-- `Obligations.EveryStepKeepsTheMapsCanonical`: a state and operands that meet the hypotheses of clause 1. -/
theorem witness_EveryStepKeepsTheMapsCanonical_1 :
∃ (s t : State), (s.Inv) ∧ (step s = .next t) :=
  ⟨State.reset, State.reset, ⟨rfl, rfl⟩, rfl⟩

/-- `Obligations.QueueDrains`: a state and operands that meet the hypotheses of clause 2. -/
theorem witness_QueueDrains_2 :
∃ (d d2 : Dev) (c : Instr) (rest : List Instr), (exec c { dev := d, pending := rest } = .next { dev := d2, pending := rest }) :=
  ⟨{}, Dev.settle (Dev.unmask {} 0 0), .msixUnmask 0 0, [], rfl⟩

/-- `Obligations.CommandsTurnedAwayChangeNothingElse`: a state and operands that meet the hypotheses of clause 1. -/
theorem witness_CommandsTurnedAwayChangeNothingElse_1 :
∃ (c : Instr) (op r : Nat) (h : Hdr) (s : State), (orderOf c = some (op, h)) ∧ (s.dev.targetCheck op h = some r) :=
  ⟨.axEnable { mask := 8, cc := 5 } 1, 0x0203, Code.notOwner, { mask := 8, cc := 5 }, wReady, by decide +kernel⟩

/-- `Obligations.QueriesChangeNothingElse`: a state and operands that meet the hypotheses of clause 1. -/
theorem witness_QueriesChangeNothingElse_1 :
∃ (c : Instr) (s t : State), (isQuery c = true) ∧ (exec c s = .next t) :=
  ⟨.sysNop {}, wReady, { dev := _, pending := [] }, rfl, rfl⟩

/-- `Obligations.DeviceResetKeepsTheTwoDomainsOnly`: a state and operands that meet the hypotheses of clause 1. -/
theorem witness_DeviceResetKeepsTheTwoDomainsOnly_1 :
∃ (d : Dev) (bits a : Nat), (SMap.wf regReset d.regs = true) ∧ (a ≠ A.SYS_RST_CAUSE) ∧ (a ≠ A.SYS_SUPPLY_STATUS) ∧ (a ≠ A.FIELD_LEVEL) ∧
    (a ≠ A.FIELD_STATUS) :=
  ⟨{}, 8, 0, by decide +kernel⟩

/-- `Obligations.DeviceResetKeepsTheTwoDomainsOnly`: a state and operands that meet the hypotheses of clause 3. -/
theorem witness_DeviceResetKeepsTheTwoDomainsOnly_3 :
∃ (d : Dev) (bits : Nat), (SMap.wf regReset d.regs = true) :=
  ⟨{}, 8, by decide +kernel⟩

/-- `Obligations.EqualReadingsAreEqualMaps`: a state and operands that meet the hypotheses of clause 1. -/
theorem witness_EqualReadingsAreEqualMaps_1 :
∃ (d e : Dev), (d.canonical) ∧ (e.canonical) ∧ ((∀ a, d.rd a = e.rd a)) :=
  ⟨{}, {}, ⟨rfl, rfl⟩, ⟨rfl, rfl⟩, fun _ => rfl⟩

/-- `Obligations.EqualReadingsAreEqualMaps`: a state and operands that meet the hypotheses of clause 2. -/
theorem witness_EqualReadingsAreEqualMaps_2 :
∃ (d e : Dev), (d.canonical) ∧ (e.canonical) ∧ ((∀ a, d.mb a = e.mb a)) :=
  ⟨{}, {}, ⟨rfl, rfl⟩, ⟨rfl, rfl⟩, fun _ => rfl⟩

/-- `Obligations.LittleEndian`: a state and operands that meet the hypotheses of clause 1. -/
theorem witness_LittleEndian_1 :
∃ (n v i : Nat), (i < n) :=
  ⟨1, 0, 0, by decide +kernel⟩

/-- `Obligations.GearLawIsExactAndRoundedOnce`: a state and operands that meet the hypotheses of clause 1. -/
theorem witness_GearLawIsExactAndRoundedOnce_1 :
∃ (d : Dev) (n : Nat) (g : GearLaw) (m : Ref), (g.cam = false) ∧ (0 < g.d) :=
  ⟨{}, 0, { n := 1, d := 2 }, ⟨0, 0, 0⟩, rfl, by decide⟩

/-- `Obligations.LowestMatchingFilter`: a state and operands that meet the hypotheses of clause 1. -/
theorem witness_LowestMatchingFilter_1 :
∃ (d : Dev) (k id : Nat) (ide : Bool), ((∀ i, i < 16 → d.rb (A.CAN_FLT_ID k i) 31 = false)) :=
  ⟨{}, 0, 0, false, by decide +kernel⟩

/-- `Obligations.LowestMatchingFilter`: a state and operands that meet the hypotheses of clause 2. -/
theorem witness_LowestMatchingFilter_2 :
∃ (d : Dev) (k id i j : Nat) (ide : Bool), (j < 16) ∧ (d.rb (A.CAN_FLT_ID k j) 31 = true) :=
  ⟨(wRegs [(A.CAN_FLT_ID 1 3, 0x80000005)]).dev, 1, 5, 3, 3, false, by decide +kernel⟩

/-- `Obligations.LowestMatchingFilter`: a state and operands that meet the hypotheses of clause 3. -/
theorem witness_LowestMatchingFilter_3 :
∃ (d : Dev) (k id j : Nat) (ide : Bool), (j < 16) ∧ (d.rb (A.CAN_FLT_ID k j) 31 = true) ∧ ((∀ l < 16, d.rb (A.CAN_FLT_ID k l) 31 = true →
    ¬ ((id ^^^ field 28 0 (d.rd (A.CAN_FLT_ID k l))) &&& field 28 0 (d.rd (A.CAN_FLT_MASK k l)) = 0 ∧ (bit 29 (d.rd (A.CAN_FLT_MASK k l))
    = true → ide = bit 29 (d.rd (A.CAN_FLT_ID k l)))))) :=
  ⟨(wRegs [(A.CAN_FLT_ID 1 3, 0x80000005), (A.CAN_FLT_MASK 1 3, 0x1FFFFFFF)]).dev, 1, 6, 3, false, by decide +kernel⟩

/-- `Obligations.LowestMatchingFilter`: a state and operands that meet the hypotheses of clause 4. -/
theorem witness_LowestMatchingFilter_4 :
∃ (k : Nat) (f : CanFrame) (s : State), (s.dev.canRuns k = true) ∧ (s.dev.fld (A.CAN_STATUS k) 1 0 < 2) ∧ (s.dev.fld (A.CAN_CTRL k) 2 1 ≠
    2) ∧ (nbit 0 f.flags = false) ∧ (((s.dev.seenAt f.sof).canRxGood k).canFilter k f.id f.ide = none) :=
  ⟨1, { id := 6, dlc := 1, data := [7], sof := 9 }, wRegs [(A.CAN_CTRL 1, 1), (A.CAN_FLT_ID 1 3, 0x80000005), (A.CAN_FLT_MASK 1 3, 0x1FFFFFFF)], by decide +kernel⟩

/-- `Obligations.ScheduleRepeatsAfterEightTicks`: a state and operands that meet the hypotheses of clause 1. -/
theorem witness_ScheduleRepeatsAfterEightTicks_1 :
∃ (m : Mdl) (t : Nat), (m.rate ≤ 3) :=
  ⟨{ lead := 0, axes := [0], slot := none, cost := 1, rate := 1, phase := 1, prio := 0, cluster := 0 }, 9, by decide⟩

/-- `Obligations.ScheduleRepeatsAfterEightTicks`: a state and operands that meet the hypotheses of clause 2. -/
theorem witness_ScheduleRepeatsAfterEightTicks_2 :
∃ (ms : List Mdl) (t : Nat), ((∀ m ∈ ms, m.rate ≤ 3)) :=
  ⟨[], 9, by simp⟩

/-- `Obligations.SafetyIsReadMostly`: a state and operands that meet the hypotheses of clause 1. -/
theorem witness_SafetyIsReadMostly_1 :
∃ (d : Dev) (r : Req) (addr : Nat) (v : Word) (row : RegRow), (d.reaches r = true) ∧ (regKey addr = addr) ∧ (addr % 4 = 0) ∧ (0x140000 ≤
    addr) ∧ (addr < 0x180000) ∧ (memKind addr = none) ∧ (regRow addr = some row) ∧ (row.rw = 0) ∧ (row.w1c = 0) ∧ (row.w1s = 0) :=
  ⟨wReady.dev, { cc := 0, port := .pcie }, A.SAF_STATUS, 5, (regRow A.SAF_STATUS).get (by decide +kernel), by decide +kernel⟩

/-- `Obligations.TapOpcodes`: a state and operands that meet the hypotheses of clause 1. -/
theorem witness_TapOpcodes_1 :
∃ (d : Dev) (drum : Bool) (op : Nat), (op < 256) :=
  ⟨{}, false, 0x11, by decide +kernel⟩

/-- `Obligations.WritesKeepWhatTheyMayNotChange`: a state and operands that meet the hypotheses of clause 1. -/
theorem witness_WritesKeepWhatTheyMayNotChange_1 :
∃ (d : Dev) (r : Req) (row : RegRow) (a : Nat) (v w : Word), ((d.written r row a v).2 = none) ∧ (w = (d.rd a &&& ~~~ BitVec.ofNat 32
    row.rw) ||| (v &&& BitVec.ofNat 32 row.rw)) :=
  ⟨wReady.dev, { cc := 0, port := .pcie }, (regRow A.SYS_WAKE_CFG).get (by decide +kernel), A.SYS_WAKE_CFG, 0x501, 0x501, by decide +kernel⟩

/-- `Obligations.WritesKeepWhatTheyMayNotChange`: a state and operands that meet the hypotheses of clause 2. -/
theorem witness_WritesKeepWhatTheyMayNotChange_2 :
∃ (d : Dev) (r : Req) (row : RegRow) (a : Nat) (v : Word), ((∀ w, unusedBits row a w &&& ~~~ BitVec.ofNat 32 row.rw = 0)) :=
  ⟨wReady.dev, { cc := 0, port := .pcie }, (regRow A.SYS_WAKE_CFG).get (by decide +kernel), A.SYS_WAKE_CFG, 5, fun _ => BitVec.zero_and⟩

/-- `Obligations.SvmIsCentredAndExact`: a state and operands that meet the hypotheses of clause 1. -/
theorem witness_SvmIsCentredAndExact_1 :
∃ (a b vdc : Rat), (0 < vdc) :=
  ⟨0, 0, 1, by norm_num⟩

/-- `Obligations.CompletionsAreNeverDropped`: a state and operands that meet the hypotheses of clause 1. -/
theorem witness_CompletionsAreNeverDropped_1 :
∃ (d : Dev) (q : Nat) (c : Cq) (x : Held), ((d.cqHolds c || !c.held.isEmpty) = true) :=
  ⟨wReady.dev, 5, { client := 0, loc := 0, base := 0, k := 4, vector := 0, stopped := true }, { bytes := [], notify := false, tag := 0 }, by decide +kernel⟩

/-- `Obligations.CompletionsAreNeverDropped`: a state and operands that meet the hypotheses of clause 2. -/
theorem witness_CompletionsAreNeverDropped_2 :
∃ (d : Dev) (q : Nat) (c : Cq) (x : Held), ((d.cqHolds c || !c.held.isEmpty) = false) ∧ (d.cqFails q = true) :=
  ⟨(wReady.dev.modHost (fun h => { h with cqBad := [5] })), 5, { client := 0, loc := 0, base := 0, k := 4, vector := 0 }, { bytes := [], notify := false, tag := 0 }, by decide +kernel, by decide +kernel⟩

/-- `Obligations.CompletionsAreNeverDropped`: a state and operands that meet the hypotheses of clause 3. -/
theorem witness_CompletionsAreNeverDropped_3 :
∃ (q : Nat) (c : Cq) (s t : State), (AList.find s.dev.host.cqs q = some c) ∧ (exec (.heldCompletionRelease q) s = .next t) :=
  ⟨5, { client := 0, loc := 0, base := 0, k := 4, vector := 0 }, { wReady with dev := { wReady.dev with host := { wReady.dev.host with cqs := [(5, { client := 0, loc := 0, base := 0, k := 4, vector := 0 })] } } }, { dev := _, pending := [] }, rfl, rfl⟩

/-- `Obligations.ModeSetRefusals`: a state and operands that meet the hypotheses of clause 2. -/
theorem witness_ModeSetRefusals_2 :
∃ (h : Hdr) (new : Nat) (s : State), (s.dev.targetCheck 0x0101 h = none) ∧ (s.dev.resting = false) ∧ (new < 16) ∧ (((Mode.ofCode new).bind
    (fun m => s.dev.modeConds s.dev.sys.mode m)) = none) :=
  ⟨{}, 0xA, wReady, by decide +kernel⟩

/-- `Obligations.ModeSetRefusals`: a state and operands that meet the hypotheses of clause 3. -/
theorem witness_ModeSetRefusals_3 :
∃ (h : Hdr) (new : Nat) (m : Mode) (conds : List Bool) (s : State), (s.dev.targetCheck 0x0101 h = none) ∧ (s.dev.resting = false) ∧
    (Mode.ofCode new = some m) ∧ (s.dev.modeConds s.dev.sys.mode m = some conds) ∧ (firstFailed conds 1 ≠ 0) ∧ (((s.dev.sys.mode ==
    .safeHold && (m == .ready || m == .configure)) && !s.dev.saf.resetOk) = false) :=
  ⟨{}, 7, .run, [true, false], { dev := { (wMode .ready).wr (A.SAF_IN_CFG 0) 0x11 with saf := { groups := [(0, { latched := true })] } } }, by decide +kernel⟩

/-- `Obligations.ModeSetRefusals`: a state and operands that meet the hypotheses of clause 4. -/
theorem witness_ModeSetRefusals_4 :
∃ (h : Hdr) (m : Mode) (s : State), (s.dev.targetCheck 0x0101 h = none) ∧ (s.dev.sys.mode = .safeHold) ∧ ((m = .ready ∨ m = .configure)) ∧
    (s.dev.saf.resetOk = false) :=
  ⟨{}, .ready, { dev := wMode .safeHold }, by decide +kernel⟩

/-- `Obligations.UnmappedAccesses`: a state and operands that meet the hypotheses of clause 1. -/
theorem witness_UnmappedAccesses_1 :
∃ (d : Dev) (r : Req) (addr : Nat) (v : Word), (d.reaches r = true) ∧ (regKey addr = addr) ∧ (addr % 4 = 0) ∧ (addr < 0x1000000) ∧
    (axisOfAddr addr = none) ∧ (memKind addr = none) ∧ (regRow addr = none) :=
  ⟨wReady.dev, { cc := 0, port := .pcie }, 0x8000, 5, by decide +kernel⟩

/-- `Obligations.OutputsFollowTheReactions`: a state and operands that meet the hypotheses of clause 1. -/
theorem witness_OutputsFollowTheReactions_1 :
∃ (d : Dev) (j : Nat), (j < 8) :=
  ⟨{}, 7, by decide +kernel⟩

/-- `Obligations.OutputsFollowTheReactions`: a state and operands that meet the hypotheses of clause 2. -/
theorem witness_OutputsFollowTheReactions_2 :
∃ (d : Dev), (d.saf.deviceSto = true) :=
  ⟨{}, by decide +kernel⟩

/-! Every check of WellFormed refuses a command that breaks it and nothing else. -/

/-- A header whose client is out of range (12 R335: the client contexts are 0 to 511 at most). -/
def wBadHdr : Hdr := { cc := 512 }
/-- A requester whose DMA channel does not exist (13 R380: 32 channels). -/
def wBadReq : Req := { Req.manager with dma := some 32 }
/-- Bytes, all zero. -/
def wBytes (n : Nat) : List Byte := List.replicate n 0
/-- None of the commands of a list is well-formed. -/
def allRefused (l : List Instr) : Bool := l.all fun i => !i.wf

/-- Each field of a header is held to its width (12 R348). -/
theorem test_wf_header : ([{ cc := 512 }, { sq := 65536 }, { tag := 65536 }, { node := 64 }, { mask := 2 ^ 32 }, { time := 2 ^ 64 }, { cls := 3 }] : List Hdr).all (fun h => !h.wf) = true ∧ ({} : Hdr).wf = true := by decide +kernel
/-- A requester is held to the client contexts, the node numbers and the DMA channels. -/
theorem test_wf_requester : ([{ Req.manager with cc := 512 }, { Req.manager with port := .ring, cc := 64 }, { Req.manager with dma := some 32 }] : List Req).all (fun r => !r.wf) = true ∧ Req.manager.wf = true := by decide +kernel

/-- Commands 1 to 24 of the checks, each with one operand out of its range. -/
theorem test_wf_commands_01 : allRefused [
    .pwmPeriodStart 32,
    .tripAssert true ⟨4, 0, 0, false⟩,
    .tripAssert false ⟨32, 0, 0, false⟩,
    .tripLatchOff 32,
    .tripWindowClose 32,
    .tripRelease true ⟨4, 0, 0, false⟩,
    .tripRelease false ⟨32, 0, 0, false⟩,
    .senseTransition 32 0 ⟨false, false⟩ 0,
    .senseTransition 0 3 ⟨false, false⟩ 0,
    .senseTransition 0 0 ⟨false, false⟩ (2 ^ 20),
    .dtFallback 32 0,
    .dtFallback 0 3,
    .clusterFailure 2 0 [],
    .clusterFailure 0 256 [],
    .submissionFetch 65536 (wBytes 64) false false none false,
    .submissionFetch 0 (wBytes 63) false false none false,
    .heldCompletionRelease 65536,
    .hostSqTail wBadReq 0 0 0,
    .hostSqTail Req.manager 512 0 0,
    .hostSqTail Req.manager 0 256 0,
    .hostCqHead wBadReq 0 0 0,
    .hostCqHead Req.manager 512 0 0,
    .hostCqHead Req.manager 0 256 0,
    .hostAdmCfg wBadReq 0] = true := by decide +kernel

/-- Commands 25 to 48 of the checks, each with one operand out of its range. -/
theorem test_wf_commands_02 : allRefused [
    .hostEvqCfg wBadReq 0 0,
    .hostEvqCfg Req.manager 512 0,
    .hostEvqHead wBadReq 0 0,
    .hostEvqHead Req.manager 512 0,
    .vectorHoldoffExpiry 512 0,
    .vectorHoldoffExpiry 0 32,
    .registerWrite wBadReq 0 0 ⟨0, []⟩,
    .registerWrite Req.manager (2 ^ 32) 0 ⟨0, []⟩,
    .registerWrite Req.manager 0 16 ⟨0, []⟩,
    .counterLowRead wBadReq ⟨0, 0⟩,
    .counterLowRead Req.manager ⟨2 ^ 32, 0⟩,
    .counterLowRead Req.manager ⟨0, 16⟩,
    .popRegisterRead wBadReq 0 0,
    .popRegisterRead Req.manager (2 ^ 32) 0,
    .popRegisterRead Req.manager 0 16,
    .dieLinkFailure wBadReq 0 false,
    .dieLinkFailure Req.manager (2 ^ 32) false,
    .sysTickCfg wBadReq ⟨0, none⟩,
    .sysOverrunClr wBadReq 0,
    .sysS1PeakClr wBadReq 0,
    .sysDipLastClr wBadReq 0,
    .sysWakeBudget wBadReq 0 0,
    .sysWakeBudget Req.manager 512 0,
    .sysModeSet wBadHdr 0] = true := by decide +kernel

/-- Commands 49 to 72 of the checks, each with one operand out of its range. -/
theorem test_wf_commands_03 : allRefused [
    .sysModeSet {} 256,
    .sysReset wBadHdr,
    .ringCreate wBadHdr (wBytes 64),
    .ringCreate {} (wBytes 63),
    .ringDelete wBadHdr 0 0,
    .ringDelete {} 256 0,
    .ringDelete {} 0 65536,
    .regRead wBadHdr 0 0,
    .regRead {} (2 ^ 32) 0,
    .regRead {} 0 256,
    .regWrite wBadHdr 0 0 [],
    .regWrite {} (2 ^ 32) 0 [],
    .regWrite {} 0 256 [],
    .sysIdentify wBadHdr,
    .sysNop wBadHdr,
    .clientReset wBadHdr 0,
    .clientReset {} 65536,
    .clientCfg wBadHdr 0 0 0,
    .clientCfg {} 65536 0 0,
    .clientCfg {} 0 256 0,
    .clientCfg {} 0 0 65536,
    .eventRoute wBadHdr 0 0 0,
    .eventRoute {} 65536 0 0,
    .eventRoute {} 0 65536 0] = true := by decide +kernel

/-- Commands 73 to 96 of the checks, each with one operand out of its range. -/
theorem test_wf_commands_04 : allRefused [
    .evtRoute wBadReq 0 0,
    .evtRoute Req.manager 65536 0,
    .clientResetCut 512,
    .clientResetComplete 512,
    .flr 512,
    .vfDisable false 512,
    .fabricWindowAccess (2 ^ 30) false 0,
    .udpDatagram 2 0 0 [] [],
    .udpDatagram 0 (2 ^ 32) 0 [] [],
    .udpDatagram 0 0 65536 [] [],
    .axAdmit wBadHdr 0 0,
    .axAdmit {} 256 0,
    .axAdmit {} 0 256,
    .axRelease wBadHdr,
    .axEnable wBadHdr 0,
    .axEnable {} 256,
    .axEnableTimeout 32,
    .axOpen wBadHdr,
    .axDisable wBadHdr 0,
    .axDisable {} 256,
    .axFaultClear wBadHdr,
    .axBankSwap wBadHdr 0,
    .axBankSwap {} 256,
    .axQuery wBadHdr] = true := by decide +kernel

/-- Commands 97 to 120 of the checks, each with one operand out of its range. -/
theorem test_wf_commands_05 : allRefused [
    .axSnapCtrl wBadReq 0 0,
    .axSnapCtrl Req.manager 32 0,
    .axReverse wBadHdr 0,
    .axReverse {} 256,
    .axShortBrake wBadHdr false,
    .shortEnd 32,
    .axRecover wBadHdr false,
    .recoveryFailed 32,
    .catchEnd 32,
    .catchTimeout 32,
    .initAngleStepEnd 32,
    .fluxStepEnd 32,
    .brakeLiftEnd 32,
    .parkTimerEnd 32,
    .imLowExpiry 32,
    .encoderEdge 32 ⟨false, 0⟩ ⟨false, 0⟩ 0,
    .encoderEdge 0 ⟨false, 0⟩ ⟨false, 0⟩ (2 ^ 64),
    .indexLoad 32 ⟨0, 0⟩,
    .indexLoad 0 ⟨0, 2 ^ 64⟩,
    .serialFrame 16 [],
    .latchCapture 64 false ⟨0, 0⟩,
    .latchCapture 0 false ⟨0, 2 ^ 64⟩,
    .fbLatCtrlArm wBadReq 0 0 0,
    .fbLatCtrlArm Req.manager 32 0 0] = true := by decide +kernel

/-- Commands 121 to 144 of the checks, each with one operand out of its range. -/
theorem test_wf_commands_06 : allRefused [
    .fbLatCtrlArm Req.manager 0 4 0,
    .fbPairCommit wBadReq 0 0,
    .fbPairCommit Req.manager (2 ^ 32) 0,
    .fbSet wBadHdr false 0,
    .fbCmpArm wBadHdr (wBytes 64),
    .fbCmpArm {} (wBytes 63),
    .fbLatchArm wBadHdr 0 0 0,
    .fbLatchArm {} 256 0 0,
    .fbLatchArm {} 0 256 0,
    .fbLatchArm {} 0 0 256,
    .fbSyncLatch wBadHdr 0 0,
    .fbSyncLatch {} (2 ^ 64) 0,
    .fbSyncLatch {} 0 256,
    .fbQuery wBadHdr,
    .axOwn wBadHdr 0 0,
    .axOwn {} 65536 0,
    .axOwn {} 0 256,
    .axObserve wBadHdr 0 0,
    .axObserve {} 65536 0,
    .axObserve {} 0 256,
    .profLoad wBadHdr (wBytes 64),
    .profLoad {} (wBytes 63),
    .profRun wBadHdr (wBytes 64),
    .profRun {} (wBytes 63)] = true := by decide +kernel

/-- Commands 145 to 168 of the checks, each with one operand out of its range. -/
theorem test_wf_commands_07 : allRefused [
    .profStreamWp wBadReq 0 0,
    .profStreamWp Req.manager 32 0,
    .profMove wBadHdr (wBytes 64),
    .profMove {} (wBytes 63),
    .profVel wBadHdr (wBytes 64),
    .profVel {} (wBytes 63),
    .profStop wBadHdr,
    .profQuery wBadHdr,
    .gearEngage wBadHdr (wBytes 64),
    .gearEngage {} (wBytes 63),
    .gearRatio wBadHdr (wBytes 64),
    .gearRatio {} (wBytes 63),
    .gearPhase wBadHdr (wBytes 64),
    .gearPhase {} (wBytes 63),
    .gearDisengage wBadHdr (wBytes 64),
    .gearDisengage {} (wBytes 63),
    .gearBlendEnd 32,
    .masterRecordArrival 64 [],
    .masterLost 32,
    .lsJoin wBadHdr (wBytes 64),
    .lsJoin {} (wBytes 63),
    .lsShare wBadHdr (wBytes 64),
    .lsShare {} (wBytes 63),
    .lsLeave wBadHdr] = true := by decide +kernel

/-- Commands 169 to 192 of the checks, each with one operand out of its range. -/
theorem test_wf_commands_08 : allRefused [
    .lsRecordArrival false 64 0 0 0 [],
    .lsRecordArrival false 0 8 0 0 [],
    .lsRecordArrival false 0 0 8 0 [],
    .lsRecordArrival false 0 0 0 32 [],
    .lsMemberLost false 8 0 0,
    .lsMemberLost false 0 8 0,
    .lsMemberLost false 0 0 32,
    .lsFadeEnd 32,
    .vmMotion wBadHdr (wBytes 64),
    .vmMotion {} (wBytes 63),
    .vmStop wBadHdr (wBytes 64),
    .vmStop {} (wBytes 63),
    .gearQuery wBadHdr,
    .gearPubCfg wBadReq 0 0 false,
    .gearPubCfg Req.manager 16 0 false,
    .lsGrpCfg wBadReq 0 0 0,
    .lsGrpCfg Req.manager 8 0 0,
    .lsGrpCfg Req.manager 0 0 (2 ^ 32),
    .capClaim wBadHdr 0 0,
    .capClaim {} 256 0,
    .capClaim {} 0 65536,
    .capArm wBadHdr false,
    .capForce wBadHdr,
    .capStop wBadHdr] = true := by decide +kernel

/-- Commands 193 to 216 of the checks, each with one operand out of its range. -/
theorem test_wf_commands_09 : allRefused [
    .capQuery wBadHdr,
    .ocuRingRp wBadReq 0,
    .lanStart wBadHdr 0,
    .lanStart {} 256,
    .lanGeneratorStart 4,
    .lanDone 4,
    .lanStop wBadHdr 0 false,
    .lanStop {} 256 false,
    .lanQuery wBadHdr 0,
    .lanQuery {} 256,
    .sbcLeadExpiry 4,
    .ss1MaxExpiry 4,
    .safetyInputChange 16 false ⟨false, 0⟩ 0,
    .safetyInputChange 0 false ⟨false, 2 ^ 64⟩ 0,
    .safetyInputChange 0 false ⟨false, 0⟩ (2 ^ 64),
    .discrepancyExpiry 16,
    .testPulse 4,
    .testPulseTimeout 16 false,
    .keepGateEnd 4 0,
    .keepGateEnd 0 (2 ^ 64),
    .brakeTimingExpiry 8,
    .handrailTimeExpiry 4 0,
    .handrailTimeExpiry 0 2,
    .darkTest 8 false] = true := by decide +kernel

/-- Commands 217 to 240 of the checks, each with one operand out of its range. -/
theorem test_wf_commands_10 : allRefused [
    .safCfgLoad wBadHdr none false,
    .safReset wBadHdr,
    .safGrpReset wBadHdr 0,
    .safGrpReset {} 16,
    .safSto wBadHdr 0 0,
    .safSto {} 16 0,
    .safSto {} 0 256,
    .safSdi wBadHdr 0 0,
    .safSdi {} 256 0,
    .safSdi {} 0 256,
    .safRescueDone wBadHdr,
    .safInspTest wBadHdr none 0,
    .safInspTest {} none (2 ^ 64),
    .safKeySign wBadHdr (wBytes 32) 0,
    .safKeySign {} (wBytes 31) 0,
    .safKeySign {} (wBytes 32) (2 ^ 64),
    .safQuery wBadHdr,
    .safUnlock wBadReq 0 false,
    .deviceReset 16,
    .dipEnd (2 ^ 32),
    .alarmInput 4,
    .belfryBkpCtrlRtcLoad wBadReq 0,
    .wake 16,
    .pwrClaim wBadHdr 0 0 0] = true := by decide +kernel

/-- Commands 241 to 264 of the checks, each with one operand out of its range. -/
theorem test_wf_commands_11 : allRefused [
    .pwrClaim {} (2 ^ 32) 0 0,
    .pwrClaim {} 0 (2 ^ 32) 0,
    .pwrClaim {} 0 0 256,
    .pwrRest wBadHdr 0,
    .pwrRest {} 256,
    .pwrWake wBadHdr 0,
    .pwrWake {} 256,
    .pwrQuery wBadHdr,
    .belfrySample 4096 0,
    .belfrySample 0 4096,
    .belfryRuleWrite wBadReq 0 false 0,
    .belfryRuleWrite Req.manager 32 false 0,
    .belfryLogSw wBadReq 0,
    .statusSlot 64 [],
    .nodeLostDetect 64,
    .commandPacket 64 [] none false,
    .completionPacket 64 [],
    .eventPacket 64 [],
    .readRequest 64 0,
    .readRequest 0 (2 ^ 32),
    .readResponse 64 0 0,
    .readResponse 0 (2 ^ 32) 0,
    .writePacket 64 0 0 0,
    .writePacket 0 (2 ^ 32) 0 0] = true := by decide +kernel

/-- Commands 265 to 288 of the checks, each with one operand out of its range. -/
theorem test_wf_commands_12 : allRefused [
    .writePacket 0 0 5 0,
    .assign 64 [],
    .joinRequest [] 64,
    .insertOrder 64 0,
    .insertOrder 0 64,
    .removeOrder (2 ^ 64),
    .peerDelay 2 0 0 0 0,
    .peerDelay 0 (2 ^ 64) 0 0 0,
    .peerDelay 0 0 (2 ^ 64) 0 0,
    .peerDelay 0 0 0 (2 ^ 64) 0,
    .peerDelay 0 0 0 0 (2 ^ 64),
    .bypassRequest 64 0,
    .bypassRequest 0 256,
    .mapMirror [] (2 ^ 64),
    .linkLossOfSignal 2,
    .linkLock 2,
    .linkUp 2,
    .linkRecalibrate 2,
    .linkLockTimeout 2,
    .ptpMessage 2 (.announce 0),
    .fabDiscover wBadHdr 0,
    .fabDiscover {} 256,
    .fabInsert wBadHdr 0,
    .fabInsert {} 256] = true := by decide +kernel

/-- Commands 289 to 312 of the checks, each with one operand out of its range. -/
theorem test_wf_commands_13 : allRefused [
    .fabRemove wBadHdr 0,
    .fabRemove {} 256,
    .fabStandby wBadHdr 0 0,
    .fabStandby {} 256 0,
    .fabStandby {} 0 256,
    .fabSlotAlloc wBadHdr 0,
    .fabSlotAlloc {} 256,
    .fabQuery wBadHdr,
    .timeQuery wBadHdr,
    .timeSrc wBadHdr 0,
    .timeSrc {} 256,
    .timePtpCfg wBadHdr (wBytes 64),
    .timePtpCfg {} (wBytes 63),
    .dmaChTail wBadReq 0 0,
    .dmaChTail Req.manager 32 0,
    .dmaChOwn wBadReq 0 0,
    .dmaChOwn Req.manager 32 0,
    .dmaStart wBadReq 0,
    .dmaStart Req.manager 32,
    .dmaStop wBadReq 0,
    .dmaStop Req.manager 32,
    .dmaProbe wBadReq 0,
    .dmaProbe Req.manager 32,
    .dmaProbeEnd false 16] = true := by decide +kernel

/-- Commands 313 to 336 of the checks, each with one operand out of its range. -/
theorem test_wf_commands_14 : allRefused [
    .dmaResume wBadReq 0,
    .dmaDescriptorEnd 32 [] [],
    .dmaReadFailure 16 0,
    .dmaReadFailure 0 (2 ^ 32),
    .fieldInputEdge 32 false 0,
    .fieldInputEdge 0 false (2 ^ 64),
    .fieldOutSet wBadReq 0,
    .fieldOutClr wBadReq 0,
    .fieldChCfg wBadReq 0 0,
    .fieldChCfg Req.manager 32 0,
    .wireBreak 32 ⟨false, 0⟩,
    .dioFault 32 .overload,
    .thermalShutdown 32,
    .vfieldChange (2 ^ 17) 0,
    .vfieldChange 0 (2 ^ 64),
    .fioWrite wBadHdr 0 0,
    .fioWrite {} (2 ^ 32) 0,
    .fioWrite {} 0 (2 ^ 32),
    .fioQuery wBadHdr,
    .canRx 4 { id := 0, dlc := 0, data := [], sof := 0 },
    .canTxDone 4 false 0,
    .canTxDone 0 false (2 ^ 64),
    .canTxPut wBadReq 0 0,
    .canTxPut Req.manager 4 0] = true := by decide +kernel

/-- Commands 337 to 360 of the checks, each with one operand out of its range. -/
theorem test_wf_commands_15 : allRefused [
    .canRxAck wBadReq 0 0,
    .canRxAck Req.manager 4 0,
    .canAbort wBadReq 0,
    .canAbort Req.manager 4,
    .canBusOff 4,
    .canBusOffRecovery 4 0,
    .canBusOffRecovery 0 256,
    .canReference 4,
    .canTimeMaster wBadHdr (wBytes 64),
    .canTimeMaster {} (wBytes 63),
    .canQuery wBadHdr 0,
    .canQuery {} 256,
    .uartRxByte 2 0 false false,
    .uartRxByte 0 1024 false false,
    .uartDataWrite wBadReq 0 0,
    .uartDataWrite Req.manager 2 0,
    .uartTxByteSent 2,
    .updBegin wBadHdr 0,
    .updBegin {} (2 ^ 32),
    .updBlock wBadHdr 0 0 none,
    .updBlock {} (2 ^ 32) 0 none,
    .updBlock {} 0 (2 ^ 32) none,
    .updBlockProgrammed 65536,
    .updActivate wBadHdr] = true := by decide +kernel

/-- Commands 361 to 384 of the checks, each with one operand out of its range. -/
theorem test_wf_commands_16 : allRefused [
    .updCommit wBadHdr,
    .updCancel wBadHdr,
    .updQuery wBadHdr,
    .flashOperationTimeout false 65536,
    .tapInstructionLoad false 32,
    .scanControlExit false 32,
    .cpHalt 4 false,
    .testUnlock wBadReq 0 false,
    .perturbationWrite wBadReq 0 0 ⟨0, []⟩,
    .perturbationWrite Req.manager (2 ^ 32) 0 ⟨0, []⟩,
    .perturbationWrite Req.manager 0 16 ⟨0, []⟩,
    .canBusError 4 0 false,
    .canBusError 0 8 false,
    .canAckDelayExpiry 4,
    .thermalRestart 32,
    .dioFaultEnd 32 .overload,
    .linkSignalDetected 2,
    .pcieLinkChange false 8 0,
    .pcieLinkChange false 0 64,
    .vfEnable 512,
    .ptpSourceLoss 2,
    .arpRequest 2 0 [],
    .arpRequest 0 (2 ^ 32) [],
    .serialFrameStart 16 false] = true := by decide +kernel

/-- Commands 385 to 386 of the checks, each with one operand out of its range. -/
theorem test_wf_commands_17 : allRefused [
    .msixUnmask 512 0,
    .msixUnmask 0 32] = true := by decide +kernel

/-! Small tests: one command each, on a small state; the expected value stands in the rule the comment names. -/

/-- The device after one command; the device of reset if the command did not answer a next state, which none does. -/
def after (i : Instr) (s : State) : Dev := match exec i s with | .next t => t.dev | _ => {}

/-- R3, R19: the variant BZG-4032 is 0x4B32_0A40. -/
theorem test_identity : State.reset.dev.rd A.SYS_DEV_ID = 0x4B320A40 := by decide +kernel
/-- R57: a power-on reset sets only por. -/
theorem test_reset_cause : State.reset.dev.rd A.SYS_RST_CAUSE = 1 := by decide +kernel
/-- R30: the example of the event numbers, AX_LATE of axis 16 is 704 and its AX_FAULT 705. -/
theorem test_event_numbers : Ev.axis 16 0 = 704 ∧ Ev.axis 16 1 = 705 := by decide +kernel
/-- The queue: a step takes its front, and the second command stays. -/
theorem test_queue : (match step { dev := wReady.dev, pending := [.vbatLow false, .frameTick] } with | .next t => t.pending | _ => []) = [.frameTick] := by decide +kernel
/-- R21: a read that is not aligned returns 0 and is the fault MISALIGNED, kind 1, recorded with its offset. -/
theorem test_misaligned : (after (.registerWrite Req.manager 0x102 4 ⟨5, []⟩) wReady).rd A.SYS_ACC_FAULT = 0x81000102 := by decide +kernel
/-- R24: a write where no register lies is UNMAPPED, kind 3. -/
theorem test_unmapped : (after (.registerWrite Req.manager 0x030 4 ⟨5, []⟩) wReady).rd A.SYS_ACC_FAULT = 0x83000030 := by decide +kernel
/-- R21: a narrow write is NARROW_WRITE, kind 2, and changes nothing. -/
theorem test_narrow : (after (.registerWrite Req.manager 0x204 1 ⟨5, []⟩) wReady).rd A.SYS_ACC_FAULT = 0x82000204 ∧
    (after (.registerWrite Req.manager 0x204 1 ⟨5, []⟩) wReady).rd A.SYS_DIP_CFG = wReady.dev.rd A.SYS_DIP_CFG := by decide +kernel
/-- R438: FIELD_OUT_SET sets the bits written 1, FIELD_OUT_CLR clears them. -/
theorem test_field_out : (after (.fieldOutSet Req.manager 5) (wRegs [(A.FIELD_CH_CFG 0, 2), (A.FIELD_CH_CFG 2, 2)])).view A.FIELD_OUT = 5 ∧
    (after (.fieldOutClr Req.manager 1) (wRegs [(A.FIELD_CH_CFG 0, 2), (A.FIELD_CH_CFG 2, 2), (A.FIELD_OUT, 5)])).view A.FIELD_OUT = 4 := by decide +kernel
/-- R221: A rising while B is low leads it, so the count goes up; B rising while A is low makes it go down. -/
theorem test_quadrature : ((after (.encoderEdge 3 ⟨true, 1000⟩ ⟨false, 1000⟩ 100) (wRegs [(A.FB_CFG 3, 0)])).fb 3).count = 1 ∧
    ((after (.encoderEdge 3 ⟨false, 1000⟩ ⟨true, 1000⟩ 100) (wRegs [(A.FB_CFG 3, 0)])).fb 3).count = -1 := by decide +kernel
/-- R221: dir_inv reverses the direction of step and direction. -/
theorem test_step_direction : ((after (.encoderEdge 3 ⟨true, 1000⟩ ⟨false, 1000⟩ 100) (wRegs [(A.FB_CFG 3, 1)])).fb 3).count = -1 := by decide +kernel
/-- R224: an index edge in one-shot mode loads FB_REF_VAL. -/
theorem test_index : ((after (.indexLoad 3 ⟨1000, 100⟩) (wRegs [(A.FB_CFG 3, 0x4000), (A.FB_REF_VAL_LO 3, 42)])).fb 3).count = 42 := by decide +kernel
/-- R445: a transmit error adds 8 to TEC, a receive error 1 to REC, and lec holds its kind. -/
theorem test_can_error : (after (.canBusError 1 3 true) (wRegs [(A.CAN_CTRL 1, 1)])).rd (A.CAN_STATUS 1) = 0x0008000C ∧
    (after (.canBusError 1 6 false) (wRegs [(A.CAN_CTRL 1, 1)])).rd (A.CAN_STATUS 1) = 0x00000118 := by decide +kernel
/-- R445: the 128th run of 11 recessive bits makes the controller error active, with both counters 0. -/
theorem test_can_recovery : (after (.canBusOffRecovery 1 128) (wRegs [(A.CAN_CTRL 1, 1), (A.CAN_STATUS 1, 0x01000002)])).fld (A.CAN_STATUS 1) 24 16 = 0 ∧
    (after (.canBusOffRecovery 1 128) (wRegs [(A.CAN_CTRL 1, 1), (A.CAN_STATUS 1, 0x01000002)])).fld (A.CAN_STATUS 1) 1 0 = 0 := by decide +kernel
/-- R451: a byte received waits in the receive queue. -/
theorem test_uart : ((after (.uartRxByte 1 0x41 true true) (wRegs [(A.UART_CFG 1, 3)])).uart 1).rx.map (fun w => w.toNat % 256) = [0x41] := by decide +kernel
/-- R57, R59: a watchdog reset sets bit 4 of the causes. -/
theorem test_watchdog : bit 4 ((after .watchdogExpiry wReady).rd A.SYS_RST_CAUSE) = true := by decide +kernel
/-- R58: a device reset asserts all four STO groups. -/
theorem test_reset_sto : (after .watchdogExpiry wReady).stoMask = 15 := by decide +kernel
/-- R81: VBAT below 2.0 V shows in vbat_low. -/
theorem test_vbat : bit 4 ((after (.vbatLow false) wReady).rd A.SYS_SUPPLY_STATUS) = true := by decide +kernel
/-- R496: the temperatures are signed bytes. -/
theorem test_tj : (after (.tjSample (-5) 30) wReady).view A.SYS_TJ = 0x00001EFB := by decide +kernel
/-- R420: a LOCKED device that misses a marker is in HOLDOVER. -/
theorem test_holdover : (after .markerMissing { dev := { (wMode .ready).wrAll [(A.TIME_STATUS, 1)] with time := { state := 1 } } }).view A.TIME_STATUS = 2 := by decide +kernel
/-- R406: signal at a link that is down begins its training. -/
theorem test_signal : ((after (.linkSignalDetected 1) { dev := { (wMode .ready) with ring := { ports := [(1, { state := 0, los := true })] } } }).link 1).state = 1 := by decide +kernel
/-- R469: IDCODE is an instruction of both dies; the Drum die has no DBG_AUTH, which acts as BYPASS. -/
theorem test_tap : State.reset.dev.tapActs false 0x02 = 0x02 ∧ State.reset.dev.tapActs true 0x11 = 0xFF := by decide +kernel
/-- R260: half of 3 counts rounds away from zero, and so does half of −3. -/
theorem test_gear : (State.reset.dev.lawAt 0 { n := 1, d := 2 } { p := 3, v := 1, a := 0 }).1.p = 2 ∧
    (State.reset.dev.lawAt 0 { n := 1, d := 2 } { p := -3, v := 1, a := 0 }).1.p = -2 := by decide +kernel
/-- R117: the CRC-32C of "123456789" is its check value 0xE3069283. -/
theorem test_crc32c : crc32c [0x31, 0x32, 0x33, 0x34, 0x35, 0x36, 0x37, 0x38, 0x39] = 0xE3069283 := by decide +kernel
/-- R109: binary32 rounds to nearest, ties to even: 1 + 2⁻²⁴ is 1, and 1 + 3 × 2⁻²⁴ is 1 + 2⁻²². -/
theorem test_rounding : f32Add 0x3F800000 0x33800000 = 0x3F800000 ∧ f32Add 0x3F800000 0x34400000 = 0x3F800002 := by decide +kernel
/-- R109: a product is rounded once: 3 × 1/3 in binary32 is 1. -/
theorem test_product : f32Mul 0x40400000 0x3EAAAAAB = 0x3F800000 := by decide +kernel
/-- R13: 0x12345678 lies in memory as 78 56 34 12. -/
theorem test_little_endian : leBytes 4 0x12345678 = [0x78, 0x56, 0x34, 0x12] := by decide +kernel
/-- R446: of two filters that match, the lower is reported; with none enabled, 0xFF. -/
theorem test_filters : (wRegs [(A.CAN_FLT_ID 0 2, 0x80000005), (A.CAN_FLT_ID 0 7, 0x80000005)]).dev.canFilter 0 5 false = some 2 ∧
    wReady.dev.canFilter 0 5 false = some 0xFF := by decide +kernel
/-- R48, R365: AX_OWN gives axis 3 to client 2. -/
theorem test_own : (after (.axOwn { mask := 8 } 2 0) wReady).fld (A.AX_OWNER 3) 8 0 = 2 := by decide +kernel
/-- R77: PWR_CLAIM holds the sender's budget, with bit 31 as the claim. -/
theorem test_claim : (after (.pwrClaim {} 500 0 1) wReady).rd (A.SYS_WAKE_BUDGET 0) = 0x800001F4 := by decide +kernel
/-- R54: SYS_MODE_SET to a mode that no transition of the table lists leaves the mode. -/
theorem test_mode_refused : (after (.sysModeSet {} 2) wReady).sys.mode = .ready := by decide +kernel
/-- R54: READY goes to CONFIGURE with every axis OFF. -/
theorem test_mode_set : (after (.sysModeSet {} 5) wReady).sys.mode = .configure := by decide +kernel
/-- R44: clr sets late_total to 0. -/
theorem test_overrun_clr : (after (.sysOverrunClr Req.manager 0x80000000) (wRegs [(A.SYS_OVERRUN, 7)])).fld A.SYS_OVERRUN 15 0 = 0 := by decide +kernel
/-- R498: three balls of the map: SWV of axis 7, UH of axis 16 and ENCB of axis 31. -/
theorem test_balls : ballAt "AX07_SWV" = some "D17" ∧ ballAt "AX16_UH" = some "AT2" ∧ ballAt "AX31_ENCB" = some "AG33" := by decide +kernel
/-- R450: 0x41 at 8 bits, even parity and one stop bit goes out as the start bit, 1000 0010 from the least significant bit on, parity 0, a stop bit. -/
theorem test_uart_frame : uartFrame 0x7 0x41 = [false, true, false, false, false, false, false, true, false, false, true] := by decide +kernel
end

section
/-!
PROOFS. The statements of 00_scope.md: the byte order of multi-byte values (R13), and the bits that a register write may change (R14, R26).
-/

namespace Sys2Proof.Machine

/-! ### Little-endian bytes (R13) -/

@[simp] theorem length_leBytes (n v : Nat) : (leBytes n v).length = n := by
  induction n generalizing v with
  | zero => rfl
  | succ n ih => simp [leBytes, ih]

/-- The byte at index `i` is the digit of weight `256 ^ i`. -/
theorem getD_leBytes {n i : Nat} (v : Nat) (h : i < n) : (leBytes n v).getD i 0 = BitVec.ofNat 8 (v / 256 ^ i) := by
  induction n generalizing v i with
  | zero => omega
  | succ n ih =>
    cases i with
    | zero => simp [leBytes]
    | succ i =>
      have tail := ih (v / 256) (Nat.lt_of_succ_lt_succ h)
      rwa [Nat.div_div_eq_div_mul, ← Nat.pow_succ'] at tail

theorem ofLe_leBytes (n v : Nat) : ofLe (leBytes n v) = v % 256 ^ n := by
  induction n generalizing v with
  | zero => simp [leBytes, ofLe, Nat.mod_one]
  | succ n ih =>
    calc ofLe (leBytes (n + 1) v)
        = v % 256 + 256 * (v / 256 % 256 ^ n) := by simp [leBytes, ofLe, ih]
      _ = v % 256 ^ (n + 1) := by rw [Nat.pow_succ', Nat.mod_mul]

theorem ofBe_beBytes (n v : Nat) : ofBe (beBytes n v) = v % 256 ^ n := by
  rw [ofBe, beBytes, List.reverse_reverse, ofLe_leBytes]

/-- Settles O48, by induction on the number of bytes. -/
theorem littleEndian : Obligations.LittleEndian :=
  ⟨fun _ v _ h => getD_leBytes v h, fun n v => ⟨length_leBytes n v, ofLe_leBytes n v, ofBe_beBytes n v⟩⟩

/-! ### The word a register write leaves (R14, R26) -/

/-- The old word with the written bits in the bits `rw`, but for the bits `keep` of fields that keep their value. -/
def mergedWord (old rw keep v : Word) : Word := (old &&& ~~~(rw &&& ~~~keep)) ||| (v &&& rw &&& ~~~keep)

theorem mergedWord_keep_zero (old rw v : Word) : mergedWord old rw 0 v = (old &&& ~~~rw) ||| (v &&& rw) := by
  rw [mergedWord, BitVec.ofNat_eq_ofNat, BitVec.not_zero, BitVec.and_allOnes, BitVec.and_allOnes]

/-- Whatever is kept, a bit outside the RW bits has its old value. -/
theorem mergedWord_and_not_rw (old rw keep v : Word) : mergedWord old rw keep v &&& ~~~rw = old &&& ~~~rw := by
  ext i hi
  cases h : rw[i] <;> simp [mergedWord, h]

/-- Without a fault no field is in a reserved encoding or combination (`range`, `pairs`) or held by another rule, so nothing is kept. -/
theorem kept_eq_zero_of_no_fault {range pairs : Word} {held : List (Word × Kind)}
    (h : (if range ||| pairs ≠ 0 then some Kind.reservedEncoding else held.head?.map (·.2)) = none) :
    held.foldl (fun m x => m ||| x.1) range ||| pairs = 0 := by
  split at h
  · contradiction
  next noneReserved =>
    have heldNil : held = [] := by simpa using h
    rw [heldNil]
    exact not_not.mp noneReserved

/-- Every write leaves a merged word, less its unused bits and the bits it clears; and it keeps a field only with a fault. -/
theorem Dev.written_eq_mergedWord (d : Dev) (r : Req) (row : RegRow) (a : Nat) (v : Word) :
    ∃ keep w, w = mergedWord (d.rd a) (BitVec.ofNat 32 row.rw) keep v ∧
      (d.written r row a v).1 = w &&& ~~~unusedBits row a w &&& ~~~clearBits row v ∧
      ((d.written r row a v).2 = none → keep = 0) :=
  ⟨_, _, rfl, rfl, kept_eq_zero_of_no_fault⟩

/-- Bits of a set that lies within `rw` can be cleared without changing what stands outside `rw`. -/
theorem and_not_and_not_of_subset {w unused rw : Word} (h : unused &&& ~~~rw = 0) : w &&& ~~~unused &&& ~~~rw = w &&& ~~~rw := by
  ext i hi
  have within : unused[i] = true → rw[i] = true := by simpa using congrArg (·[i]) h
  cases hrw : rw[i] with
  | true => simp [hrw]
  | false =>
    have notUnused : unused[i] = false := by simpa [hrw] using within
    simp [hrw, notUnused]

/-- Settles O54: both clauses follow from the form of the word that a write leaves, the first with no field kept, the second whatever is
kept. That bits without use in the present state read 0 is the model's choice (log entry 122). -/
theorem writesKeepWhatTheyMayNotChange : Obligations.WritesKeepWhatTheyMayNotChange := by
  constructor
  · intro d r row a v w noFault hw
    obtain ⟨keep, w', hw', hleft, hkeep⟩ := d.written_eq_mergedWord r row a v
    have same : w' = w := by rw [hw', hkeep noFault, mergedWord_keep_zero, hw]
    rw [hleft, same]
  · intro d r row a v unusedAreRw
    obtain ⟨keep, w, hw, hleft, -⟩ := d.written_eq_mergedWord r row a v
    calc (d.written r row a v).1 &&& ~~~BitVec.ofNat 32 row.rw
        = w &&& ~~~unusedBits row a w &&& ~~~BitVec.ofNat 32 row.rw &&& ~~~clearBits row v := by
          rw [hleft]; ac_rfl
      _ = d.rd a &&& ~~~BitVec.ofNat 32 row.rw &&& ~~~clearBits row v := by
          rw [and_not_and_not_of_subset (unusedAreRw w), hw, mergedWord_and_not_rw]

end Sys2Proof.Machine
end

section
/-!
PROOFS. The statements of 01_architecture_tick.md: canonical maps (R21), accesses that only fault (R24, R25), the frame tick and the loop tick
(R31, R37), and the register rows whose write is a command or leaves a word (R26 to R28).
-/

namespace Sys2Proof.Machine

/-! ### Canonical maps (R21, R24) -/

/-- Every command is one update of the device, whose maps are then put in canonical form; the queue stays as it was. -/
theorem exec_eq_perform (c : Instr) (s : State) : ∃ f : Dev → Dev, exec c s = s.perform f := by
  unfold exec
  cases c <;> exact ⟨_, rfl⟩

theorem State.perform_eq_next (f : Dev → Dev) (s : State) : s.perform f = .next { s with dev := (f s.dev).settle } := rfl

/-- Whatever the maps were, those of the state that a command answers are canonical (log entry 42). -/
theorem inv_of_exec_eq_next {c : Instr} {s t : State} (h : exec c s = .next t) : t.Inv := by
  obtain ⟨f, hf⟩ := exec_eq_perform c s
  rw [hf, State.perform_eq_next] at h
  injection h with ht
  exact ht ▸ (f s.dev).settle_wf

/-- Settles O40: an idle step answers the state it was given, and every command settles the maps as it ends. That canonical form is kept by
settling them is the model's choice (log entry 42). -/
theorem everyStepKeepsTheMapsCanonical : Obligations.EveryStepKeepsTheMapsCanonical := by
  intro s t hs h
  unfold step at h
  split at h
  case h_1 =>
    injection h with hst
    exact hst ▸ hs
  case h_2 => exact inv_of_exec_eq_next h

section
variable {β : Type} [DecidableEq β] {dflt : Nat → β}

/-- A map whose every entry is a default cannot be canonical with an entry in it. -/
theorem SMap.eq_nil_of_get_eq_dflt {m : SMap β} (hw : SMap.wf dflt m = true) (h : ∀ a, SMap.get dflt m a = dflt a) : m = [] := by
  cases m with
  | nil => rfl
  | cons p m =>
    obtain ⟨k, v⟩ := p
    have listed : v ≠ dflt k := ((SMap.wf_cons dflt k v m).1 hw).2.1
    exact absurd (by simpa [SMap.get_cons] using h k) listed

/-- The first key of a canonical map is the least that does not read as its default. -/
theorem SMap.head_le_head {k l : Nat} {v w : β} {m n : SMap β} (hm : SMap.wf dflt ((k, v) :: m) = true)
    (hn : SMap.wf dflt ((l, w) :: n) = true) (h : ∀ a, SMap.get dflt ((k, v) :: m) a = SMap.get dflt ((l, w) :: n) a) : l ≤ k := by
  by_contra hlt
  have listed : v ≠ dflt k := ((SMap.wf_cons dflt k v m).1 hm).2.1
  have unlisted : SMap.get dflt ((l, w) :: n) k = dflt k := SMap.get_of_lt dflt _ k hn (Nat.lt_of_not_le hlt)
  exact listed (by rw [← unlisted, ← h, SMap.get_cons, if_pos rfl])

/-- Canonical maps that read the same are the same list. -/
theorem SMap.eq_of_get_eq {m n : SMap β} (hm : SMap.wf dflt m = true) (hn : SMap.wf dflt n = true)
    (h : ∀ a, SMap.get dflt m a = SMap.get dflt n a) : m = n := by
  induction m generalizing n with
  | nil => exact (SMap.eq_nil_of_get_eq_dflt hn (fun a => (h a).symm)).symm
  | cons p m ih =>
    obtain ⟨k, v⟩ := p
    cases n with
    | nil => exact SMap.eq_nil_of_get_eq_dflt hm h
    | cons q n =>
      obtain ⟨l, w⟩ := q
      obtain rfl : k = l := Nat.le_antisymm (SMap.head_le_head hn hm (fun a => (h a).symm)) (SMap.head_le_head hm hn h)
      obtain ⟨hbm, -, hwm⟩ := (SMap.wf_cons dflt k v m).1 hm
      obtain ⟨hbn, -, hwn⟩ := (SMap.wf_cons dflt k w n).1 hn
      have value : v = w := by simpa [SMap.get_cons] using h k
      have tails : m = n := ih hwm hwn (fun a => by
        by_cases ha : k = a
        · subst ha
          rw [SMap.get_of_lt dflt m k hwm hbm, SMap.get_of_lt dflt n k hwn hbn]
        · simpa [SMap.get_cons, ha] using h a)
      rw [value, tails]
end

/-- Settles O46: canonical maps that read the same are the same list, once for the registers and once for the memories. What makes it true
is the canonical form, the model's choice (log entry 42). -/
theorem equalReadingsAreEqualMaps : Obligations.EqualReadingsAreEqualMaps :=
  ⟨fun _ _ hd he h => SMap.eq_of_get_eq hd.1 he.1 h, fun _ _ hd he h => SMap.eq_of_get_eq hd.2 he.2 h⟩

/-! ### Accesses that only fault (R24, R25) -/

theorem misaligned_word {addr : Nat} (h : addr % 4 = 0) : misaligned addr 4 = false := by simp [misaligned, h]

theorem regKey_sub_mod {addr : Nat} (h : addr % 4 = 0) : regKey addr - regKey addr % 4 = regKey addr := by
  rw [regKey_mod addr h, Nat.sub_zero]

/-- A 32-bit write that the judgement refuses records its fault and does nothing else. -/
theorem Dev.busWrite_judge_bad {d : Dev} {r : Req} {addr : Nat} {k : Kind} (v : Word) (hint : Hint) (reached : d.accessed.reaches r = true)
    (aligned : addr % 4 = 0) (bad : d.accessed.judge r (regKey addr) false true = .bad k) :
    d.busWrite r addr 4 v hint = d.accessed.accFault r (regKey addr) k true := by
  unfold Dev.busWrite
  change (if !d.accessed.reaches r then d.accessed else _) = _
  simp only [reached, misaligned_word aligned, regKey_sub_mod aligned, Nat.lt_irrefl, decide_false]
  simp only [Dev.accessed] at bad ⊢
  simp [bad]

/-- A 32-bit read that the judgement refuses answers 0, records its fault and does nothing else. -/
theorem Dev.busRead_judge_bad {d : Dev} {r : Req} {addr : Nat} {k : Kind} (reached : d.accessed.reaches r = true) (aligned : addr % 4 = 0)
    (bad : d.accessed.judge r (regKey addr) false false = .bad k) :
    d.busRead r addr 4 = (0, d.accessed.accFault r (regKey addr) k false) := by
  unfold Dev.busRead
  change (if !d.accessed.reaches r then _ else _) = _
  simp only [reached, misaligned_word aligned, regKey_sub_mod aligned, Nat.lt_irrefl, decide_false]
  simp only [Dev.accessed] at bad ⊢
  simp [bad]

/-- Below the client pages no requester is refused for the page, and outside the axis pages and windows none for the axis; where no memory
lies either, the register's own rules are the judgement. -/
theorem Dev.judge_of_regRow {d : Dev} {r : Req} {a : Nat} {row : RegRow} (write : Bool) (space : a < 0x1000000)
    (noAxis : axisOfAddr a = none) (noMemory : memKind a = none) (register : regRow a = some row) :
    d.judge r a false write = d.judgeReg r row a write := by
  simp [Dev.judge, Dev.pageReached, Dev.judgePage, pageOf, Nat.not_le.2 space, noAxis, noMemory, register]

/-- As for a register; where none lies, nothing is left to judge. -/
theorem Dev.judge_of_no_regRow {d : Dev} {r : Req} {a : Nat} (write : Bool) (space : a < 0x1000000) (noAxis : axisOfAddr a = none)
    (noMemory : memKind a = none) (noRegister : regRow a = none) : d.judge r a false write = .bad .unmapped := by
  have notAdmin : ¬ 0x1010000 ≤ a := by omega
  simp [Dev.judge, Dev.pageReached, Dev.judgePage, judgeEmpty, pageOf, Nat.not_le.2 space, noAxis, noMemory, noRegister, notAdmin]

/-- R25: of SAFETY's registers those with no bit that a write could change take no write. -/
theorem Dev.judgeReg_safety (d : Dev) (r : Req) {row : RegRow} {a : Nat} (block : 0x140000 ≤ a ∧ a < 0x180000) (rw : row.rw = 0)
    (w1c : row.w1c = 0) (w1s : row.w1s = 0) : d.judgeReg r row a true = .bad .notPermitted := by
  simp [Dev.judgeReg, block, rw, w1c, w1s]

theorem axisOfAddr_below {a : Nat} (h : a < 0x200000) : axisOfAddr a = none := by
  have noPage : ¬ 0x200000 ≤ a := by omega
  have noWindow : ¬ 0x800000 ≤ a := by omega
  simp [axisOfAddr, noPage, noWindow]

/-- An access that only faults leaves every engine alone. -/
theorem Dev.engines_accessed_accFault (d : Dev) (r : Req) (a : Nat) (k : Kind) (write : Bool) :
    (d.accessed.accFault r a k write).engines = d.engines := by
  rw [Dev.engines_accFault]
  rfl

/-- An access that only faults leaves every register but the record of the fault and those that events write. -/
theorem Dev.rd_accessed_accFault (d : Dev) (r : Req) (a : Nat) (k : Kind) (write : Bool) (canonical : SMap.wf regReset d.regs = true)
    {b : Nat} (noEvent : ¬ eventReg b) (noFault : b ≠ A.SYS_ACC_FAULT) (noSource : b ≠ A.SYS_ACC_SRC) :
    (d.accessed.accFault r a k write).rd b = d.rd b :=
  Dev.rd_accFault d.accessed r a k write canonical b noEvent noFault noSource

/-- Settles O52: R25's rule is the judgement of such a write, and a write judged bad is its fault alone. -/
theorem safetyIsReadMostly : Obligations.SafetyIsReadMostly := by
  intro d r addr v row reached key aligned low high noMemory register rw w1c w1s
  have judged : d.accessed.judge r addr false true = .bad .notPermitted := by
    rw [Dev.judge_of_regRow true (by omega) (axisOfAddr_below (by omega)) noMemory register]
    exact Dev.judgeReg_safety _ r ⟨low, high⟩ rw w1c w1s
  have written : d.busWrite r addr 4 v = d.accessed.accFault r addr .notPermitted true := by
    simpa only [key] using Dev.busWrite_judge_bad v {} reached aligned (key.symm ▸ judged)
  rw [written]
  exact ⟨rfl, d.engines_accessed_accFault .., fun canonical _ => d.rd_accessed_accFault r addr .notPermitted true canonical⟩

/-- Settles O58: a place where nothing lies is judged UNMAPPED, read or written, and an access judged bad is its fault alone. -/
theorem unmappedAccesses : Obligations.UnmappedAccesses := by
  intro d r addr v reached key aligned space noAxis noMemory noRegister
  have judged (write : Bool) : d.accessed.judge r (regKey addr) false write = .bad .unmapped := by
    rw [key]
    exact Dev.judge_of_no_regRow write space noAxis noMemory noRegister
  have written : d.busWrite r addr 4 v = d.accessed.accFault r addr .unmapped true := by
    simpa only [key] using Dev.busWrite_judge_bad v {} reached aligned (judged true)
  have read : d.busRead r addr 4 = (0, d.accessed.accFault r addr .unmapped false) := by
    simpa only [key] using Dev.busRead_judge_bad reached aligned (judged false)
  rw [written, read]
  exact ⟨rfl, rfl, d.engines_accessed_accFault .., d.engines_accessed_accFault .., fun canonical _ noEvent noFault noSource =>
    ⟨d.rd_accessed_accFault r addr .unmapped true canonical noEvent noFault noSource,
      d.rd_accessed_accFault r addr .unmapped false canonical noEvent noFault noSource⟩⟩

/-! ### The ticks (R31, R37, R38, R47) -/

theorem exec_frameTick (s : State) : exec .frameTick s = s.perform Dev.frameTick := rfl

theorem exec_loopTick (i : TickIn) (s : State) : exec (.loopTick i) s = s.perform (fun d => d.loopTick i) := rfl

/-- Settles O12: both ticks turn on whether the logic die runs. That a frame tick does its work in this order, and that with the logic die
off only time moves on, are the model's choices (log entries 71, 50 and 146). -/
theorem ticksInOrder : Obligations.TicksInOrder := by
  refine ⟨fun s on => ?_, fun s off => ?_, fun i s on => ?_, fun i s off => ?_⟩
  · rw [exec_frameTick, State.perform_eq_next, Dev.frameTick, if_neg (by simp [on])]
  · rw [exec_frameTick, State.perform_eq_next, Dev.frameTick, if_pos (by simp [off]), Dev.idleFrame]
  · rw [exec_loopTick, State.perform_eq_next, Dev.loopTick, if_neg (by simp [on])]
  · rw [exec_loopTick, State.perform_eq_next, Dev.loopTick, if_pos (by simp [off])]

/-! ### Where a register lies (R21, R22) -/

/-- At offset `a`, which is its own key, lies the register of indices `i` and `j` of the row based at `base`. -/
abbrev RegAt (a base i j : Nat) : Prop :=
  regKey a = a ∧ (regRow a).map (fun row => (row.base, row.idx1 a, row.idx2 a)) = some (base, i, j)

theorem RegAt.exists_row {a base i j : Nat} (h : RegAt a base i j) :
    ∃ row, regRow a = some row ∧ row.base = base ∧ row.idx1 a = i ∧ row.idx2 a = j := by
  obtain ⟨row, hrow, place⟩ := Option.map_eq_some_iff.1 h.2
  simp only [Prod.mk.injEq] at place
  exact ⟨row, hrow, place⟩

theorem RegRow.covers_eq_true_iff {row : RegRow} {a : Nat} : row.covers a = true ↔
    row.base ≤ a ∧ (a - row.base) / row.s1 < row.n1 ∧ (a - row.base) % row.s1 / row.s2 < row.n2 ∧ (a - row.base) % row.s1 % row.s2 = 0 := by
  simp [RegRow.covers, and_assoc]

/-- The register of indices `i` and `j` of a row of the client pages, where no row before it covers that offset. -/
theorem regAt_of_pageRow {row : RegRow} {i j : Nat} (before after : List RegRow) (rows : pageRows = before ++ row :: after)
    (page : 0x1000000 ≤ row.base) (hi : i < row.n1) (hj : j < row.n2) (stride : 0 < row.s2) (fits : row.s2 * row.n2 ≤ row.s1)
    (first : ∀ x ∈ before, ¬ x.covers (row.base + row.s1 * i + row.s2 * j) = true) :
    RegAt (row.base + row.s1 * i + row.s2 * j) row.base i j := by
  generalize ha : row.base + row.s1 * i + row.s2 * j = a at first ⊢
  have offset : a - row.base = row.s1 * i + row.s2 * j := by omega
  have inside : row.s2 * j < row.s1 := Nat.lt_of_lt_of_le (Nat.mul_lt_mul_of_pos_left hj stride) fits
  have index1 : row.idx1 a = i := by
    rw [RegRow.idx1, offset, Nat.mul_add_div (by omega), Nat.div_eq_of_lt inside, Nat.add_zero]
  have rest : (a - row.base) % row.s1 = row.s2 * j := by rw [offset, Nat.mul_add_mod, Nat.mod_eq_of_lt inside]
  have index2 : row.idx2 a = j := by rw [RegRow.idx2, rest, Nat.mul_div_cancel_left _ stride]
  have covers : row.covers a = true :=
    RegRow.covers_eq_true_iff.2 ⟨by omega, index1.trans_lt hi, index2.trans_lt hj, by rw [rest, Nat.mul_mod_right]⟩
  have block : blockRows a = pageRows := by
    unfold blockRows
    repeat rw [if_neg (by omega)]
  have found : regRow a = some row := by
    rw [regRow, block, List.find?_eq_some_iff_append]
    exact ⟨covers, before, after, rows, by simpa using first⟩
  exact ⟨by rw [regKey, if_neg (by omega)], by rw [found, Option.map_some, index1, index2]⟩

theorem regAt_hostSqTail {cc i : Nat} (hcc : cc < 512) (hi : i < 256) : RegAt (A.HOST_SQ_TAIL cc i) (A.HOST_SQ_TAIL 0 0) cc i :=
  regAt_of_pageRow (row := pageRows[13]) (pageRows.take 13) (pageRows.drop 14) rfl (by decide) hcc hi (by decide) (by decide) (by
    simp [pageRows, pageRows0, mkRow, RegRow.covers_eq_true_iff]
    and_intros <;> omega)

theorem regAt_hostCqHead {cc i : Nat} (hcc : cc < 512) (hi : i < 256) : RegAt (A.HOST_CQ_HEAD cc i) (A.HOST_CQ_HEAD 0 0) cc i :=
  regAt_of_pageRow (row := pageRows[14]) (pageRows.take 14) (pageRows.drop 15) rfl (by decide) hcc hi (by decide) (by decide) (by
    simp [pageRows, pageRows0, mkRow, RegRow.covers_eq_true_iff]
    and_intros <;> omega)

theorem regAt_hostEvqHead {cc : Nat} (hcc : cc < 512) : RegAt (A.HOST_EVQ_HEAD cc) (A.HOST_EVQ_HEAD 0) cc 0 :=
  regAt_of_pageRow (row := pageRows[10]) (j := 0) (pageRows.take 10) (pageRows.drop 11) rfl (by decide) hcc (by decide) (by decide)
    (by decide) (by
    simp [pageRows, pageRows0, mkRow, RegRow.covers_eq_true_iff]
    omega)

theorem regAt_hostEvqCfg {cc : Nat} (hcc : cc < 512) : RegAt (A.HOST_EVQ_CFG cc) (A.HOST_EVQ_CFG 0) cc 0 :=
  regAt_of_pageRow (row := pageRows[9]) (j := 0) (pageRows.take 9) (pageRows.drop 10) rfl (by decide) hcc (by decide) (by decide)
    (by decide) (by
    simp [pageRows, pageRows0, mkRow, RegRow.covers_eq_true_iff]
    omega)

theorem regAt_sysTickCfg : RegAt A.SYS_TICK_CFG A.SYS_TICK_CFG 0 0 := by decide +kernel
theorem regAt_sysOverrun : RegAt A.SYS_OVERRUN A.SYS_OVERRUN 0 0 := by decide +kernel
theorem regAt_sysS1Peak : RegAt A.SYS_S1_PEAK A.SYS_S1_PEAK 0 0 := by decide +kernel
theorem regAt_sysDipLast : RegAt A.SYS_DIP_LAST A.SYS_DIP_LAST 0 0 := by decide +kernel
theorem regAt_belfryLogSw : RegAt A.BELFRY_LOG_SW A.BELFRY_LOG_SW 0 0 := by decide +kernel
theorem regAt_belfryBkpCtrl : RegAt A.BELFRY_BKP_CTRL A.BELFRY_BKP_CTRL 0 0 := by decide +kernel
theorem regAt_dmaResume : RegAt A.DMA_RESUME A.DMA_RESUME 0 0 := by decide +kernel
theorem regAt_fieldOutSet : RegAt A.FIELD_OUT_SET A.FIELD_OUT_SET 0 0 := by decide +kernel
theorem regAt_fieldOutClr : RegAt A.FIELD_OUT_CLR A.FIELD_OUT_CLR 0 0 := by decide +kernel
theorem regAt_ocuRingRp : RegAt A.OCU_RING_RP A.OCU_RING_RP 0 0 := by decide +kernel
theorem regAt_testUnlock : RegAt A.TEST_UNLOCK A.TEST_UNLOCK 0 0 := by decide +kernel
theorem regAt_hostAdmCfg : RegAt A.HOST_ADM_CFG A.HOST_ADM_CFG 0 0 := by decide +kernel
theorem regAt_sysWakeBudget : ∀ i < 64, RegAt (A.SYS_WAKE_BUDGET i) (A.SYS_WAKE_BUDGET 0) i 0 := by decide +kernel
theorem regAt_belfryRuleCond : ∀ i < 32, RegAt (A.BELFRY_RULE_COND i) (A.BELFRY_RULE_COND 0) i 0 := by decide +kernel
theorem regAt_belfryRuleAct : ∀ i < 32, RegAt (A.BELFRY_RULE_ACT i) (A.BELFRY_RULE_ACT 0) i 0 := by decide +kernel
theorem regAt_evtRoute : ∀ i < 96, RegAt (A.EVT_ROUTE i) (A.EVT_ROUTE 0) i 0 := by decide +kernel
theorem regAt_dmaChOwn : ∀ i < 32, RegAt (A.DMA_CH_OWN i) (A.DMA_CH_OWN 0) i 0 := by decide +kernel
theorem regAt_dmaChTail : ∀ i < 32, RegAt (A.DMA_CH_TAIL i) (A.DMA_CH_TAIL 0) i 0 := by decide +kernel
theorem regAt_dmaChCtrl : ∀ i < 32, RegAt (A.DMA_CH_CTRL i) (A.DMA_CH_CTRL 0) i 0 := by decide +kernel
theorem regAt_fieldChCfg : ∀ i < 32, RegAt (A.FIELD_CH_CFG i) (A.FIELD_CH_CFG 0) i 0 := by decide +kernel
theorem regAt_canCtrl : ∀ i < 4, RegAt (A.CAN_CTRL i) (A.CAN_CTRL 0) i 0 := by decide +kernel
theorem regAt_canTxPut : ∀ i < 4, RegAt (A.CAN_TX_PUT i) (A.CAN_TX_PUT 0) i 0 := by decide +kernel
theorem regAt_canRxAck : ∀ i < 4, RegAt (A.CAN_RX_ACK i) (A.CAN_RX_ACK 0) i 0 := by decide +kernel
theorem regAt_uartData : ∀ i < 2, RegAt (A.UART_DATA i) (A.UART_DATA 0) i 0 := by decide +kernel
theorem regAt_axSnapCtrl : ∀ i < 32, RegAt (A.AX_SNAP_CTRL i) (A.AX_SNAP_CTRL 0) i 0 := by decide +kernel
theorem regAt_profStreamWp : ∀ i < 32, RegAt (A.PROF_STREAM_WP i) (A.PROF_STREAM_WP 0) i 0 := by decide +kernel
theorem regAt_lsGrpCfg : ∀ i < 8, RegAt (A.LS_GRP_CFG i) (A.LS_GRP_CFG 0) i 0 := by decide +kernel
theorem regAt_gearPubCfg : ∀ i < 16, RegAt (A.GEAR_PUB_CFG i) (A.GEAR_PUB_CFG 0) i 0 := by decide +kernel
theorem regAt_fbLatCtrl : ∀ i < 32, ∀ j < 2, RegAt (A.FB_LAT_CTRL i j) (A.FB_LAT_CTRL 0 0) i j := by decide +kernel

/-! ### Writes that are commands (R26, R28) -/

section
variable {d : Dev} {r : Req} {row : RegRow} {a : Nat} {v : Word} {hint : Hint}

theorem Dev.commandReg_sysOverrun (hb : row.base = A.SYS_OVERRUN) :
    d.commandReg r row a v hint = some (if bit 31 v then d.setFld a 15 0 0 else d) := by
  rw [Dev.commandReg, hb]; rfl

theorem Dev.commandReg_sysDipLast (hb : row.base = A.SYS_DIP_LAST) :
    d.commandReg r row a v hint = some (if bit 31 v then d.setFld a 30 24 0 else d) := by
  rw [Dev.commandReg, hb]; rfl

theorem Dev.commandReg_belfryLogSw (hb : row.base = A.BELFRY_LOG_SW) :
    d.commandReg r row a v hint = some (d.logWrite 4 0 (field 15 0 v)) := by
  rw [Dev.commandReg, hb]; rfl

theorem Dev.commandReg_belfryBkpCtrl (hb : row.base = A.BELFRY_BKP_CTRL) :
    d.commandReg r row a v hint = some (if bit 0 v then d.rtcLoad else d) := by
  rw [Dev.commandReg, hb]; rfl

theorem Dev.commandReg_dmaResume (hb : row.base = A.DMA_RESUME) :
    d.commandReg r row a v hint = some (d.dmaResume v) := by
  rw [Dev.commandReg, hb]; rfl

theorem Dev.commandReg_dmaChCtrl (hb : row.base = A.DMA_CH_CTRL 0) :
    d.commandReg r row a v hint = some (d.dmaCtrl r (row.idx1 a) v) := by
  rw [Dev.commandReg, hb]; rfl

theorem Dev.commandReg_dmaChTail (hb : row.base = A.DMA_CH_TAIL 0) :
    d.commandReg r row a v hint = some (d.dmaTail (row.idx1 a) v) := by
  rw [Dev.commandReg, hb]; rfl

theorem Dev.commandReg_fieldOutSet (hb : row.base = A.FIELD_OUT_SET) :
    d.commandReg r row a v hint = some (d.fieldOut v.toNat 0xFFFFFFFF) := by
  rw [Dev.commandReg, hb]; rfl

theorem Dev.commandReg_fieldOutClr (hb : row.base = A.FIELD_OUT_CLR) :
    d.commandReg r row a v hint = some (d.fieldOut v.toNat 0) := by
  rw [Dev.commandReg, hb]; rfl

theorem Dev.commandReg_canTxPut (hb : row.base = A.CAN_TX_PUT 0) :
    d.commandReg r row a v hint = some (d.canPut r (row.idx1 a) v) := by
  rw [Dev.commandReg, hb]; rfl

theorem Dev.commandReg_canRxAck (hb : row.base = A.CAN_RX_ACK 0) :
    d.commandReg r row a v hint = some (d.canAck r (row.idx1 a) false v) := by
  rw [Dev.commandReg, hb]; rfl

theorem Dev.commandReg_uartData (hb : row.base = A.UART_DATA 0) :
    d.commandReg r row a v hint = some (d.uartPut (row.idx1 a) (BitVec.ofNat 8 (field 7 0 v))) := by
  rw [Dev.commandReg, hb]; rfl

theorem Dev.commandReg_axSnapCtrl (hb : row.base = A.AX_SNAP_CTRL 0) :
    d.commandReg r row a v hint = some (d.snapRequest (row.idx1 a) v) := by
  rw [Dev.commandReg, hb]; rfl

theorem Dev.commandReg_hostSqTail (hb : row.base = A.HOST_SQ_TAIL 0 0) :
    d.commandReg r row a v hint = some (d.sqTail r (row.idx1 a) (row.idx2 a) v) := by
  rw [Dev.commandReg, hb]; rfl

theorem Dev.commandReg_hostCqHead (hb : row.base = A.HOST_CQ_HEAD 0 0) :
    d.commandReg r row a v hint = some (d.cqHead r (row.idx1 a) (row.idx2 a) v) := by
  rw [Dev.commandReg, hb]; rfl

theorem Dev.commandReg_hostEvqHead (hb : row.base = A.HOST_EVQ_HEAD 0) :
    d.commandReg r row a v hint = some (d.evqHead (row.idx1 a) v) := by
  rw [Dev.commandReg, hb]; rfl

theorem Dev.commandReg_sysS1Peak (hb : row.base = A.SYS_S1_PEAK) (clear : bit 31 v = true) :
    d.commandReg r row a v hint = some ((d.setFld a 17 0 0).modCup (fun q => { q with s1Before := 0, s1Used := 0 })) := by
  rw [Dev.commandReg, hb]
  simp [clear, A.SYS_OVERRUN, A.SYS_S1_PEAK]

theorem Dev.commandReg_testUnlock {within : Bool} (hb : row.base = A.TEST_UNLOCK) :
    d.commandReg r row a v { within := some within } = some (d.testUnlock v within) := by
  rw [Dev.commandReg, hb]; rfl
end

/-! ### What these commands do where nothing stands against them -/

theorem Dev.sqTail_of_room {d : Dev} {r : Req} {cc i q : Nat} {x : Sq} {v : Word} (ring : d.sqAt cc i = some (q, x))
    (room : field 11 0 v < 2 ^ x.k) (running : d.sqStopped x = false) (moves : (field 11 0 v + 2 ^ x.k - x.tail % 2 ^ x.k) % 2 ^ x.k ≠ 0) :
    d.sqTail r cc i v =
      let n := (field 11 0 v + 2 ^ x.k - x.tail % 2 ^ x.k) % 2 ^ x.k
      (d.setSq q { x with tail := x.tail + n, marks := x.marks ++ [(x.tail + n, d.host.nextOrd)] }).modHost
        (fun h => { h with nextOrd := h.nextOrd + 1 }) := by
  simp only [Dev.sqTail, ring, Nat.not_le.2 room, running, moves, Bool.false_eq_true, or_self, if_false]

theorem Dev.cqHead_of_ring {d : Dev} {r : Req} {cc i q : Nat} {x : Cq} {v : Word} (ring : d.cqAt cc i = some (q, x)) :
    d.cqHead r cc i v =
      let c := { x with rd := headCount x.wr (2 ^ x.k) (field 11 0 v) }
      (d.setCq q { c with full := c.full && c.isFull }).cqRelease c.held.length q := by
  simp only [Dev.cqHead, ring]

theorem Dev.dmaCtrl_start (d : Dev) (r : Req) (c : Nat) : d.dmaCtrl r c 1 = d.dmaStart r c := rfl
theorem Dev.dmaCtrl_stop (d : Dev) (r : Req) (c : Nat) : d.dmaCtrl r c 2 = d.dmaStop c := rfl
theorem Dev.dmaCtrl_probe (d : Dev) (r : Req) (c : Nat) : d.dmaCtrl r c 4 = d.dmaProbe r c := rfl

theorem Dev.dmaStart_of_idle {d : Dev} {r : Req} {c : Nat} (idle : (d.ch c).state = .idle ∨ (d.ch c).state = .error)
    (share : d.fld (A.DMA_CH_OWN c) 23 16 ≠ 0) :
    d.dmaStart r c = d.modCh c (fun x => { x.wake d.time.cnt with state := .run, pos := 0, probeOk := false }) := by
  rcases idle with h | h <;> simp only [Dev.dmaStart, h, share, if_false]

theorem Dev.dmaStop_of_busy {d : Dev} {c : Nat} (busy : (d.ch c).state ≠ .idle) : d.dmaStop c = d.dmaIdle c := if_neg busy

theorem Dev.dmaProbe_of_candidate {d : Dev} {r : Req} {c : Nat} (admin : r.admin = true) (halted : (d.ch c).state = .halted)
    (candidate : (d.ch c).cand = true) (free : d.dma.probing = none) :
    d.dmaProbe r c =
      (d.modCh c (fun x => { x with state := .probing, probeOk := false })).modDma (fun q => { q with probing := some c }) := by
  simp [Dev.dmaProbe, admin, halted, candidate, free]

theorem Dev.canPut_of_room {d : Dev} {r : Req} {k : Nat} {v : Word} (acked : dist16 (field 15 0 v) (d.cnt16 (A.CAN_TX_ACK k)) ≤ 64)
    (done : dist16 (field 15 0 v) (d.cnt16 (A.CAN_TX_DONE k)) ≤ 64) :
    d.canPut r k v = Dev.canStart 65 (d.setFld (A.CAN_TX_PUT k) 15 0 (field 15 0 v)) k := by
  simp only [Dev.canPut, Nat.not_lt.2 acked, Nat.not_lt.2 done, or_self, if_false]

theorem Dev.canAck_rx_of_prompt {d : Dev} {r : Req} {k : Nat} {v : Word}
    (behind : dist16 (d.cnt16 (A.CAN_RX_WP k)) (field 15 0 v) ≤ dist16 (d.cnt16 (A.CAN_RX_WP k)) (d.cnt16 (A.CAN_RX_ACK k)))
    (prompt : d.rb A.TEST_CAN_ACK k = false) : d.canAck r k false v = d.setFld (A.CAN_RX_ACK k) 15 0 (field 15 0 v) := by
  simp only [Dev.canAck, Nat.not_lt.2 behind, prompt, Bool.false_eq_true, Bool.false_and, if_false]

theorem Dev.uartPut_of_room {d : Dev} {n : Nat} {b : Byte} (room : (d.uart n).tx.length < 64) :
    d.uartPut n b = (d.modUart n (fun u => { u with tx := u.tx ++ [b] })).uartLoad n := if_neg (Nat.not_le.2 room)

theorem Dev.snapRequest_of_lead {d : Dev} {n : Nat} {v : Word} (request : bit 0 v = true) (leads : d.lead n = n)
    (fresh : d.rb (A.AX_SNAP_CTRL n) 0 = false) (noFault : (d.ax n).state ≠ .fault) :
    d.snapRequest n v = (d.wb (A.AX_SNAP_CTRL n) 0 true).wb (A.AX_SNAP_CTRL n) 1 false := by
  simp only [Dev.snapRequest, request, leads, fresh, bne_self_eq_false, Bool.not_true, Bool.or_self, Bool.false_eq_true, if_false]
  exact if_neg noFault

theorem Dev.testUnlock_of_first_key {d : Dev} {v : Word} {within : Bool} (closed : d.rb A.TEST_UNLOCK_STATUS 1 = false)
    (first : d.upd.keyAt = none) (key : field 15 0 v = 0x7E5A) :
    d.testUnlock v within = d.modUpd (fun u => { u with keyAt := some d.time.cnt }) := by
  simp only [Dev.testUnlock, closed, first, key, Bool.false_eq_true, if_false, if_true]

theorem exec_counterLowRead (s : State) (r : Req) (x : RegPlace) :
    exec (.counterLowRead r x) s = s.perform (fun d => d.readAny r x.addr x.width) := rfl

theorem Dev.readAny_of_narrow (d : Dev) (r : Req) (addr : Nat) {width : Nat} (narrow : wideParts width = 0) :
    d.readAny r addr width = d.readOut r addr width := by rw [Dev.readAny, if_pos narrow]

/-- A read of at most 32 bits answers its word, and has its side effect. -/
theorem exec_counterLowRead_narrow (s : State) (r : Req) (addr : Nat) {width : Nat} (narrow : wideParts width = 0) :
    exec (.counterLowRead r ⟨addr, width⟩) s = .next { s with dev :=
      ((s.dev.busRead r addr width).2.emit (.read r addr (s.dev.busRead r addr width).1)).settle } := by
  rw [exec_counterLowRead, State.perform_eq_next, Dev.readAny_of_narrow _ _ _ narrow, Dev.readOut]

/-- A read of 64 bits is two reads of 32 bits, the lower first. -/
theorem Dev.readAny_double (d : Dev) (r : Req) (addr : Nat) : d.readAny r addr 8 = (d.readOut r addr 4).readOut r (addr + 4) 4 := by
  simp [Dev.readAny, wideParts, List.range_succ]

/-- An accepted write to a register that is a command carries it out, and nothing else. -/
theorem Dev.writeTo_of_command {d e : Dev} {r : Req} {a base i j : Nat} {v : Word} {hint : Hint} (accepted : d.accepts r a v = true)
    (reg : RegAt a base i j)
    (command : ∀ row : RegRow, row.base = base → row.idx1 a = i → row.idx2 a = j → d.accessed.commandReg r row a v hint = some e) :
    d.writeTo base r a v hint = e := by
  obtain ⟨row, hrow, hb, hi, hj⟩ := reg.exists_row
  have found : regRow (regKey a) = some row := by rw [reg.1, hrow]
  rw [Dev.writeTo, rowBaseAt, found, Option.map_some, if_pos (by rw [hb]), d.busWrite_accepts r a v hint row accepted found, reg.1,
    command row hb hi hj]

/-- The state that a command leaves which is one write to a register that commands. -/
theorem exec_eq_next_of_command {c : Instr} {s : State} {e : Dev} {r : Req} {a base i j : Nat} {v : Word} {hint : Hint}
    (write : exec c s = .next { s with dev := (s.dev.writeTo base r a v hint).settle }) (accepted : s.dev.accepts r a v = true)
    (reg : RegAt a base i j)
    (command : ∀ row : RegRow, row.base = base → row.idx1 a = i → row.idx2 a = j → s.dev.accessed.commandReg r row a v hint = some e) :
    exec c s = .next { s with dev := e.settle } := by
  rw [write, Dev.writeTo_of_command accepted reg command]

/-- Settles O24: a write that is accepted carries out its register's command (`exec_eq_next_of_command`), and each clause is what that
command does where nothing stands against it. That a completion head counts modulo the ring's size and that a channel of share 0 does not
start are the model's choices (log entries 124 and 126). -/
theorem registersThatCommand : Obligations.RegistersThatCommand := by
  refine ⟨?_, ?_, ?_, ?_, ?_, ?_, ?_, ?_, ?_, ?_, ?_, ?_, ?_, ?_, ?_, ?_, ?_, ?_, ?_, ?_, ?_, ?_⟩
  · intro r v s accepted clear
    exact exec_eq_next_of_command rfl accepted regAt_sysOverrun fun row hb _ _ => by
      rw [Dev.commandReg_sysOverrun hb, if_pos clear]
  · intro r v s accepted clear
    exact exec_eq_next_of_command rfl accepted regAt_sysS1Peak fun row hb _ _ => Dev.commandReg_sysS1Peak hb clear
  · intro r v s accepted clear
    exact exec_eq_next_of_command rfl accepted regAt_sysDipLast fun row hb _ _ => by
      rw [Dev.commandReg_sysDipLast hb, if_pos clear]
  · intro r v s accepted
    exact exec_eq_next_of_command rfl accepted regAt_belfryLogSw fun row hb _ _ => Dev.commandReg_belfryLogSw hb
  · intro r v s accepted load
    exact exec_eq_next_of_command rfl accepted regAt_belfryBkpCtrl fun row hb _ _ => by
      rw [Dev.commandReg_belfryBkpCtrl hb, if_pos load]
  · intro r cc i q x v s accepted hcc hi ring room running moves
    exact exec_eq_next_of_command rfl accepted (regAt_hostSqTail hcc (by omega)) fun row hb h1 h2 => by
      rw [Dev.commandReg_hostSqTail hb, h1, h2, Dev.sqTail_of_room (d := s.dev.accessed) ring room running moves]
      rfl
  · intro r cc i q x v s accepted hcc hi ring
    exact exec_eq_next_of_command rfl accepted (regAt_hostCqHead hcc (by omega)) fun row hb h1 h2 => by
      rw [Dev.commandReg_hostCqHead hb, h1, h2, Dev.cqHead_of_ring (d := s.dev.accessed) ring]
  · intro r cc v s accepted hcc
    exact exec_eq_next_of_command rfl accepted (regAt_hostEvqHead hcc) fun row hb h1 _ => by
      rw [Dev.commandReg_hostEvqHead hb, h1]
      rfl
  · intro r c v s accepted hc
    exact exec_eq_next_of_command rfl accepted (regAt_dmaChTail c hc) fun row hb h1 _ => by
      rw [Dev.commandReg_dmaChTail hb, h1]
      rfl
  · intro r c s accepted hc idle share
    exact exec_eq_next_of_command rfl accepted (regAt_dmaChCtrl c hc) fun row hb h1 _ => by
      rw [Dev.commandReg_dmaChCtrl hb, h1, Dev.dmaCtrl_start, Dev.dmaStart_of_idle (d := s.dev.accessed) idle share]
  · intro r c s accepted hc busy
    exact exec_eq_next_of_command rfl accepted (regAt_dmaChCtrl c hc) fun row hb h1 _ => by
      rw [Dev.commandReg_dmaChCtrl hb, h1, Dev.dmaCtrl_stop, Dev.dmaStop_of_busy (d := s.dev.accessed) busy]
  · intro r c s accepted hc admin halted candidate free
    exact exec_eq_next_of_command rfl accepted (regAt_dmaChCtrl c hc) fun row hb h1 _ => by
      rw [Dev.commandReg_dmaChCtrl hb, h1, Dev.dmaCtrl_probe,
        Dev.dmaProbe_of_candidate (d := s.dev.accessed) admin halted candidate free]
  · intro r v s accepted
    exact exec_eq_next_of_command rfl accepted regAt_dmaResume fun row hb _ _ => Dev.commandReg_dmaResume hb
  · intro r v s accepted
    exact exec_eq_next_of_command rfl accepted regAt_fieldOutSet fun row hb _ _ => Dev.commandReg_fieldOutSet hb
  · intro r v s accepted
    exact exec_eq_next_of_command rfl accepted regAt_fieldOutClr fun row hb _ _ => Dev.commandReg_fieldOutClr hb
  · intro r k v s accepted hk acked done
    exact exec_eq_next_of_command rfl accepted (regAt_canTxPut k hk) fun row hb h1 _ => by
      rw [Dev.commandReg_canTxPut hb, h1, Dev.canPut_of_room (d := s.dev.accessed) acked done]
  · intro r k v s accepted hk behind prompt
    exact exec_eq_next_of_command rfl accepted (regAt_canRxAck k hk) fun row hb h1 _ => by
      rw [Dev.commandReg_canRxAck hb, h1, Dev.canAck_rx_of_prompt (d := s.dev.accessed) behind prompt]
  · intro r n v s accepted hn room
    exact exec_eq_next_of_command rfl accepted (regAt_uartData n hn) fun row hb h1 _ => by
      rw [Dev.commandReg_uartData hb, h1, Dev.uartPut_of_room (d := s.dev.accessed) room]
  · intro r n v s accepted hn request leads fresh noFault
    exact exec_eq_next_of_command rfl accepted (regAt_axSnapCtrl n hn) fun row hb h1 _ => by
      rw [Dev.commandReg_axSnapCtrl hb, h1, Dev.snapRequest_of_lead (d := s.dev.accessed) request leads fresh noFault]
  · intro r v within s accepted closed first key
    exact exec_eq_next_of_command rfl accepted regAt_testUnlock fun row hb _ _ => by
      rw [Dev.commandReg_testUnlock hb, Dev.testUnlock_of_first_key (d := s.dev.accessed) closed first key]
      rfl
  · intro r addr width s narrow
    exact ⟨exec_counterLowRead_narrow s r addr narrow, rfl⟩
  · intro r addr s
    refine ⟨?_, rfl⟩
    rw [exec_counterLowRead, State.perform_eq_next, Dev.readAny_double]
    rfl

/-! ### Writes that leave a word (R14, R26) -/

/-- The rows whose registers command, and hold no word that is written: those of `Dev.commandReg`. -/
def commandBases : List Nat := [
  A.SYS_OVERRUN, A.SYS_S1_PEAK, A.SYS_DIP_LAST, A.BELFRY_LOG_SW, A.BELFRY_LOG_RP, A.BELFRY_BKP_CTRL, A.DMA_RESUME, A.DMA_CH_CTRL 0,
  A.DMA_CH_TAIL 0, A.FIELD_OUT, A.FIELD_OUT_SET, A.FIELD_OUT_CLR, A.CAN_TX_PUT 0, A.CAN_RX_ACK 0, A.CAN_TX_ACK 0, A.UART_DATA 0,
  A.SAF_UNLOCK, A.TEST_UNLOCK, A.AX_SNAP_CTRL 0, A.HOST_SQ_TAIL 0 0, A.HOST_CQ_HEAD 0 0, A.HOST_EVQ_HEAD 0, A.HOST_SPI_STATUS,
  A.HOST_SPI_IRQ, A.HOST_SPI_IRQ_MASK]

/-- The rows of the low words of the RW pairs: those of `pairOf`. -/
def pairLowBases : List Nat := [
  A.FB_LIM_LO_LO 0, A.FB_LIM_HI_LO 0, A.FB_ORIGIN_LO 0, A.FB_REF_VAL_LO 0, A.FB_CMP_BASE_LO 0 0, A.VLIM_LO_LO 0, A.VLIM_HI_LO 0]

/-- The registers of a row hold the word that is written: they neither command nor belong to a pair. -/
def holdsWord (base : Nat) : Bool :=
  !commandBases.contains base && !pairLowBases.contains base && !(decide (4 ≤ base) && pairLowBases.contains (base - 4))

section
variable {row : RegRow} (h : holdsWord row.base = true)
include h

theorem Dev.commandReg_of_holdsWord (d : Dev) (r : Req) (a : Nat) (v : Word) (hint : Hint) : d.commandReg r row a v hint = none := by
  simp only [holdsWord, commandBases, Bool.and_eq_true, Bool.not_eq_true', List.contains_eq_mem, decide_eq_false_iff_not,
    List.mem_cons, List.not_mem_nil, or_false, not_or] at h
  obtain ⟨⟨hne, -⟩, -⟩ := h
  simp only [Dev.commandReg, hne, if_false, or_self, false_and]

theorem pairOf_of_holdsWord (a : Nat) : pairOf row a = none := by
  simp only [holdsWord, Bool.and_eq_true, Bool.not_eq_true'] at h
  obtain ⟨⟨-, low⟩, high⟩ := h
  change (if pairLowBases.contains row.base then _ else if decide (4 ≤ row.base) && pairLowBases.contains (row.base - 4) then _ else _) = _
  rw [low, high]
  rfl
end

/-- The perturbation registers lie in TEST (R471). -/
theorem isPerturbation_of_outside {a : Nat} (h : a < 0x700000 ∨ 0x700280 ≤ a) : isPerturbation a = false := by
  simp [isPerturbation, testWide, sdFlipAxis, A.TEST_S1_DELAY, A.TEST_RING, A.TEST_DMA_HOLD, A.TEST_DMA_HOLD_US, A.TEST_CAN_ACK]
  omega

section
variable {d : Dev} {r : Req} {addr : Nat} {row : RegRow} {v : Word} {hint : Hint} (accepted : d.accepts r addr v = true)
  (found : regRow (regKey addr) = some row)
include accepted found

/-- The word that an accepted write leaves is the one taken, with what follows from it. -/
theorem Dev.busWrite_of_taken (noCommand : d.accessed.commandReg r row (regKey addr) v hint = none)
    (noPair : pairOf row (regKey addr) = none) (plain : isPerturbation (regKey addr) = false) (noneKept : (d.taken r addr v).2 = none) :
    d.busWrite r addr 4 v hint =
      (d.accessed.wr (regKey addr) (d.taken r addr v).1).regAfter row (regKey addr) (d.rd (regKey addr)) (d.taken r addr v).1 v hint := by
  rw [d.busWrite_accepts r addr v hint row accepted found, noCommand, noPair]
  simp only [Dev.taken, found] at noneKept ⊢
  simp only [plain, noneKept]
  rfl

/-- Where a field keeps its value, the fault of the first such field is recorded besides. -/
theorem Dev.busWrite_of_kept {k : Kind} (noCommand : d.accessed.commandReg r row (regKey addr) v hint = none)
    (noPair : pairOf row (regKey addr) = none) (plain : isPerturbation (regKey addr) = false) (kept : (d.taken r addr v).2 = some k) :
    d.busWrite r addr 4 v hint =
      ((d.accessed.wr (regKey addr) (d.taken r addr v).1).regAfter row (regKey addr) (d.rd (regKey addr)) (d.taken r addr v).1 v
        hint).accFault r (regKey addr) k true := by
  rw [d.busWrite_accepts r addr v hint row accepted found, noCommand, noPair]
  simp only [Dev.taken, found] at kept ⊢
  simp only [plain, kept]
  rfl

theorem Dev.busWrite_of_perturbation (noCommand : d.accessed.commandReg r row (regKey addr) v hint = none)
    (noPair : pairOf row (regKey addr) = none) (perturbs : isPerturbation (regKey addr) = true) (noneKept : (d.taken r addr v).2 = none) :
    d.busWrite r addr 4 v hint = d.accessed.perturb (regKey addr) (d.taken r addr v).1 := by
  rw [d.busWrite_accepts r addr v hint row accepted found, noCommand, noPair]
  simp only [Dev.taken, found] at noneKept ⊢
  simp only [perturbs, noneKept]
  rfl

theorem Dev.busWrite_of_pair {low : Nat} {high : Bool} (noCommand : d.accessed.commandReg r row (regKey addr) v hint = none)
    (pair : pairOf row (regKey addr) = some (low, high)) :
    d.busWrite r addr 4 v hint = d.accessed.pairWrite r (row.idx1 (regKey addr)) (regKey addr) low high v := by
  rw [d.busWrite_accepts r addr v hint row accepted found, noCommand, pair]
end

/-- The state that a command leaves which is one write to a register that holds a word, where no field is kept. -/
theorem exec_eq_next_of_taken {c : Instr} {s : State} {e : Dev} {r : Req} {a base i j : Nat} {v : Word} {hint : Hint}
    (write : exec c s = .next { s with dev := (s.dev.writeTo base r a v hint).settle }) (accepted : s.dev.accepts r a v = true)
    (reg : RegAt a base i j) (word : holdsWord base = true) (plain : isPerturbation a = false) (noneKept : (s.dev.taken r a v).2 = none)
    (after : ∀ row : RegRow, row.base = base → row.idx1 a = i → row.idx2 a = j →
      (s.dev.accessed.wr a (s.dev.taken r a v).1).regAfter row a (s.dev.rd a) (s.dev.taken r a v).1 v hint = e) :
    exec c s = .next { s with dev := e.settle } := by
  obtain ⟨row, hrow, rfl, hi, hj⟩ := reg.exists_row
  have found : regRow (regKey a) = some row := by rw [reg.1, hrow]
  have written := Dev.busWrite_of_taken (hint := hint) accepted found (Dev.commandReg_of_holdsWord word _ _ _ _ _)
    (pairOf_of_holdsWord word _) (by rw [reg.1, plain]) noneKept
  rw [reg.1, after row rfl hi hj] at written
  rw [write, Dev.writeTo, rowBaseAt, found, Option.map_some, if_pos rfl, written]

/-! ### What follows from a word taken -/

/-- The rows that `Dev.regAfter` names; of the others it asks only for the block. -/
def afterBases : List Nat := [
  A.SYS_TICK_CFG, A.SYS_WAKE_BUDGET 0, A.SYS_WAKE_AXES 0, A.BELFRY_RULE_COND 0, A.BELFRY_RULE_ACT 0, A.BELFRY_IN_CFG 0, A.HOST_ADM_CFG,
  A.HOST_EVQ_CFG 0]

section
variable {d : Dev} {row : RegRow} {a : Nat} {was now v : Word} {hint : Hint}

theorem Dev.regAfter_sysTickCfg (hb : row.base = A.SYS_TICK_CFG) : d.regAfter row a was now v hint = (d.wr a was).tickCfg was now := by
  rw [Dev.regAfter, hb]; rfl

theorem Dev.regAfter_sysWakeBudget (hb : row.base = A.SYS_WAKE_BUDGET 0) : d.regAfter row a was now v hint = d.restRechoice := by
  rw [Dev.regAfter, hb]; rfl

theorem Dev.regAfter_belfryRule (hb : row.base = A.BELFRY_RULE_COND 0 ∨ row.base = A.BELFRY_RULE_ACT 0) :
    d.regAfter row a was now v hint = d.setBelRule (row.idx1 a) { d.belRule (row.idx1 a) with prev := false } := by
  rcases hb with hb | hb <;> (rw [Dev.regAfter, hb]; rfl)

theorem Dev.regAfter_hostAdmCfg (hb : row.base = A.HOST_ADM_CFG) : d.regAfter row a was now v hint = d.admCfg was now := by
  rw [Dev.regAfter, hb]; rfl

theorem Dev.regAfter_hostEvqCfg (hb : row.base = A.HOST_EVQ_CFG 0) : d.regAfter row a was now v hint = d.evqCfg (row.idx1 a) was now := by
  rw [Dev.regAfter, hb]; rfl

/-- The other registers of the field block, CAN and the UARTs. -/
theorem Dev.regAfter_io (other : row.base ∉ afterBases) (block : 0x180000 ≤ a ∧ a < 0x200000) :
    d.regAfter row a was now v hint = d.ioAfter row a was now v := by
  simp only [afterBases, List.mem_cons, List.not_mem_nil, or_false, not_or] at other
  simp only [Dev.regAfter, other, block, or_self, if_false, and_self, if_true]

/-- The registers of the axis pages. -/
theorem Dev.regAfter_axis (other : row.base ∉ afterBases) (block : 0x200000 ≤ a ∧ a < 0x400000) :
    d.regAfter row a was now v hint = d.axisAfter row a was now v hint := by
  simp only [afterBases, List.mem_cons, List.not_mem_nil, or_false, not_or] at other
  simp only [Dev.regAfter, other, block, Nat.not_lt.2 block.1, and_false, or_self, if_false, and_self, if_true]

/-- Of every other register nothing follows. -/
theorem Dev.regAfter_elsewhere (other : row.base ∉ afterBases) (block : a < 0x180000 ∨ 0x400000 ≤ a) :
    d.regAfter row a was now v hint = d := by
  have noIo : ¬ (0x180000 ≤ a ∧ a < 0x200000) := by omega
  have noAxis : ¬ (0x200000 ≤ a ∧ a < 0x400000) := by omega
  simp only [afterBases, List.mem_cons, List.not_mem_nil, or_false, not_or] at other
  simp only [Dev.regAfter, other, noIo, noAxis, or_self, if_false]

theorem Dev.ioAfter_fieldChCfg (hb : row.base = A.FIELD_CH_CFG 0) :
    d.ioAfter row a was now v = (d.wr a was).fieldCfg (row.idx1 a) now := by
  rw [Dev.ioAfter, hb]; rfl

/-- A write of CAN_CTRL that leaves the controller on or off as it was, with abort set. -/
theorem Dev.ioAfter_canCtrl_abort (hb : row.base = A.CAN_CTRL 0) (abort : bit 5 v = true) (same : bit 0 now = bit 0 was) :
    d.ioAfter row a was now v = d.canAbort (row.idx1 a) := by
  rw [Dev.ioAfter, hb]
  simp [abort, same]

theorem Dev.axisAfter_fbLatCtrl (hb : row.base = A.FB_LAT_CTRL 0 0) (arm : bit 10 v = true) :
    d.axisAfter row a was now v hint = d.wb a 10 true := by
  rw [Dev.axisAfter, hb]
  exact if_pos arm

theorem Dev.axisAfter_profStreamWp (hb : row.base = A.PROF_STREAM_WP 0) : d.axisAfter row a was now v hint = d := by
  rw [Dev.axisAfter, hb]; rfl

theorem Dev.axisAfter_gearPubCfg {granted : Bool} (hb : row.base = A.GEAR_PUB_CFG 0) :
    d.axisAfter row a was now v { granted := some (b2n granted) } = d.pubWritten (row.idx1 a) was granted := by
  rw [Dev.axisAfter, hb]
  cases granted <;> rfl

theorem Dev.axisAfter_lsGrpCfg {granted : Nat} (hb : row.base = A.LS_GRP_CFG 0) :
    d.axisAfter row a was now v { granted := some granted } = d.lsWritten (row.idx1 a) was granted := by
  rw [Dev.axisAfter, hb]; rfl
end

section
variable {c : Instr} {s : State} {e : Dev} {r : Req} {a base i j : Nat} {v : Word} {hint : Hint}
  (write : exec c s = .next { s with dev := (s.dev.writeTo base r a v hint).settle }) (accepted : s.dev.accepts r a v = true)
  (reg : RegAt a base i j) (word : holdsWord base = true) (other : base ∉ afterBases) (noneKept : (s.dev.taken r a v).2 = none)
include write accepted reg word other noneKept

theorem exec_eq_next_of_ioWord (block : 0x180000 ≤ a ∧ a < 0x200000)
    (after : ∀ row : RegRow, row.base = base → row.idx1 a = i →
      (s.dev.accessed.wr a (s.dev.taken r a v).1).ioAfter row a (s.dev.rd a) (s.dev.taken r a v).1 v = e) :
    exec c s = .next { s with dev := e.settle } :=
  exec_eq_next_of_taken write accepted reg word (isPerturbation_of_outside (by omega)) noneKept fun row hb h1 _ => by
    rw [Dev.regAfter_io (hb ▸ other) block, after row hb h1]

theorem exec_eq_next_of_axisWord (block : 0x200000 ≤ a ∧ a < 0x400000)
    (after : ∀ row : RegRow, row.base = base → row.idx1 a = i →
      (s.dev.accessed.wr a (s.dev.taken r a v).1).axisAfter row a (s.dev.rd a) (s.dev.taken r a v).1 v hint = e) :
    exec c s = .next { s with dev := e.settle } :=
  exec_eq_next_of_taken write accepted reg word (isPerturbation_of_outside (by omega)) noneKept fun row hb h1 _ => by
    rw [Dev.regAfter_axis (hb ▸ other) block, after row hb h1]

/-- A register of another block takes the word alone. -/
theorem exec_eq_next_of_wordAlone (block : a < 0x180000 ∨ 0x400000 ≤ a) (plain : isPerturbation a = false) :
    exec c s = .next { s with dev := (s.dev.accessed.wr a (s.dev.taken r a v).1).settle } :=
  exec_eq_next_of_taken write accepted reg word plain noneKept fun _ hb _ _ => Dev.regAfter_elsewhere (hb ▸ other) block
end

theorem Dev.rootTickCfg_of_change {d : Dev} {ft t : Nat} (notRoot : d.isRoot = false) (least : ft ≤ 2)
    (change : ft ≠ d.fld A.SYS_TICK_CFG 1 0) :
    d.rootTickCfg ft t =
      let at_ := ceilDiv (t + 8 * d.framePeriod) 1000000 * 1000000
      ((d.setFld A.SYS_TICK_CFG 1 0 ft).wb A.SYS_TICK_STATUS 8 true).modSys (fun s => { s with rootPending := some (ft, at_) }) := by
  rw [Dev.rootTickCfg, if_neg (by simp [notRoot, least, change])]

theorem Dev.pairWrite_commit {d : Dev} {r : Req} {n a low : Nat} {v : Word}
    (within : d.limitsCross n low (toSigned 48 ((AList.get (d.rd low) d.fbd.staged low).toNat + 2 ^ 32 * field 15 0 v)) = false)
    (noReference : low ≠ A.FB_REF_VAL_LO n) :
    d.pairWrite r n a low true v =
      (d.modFbd (fun f => { f with staged := AList.del f.staged low })).wr48 low
        (toSigned 48 ((AList.get (d.rd low) d.fbd.staged low).toNat + 2 ^ 32 * field 15 0 v)) := by
  have staged (f : FbDev → FbDev) (x : Int) : (d.modFbd f).limitsCross n low x = d.limitsCross n low x := rfl
  simp only [Dev.pairWrite, staged, within, noReference, Bool.not_true, Bool.false_eq_true, if_false]

/-! ### Writes of a width (R26, R27) -/

theorem exec_registerWrite (s : State) (r : Req) (addr width : Nat) (x : WrData) :
    exec (.registerWrite r addr width x) s = s.perform (fun d => d.writeAny r addr width x.v x.more) := rfl

theorem Dev.writeAny_of_narrow (d : Dev) (r : Req) (addr : Nat) {width : Nat} (v : Word) (more : List Word) (narrow : wideParts width = 0) :
    d.writeAny r addr width v more = d.busWrite r addr width v := by rw [Dev.writeAny, if_pos narrow]

/-- A write of 64 bits is two writes of 32 bits, the lower first. -/
theorem Dev.writeAny_double (d : Dev) (r : Req) (addr : Nat) (v w : Word) :
    d.writeAny r addr 8 v [w] = (d.busWrite r addr 4 v).busWrite r (addr + 4) 4 w := by
  simp [Dev.writeAny, wideParts, List.range_succ]

/-- A misaligned write records its fault and does nothing else. -/
theorem Dev.busWrite_misaligned {d : Dev} {r : Req} {addr width : Nat} (v : Word) (hint : Hint) (reached : d.accessed.reaches r = true)
    (off : misaligned addr width = true) : d.busWrite r addr width v hint = d.accessed.accFault r (regKey addr) .misaligned true := by
  unfold Dev.busWrite
  change (if !d.accessed.reaches r then d.accessed else _) = _
  simp only [reached, off]
  rfl

theorem Dev.aligned_of_accepts {d : Dev} {r : Req} {addr : Nat} {v : Word} (accepted : d.accepts r addr v = true) : addr % 4 = 0 := by
  simp only [Dev.accepts, Bool.and_eq_true, decide_eq_true_eq] at accepted
  obtain ⟨⟨⟨⟨-, aligned⟩, -⟩, -⟩, -⟩ := accepted
  exact aligned

/-- Settles O25: a write that leaves every field it names takes its word and does what the row's case of `Dev.regAfter` says
(`exec_eq_next_of_taken`); the last clauses are of writes by their width, of perturbations and of pairs. -/
theorem registersThatTakeAWord : Obligations.RegistersThatTakeAWord := by
  refine ⟨?_, ?_, ?_, ?_, ?_, ?_, ?_, ?_, ?_, ?_, ?_, ?_, ?_, ?_, ?_, ?_, ?_, ?_, ?_, ?_, ?_, ?_⟩
  · intro r v s accepted noneKept
    exact exec_eq_next_of_taken rfl accepted regAt_sysTickCfg rfl rfl noneKept fun row hb _ _ => Dev.regAfter_sysTickCfg hb
  · intro r v t s notRoot least change
    change s.perform (fun d => d.rootTickCfg (field 1 0 v) t) = _
    rw [State.perform_eq_next, Dev.rootTickCfg_of_change notRoot least change]
  · intro r i v s accepted hi noneKept
    exact exec_eq_next_of_taken rfl accepted (regAt_sysWakeBudget i hi) rfl
      (isPerturbation_of_outside (by unfold A.SYS_WAKE_BUDGET; omega)) noneKept fun row hb _ _ => Dev.regAfter_sysWakeBudget hb
  · intro r i v s accepted hi noneKept
    have place : A.EVT_ROUTE i < 0x180000 := by unfold A.EVT_ROUTE; omega
    exact exec_eq_next_of_wordAlone rfl accepted (regAt_evtRoute i hi) rfl (by decide) noneKept (.inl place)
      (isPerturbation_of_outside (by omega))
  · intro r i v s accepted hi noneKept
    exact exec_eq_next_of_taken rfl accepted (regAt_belfryRuleAct i hi) rfl
      (isPerturbation_of_outside (by unfold A.BELFRY_RULE_ACT; omega)) noneKept fun row hb h1 _ => by
        rw [Dev.regAfter_belfryRule (.inr hb), h1]
  · intro r i v s accepted hi noneKept
    exact exec_eq_next_of_taken rfl accepted (regAt_belfryRuleCond i hi) rfl
      (isPerturbation_of_outside (by unfold A.BELFRY_RULE_COND; omega)) noneKept fun row hb h1 _ => by
        rw [Dev.regAfter_belfryRule (.inl hb), h1]
  · intro r v s accepted noneKept
    exact exec_eq_next_of_taken rfl accepted regAt_hostAdmCfg rfl rfl noneKept fun row hb _ _ => Dev.regAfter_hostAdmCfg hb
  · intro r i v s accepted hi noneKept
    exact exec_eq_next_of_taken rfl accepted (regAt_hostEvqCfg hi) rfl
      (isPerturbation_of_outside (by unfold A.HOST_EVQ_CFG; omega)) noneKept fun row hb h1 _ => by
        rw [Dev.regAfter_hostEvqCfg hb, h1]
  · intro r i v s accepted hi noneKept
    have place : A.DMA_CH_OWN i < 0x180000 := by unfold A.DMA_CH_OWN; omega
    exact exec_eq_next_of_wordAlone rfl accepted (regAt_dmaChOwn i hi) rfl (by decide) noneKept (.inl place)
      (isPerturbation_of_outside (by omega))
  · intro r i v s accepted hi noneKept
    exact exec_eq_next_of_ioWord rfl accepted (regAt_fieldChCfg i hi) rfl (by decide) noneKept (by unfold A.FIELD_CH_CFG; omega)
      fun row hb h1 => by rw [Dev.ioAfter_fieldChCfg hb, h1]
  · intro r i s accepted hi noneKept abort same
    exact exec_eq_next_of_ioWord rfl accepted (regAt_canCtrl i hi) rfl (by decide) noneKept (by unfold A.CAN_CTRL; omega)
      fun row hb h1 => by rw [Dev.ioAfter_canCtrl_abort hb abort same, h1]
  · intro r i u v s accepted hi hu noneKept arm
    exact exec_eq_next_of_axisWord rfl accepted (regAt_fbLatCtrl i hi u hu) rfl (by decide) noneKept (by unfold A.FB_LAT_CTRL; omega)
      fun row hb _ => Dev.axisAfter_fbLatCtrl hb arm
  · intro r i v s accepted hi noneKept
    exact exec_eq_next_of_axisWord rfl accepted (regAt_profStreamWp i hi) rfl (by decide) noneKept (by unfold A.PROF_STREAM_WP; omega)
      fun row hb _ => Dev.axisAfter_profStreamWp hb
  · intro r i v granted s accepted hi noneKept
    exact exec_eq_next_of_axisWord rfl accepted (regAt_gearPubCfg i hi) rfl (by decide) noneKept (by unfold A.GEAR_PUB_CFG; omega)
      fun row hb h1 => by rw [Dev.axisAfter_gearPubCfg hb, h1]
  · intro r i v granted s accepted hi noneKept
    exact exec_eq_next_of_axisWord rfl accepted (regAt_lsGrpCfg i hi) rfl (by decide) noneKept (by unfold A.LS_GRP_CFG; omega)
      fun row hb h1 => by rw [Dev.axisAfter_lsGrpCfg hb, h1]
  · intro r v s accepted noneKept
    exact exec_eq_next_of_wordAlone rfl accepted regAt_ocuRingRp rfl (by decide) noneKept (by decide) rfl
  · intro r addr row v more s accepted found noCommand noPair plain
    rw [exec_registerWrite, State.perform_eq_next, Dev.writeAny_of_narrow _ _ _ _ _ rfl]
    cases kept : (s.dev.taken r addr v).2 with
    | none => rw [Dev.busWrite_of_taken accepted found noCommand noPair plain kept]
    | some k => rw [Dev.busWrite_of_kept accepted found noCommand noPair plain kept]
  · intro r addr width v more s reached off narrow
    rw [exec_registerWrite, State.perform_eq_next, Dev.writeAny_of_narrow _ _ _ _ _ narrow, Dev.busWrite_misaligned v {} reached off]
  · intro r addr k v more s reached aligned bad
    rw [exec_registerWrite, State.perform_eq_next, Dev.writeAny_of_narrow _ _ _ _ _ rfl, Dev.busWrite_judge_bad v {} reached aligned bad]
  · intro r addr v w s
    rw [exec_registerWrite, State.perform_eq_next, Dev.writeAny_double]
  · intro r addr row v more s accepted found key noCommand noPair perturbs noneKept
    change s.perform (fun d => if isPerturbation (addr - addr % 4) then d.writeAny r addr 4 v more else d) = _
    rw [State.perform_eq_next, Dev.aligned_of_accepts accepted, Nat.sub_zero, if_pos perturbs, Dev.writeAny_of_narrow _ _ _ _ _ rfl,
      Dev.busWrite_of_perturbation accepted (by rw [key, found]) (by rw [key, noCommand]) (by rw [key, noPair])
        (by rw [key, perturbs]) noneKept, key]
  · intro r addr low row v s accepted found key pair noCommand within noReference
    have high : pairHigh addr = true := by rw [pairHigh, found]; simp only [pair]
    change s.perform (fun d => if pairHigh addr then d.busWrite r addr 4 v else d) = _
    rw [State.perform_eq_next, if_pos high, Dev.busWrite_of_pair accepted (by rw [key, found]) (by rw [key, noCommand])
      (by rw [key, pair]), key, Dev.pairWrite_commit (d := s.dev.accessed) within noReference]
    rfl

end Sys2Proof.Machine
end

section
/-!
PROOFS. The statements of 02_modes_power_wake.md: what a device reset keeps (R58), SYS_MODE_SET (R54, R55), supplies, dips and temperatures
(R78 to R83), and rest and wake (R61 to R77).
-/

namespace Sys2Proof.Machine

/-! ### What a device reset keeps (R58) -/

section
variable {β : Type} [DecidableEq β] {dflt : Nat → β} (keep : Nat → Bool)

omit [DecidableEq β] in
/-- A map cut down to the keys that are kept reads as it did there, and as its default elsewhere. -/
theorem SMap.get_filter (m : SMap β) (a : Nat) :
    SMap.get dflt (m.filter (fun c => keep c.1)) a = if keep a then SMap.get dflt m a else dflt a := by
  induction m with
  | nil => simp
  | cons p m ih =>
    obtain ⟨k, v⟩ := p
    rw [List.filter_cons, SMap.get_cons]
    by_cases same : k = a
    · subst same
      by_cases kept : keep k = true <;> simp [kept, ih, SMap.get_cons]
    · split <;> simp [same, ih, SMap.get_cons]

theorem SMap.below_filter {m : SMap β} {k : Nat} (hw : SMap.wf dflt m = true) (hb : SMap.below k m) :
    SMap.below k (m.filter (fun c => keep c.1)) := by
  induction m with
  | nil => trivial
  | cons p m ih =>
    obtain ⟨l, v⟩ := p
    have hkl : k < l := hb
    obtain ⟨hbm, -, hwm⟩ := (SMap.wf_cons dflt l v m).1 hw
    rw [List.filter_cons]
    split
    · exact hkl
    · refine ih hwm ?_
      cases m with
      | nil => trivial
      | cons q m => exact Nat.lt_trans hkl hbm

/-- Cutting a map down to some keys keeps it canonical. -/
theorem SMap.wf_filter {m : SMap β} (hw : SMap.wf dflt m = true) : SMap.wf dflt (m.filter (fun c => keep c.1)) = true := by
  induction m with
  | nil => rfl
  | cons p m ih =>
    obtain ⟨k, v⟩ := p
    obtain ⟨hb, listed, hwm⟩ := (SMap.wf_cons dflt k v m).1 hw
    rw [List.filter_cons]
    split
    · exact (SMap.wf_cons dflt k v _).2 ⟨SMap.below_filter keep hwm hb, listed, ih hwm⟩
    · exact ih hwm
end

@[simp] theorem Dev.updReset_regs (d : Dev) : d.updReset.regs = d.regs := by
  unfold Dev.updReset
  split <;> rfl

@[simp] theorem Dev.updReset_mem (d : Dev) : d.updReset.mem = d.mem := by
  unfold Dev.updReset
  split <;> rfl

@[simp] theorem Dev.updKept_regs (d : Dev) : d.updKept.regs = d.regs := by
  rw [← d.updReset_regs]
  unfold Dev.updKept
  dsimp only
  split <;> rfl

@[simp] theorem Dev.updKept_mem (d : Dev) : d.updKept.mem = d.mem := by
  rw [← d.updReset_mem]
  unfold Dev.updKept
  dsimp only
  split <;> rfl

/-- After a device reset stand the registers it keeps, and the four that report what it finds. -/
theorem Dev.deviceReset_regs (d : Dev) (bits : Nat) : ∃ causes supplies levels fieldStatus : Word, (d.deviceReset bits).regs =
    SMap.put regReset (SMap.put regReset (SMap.put regReset (SMap.put regReset (d.regs.filter (fun c => keptReg c.1))
      A.SYS_RST_CAUSE causes) A.SYS_SUPPLY_STATUS supplies) A.FIELD_LEVEL levels) A.FIELD_STATUS fieldStatus :=
  ⟨_, _, _, _, by rw [← d.updKept_regs]; rfl⟩

theorem Dev.deviceReset_mem (d : Dev) (bits : Nat) : (d.deviceReset bits).mem = d.mem.filter (fun c => keptMem c.1) := by
  rw [← d.updKept_mem]
  rfl

theorem Dev.rd_deviceReset {d : Dev} (bits : Nat) {a : Nat} (canonical : SMap.wf regReset d.regs = true) (notCause : a ≠ A.SYS_RST_CAUSE)
    (notSupply : a ≠ A.SYS_SUPPLY_STATUS) (notLevel : a ≠ A.FIELD_LEVEL) (notStatus : a ≠ A.FIELD_STATUS) :
    (d.deviceReset bits).rd a = if keptReg a then d.rd a else regReset a := by
  obtain ⟨causes, supplies, levels, fieldStatus, left⟩ := d.deviceReset_regs bits
  have kept := SMap.wf_filter keptReg canonical
  have withCauses := SMap.wf_put regReset _ A.SYS_RST_CAUSE causes kept
  have withSupplies := SMap.wf_put regReset _ A.SYS_SUPPLY_STATUS supplies withCauses
  have withLevels := SMap.wf_put regReset _ A.FIELD_LEVEL levels withSupplies
  rw [Dev.rd, left, SMap.get_put_ne _ _ _ _ _ withLevels notStatus, SMap.get_put_ne _ _ _ _ _ withSupplies notLevel,
    SMap.get_put_ne _ _ _ _ _ withCauses notSupply, SMap.get_put_ne _ _ _ _ _ kept notCause, SMap.get_filter, Dev.rd]

theorem Dev.mb_deviceReset (d : Dev) (bits a : Nat) : (d.deviceReset bits).mb a = if 0x20000 ≤ a ∧ a < 0x40000 then d.mb a else 0 := by
  rw [Dev.mb, Dev.deviceReset_mem, SMap.get_filter]
  simp [keptMem, memDflt, Dev.mb]

/-- The device's own STO asserts all four groups. -/
theorem Dev.stoMask_of_deviceSto {d : Dev} (sto : d.saf.deviceSto = true) : d.stoMask = 15 := by
  have demanded : d.stoDemanded = fun _ => true := by
    funext g
    simp only [Dev.stoDemanded, sto, Bool.true_or]
  rw [Dev.stoMask, demanded]
  rfl

theorem Dev.outMask_of_no_outs {d : Dev} (noOuts : d.saf.outs = []) : d.outMask = 0 := by
  rw [Dev.outMask, noOuts]
  rfl

/-- Settles O45: a reset cuts both maps down to what it keeps and builds every engine anew. That the raw levels of the field comparators are
kept, against "every register", and what the backup-cell domain is, are the model's choices (log entries 137 and 108). -/
theorem deviceResetKeepsTheTwoDomainsOnly : Obligations.DeviceResetKeepsTheTwoDomainsOnly := by
  refine ⟨fun d bits a => Dev.rd_deviceReset bits, Dev.mb_deviceReset, fun d bits canonical => ?_⟩
  have ringStatus : (d.deviceReset bits).rd A.FAB_STATUS = regReset A.FAB_STATUS :=
    Dev.rd_deviceReset bits canonical (by decide) (by decide) (by decide) (by decide)
  refine ⟨rfl, rfl, rfl, rfl, rfl, Dev.stoMask_of_deviceSto rfl, Dev.outMask_of_no_outs rfl, ?_⟩
  rw [Dev.rb, ringStatus]
  decide

/-! ### The state that a command leaves -/

/-- The state that a command leaves whose meaning makes `d` of the device, where `d` is `e`. -/
theorem exec_eq_next_of_effect {c : Instr} {s : State} {d e : Dev} (meaning : exec c s = .next { s with dev := d.settle })
    (effect : d = e) : exec c s = .next { s with dev := e.settle } := by
  rw [meaning, effect]

/-- The state that a command with an opcode leaves which passes its target's checks. -/
theorem exec_eq_next_of_passed {c : Instr} {s : State} {op : Nat} {h : Hdr} {f : Dev → Dev} {e : Dev}
    (meaning : exec c s = .next { s with dev := (s.dev.command op h f).settle }) (passed : s.dev.targetCheck op h = none)
    (effect : f s.dev = e) : exec c s = .next { s with dev := e.settle } :=
  exec_eq_next_of_effect meaning (by rw [Dev.command, passed]; exact effect)

/-! ### SYS_MODE_SET (R54, R55) -/

@[simp] theorem Mode.ofCode_code (m : Mode) : Mode.ofCode m.code = some m := by cases m <;> rfl

theorem Mode.code_of_ofCode {n : Nat} {m : Mode} (h : Mode.ofCode n = some m) : m.code = n := by
  unfold Mode.ofCode at h
  split at h <;> cases h <;> rfl

theorem Mode.code_lt (m : Mode) : m.code < 16 := by cases m <;> decide

/-- The table of R54 lists its transitions whatever the device is. -/
theorem Dev.modeConds_isSome (d : Dev) (old new : Mode) : (d.modeConds old new).isSome = decide ((old, new) ∈ [(Mode.configure, Mode.ready),
    (.ready, .run), (.run, .ready), (.ready, .configure), (.ready, .inspection), (.run, .inspection), (.inspection, .ready),
    (.safeHold, .ready), (.safeHold, .configure), (.safeHold, .recovery), (.configure, .recovery), (.recovery, .configure),
    (.configure, .prodTest), (.prodTest, .configure)]) := by
  cases old <;> cases new <;> rfl

/-- The completion of SYS_MODE_SET: the mode before, the mode after, and the index of the condition that failed. -/
abbrev Dev.modeAnswer (d : Dev) (h : Hdr) (status : Nat) (old new : Mode) (index : Nat) : Dev :=
  d.doneAt h status [(16, 1, old.code), (17, 1, new.code), (18, 2, index)]

/-- A refusal only completes the command, and a completion leaves every engine alone. -/
theorem Dev.engines_modeAnswer_settle (d : Dev) (h : Hdr) (status : Nat) (old new : Mode) (index : Nat) :
    (d.modeAnswer h status old new index).settle.engines = d.engines := by
  rw [Dev.engines_settle, Dev.engines_doneAt]

/-- The transition to `m` is one that the safety reset must precede. -/
abbrev Dev.needsReset (d : Dev) (m : Mode) : Prop := d.sys.mode = .safeHold ∧ (m = .ready ∨ m = .configure)

/-- The device's STO ends, and each axis keeps the STO that is demanded otherwise. -/
def Dev.endDeviceSto (d : Dev) : Dev :=
  let d := d.modSaf (fun q => { q with deviceSto := false, resetOk := false })
  d.each d.axisList (fun d n => d.modPw n (fun p => { p with sto := d.stoDemanded (stoGroup n) }))

/-- What a transition to `m` ends before the mode changes. -/
def Dev.leaveFor (d : Dev) (m : Mode) : Dev :=
  let e := if m = .prodTest then d.testClose else d
  if d.needsReset m then e.endDeviceSto else e

section
variable {d : Dev} {h : Hdr} {new : Nat} {m : Mode} {conds : List Bool}

theorem Dev.resting_of_needsReset (needed : d.needsReset m) : d.resting = false := by
  rw [Dev.resting, needed.1]
  rfl

theorem Dev.modeConds_of_needsReset (needed : d.needsReset m) : d.modeConds d.sys.mode m = some [] := by
  obtain ⟨held, rfl | rfl⟩ := needed <;> rw [held] <;> rfl

theorem Dev.leaveFor_of_needsReset (needed : d.needsReset m) : d.leaveFor m = d.endDeviceSto := by
  have notTest : m ≠ .prodTest := by rcases needed.2 with rfl | rfl <;> decide
  rw [Dev.leaveFor, if_neg notTest, if_pos needed]

theorem Dev.leaveFor_prodTest (d : Dev) : d.leaveFor .prodTest = d.testClose := by
  rw [Dev.leaveFor, if_pos rfl, if_neg (by simp [Dev.needsReset])]

theorem Dev.leaveFor_elsewhere (notNeeded : ¬ d.needsReset m) (notTest : m ≠ .prodTest) : d.leaveFor m = d := by
  rw [Dev.leaveFor, if_neg notTest, if_neg notNeeded]

theorem Dev.modeSet_of_awake (valid : new < 16) (awake : d.resting = false) : d.modeSet h new = d.modeSetNow h new := by
  rw [Dev.modeSet, if_neg (Nat.not_le.2 valid), awake, if_neg Bool.false_ne_true]

theorem Dev.modeSet_of_resting (valid : new < 16) (rests : d.resting = true) : d.modeSet h new =
    (d.wakeUp 1).modHost (fun q => { q with
      accepted := q.accepted ++ [({ op := 0x0101, h, bytes := entryOf 0x0101 h [BitVec.ofNat 8 new], due := d.now, ord := 2 ^ 32 * q.nextOrd, held := true } : Sub)]
      nextOrd := q.nextOrd + 1 }) := by
  rw [Dev.modeSet, if_neg (Nat.not_le.2 valid), if_pos rests]

/-- A reserved code, or a transition that the table does not list. -/
theorem Dev.modeSetNow_of_unlisted (unlisted : (Mode.ofCode new).bind (fun m => d.modeConds d.sys.mode m) = none) :
    d.modeSetNow h new = d.modeAnswer h Code.wrongMode d.sys.mode d.sys.mode 0 := by
  rw [Dev.modeSetNow]
  cases code : Mode.ofCode new with
  | none => rfl
  | some m =>
    rw [code, Option.bind_some] at unlisted
    simp only [unlisted]

/-- A listed transition: the safety reset is judged first, then the conditions, then the transition is carried out. -/
theorem Dev.modeSetNow_of_listed (code : Mode.ofCode new = some m) (listed : d.modeConds d.sys.mode m = some conds) :
    d.modeSetNow h new =
      if d.needsReset m ∧ d.saf.resetOk = false then d.modeAnswer h Code.safetyBlocked d.sys.mode d.sys.mode 0
      else if firstFailed conds 1 ≠ 0 then d.modeAnswer h Code.wrongMode d.sys.mode d.sys.mode (firstFailed conds 1)
      else (((d.leaveFor m).enterMode m 0).refreshOuts).modeAnswer h Code.done d.sys.mode m 0 := by
  simp only [Dev.modeSetNow, code, listed, Bool.and_eq_true, Bool.or_eq_true, beq_iff_eq, Bool.not_eq_true']
  rfl
end

theorem exec_sysModeSet_of_passed {h : Hdr} {new : Nat} {s : State} {e : Dev} (passed : s.dev.targetCheck 0x0101 h = none)
    (effect : s.dev.modeSet h new = e) : exec (.sysModeSet h new) s = .next { s with dev := e.settle } :=
  exec_eq_next_of_passed rfl passed effect

/-- Settles O57: the table is decided pair by pair, and each refusal is a case of SYS_MODE_SET at its frame tick. Index 0 for a transition
that is not listed is the model's choice (log entry 107). -/
theorem modeSetRefusals : Obligations.ModeSetRefusals := by
  refine ⟨fun d old new => ?_, fun h new s passed awake valid unlisted => ⟨?_, Dev.engines_modeAnswer_settle ..⟩,
    fun h new m conds s passed awake code listed failed notBlocked => ⟨?_, Dev.engines_modeAnswer_settle ..⟩,
    fun h m s passed held up noReset => ⟨?_, Dev.engines_modeAnswer_settle ..⟩⟩
  · rw [Dev.modeConds_isSome, decide_eq_true_iff]
  · refine exec_sysModeSet_of_passed passed ?_
    rw [Dev.modeSet_of_awake valid awake, Dev.modeSetNow_of_unlisted unlisted]
  · have notBlocked : ¬ (s.dev.needsReset m ∧ s.dev.saf.resetOk = false) := by
      rintro ⟨⟨held, rfl | rfl⟩, noReset⟩ <;> simp [held, noReset] at notBlocked
    have valid : new < 16 := Mode.code_of_ofCode code ▸ m.code_lt
    refine exec_sysModeSet_of_passed passed ?_
    rw [Dev.modeSet_of_awake valid awake, Dev.modeSetNow_of_listed code listed, if_neg notBlocked, if_pos failed]
  · have needed : s.dev.needsReset m := ⟨held, up⟩
    refine exec_sysModeSet_of_passed passed ?_
    rw [Dev.modeSet_of_awake m.code_lt (Dev.resting_of_needsReset needed),
      Dev.modeSetNow_of_listed m.ofCode_code (Dev.modeConds_of_needsReset needed), if_pos ⟨needed, noReset⟩]

/-- Settles O3: the command is judged at its frame tick where the device is awake, and waits for the wake where it rests. Mode cause 0 on
leaving SAFE_HOLD is the model's choice (log entry 107). -/
theorem modeSetTransitions : Obligations.ModeSetTransitions := by
  refine ⟨fun h m conds s passed awake listed allowed free notTest => exec_sysModeSet_of_passed passed ?_,
    fun h m s passed held up reset => exec_sysModeSet_of_passed passed ?_,
    fun h s passed configures window off => exec_sysModeSet_of_passed passed ?_,
    fun h m conds s passed awake listed failed => exec_sysModeSet_of_passed passed ?_,
    fun h m s passed rests => exec_sysModeSet_of_passed passed (Dev.modeSet_of_resting m.code_lt rests)⟩
  · have notNeeded : ¬ s.dev.needsReset m := by
      rintro ⟨held, rfl | rfl⟩ <;> simp [held] at free
    rw [Dev.modeSet_of_awake m.code_lt awake, Dev.modeSetNow_of_listed m.ofCode_code listed, if_neg (fun blocked => notNeeded blocked.1),
      if_neg (not_not.2 allowed), Dev.leaveFor_elsewhere notNeeded notTest]
  · have needed : s.dev.needsReset m := ⟨held, up⟩
    have allowed : firstFailed [] 1 = 0 := rfl
    rw [Dev.modeSet_of_awake m.code_lt (Dev.resting_of_needsReset needed),
      Dev.modeSetNow_of_listed m.ofCode_code (Dev.modeConds_of_needsReset needed), if_neg (by simp [reset]), if_neg (not_not.2 allowed),
      Dev.leaveFor_of_needsReset needed, held]
    rfl
  · have awake : s.dev.resting = false := by rw [Dev.resting, configures]; rfl
    have listed : s.dev.modeConds s.dev.sys.mode .prodTest = some [s.dev.testOpen, s.dev.allOff] := by rw [configures]; rfl
    have allowed : firstFailed [s.dev.testOpen, s.dev.allOff] 1 = 0 := by rw [window, off]; rfl
    rw [Dev.modeSet_of_awake (Mode.code_lt .prodTest) awake, Dev.modeSetNow_of_listed (Mode.ofCode_code .prodTest) listed,
      if_neg (by simp [Dev.needsReset]), if_neg (not_not.2 allowed), Dev.leaveFor_prodTest, configures]
  · have notNeeded : ¬ s.dev.needsReset m := by
      intro needed
      obtain rfl : [] = conds := Option.some.inj ((Dev.modeConds_of_needsReset needed).symm.trans listed)
      exact failed rfl
    rw [Dev.modeSet_of_awake m.code_lt awake, Dev.modeSetNow_of_listed m.ofCode_code listed, if_neg (fun blocked => notNeeded blocked.1),
      if_pos failed]

/-! ### Supplies, dips, temperatures and alarms (R54, R78 to R83; 17 R481, R496) -/

@[simp] theorem Dev.wb_pwr (d : Dev) (a i : Nat) (b : Bool) : (d.wb a i b).pwr = d.pwr := rfl

@[simp] theorem Dev.advanceTo_pwr (d : Dev) (c : Nat) : (d.advanceTo c).pwr = d.pwr := rfl

@[simp] theorem Dev.inReset_modPwr (d : Dev) (f : PowerSt → PowerSt) : (d.modPwr f).inReset = d.inReset := rfl

theorem Dev.mode_ne_bypass_of_running {d : Dev} (running : d.inReset = false) : d.sys.mode ≠ .bypass := by
  intro bypass
  simp [Dev.inReset, bypass] at running

/-- Settles O5: in each clause the state picks one branch of what its event does. The model's choices are: BYPASS with the backup domain lost
where VSYS falls without a cell (log entry 108), mode cause 4 of a supply (107), crossings of the warning level that alternate (109), and
the ends of dips and the arming of TJ_HIGH (113). -/
theorem suppliesAndDips : Obligations.SuppliesAndDips := by
  refine ⟨?_, ?_, ?_, ?_, ?_, ?_, ?_, ?_, ?_, ?_, ?_, ?_, ?_, ?_, ?_, fun s => rfl, ?_, ?_, ?_, ?_, ?_, ?_⟩
  · intro s absent
    exact exec_eq_next_of_effect rfl (if_pos absent)
  · intro s vsys
    exact exec_eq_next_of_effect rfl (by simp [vsys])
  · intro s vsys
    exact exec_eq_next_of_effect rfl (by simp [vsys])
  · intro s vsys good
    exact exec_eq_next_of_effect rfl (by simp [Dev.vbatLow, vsys, good])
  · intro s
    exact exec_eq_next_of_effect rfl (if_pos rfl)
  · intro s vsys warned
    exact exec_eq_next_of_effect rfl (by rw [Dev.vsysWarn, vsys, if_neg Bool.false_ne_true, if_pos warned])
  · intro s vsys fresh
    exact exec_eq_next_of_effect rfl (by rw [Dev.vsysWarn, vsys, if_neg Bool.false_ne_true, fresh, if_neg Bool.false_ne_true])
  · intro t s dip on fresh
    exact exec_eq_next_of_effect rfl (by simp [Dev.dipStopNow, dip, on, fresh])
  · intro rise t s dip within
    exact exec_eq_next_of_effect rfl (by simp [Dev.dipEnd, dip, Nat.not_lt.2 within])
  · intro s vsys running cell good
    exact exec_eq_next_of_effect rfl (by simp [Dev.vsysLow, vsys, running, cell, good, Dev.mode_ne_bypass_of_running running])
  · intro s vsys running noCell
    exact exec_eq_next_of_effect rfl (by simp [Dev.vsysLow, vsys, running, noCell])
  · intro s absent
    exact exec_eq_next_of_effect rfl (by simp [Dev.vsysRelease, absent])
  · intro s absent
    exact exec_eq_next_of_effect rfl (by simp [Dev.vsysRelease, absent])
  · intro s vsys fresh
    exact exec_eq_next_of_effect rfl (by simp [Dev.flag, vsys, fresh])
  · intro s vsys vcore running
    exact exec_eq_next_of_effect rfl (by simp [vsys, vcore, running])
  · intro logic drum s on coolLogic coolDrum
    have notHot : ¬ 125 ≤ max logic drum := by omega
    exact exec_eq_next_of_effect rfl (by
      simp only [Dev.tjSample, on, notHot, coolLogic, coolDrum, decide_false, Bool.false_and, Bool.false_eq_true, if_false, and_self,
        if_true])
  · intro logic drum s on below warm
    have notHot : ¬ 125 ≤ max logic drum := by omega
    have notCool : ¬ (logic < 120 ∧ drum < 120) := by omega
    refine exec_eq_next_of_effect rfl ?_
    simp only [Dev.tjSample, on, notHot, notCool, decide_false, Bool.false_and, Bool.false_eq_true, if_false]
    rfl
  · intro logic drum s on told hot
    exact exec_eq_next_of_effect rfl (by
      simp only [Dev.tjSample, on, told, hot, decide_true, Bool.not_true, Bool.and_false, Bool.false_eq_true, if_false, if_true])
  · intro logic drum s on armed hot
    exact exec_eq_next_of_effect rfl (by
      simp only [Dev.tjSample, on, armed, hot, decide_true, Bool.not_false, Bool.and_true, Bool.false_eq_true, if_false, if_true])
  · intro i s valid enabled vsys
    exact exec_eq_next_of_effect rfl (by simp [Dev.alarm, valid, enabled, vsys])
  · intro i s valid enabled cell absent
    exact exec_eq_next_of_effect rfl (by simp [Dev.alarm, valid, enabled, cell, absent])

/-! ### Rest and wake (R69 to R77) -/

section
variable {d : Dev} {cause : Nat}

/-- While the root's answer to an entry is awaited, a wake gives the entry up. -/
theorem Dev.wakeUp_of_asked (ready : d.sys.mode = .ready) (asked : d.wake.asked = true) (named : cause ≤ 5) :
    d.wakeUp cause = d.entryAbort cause := by
  rw [Dev.wakeUp, if_pos ⟨ready, asked⟩, if_pos named]

theorem Dev.mode_ne_ready_of_wakesFrom (wakes : wakesFrom d.sys.mode cause = true) : d.sys.mode ≠ .ready := by
  intro ready
  simp [wakesFrom, ready] at wakes

/-- A cause that wakes the device, with no wake under way, starts one. -/
theorem Dev.wakeUp_of_no_wake (wakes : wakesFrom d.sys.mode cause = true) (noWake : d.wake.run = none) : d.wakeUp cause =
    (let parks := d.entryParks
     let e := (d.modWake (fun w =>
       { w with deepen := false, run := some { cause, start := d.time.cnt, budget := w.entryBudget } })).setFld A.SYS_WAKE_LAST 27 24 cause
     let e := e.restStoRefresh.each parks Dev.parkAbort
     if parks.isEmpty then e else e.wakeDone) := by
  have noEntry : ¬ (d.sys.mode = .ready ∧ d.wake.asked = true) := fun entry => Dev.mode_ne_ready_of_wakesFrom wakes entry.1
  simp only [Dev.wakeUp, noEntry, wakes, noWake, Bool.not_true, Bool.false_eq_true, if_false]

/-- A change at a safety input takes over a wake from VIGIL that is under way. -/
theorem Dev.wakeUp_safety_of_wake {r : WakeRun} (vigil : d.sys.mode = .vigil) (wake : d.wake.run = some r) (under : r.awaiting = none) :
    d.wakeUp 5 = (d.modWake (fun w => { w with run := some { r with cause := 5 } })).setFld A.SYS_WAKE_LAST 27 24 5 := by
  have wakes : wakesFrom d.sys.mode 5 = true := by rw [vigil]; rfl
  have noEntry : ¬ (d.sys.mode = .ready ∧ d.wake.asked = true) := fun entry => Dev.mode_ne_ready_of_wakesFrom wakes entry.1
  simp only [Dev.wakeUp, noEntry, wakes, wake, under, Bool.not_true, Bool.false_eq_true, if_false, Option.isNone_none, and_self, if_true]
end

/-- The choice of rest states looks at the axes, the claims and the temperatures, and not at the rest under way. -/
@[simp] theorem Dev.restFit_modWake (d : Dev) (f : WakeSt → WakeSt) (vigil : Bool) : (d.modWake f).restFit vigil = d.restFit vigil := rfl

section
variable {d : Dev} {l : List (Nat × Nat)} (noWake : d.wake.run = none)
include noWake

theorem Dev.restRechoice_of_rest (rest : d.sys.mode = .rest) (fit : d.restFit false = some l) : d.restRechoice =
    (if d.wake.deepen && (d.restFit true).isNone then d.modWake (fun w => { w with deepen := false }) else d).shallower l := by
  have fitNow : (if d.wake.deepen && (d.restFit true).isNone then d.modWake (fun w => { w with deepen := false }) else d).restFit false =
      some l := by
    rw [apply_ite (Dev.restFit · false), Dev.restFit_modWake, ite_self, fit]
  have rests : d.resting = true := by rw [Dev.resting, rest]; rfl
  have notVigil : d.sys.mode ≠ .vigil := by simp [rest]
  simp only [Dev.restRechoice, noWake, rests, notVigil, fitNow, Option.isSome_none, Bool.not_true, Bool.or_self, Bool.false_eq_true, if_false]

theorem Dev.restRechoice_of_vigil (vigil : d.sys.mode = .vigil) : d.restRechoice =
    if (d.restFit true).isSome then d
    else ((d.restFit false).elim (d.wakeUp 4) fun l => ((d.vigilToRest l).setFld A.SYS_WAKE_LAST 27 24 4).raise Ev.restEntered) := by
  have rests : d.resting = true := by rw [Dev.resting, vigil]; rfl
  simp only [Dev.restRechoice, noWake, rests, vigil, Option.isSome_none, Bool.not_true, Bool.or_self, Bool.false_eq_true, if_false, if_true]
  cases d.restFit true with
  | some l => rfl
  | none => cases d.restFit false <;> rfl

theorem Dev.restRechoice_of_no_fit (rests : d.resting = true) (settled : d.wake.deepen = false) (noVigil : d.restFit true = none)
    (noRest : d.restFit false = none) : d.restRechoice = d.wakeUp 4 := by
  simp [Dev.restRechoice, noWake, rests, settled, noVigil, noRest]
end

/-- Settles O6: the choice and the wake are cases of `Dev.restRechoice` and `Dev.wakeUp`, and in the other clauses the state picks one
branch of what the event or the command does. That the parks of an entry that is given up are undone at once, and the details of the
choice while resting, are the model's choices (log entries 150 and 114). -/
theorem restAndWake : Obligations.RestAndWake := by
  refine ⟨?_, ?_, ?_, ?_, ?_, ?_, ?_, ?_, ?_, ?_, ?_, ?_, ?_, ?_, ?_, ?_, ?_, ?_⟩
  · intro s noCommand ok idle
    exact exec_eq_next_of_effect rfl (by simp [Dev.restEntry, noCommand, ok, idle])
  · intro h deepest s waits ok
    exact exec_eq_next_of_effect rfl (by simp [Dev.restEntry, waits, ok])
  · intro cause s wakes noWake
    exact exec_eq_next_of_effect rfl (Dev.wakeUp_of_no_wake wakes noWake)
  · intro cause s ready asked named
    exact exec_eq_next_of_effect rfl (Dev.wakeUp_of_asked ready asked named)
  · intro r s vigil wake under
    exact exec_eq_next_of_effect rfl (Dev.wakeUp_safety_of_wake vigil wake under)
  · intro s vigil noWake
    exact exec_eq_next_of_effect rfl (Dev.wakeUp_of_no_wake (by rw [vigil]; rfl) noWake)
  · intro s ready asked
    exact exec_eq_next_of_effect rfl (Dev.wakeUp_of_asked ready asked (by decide))
  · intro r s wake under rests
    exact exec_eq_next_of_effect rfl (by simp [Dev.wakeDone, wake, under, rests])
  · intro l s noWake rest fit
    exact exec_eq_next_of_effect rfl (Dev.restRechoice_of_rest noWake rest fit)
  · intro l s noWake vigil fit
    exact exec_eq_next_of_effect rfl (by rw [Dev.restRechoice_of_vigil noWake vigil, fit]; rfl)
  · intro l s noWake vigil noFit fit
    exact exec_eq_next_of_effect rfl (by rw [Dev.restRechoice_of_vigil noWake vigil, noFit, fit]; rfl)
  · intro s noWake rests settled noVigil noRest
    exact exec_eq_next_of_effect rfl (Dev.restRechoice_of_no_fit noWake rests settled noVigil noRest)
  · intro h budget axes claim s passed budgetFits claimFits axesFit
    exact exec_eq_next_of_passed rfl passed (if_neg (by omega))
  · intro h deepest s passed deep ok
    exact exec_eq_next_of_passed rfl passed (by rw [Dev.pwrRest, if_neg (by omega), ok]; rfl)
  · intro h pattern r s passed valid wake waits
    exact exec_eq_next_of_passed rfl passed (by simp only [Dev.pwrWake, Nat.not_lt.2 valid, wake, waits, if_false, if_true])
  · intro h pattern r s passed valid wake atOnce
    exact exec_eq_next_of_passed rfl passed (by
      simp only [Dev.pwrWake, Nat.not_lt.2 valid, wake, atOnce, Bool.false_eq_true, if_false])
  · intro h pattern s passed valid noWake
    exact exec_eq_next_of_passed rfl passed (by simp only [Dev.pwrWake, Nat.not_lt.2 valid, noWake, if_false])
  · intro h s passed
    exact exec_eq_next_of_passed rfl passed rfl

end Sys2Proof.Machine
end

section
/-!
PROOFS. The statement of 03_belfry.md: field inputs and outputs, VFIELD and the field commands (R431 to R439), and Belfry's samples (R93, R96,
R97).
-/

namespace Sys2Proof.Machine

/-! ### Field inputs (R431, R434) -/

/-- Setting a bit of one register changes no bit of another. -/
theorem Dev.rb_wb_of_ne {d : Dev} {a b : Nat} (i j : Nat) (v : Bool) (canonical : SMap.wf regReset d.regs = true) (other : b ≠ a) :
    (d.wb a i v).rb b j = d.rb b j := by
  rw [Dev.rb, Dev.wb, Dev.rd_wr _ _ _ _ canonical, if_neg other, Dev.rb]

section
variable {d : Dev} {c held : Nat} {raw : Bool}

/-- The raw level lies in a register of its own, so that the filtered level it is compared with is the one before the edge. -/
theorem Dev.rb_fieldLevel_wb_fieldRaw (canonical : SMap.wf regReset d.regs = true) :
    (d.wb A.FIELD_RAW c raw).rb A.FIELD_LEVEL c = d.rb A.FIELD_LEVEL c :=
  Dev.rb_wb_of_ne c c raw canonical (by decide)

/-- A level that is held too briefly, or that the filter shows already, moves the raw level alone. -/
theorem Dev.fieldLevel_of_kept (canonical : SMap.wf regReset d.regs = true) (kept : held < d.fld (A.FIELD_CH_CFG c) 19 8 ∨
    (raw != d.rb (A.FIELD_CH_CFG c) 2) = d.rb A.FIELD_LEVEL c) : d.fieldLevel c raw held = d.wb A.FIELD_RAW c raw := by
  rw [← Dev.rb_fieldLevel_wb_fieldRaw (raw := raw) canonical] at kept
  exact if_pos kept

/-- A new level held for the filter time moves the filtered level too, with the event of an edge that is enabled. -/
theorem Dev.fieldLevel_of_filtered (canonical : SMap.wf regReset d.regs = true) (long : d.fld (A.FIELD_CH_CFG c) 19 8 ≤ held)
    (new : (raw != d.rb (A.FIELD_CH_CFG c) 2) ≠ d.rb A.FIELD_LEVEL c) : d.fieldLevel c raw held =
      (let lv := raw != bit 2 (d.rd (A.FIELD_CH_CFG c))
       let e := (d.wb A.FIELD_RAW c raw).wb A.FIELD_LEVEL c lv
       if (if lv then bit 6 (d.rd (A.FIELD_CH_CFG c)) else bit 7 (d.rd (A.FIELD_CH_CFG c))) then e.raise (Ev.fioEdge c) else e) := by
  rw [← Dev.rb_fieldLevel_wb_fieldRaw (raw := raw) canonical] at new
  exact if_neg (not_or.2 ⟨Nat.not_lt.2 long, new⟩)
end

/-! ### The conditions of a channel (R434, R435) -/

section
variable {d : Dev} {c : Nat}

/-- An input that detects wire breaks takes the condition while VFIELD is not low. -/
theorem Dev.fieldCondSet_wire {on : Bool} (input : d.isOutput c = false) (detects : d.rb (A.FIELD_CH_CFG c) 3 = true)
    (notLow : d.rb A.FIELD_STATUS 2 = false) :
    d.fieldCondSet c .wire on = (d.setFch c { d.fch c with wire := on }).dioRefresh := by
  have takes : (!d.isOutput c && bit 3 (d.rd (A.FIELD_CH_CFG c)) && !d.rb A.FIELD_STATUS 2) = true := by
    rw [Dev.rb] at detects
    simp [input, detects, notLow]
  simp only [Dev.fieldCondSet, takes, if_true]

/-- Overload appears at an output that is driven, and ends whether it is driven or not. -/
theorem Dev.fieldCondSet_overload {on : Bool} (output : d.isOutput c = true) (driven : on = true → d.rb A.FIELD_OUT_EFF c = true) :
    d.fieldCondSet c .overload on = (d.setFch c { d.fch c with overload := on }).dioRefresh := by
  have takes : (d.isOutput c && (!on || d.rb A.FIELD_OUT_EFF c)) = true := by
    cases on with
    | false => simp [output]
    | true => simp [output, driven rfl]
  simp only [Dev.fieldCondSet, takes, if_true]

theorem Dev.fieldCondSet_thermal {on : Bool} (output : d.isOutput c = true) :
    d.fieldCondSet c .thermal on = (d.setFch c { d.fch c with thermal := on }).dioRefresh := by
  simp only [Dev.fieldCondSet, output, if_true]

/-- A readback that disagrees is a condition from 100 µs after the last change of the output on. -/
theorem Dev.fieldCondSet_readback (output : d.isOutput c = true) : d.fieldCondSet c .readback true =
    ((d.advanceTo ((d.fch c).effAt + usCnt 100)).setFch c { d.fch c with readback := true }).dioRefresh := by
  simp only [Dev.fieldCondSet, output, Bool.not_true, Bool.false_eq_true, if_false, if_true]

theorem Dev.fieldCondSet_readback_end (output : d.isOutput c = true) :
    d.fieldCondSet c .readback false = (d.setFch c { d.fch c with readback := false }).dioRefresh := by
  simp only [Dev.fieldCondSet, output, Bool.not_true, Bool.false_eq_true, if_false]
end

/-! ### VFIELD (R437) -/

/-- The flags of VFIELD differ from the given ones. -/
abbrev Dev.vfieldDiffers (d : Dev) (low uv ov : Bool) : Bool :=
  d.rb A.FIELD_STATUS 2 != low || d.rb A.FIELD_STATUS 3 != uv || d.rb A.FIELD_STATUS 4 != ov

/-- Undervoltage begins and takes away what Keep or Turret permits. -/
abbrev Dev.vfieldTakes (d : Dev) (uv : Bool) : Bool :=
  uv && !d.rb A.FIELD_STATUS 3 && (d.stoMask != 15 || d.outMask != 0)

/-- The measurement, the flags with the change flag and its event, and the outputs as the suppressions leave them. -/
def Dev.vfieldFlagged (d : Dev) (mv : Nat) (low uv ov : Bool) : Dev :=
  let d := d.setFld A.FIELD_VFIELD 15 0 (sat 0xFFFF mv)
  let d := ((d.wb A.FIELD_STATUS 2 low).wb A.FIELD_STATUS 3 uv).wb A.FIELD_STATUS 4 ov
  let d := if low then d.each (List.range 32) (fun d c => d.setFch c { d.fch c with wire := false }) else d
  ((d.wb A.FIELD_STATUS 5 true).raise Ev.vfieldChange).fieldRefresh

section
variable {d : Dev} {mv held : Nat} {low uv ov : Bool}
  (hlow : low = hyst (d.rb A.FIELD_STATUS 2) (decide (mv < 18000) && decide (100 ≤ held)) (decide (18500 < mv) && decide (100 ≤ held)))
  (huv : uv = hyst (d.rb A.FIELD_STATUS 3) (decide (mv < 14000) && decide (10 ≤ held)) (decide (18500 < mv) && decide (10000 ≤ held)))
  (hov : ov = hyst (d.rb A.FIELD_STATUS 4) (decide (33000 < mv) && decide (10 ≤ held)) (decide (mv < 31000) && decide (10 ≤ held)))
include hlow huv hov

/-- Where no flag changes only the measurement does; otherwise the device reacts where drive is lost and its safety runs. -/
theorem Dev.vfield_eq : d.vfield mv held =
    if !d.vfieldDiffers low uv ov then d.setFld A.FIELD_VFIELD 15 0 (sat 0xFFFF mv)
    else if d.vfieldTakes uv && (d.vfieldFlagged mv low uv ov).safetyRuns then
      (d.vfieldFlagged mv low uv ov).deviceReaction 0x0E true true
    else (d.vfieldFlagged mv low uv ov).refreshOuts := by
  subst hlow huv hov
  rfl

theorem Dev.vfield_of_same (same : d.vfieldDiffers low uv ov = false) :
    d.vfield mv held = d.setFld A.FIELD_VFIELD 15 0 (sat 0xFFFF mv) := by
  rw [Dev.vfield_eq hlow huv hov, same, if_pos Bool.not_false]

theorem Dev.vfield_of_drive_kept (changed : d.vfieldDiffers low uv ov = true) (kept : d.vfieldTakes uv = false) :
    d.vfield mv held = (d.vfieldFlagged mv low uv ov).refreshOuts := by
  rw [Dev.vfield_eq hlow huv hov, changed, Bool.not_true, if_neg Bool.false_ne_true, kept, Bool.false_and, if_neg Bool.false_ne_true]

theorem Dev.vfield_of_drive_lost (changed : d.vfieldDiffers low uv ov = true) (lost : d.vfieldTakes uv = true) : d.vfield mv held =
    if (d.vfieldFlagged mv low uv ov).safetyRuns then (d.vfieldFlagged mv low uv ov).deviceReaction 0x0E true true
    else (d.vfieldFlagged mv low uv ov).refreshOuts := by
  rw [Dev.vfield_eq hlow huv hov, changed, Bool.not_true, if_neg Bool.false_ne_true, lost, Bool.true_and]
end

/-! ### The field commands and Belfry's samples (R439; R93, R96, R97) -/

section
variable {d : Dev} {h : Hdr} {mask v : Nat}

/-- FIELD_OUT and FIELD_OUT_EFF, as FIO_WRITE reports them. -/
abbrev Dev.fioResult (d : Dev) : List (Nat × Nat × Nat) := [(16, 4, (d.rd A.FIELD_OUT).toNat), (20, 4, (d.rd A.FIELD_OUT_EFF).toNat)]

theorem Dev.fioWrite_of_outputs (noAxis : h.mask = 0) (outputs : (maskList 32 mask).any (fun c => !d.isOutput c) = false) :
    d.fioWrite h mask v = (d.fieldOut mask v).doneAt h Code.done (d.fieldOut mask v).fioResult := by
  simp only [Dev.fioWrite, noAxis, outputs, ne_eq, not_true_eq_false, Bool.false_eq_true, if_false]

theorem Dev.fioWrite_of_not_output (noAxis : h.mask = 0) (notOutput : (maskList 32 mask).any (fun c => !d.isOutput c) = true) :
    d.fioWrite h mask v = d.doneAt h Code.wrongMode d.fioResult := by
  simp only [Dev.fioWrite, noAxis, notOutput, ne_eq, not_true_eq_false, if_false, if_true]
end

/-- A sample is taken where sampling is on and neither stopped nor without VSYS. -/
theorem Dev.belSample_of_on {d : Dev} (a0 a1 : Nat) (on : d.rb A.BELFRY_CFG 0 = true) (runs : d.bel.stopped = false)
    (vsys : d.pwr.vsysAbsent = false) : d.belSample a0 a1 =
      (let d := d.each (List.range 18) (Dev.slotSample · a0 a1 ·)
       let x := (List.range 32).foldl Dev.ruleStep ([], d)
       (x.2.modWake (fun w => { w with rules := w.rules.filter (fun r => x.2.rb A.BELFRY_RULE_STATE r) })).ruleWake x.1) := by
  have taken : (!d.rb A.BELFRY_CFG 0 || d.bel.stopped || d.pwr.vsysAbsent) = false := by rw [on, runs, vsys]; rfl
  rw [Dev.belSample, taken, if_neg Bool.false_ne_true]

/-- Settles O33: each clause is the case of its event or command that the state picks. That the events apply the filters and that the loss of
VFIELD is recorded as reaction 0x0E (log entry 118), and what the first sample of a slot is compared with (149), are the model's choices. -/
theorem fieldChannels : Obligations.FieldChannels := by
  refine ⟨?_, ?_, ?_, ?_, ?_, ?_, ?_, ?_, ?_, ?_, ?_, ?_, ?_, ?_⟩
  · intro c held raw s channel kept canonical
    exact exec_eq_next_of_effect rfl ((if_pos channel).trans (Dev.fieldLevel_of_kept canonical kept))
  · intro c held raw s channel long new canonical
    exact exec_eq_next_of_effect rfl ((if_pos channel).trans (Dev.fieldLevel_of_filtered canonical long new))
  · intro c ms low s long input detects notLow
    exact exec_eq_next_of_effect rfl ((if_neg (Nat.not_lt.2 long)).trans (Dev.fieldCondSet_wire input detects notLow))
  · intro c ms low s short
    exact exec_eq_next_of_effect rfl (if_pos short)
  · intro c s output driven
    exact exec_eq_next_of_effect rfl (Dev.fieldCondSet_overload output (fun _ => driven))
  · intro c s output
    exact ⟨exec_eq_next_of_effect rfl (Dev.fieldCondSet_readback output),
      exec_eq_next_of_effect rfl (Dev.fieldCondSet_overload output (fun on => absurd on Bool.false_ne_true)),
      exec_eq_next_of_effect rfl (Dev.fieldCondSet_readback_end output)⟩
  · intro c s output
    exact ⟨exec_eq_next_of_effect rfl (Dev.fieldCondSet_thermal output),
      exec_eq_next_of_effect rfl (Dev.fieldCondSet_thermal output)⟩
  · intro mv held low uv ov s hlow huv hov same
    exact exec_eq_next_of_effect rfl (Dev.vfield_of_same hlow huv hov same)
  · intro mv held low uv ov s hlow huv hov changed kept
    exact exec_eq_next_of_effect rfl (Dev.vfield_of_drive_kept hlow huv hov changed kept)
  · intro mv held low uv ov s hlow huv hov changed lost
    exact exec_eq_next_of_effect rfl (Dev.vfield_of_drive_lost hlow huv hov changed lost)
  · intro h mask v s passed noAxis outputs
    exact exec_eq_next_of_passed rfl passed (Dev.fioWrite_of_outputs noAxis outputs)
  · intro h mask v s passed noAxis notOutput
    exact exec_eq_next_of_passed rfl passed (Dev.fioWrite_of_not_output noAxis notOutput)
  · intro h s passed noAxis
    exact exec_eq_next_of_passed rfl passed (if_neg (not_not.2 noAxis))
  · intro a0 a1 s on runs vsys
    exact exec_eq_next_of_effect rfl (Dev.belSample_of_on a0 a1 on runs vsys)

end Sys2Proof.Machine
end

section
/-!
PROOFS. The statements of 04_cupola_control.md: the schedule (R123), admission, the loss of a cluster and bank swaps (R126 to R131, R136),
and the commands of the axis states (R132, R140).
-/

namespace Sys2Proof.Machine

/-! ### The schedule (R123) -/

/-- The period of a rate divides the schedule cycle, so that a tick and its place in the cycle have the same phase. -/
theorem Mdl.mod_cycle_mod_period {m : Mdl} (t : Nat) (rate : m.rate ≤ 3) : t % 8 % 2 ^ m.rate = t % 2 ^ m.rate :=
  Nat.mod_mod_of_dvd t (Nat.pow_dvd_pow 2 rate)

theorem Mdl.dueIn_mod_cycle {m : Mdl} (t : Nat) (rate : m.rate ≤ 3) : m.dueIn (t % 8) = m.dueIn t := by
  rw [Mdl.dueIn, Mdl.mod_cycle_mod_period t rate, Mdl.dueIn]

theorem loadIn_eq_sum (ms : List Mdl) (t : Nat) : loadIn ms t = ((ms.filter (·.dueIn t)).map (·.cost)).sum := by
  rw [loadIn, List.sum_eq_foldl, List.foldl_map]

theorem loadIn_mod_cycle {ms : List Mdl} (t : Nat) (rates : ∀ m ∈ ms, m.rate ≤ 3) : loadIn ms (t % 8) = loadIn ms t := by
  have due : ms.filter (·.dueIn (t % 8)) = ms.filter (·.dueIn t) :=
    List.filter_congr fun m hm => Mdl.dueIn_mod_cycle t (rates m hm)
  rw [loadIn, due, loadIn]

theorem getD_loads {t : Nat} (ms : List Mdl) (place : t < 8) : (loads ms).getD t 0 = loadIn ms t := by
  simp [loads, place]

/-- Settles O51: every period divides the cycle of 8 ticks, and the sum held for a place of the cycle is the load of every tick at it. -/
theorem scheduleRepeatsAfterEightTicks : Obligations.ScheduleRepeatsAfterEightTicks := by
  refine ⟨fun m t rate => ⟨beq_iff_eq, Mdl.dueIn_mod_cycle t rate⟩, fun ms t rates => ?_⟩
  rw [getD_loads ms (Nat.mod_lt t (by decide)), loadIn_mod_cycle t rates, loadIn_eq_sum]
  rfl

/-! ### AX_ADMIT and AX_RELEASE (R126, R127) -/

section
variable {d : Dev} {h : Hdr} {bank slot : Nat}

/-- The models that an AX_ADMIT names, their phases chosen in order. -/
abbrev Dev.admitNew (d : Dev) (h : Hdr) (bank slot : Nat) : List Mdl := phased d.mdls ((d.admBanks h.mask bank slot).map d.mdlFrom)

/-- The banks that an AX_ADMIT names are recorded as valid. -/
abbrev Dev.admitChecked (d : Dev) (h : Hdr) (bank slot : Nat) : Dev :=
  d.each ((d.admBanks h.mask bank slot).map (·.1)) (fun d n => d.bankChecked n 0)

theorem Dev.admissionOrder_of_search (x : Option (Nat × Nat)) (searching : d.cup.search.isSome = true) :
    d.admissionOrder h x = d.modCup (fun c => { c with waiting := c.waiting ++ [(h, x)] }) := if_pos searching

theorem Dev.admissionOrder_admit (free : d.cup.search = none) : d.admissionOrder h (some (bank, slot)) = d.admitJudge h bank slot := by
  rw [Dev.admissionOrder, free]; rfl

theorem Dev.admissionOrder_release (free : d.cup.search = none) : d.admissionOrder h none = d.releaseJudge h := by
  rw [Dev.admissionOrder, free]; rfl

/-- An AX_ADMIT whose conditions and banks pass begins the search where the standby is released, and otherwise is judged by its loads. -/
theorem Dev.admitJudge_of_valid (conditions : d.admitState h slot = none)
    (valid : (d.admBanks h.mask bank slot).find? (fun x => d.bankReason x.2.1 != 0) = none) : d.admitJudge h bank slot =
      if (d.admitChecked h bank slot).released then
        ((d.admitChecked h bank slot).modCup (fun c => { c with
          search := some { cmd := h, bank, models := d.admitNew h bank slot, start := (d.admitChecked h bank slot).time.cnt } })).doneAt h
            Code.accepted
      else (d.admitChecked h bank slot).admitModels h bank (d.admitNew h bank slot) := by
  simp only [Dev.admitJudge, conditions, valid]

/-- Models whose loads keep the limit take effect. -/
theorem Dev.admitModels_of_fits {new : List Mdl} (fits : (peakOf (d.place (d.mdls ++ new))).1 ≤ d.admLimit) : d.admitModels h bank new =
    (let all := d.place (d.mdls ++ new)
     let e := new.foldl (fun d m =>
       let d := d.each m.axes (fun d n => d.modAx n (fun c => { c with active := bank }))
       ((d.retLeave m.axes).setState m.lead .parked 1).each m.axes Dev.retWrite) (all.foldl Dev.setMdl d)
     (e.publishLoads true).doneAt h Code.done (admitResult new all)) := by
  simp only [Dev.admitModels, Nat.not_lt.2 fits, if_false]

theorem Dev.releaseJudge_of_checked (checked : d.releaseCheck h = none) : d.releaseJudge h =
    (let e := d.each (d.leads.filter (fun n => nbit n h.mask)) (fun d n => d.withdraw n 0)
     (e.publishLoads true).doneAt h Code.done [(16, 4, (peakOf e.mdls).1)]) := by
  rw [Dev.releaseJudge, checked]
end

/-! ### The loss of a cluster (R128 to R131) -/

/-- A cluster's failure is recorded and told. -/
def Dev.failureTold (d : Dev) (c code : Nat) : Dev :=
  let d := d.modCup (fun q => { q with
    ok0 := q.ok0 && c != 0, ok1 := q.ok1 && c == 0, failCode := code, failovers := sat 15 (q.failovers + 1) })
  (d.wr64 A.CUPOLA_FAIL_TICK_LO d.sys.tick).raise Ev.cupClusterFailed c

/-- The executions of a failed cluster that had not committed are kept back. -/
abbrev Dev.undoneBack (d : Dev) (c : Nat) (undone : List Nat) : Dev :=
  d.each (d.leads.filter (fun n => undone.contains n && (d.ax n).cluster == c)) Dev.undo

/-- The admitted axes move from a failed cluster to the other: the models on the shed plan follow where the standby was released. -/
def Dev.failOver (d : Dev) (c : Nat) : Dev :=
  let d := if d.released then
      d.modCup (fun q => { q with shedNext := (d.rd (A.CUPOLA_SHED_PLAN c)).toNat, failoverDue := true })
    else d.modCup (fun q => { q with primary := 1 - c, failoverDue := true })
  (d.each d.axisList (fun d n => if (d.ax n).admitted then d.modAx n (fun x => { x with cluster := 1 - c }) else d)).publishLoads false

/-- The first failure of a cluster: what it carried, if anything, goes to the other cluster or to FAULT. -/
theorem Dev.clusterFailure_of_healthy {d : Dev} {c code : Nat} {undone : List Nat}
    (healthy : (if c = 0 then d.cup.ok0 else d.cup.ok1) = true) : d.clusterFailure c code undone =
    if d.released || d.cup.primary == c then
      if (if c = 0 then d.cup.ok1 else d.cup.ok0) then ((d.failureTold c code).undoneBack c undone).failOver c
      else
        let e := (d.failureTold c code).undoneBack c undone
        (e.modCup (fun q => { q with failoverDue := false })).each e.leads (fun d n => d.faultAxis n 8)
    else d.failureTold c code := by
  rw [Dev.clusterFailure]
  simp only [healthy, Bool.not_true, Bool.false_eq_true, if_false]
  cases d.released || d.cup.primary == c with
  | false => rfl
  | true => cases (if c = 0 then d.cup.ok1 else d.cup.ok0) <;> rfl

theorem exec_clusterFailure_of_codes {c code : Nat} {undone : List Nat} {s : State} {e : Dev} (cluster : c < 2) (known : code < 256)
    (effect : s.dev.clusterFailure c code undone = e) : exec (.clusterFailure c code undone) s = .next { s with dev := e.settle } :=
  exec_eq_next_of_effect (d := s.dev.clusterFailure (c % 2) (code % 256) undone) rfl
    (by rw [Nat.mod_eq_of_lt cluster, Nat.mod_eq_of_lt known, effect])

/-! ### AX_BANK_SWAP (R136) -/

section
variable {d : Dev} {h : Hdr} {keep : Bool} {n : Nat}

/-- The swap that was pending on the axes of a mask is taken up. -/
abbrev Dev.swapTaken (d : Dev) (h : Hdr) : Dev := d.each (maskList 32 h.mask) (fun d n => d.modAx n (fun c => { c with swapPending := false }))

theorem Dev.bankSwap_of_split (split : (d.swapTaken h).splits h.mask = true) :
    d.bankSwap h keep = (d.swapTaken h).doneAt h Code.groupSplit := if_pos split

section
variable (whole : (d.swapTaken h).splits h.mask = false)
  (single : (maskList 32 h.mask).filter (fun n => (d.swapTaken h).lead n == n) = [n])
include whole single

theorem Dev.bankSwap_of_pass (pass : ((d.swapTaken h).swapJudge n keep).1 = Code.done) : d.bankSwap h keep =
    (let e := (d.swapTaken h).swapOne n keep ((d.swapTaken h).swapJudge n keep).2.2
     e.doneAt h Code.done (e.swapResult (lowest h.mask) 0)) := by
  have axes : (maskList 32 h.mask).isEmpty = false := by
    cases mask : maskList 32 h.mask with
    | nil => simp [mask] at single
    | cons => rfl
  simp only [Dev.bankSwap, whole, single, axes, List.foldl_cons, List.foldl_nil, pass, Bool.false_eq_true, if_false, if_true]

theorem Dev.bankSwap_of_fail (fail : ((d.swapTaken h).swapJudge n keep).1 ≠ Code.done) : d.bankSwap h keep =
    (let j := (d.swapTaken h).swapJudge n keep
     let e := (d.swapTaken h).bankChecked n j.2.1
     let e := e.each (e.members n) (fun d m => d.raiseAx m 4)
     e.doneAt h j.1 (e.swapResult n j.2.1)) := by
  simp only [Dev.bankSwap, whole, single, List.foldl_cons, List.foldl_nil, fail, Bool.false_eq_true, if_false]
end
end

/-- Settles O8: each clause is the case of its command or event that the state picks. R129 and R131 stand behind the clauses of a cluster's
failure besides R130, whose shed models follow at the next tick. The search that follows ACCEPTED where the standby is released, a status
`refused` that stays, and cause 0x0 of a release are the model's choices (log entries 78 and 152). -/
theorem admissionAndClusters : Obligations.AdmissionAndClusters := by
  refine ⟨?_, ?_, ?_, ?_, ?_, ?_, ?_, ?_, ?_, ?_, ?_⟩
  · intro h bank slot s passed free conditions valid released
    exact exec_eq_next_of_passed rfl passed (by
      rw [Dev.admissionOrder_admit free, Dev.admitJudge_of_valid conditions valid, if_pos released])
  · intro h bank slot s passed free conditions valid kept fits
    exact exec_eq_next_of_passed rfl passed (by
      rw [Dev.admissionOrder_admit free, Dev.admitJudge_of_valid conditions valid, kept, if_neg Bool.false_ne_true,
        Dev.admitModels_of_fits fits])
  · intro h h2 bank slot s passed passed2 searching
    exact ⟨exec_eq_next_of_passed rfl passed (Dev.admissionOrder_of_search _ searching),
      exec_eq_next_of_passed rfl passed2 (Dev.admissionOrder_of_search _ searching)⟩
  · intro h s passed free checked
    exact exec_eq_next_of_passed rfl passed (by rw [Dev.admissionOrder_release free, Dev.releaseJudge_of_checked checked])
  · intro x s searching
    exact exec_eq_next_of_effect rfl (by simp only [Dev.modCup, searching, Option.map_some])
  · intro c code undone s cluster known healthy idle
    exact exec_clusterFailure_of_codes cluster known (by
      rw [Dev.clusterFailure_of_healthy healthy, idle, if_neg Bool.false_ne_true]; rfl)
  · intro c code undone s cluster known healthy other carries
    exact exec_clusterFailure_of_codes cluster known (by
      rw [Dev.clusterFailure_of_healthy healthy, if_pos carries, if_pos other]; rfl)
  · intro c code undone s cluster known healthy noOther carries
    exact exec_clusterFailure_of_codes cluster known (by
      rw [Dev.clusterFailure_of_healthy healthy, if_pos carries, noOther, if_neg Bool.false_ne_true]; rfl)
  · intro h init n s passed whole single pass
    exact exec_eq_next_of_passed rfl passed (Dev.bankSwap_of_pass whole single pass)
  · intro h init n s passed whole single fail
    exact exec_eq_next_of_passed rfl passed (Dev.bankSwap_of_fail whole single fail)
  · intro h init s passed split
    exact exec_eq_next_of_passed rfl passed (Dev.bankSwap_of_split split)

/-! ### AX_ENABLE, AX_OPEN, AX_DISABLE, AX_FAULT_CLEAR and AX_QUERY (R132, R140; 06 R187, R190) -/

section
variable {d : Dev} {h : Hdr}

/-- The axes of a mask that lead a model. -/
abbrev Dev.leadsIn (d : Dev) (h : Hdr) : List Nat := (maskList 32 h.mask).filter (fun n => d.lead n == n)

theorem Dev.enable_of_checked {target : Nat} (checked : d.enableCheck h target = none)
    (start : d.failing ((maskList 32 h.mask).filter (fun n => (d.ax n).state == .parked)) (fun n => !d.startOk n) Code.wrongMode = none) :
    d.enable h target =
      if (d.leadsIn h).isEmpty then d.doneAt h Code.done
      else (d.joinStart h (d.leadsIn h).length).each (d.leadsIn h) (fun d n =>
        let from_ := (d.ax n).state == .parked
        let d := d.modAx n (fun c => { c with enable := some { toHold := target == 3, cmd := some h, fromParked := from_ } })
        if from_ then d.startModel n 0 false else d.fluxPhase n) := by
  simp only [Dev.enable, checked, start]

theorem Dev.openAx_of_checked (checked : d.openCheck h = none) : d.openAx h =
    (d.each (d.leadsIn h) (fun d n =>
      let d := d.endSeq n .other .opened
      let d := d.each (d.members n) (fun d m => d.modSns m (fun s => { s with counts := [], countAt := d.time.cnt, stepsDone := true, caught := false }))
      d.setState n .opened 0)).doneAt h Code.done (if (d.leadsIn h).isEmpty then [] else [(16, 1, 2)]) := by
  rw [Dev.openAx, checked]

theorem Dev.disable_of_checked (mode : Nat) (checked : d.disableCheck h = none) : d.disable h mode =
    if (d.leadsIn h).isEmpty then d.doneAt h Code.done
    else (d.joinStart h (d.leadsIn h).length).each (d.leadsIn h) (fun d n => d.parkModel n (mode == 0) (some h) 0) := by
  rw [Dev.disable, checked]

theorem Dev.faultClear_of_checked (checked : d.clearCheck h = none) : d.faultClear h =
    (d.each (d.leadsIn h) Dev.clearModel).doneAt h Code.done
      (if (d.leadsIn h).isEmpty then [] else [(16, 4, (d.ax (lowest h.mask)).faults)]) := by
  rw [Dev.faultClear, checked]

/-! A condition is looked for among the axes of the mask, so that an empty mask meets every condition. -/

section
variable (noAxis : h.mask = 0)
include noAxis

theorem maskList_of_no_axis : maskList 32 h.mask = [] := by rw [noAxis]; rfl

theorem Dev.leadsIn_of_no_axis : d.leadsIn h = [] := by rw [Dev.leadsIn, maskList_of_no_axis noAxis, List.filter_nil]

theorem Dev.enableCheck_of_no_axis (target : Nat) : d.enableCheck h target = none := by
  rw [Dev.enableCheck, maskList_of_no_axis noAxis]; rfl

theorem Dev.openCheck_of_no_axis : d.openCheck h = none := by rw [Dev.openCheck, maskList_of_no_axis noAxis]; rfl

theorem Dev.disableCheck_of_no_axis : d.disableCheck h = none := by rw [Dev.disableCheck, maskList_of_no_axis noAxis]; rfl

theorem Dev.clearCheck_of_no_axis : d.clearCheck h = none := by rw [Dev.clearCheck, maskList_of_no_axis noAxis]; rfl

theorem Dev.enable_of_no_axis (target : Nat) : d.enable h target = d.doneAt h Code.done := by
  rw [Dev.enable_of_checked (Dev.enableCheck_of_no_axis noAxis target) (by rw [maskList_of_no_axis noAxis]; rfl),
    Dev.leadsIn_of_no_axis noAxis]
  rfl

theorem Dev.openAx_of_no_axis : d.openAx h = d.doneAt h Code.done := by
  rw [Dev.openAx_of_checked (Dev.openCheck_of_no_axis noAxis), Dev.leadsIn_of_no_axis noAxis]; rfl

theorem Dev.disable_of_no_axis (mode : Nat) : d.disable h mode = d.doneAt h Code.done := by
  rw [Dev.disable_of_checked mode (Dev.disableCheck_of_no_axis noAxis), Dev.leadsIn_of_no_axis noAxis]; rfl

theorem Dev.faultClear_of_no_axis : d.faultClear h = d.doneAt h Code.done := by
  rw [Dev.faultClear_of_checked (Dev.clearCheck_of_no_axis noAxis), Dev.leadsIn_of_no_axis noAxis]; rfl

theorem Dev.axQuery_of_no_axis : d.axQuery h = d.doneNow h Code.done := by rw [Dev.axQuery, if_pos noAxis]
end
end

/-- Settles O9: each clause is its command with the conditions true. That a command on no axis completes DONE with zeros, and what AX_ENABLE
and AX_DISABLE do outside their usual states, are the model's choices (log entries 60 and 80). -/
theorem axisStateCommands : Obligations.AxisStateCommands := by
  refine ⟨?_, ?_, ?_, ?_, ?_, ?_⟩
  · intro h target s passed checked start models
    exact exec_eq_next_of_passed rfl passed (by
      rw [Dev.enable_of_checked checked start, models, if_neg Bool.false_ne_true])
  · intro h s passed checked models
    exact exec_eq_next_of_passed rfl passed (by rw [Dev.openAx_of_checked checked, models, if_neg Bool.false_ne_true])
  · intro h mode s passed checked models
    exact exec_eq_next_of_passed rfl passed (by rw [Dev.disable_of_checked mode checked, models, if_neg Bool.false_ne_true])
  · intro h s passed checked models
    exact exec_eq_next_of_passed rfl passed (by rw [Dev.faultClear_of_checked checked, models, if_neg Bool.false_ne_true])
  · intro h s passed axis
    exact exec_eq_next_of_passed rfl passed (by rw [Dev.axQuery, if_neg axis])
  · intro h target mode s noAxis enable open_ disable clear query
    exact ⟨exec_eq_next_of_passed rfl enable (Dev.enable_of_no_axis noAxis target),
      exec_eq_next_of_passed rfl open_ (Dev.openAx_of_no_axis noAxis),
      exec_eq_next_of_passed rfl disable (Dev.disable_of_no_axis noAxis mode),
      exec_eq_next_of_passed rfl clear (Dev.faultClear_of_no_axis noAxis),
      exec_eq_next_of_passed rfl query (Dev.axQuery_of_no_axis noAxis)⟩

end Sys2Proof.Machine
end

section
/-!
PROOFS. The statements of 05_current_position.md: the ends of the steps and timers of a start-up (R160, R166, R167; 04 R140; 06 R187, R190).
-/

namespace Sys2Proof.Machine

/-! ### A timer that runs out moves the counter, and nothing else of an axis -/

@[simp] theorem Dev.ax_advanceTo (d : Dev) (c n : Nat) : (d.advanceTo c).ax n = d.ax n := rfl

@[simp] theorem Dev.wav_advanceTo (d : Dev) (c n : Nat) : (d.advanceTo c).wav n = d.wav n := rfl

@[simp] theorem Dev.refluxEnd_advanceTo (d : Dev) (c n : Nat) : (d.advanceTo c).refluxEnd n = d.refluxEnd n := rfl

@[simp] theorem Dev.brakeEnd_advanceTo (d : Dev) (c n : Nat) : (d.advanceTo c).brakeEnd n = d.brakeEnd n := rfl

@[simp] theorem Dev.parkLen_advanceTo (d : Dev) (c n : Nat) (brake : Bool) : (d.advanceTo c).parkLen n brake = d.parkLen n brake := rfl

/-! ### What the tick of each step does where the step ends -/

section
variable {d : Dev} {n : Nat}

/-- The catches of the group that axis `n` leads which end now. -/
abbrev Dev.catchesEnding (d : Dev) (n : Nat) : List Nat := (d.members n).filter (fun m => d.catchCode m != 0)

/-- No catch of the group has ended before. -/
abbrev Dev.noCatchEnded (d : Dev) (n : Nat) : Bool := (d.members n).all (fun m => (d.sns m).catching.isSome || (d.sns m).catchResult == 0)

/-- x̂ of the group is loaded from the bank's start state with the first of its catches. -/
abbrev Dev.catchLoad (d : Dev) (n : Nat) : Dev :=
  if d.noCatchEnded n then d.modAx n (fun c => { c with x := d.bankX0 (d.activeBank n) }) else d

theorem Dev.catchTick_of_ending (ending : (d.catchesEnding n).isEmpty = false) : d.catchTick n =
    (let e := (d.catchLoad n).each (d.catchesEnding n) (fun d m => d.catchFinish m (d.catchCode m))
     if (e.members n).any (fun m => (e.sns m).catching.isSome) then e else e.catchesOver n) := by
  simp only [Dev.catchTick, ending, Bool.false_eq_true, if_false]

section
variable {i : InitSt} (running : (d.sns n).init = some i) (noneLeft : i.left = 0)
include running noneLeft

/-- Step 1 is the last where no polarity is searched (R160). -/
theorem Dev.initTick_of_no_polarity (first : i.step = 1) (noPolarity : d.rb (A.AX_POS_CFG n) 4 = false) : d.initTick n = d.initDone n := by
  simp only [Dev.initTick, running, noneLeft, first, noPolarity, Nat.lt_irrefl, Bool.not_false, and_self, if_false, if_true]

theorem Dev.initTick_of_next_step (notLast : i.step < 5) (goesOn : (i.step == 1 && !d.rb (A.AX_POS_CFG n) 4) = false) : d.initTick n =
    d.modSns n (fun q => { q with init := some { i with step := i.step + 1, left := d.fld (A.AX_INJ_CFG n) 23 16 } }) := by
  have notEnded : ¬ (i.step = 1 ∧ (!d.rb (A.AX_POS_CFG n) 4) = true) := by simpa using goesOn
  simp only [Dev.initTick, running, noneLeft, notEnded, notLast, Nat.lt_irrefl, if_false, if_true]
end

theorem Dev.fluxTick_of_past (step : (d.wav n).seqStep = 3) (past : d.past (d.refluxEnd n) = true) : d.fluxTick n = d.brakePhase n := by
  rw [Dev.fluxTick, if_neg (not_not.2 step), if_pos past]

theorem Dev.brakeTick_of_past (step : (d.wav n).seqStep = 4) (past : d.past (d.brakeEnd n) = true) : d.brakeTick n = d.countPhase n :=
  if_pos ⟨step, past⟩

theorem Dev.parkTick_of_past {p : ParkSt} (parks : (d.wav n).park = some p) (past : d.past (p.start + d.parkLen n p.brake) = true) :
    d.parkTick n = d.parkDone n p.cause p.cmds := by
  simp only [Dev.parkTick, parks, past, if_true]

/-- At the deadline of a start-up whose outputs this tick does not count to the end either, the axes stay in OPEN (R140). -/
theorem Dev.enableExpired_of_uncounted {e : EnableSt} {t : Nat} (enabled : (d.ax n).enable = some e) (deadline : e.deadline = some t)
    (past : d.past t = true) (uncounted : (d.countTick n).ax n = d.ax n) (noRecovery : (d.wav n).recover = none) : d.enableExpired n =
    (let d := d.modAx n (fun c => { c with enable := none })
     (d.each (d.members n) (fun d m => d.seqTo m 0)).partWait e.cmd Code.enableTimeout [(16, 1, 2)]) := by
  simp only [Dev.enableExpired, enabled, deadline, past, uncounted, noRecovery, bne_self_eq_false, Option.isSome_none, Bool.not_true,
    Bool.false_eq_true, if_false]
end

/-! ### The events of those ends: the counter moves to the end, and the step's tick follows -/

section
variable {s : State} {n : Nat}

theorem exec_catchTimeout_of_catch {c : CatchSt} (catching : (s.dev.sns n).catching = some c) : exec (.catchTimeout n) s =
    .next { s with
      dev := ((s.dev.advanceTo (c.start + msCnt (s.dev.fld (A.AX_CATCH_CFG n) 11 0))).catchTick (s.dev.lead n)).settle } :=
  exec_eq_next_of_effect rfl (by simp only [catching])

theorem exec_fluxStepEnd_of_flux (step : (s.dev.wav (s.dev.lead n)).seqStep = 3) : exec (.fluxStepEnd n) s =
    .next { s with dev := ((s.dev.advanceTo (s.dev.refluxEnd (s.dev.lead n))).fluxTick (s.dev.lead n)).settle } :=
  exec_eq_next_of_effect rfl (if_pos step)

theorem exec_brakeLiftEnd_of_lift (step : (s.dev.wav (s.dev.lead n)).seqStep = 4) : exec (.brakeLiftEnd n) s =
    .next { s with dev := ((s.dev.advanceTo (s.dev.brakeEnd (s.dev.lead n))).brakeTick (s.dev.lead n)).settle } :=
  exec_eq_next_of_effect rfl (if_pos step)

theorem exec_parkTimerEnd_of_park {p : ParkSt} (parks : (s.dev.wav (s.dev.lead n)).park = some p) : exec (.parkTimerEnd n) s =
    .next { s with
      dev := ((s.dev.advanceTo (p.start + s.dev.parkLen (s.dev.lead n) p.brake)).parkTick (s.dev.lead n)).settle } :=
  exec_eq_next_of_effect rfl (by simp only [parks])

theorem exec_axEnableTimeout_of_deadline {e : EnableSt} {t : Nat} (enabled : (s.dev.ax (s.dev.lead n)).enable = some e)
    (deadline : e.deadline = some t) : exec (.axEnableTimeout n) s =
    .next { s with dev := ((s.dev.advanceTo t).enableExpired (s.dev.lead n)).settle } :=
  exec_eq_next_of_effect rfl (by simp only [enabled, Option.bind_some, deadline])
end

/-- Settles O11: each event is the tick of its step, with the counter moved to the deadline where a timer runs out, and there the tick ends
the step. -/
theorem startUpSequenceEvents : Obligations.StartUpSequenceEvents := by
  refine ⟨?_, ?_, ?_, ?_, ?_, ?_, ?_, ?_⟩
  · intro n s ending
    exact exec_eq_next_of_effect rfl (Dev.catchTick_of_ending ending)
  · intro n c s catching ending
    exact exec_eq_next_of_effect (exec_catchTimeout_of_catch catching) (Dev.catchTick_of_ending ending)
  · intro n i s running noneLeft first noPolarity
    exact exec_eq_next_of_effect rfl (Dev.initTick_of_no_polarity running noneLeft first noPolarity)
  · intro n i s running noneLeft notLast goesOn
    exact exec_eq_next_of_effect rfl (Dev.initTick_of_next_step running noneLeft notLast goesOn)
  · intro n s step past
    exact exec_eq_next_of_effect (exec_fluxStepEnd_of_flux step) (Dev.fluxTick_of_past (by simpa using step) (by simpa using past))
  · intro n s step past
    exact exec_eq_next_of_effect (exec_brakeLiftEnd_of_lift step) (Dev.brakeTick_of_past (by simpa using step) (by simpa using past))
  · intro n p s parks past
    exact exec_eq_next_of_effect (exec_parkTimerEnd_of_park parks) (Dev.parkTick_of_past (by simpa using parks) (by simpa using past))
  · intro n t e s enabled deadline past uncounted noRecovery
    exact exec_eq_next_of_effect (exec_axEnableTimeout_of_deadline enabled deadline)
      (Dev.enableExpired_of_uncounted (by simpa using enabled) deadline past (by simpa using uncounted) (by simpa using noRecovery))

end Sys2Proof.Machine
end

section
/-!
PROOFS. The statements of 06_waveforms_reversal.md: the duties of SVM (R175); direction, winding short and recovery (R182 to R186, R191,
R192).
-/

namespace Sys2Proof.Machine

/-! ### The extremes of a list under an increasing map -/

section
variable {f : Rat → Rat} (increasing : StrictMono f) (x : Rat) (l : List Rat)
include increasing

theorem ratMax_map : ratMax ((x :: l).map f) = f (ratMax (x :: l)) :=
  List.foldl_map_hom (g := f) (a := x) (l := x :: l) (h := fun m y => by simp only [increasing.lt_iff_lt, apply_ite f])

theorem ratMin_map : ratMin ((x :: l).map f) = f (ratMin (x :: l)) :=
  List.foldl_map_hom (g := f) (a := x) (l := x :: l) (h := fun m y => by simp only [increasing.lt_iff_lt, apply_ite f])
end

/-! ### The duties of SVM (R175) -/

section
variable (a b : Rat) {vdc : Rat}

/-- The phase values of a demand. -/
abbrev phaseValues : List Rat := [a, -a / 2 + sqrt3 / 2 * b, -a / 2 - sqrt3 / 2 * b]

/-- By how much the largest phase value of a demand exceeds the smallest. -/
abbrev phaseSpan : Rat := ratMax (phaseValues a b) - ratMin (phaseValues a b)

/-- The duty of a phase value of a demand, with the common-mode offset that centres the phase values. -/
def svmDuty (vdc v : Rat) : Rat := 1 / 2 + (v - (ratMax (phaseValues a b) + ratMin (phaseValues a b)) / 2) / vdc

theorem svm_eq_map_svmDuty (vdc : Rat) : svm a b vdc = (phaseValues a b).map (svmDuty a b vdc) :=
  List.map_congr_left fun v _ => by
    rw [svmDuty, Rat.mkRat_eq_div]
    push_cast
    ring

section
variable (powered : 0 < vdc)
include powered

theorem svmDuty_strictMono : StrictMono (svmDuty a b vdc) := fun v w below => by
  unfold svmDuty
  gcongr

/-- The offset cancels between two legs. -/
theorem svmDuty_sub_mul (v w : Rat) : (svmDuty a b vdc v - svmDuty a b vdc w) * vdc = v - w := by
  unfold svmDuty
  field_simp
  ring

theorem ratMin_map_svmDuty : ratMin ((phaseValues a b).map (svmDuty a b vdc)) = 1 / 2 - phaseSpan a b / vdc / 2 :=
  (ratMin_map (svmDuty_strictMono a b powered) _ _).trans (by rw [svmDuty]; ring)

theorem ratMax_map_svmDuty : ratMax ((phaseValues a b).map (svmDuty a b vdc)) = 1 / 2 + phaseSpan a b / vdc / 2 :=
  (ratMax_map (svmDuty_strictMono a b powered) _ _).trans (by rw [svmDuty]; ring)
end
end

/-- Settles O55: a duty is an increasing function of its phase value, so that the extreme duties are those of the extreme phase values, and
these lie half their span to either side of the offset. -/
theorem svmIsCentredAndExact : Obligations.SvmIsCentredAndExact := by
  intro a b vdc powered
  have smallest := ratMin_map_svmDuty a b powered
  have largest := ratMax_map_svmDuty a b powered
  rw [List.map_cons, List.map_cons, List.map_cons, List.map_nil] at smallest largest
  refine ⟨_, _, _, svm_eq_map_svmDuty a b vdc, svmDuty_sub_mul a b powered _ _, ?_, ?_, fun linear => ?_⟩
  · rw [svmDuty_sub_mul a b powered]
    ring
  · rw [smallest, largest]
    ring
  · have inside : phaseSpan a b / vdc ≤ 1 := (div_le_one powered).2 linear
    rw [smallest, largest]
    constructor <;> linarith

/-! ### AX_REVERSE, AX_SHORT_BRAKE and AX_RECOVER with their conditions true (R182 to R186, R191) -/

section
variable {d : Dev} {h : Hdr}

theorem Dev.reverse_of_checked {how : Nat} (checked : d.reverseCheck h how = none) (axes : (maskList 32 h.mask).isEmpty = false) :
    d.reverse h how =
    (let e := d.each ((maskList 32 h.mask).filter (fun n => d.wouldTurn n how)) (fun d n => d.turn n d.sys.lastFrame)
     e.doneAt h Code.done (e.reverseResult (lowest h.mask))) := by
  simp only [Dev.reverse, checked, axes, Bool.false_eq_true, if_false]

/-- A short that starts on the model that axis `n` leads, from PARKED or OPEN. -/
abbrev Dev.shortStart (d : Dev) (h : Hdr) (n : Nat) : Dev :=
  let d := if (d.ax n).state = .parked then d.leaveParked n 0 else d.endSeq n .other .opened
  let d := d.modWav n (fun w => { w with short := some { start := d.time.cnt, cmd := some h } })
  d.each (d.members n) (fun d m => d.seqTo m 6)

theorem Dev.shortBrake_start (checked : d.shortCheck h true = none)
    (start : ((maskList 32 h.mask).filter (fun n => (d.ax n).state == .parked)).any (fun n => !d.startOk n) = false) :
    d.shortBrake h true =
      if (d.leadsIn h).isEmpty then d.doneAt h Code.done
      else (d.joinStart h (d.leadsIn h).length).each (d.leadsIn h) (fun d n => d.shortStart h n) := by
  simp only [Dev.shortBrake, checked, start, Bool.not_true, Bool.false_eq_true, if_false]

theorem Dev.shortBrake_end {x : ShortSt} (checked : d.shortCheck h false = none) (short : (d.wav (d.lead (lowest h.mask))).short = some x) :
    d.shortBrake h false =
      (let e := d.each (d.leadsIn h) (fun d n => d.shortFinish n 3)
       e.doneAt h Code.done [(16, 1, 3), (20, 4, e.msSince x.start), (24, 4, (f32Of x.peak).toNat)]) := by
  simp only [Dev.shortBrake, checked, short, Bool.not_false, if_true]

theorem Dev.recover_of_checked (allow : Bool) (checked : d.recoverCheck h = none) : d.recover h allow =
    if (d.leadsIn h).isEmpty then d.doneAt h Code.done
    else (d.joinStart h (d.leadsIn h).length).each (d.leadsIn h) (fun d n => d.recoverModel n h allow) := by
  rw [Dev.recover, checked]
end

/-! ### The ends of a short and of a recovery (R186, R192) -/

section
variable {d : Dev} {n : Nat}

theorem Dev.shortTick_of_code {c : Nat} (code : d.shortCode n = c) (met : c ≠ 0) : d.shortTick n = d.shortFinish n c := by
  rw [Dev.shortTick, code, if_neg met]

section
variable (recovers : (d.wav n).recover.isSome = true)
include recovers

theorem Dev.recoverTick_of_short_timed (timed : d.shortCode n = 2) : d.recoverTick n = d.shortFinish n 2 := by
  rw [Dev.recoverTick, if_neg (by simpa [Option.isSome_iff_ne_none] using recovers), if_pos timed]

theorem Dev.recoverTick_of_deadline_past {t : Nat} (untimed : d.shortCode n ≠ 2)
    (deadline : ((d.ax n).enable).bind (·.deadline) = some t) (past : d.past t = true) : d.recoverTick n = d.enableExpired n := by
  rw [Dev.recoverTick, if_neg (by simpa [Option.isSome_iff_ne_none] using recovers), if_neg untimed, deadline]
  exact if_pos past
end

theorem exec_shortEnd_of_short {s : State} {x : ShortSt} (short : (s.dev.wav (s.dev.lead n)).short = some x) : exec (.shortEnd n) s =
    .next { s with dev := ((if s.dev.shortCode (s.dev.lead n) = 0
      then s.dev.advanceTo (x.start + msCnt (s.dev.fld (A.AX_SHORT_CFG (s.dev.lead n)) 11 0)) else s.dev).shortTick (s.dev.lead n)).settle } :=
  exec_eq_next_of_effect rfl (by simp only [short])
end

/-- Settles O10: each command goes on where its conditions are true, and each end is the tick of its sequence, at the end of short_max_ms
where no condition is met before. -/
theorem directionShortAndRecovery : Obligations.DirectionShortAndRecovery := by
  refine ⟨?_, ?_, ?_, ?_, ?_, ?_, ?_, ?_⟩
  · intro h how s passed checked axes
    exact exec_eq_next_of_passed rfl passed (Dev.reverse_of_checked checked axes)
  · intro h s passed checked start models
    exact exec_eq_next_of_passed rfl passed (by rw [Dev.shortBrake_start checked start, models, if_neg Bool.false_ne_true])
  · intro h x s passed checked short
    exact exec_eq_next_of_passed rfl passed (Dev.shortBrake_end checked short)
  · intro n x s short met
    exact exec_eq_next_of_effect (exec_shortEnd_of_short short) (by rw [if_neg met, Dev.shortTick_of_code rfl met])
  · intro n x s short unmet timed
    exact exec_eq_next_of_effect (exec_shortEnd_of_short short) (by rw [if_pos unmet, Dev.shortTick_of_code timed (by decide)])
  · intro h allow s passed checked models
    exact exec_eq_next_of_passed rfl passed (by rw [Dev.recover_of_checked allow checked, models, if_neg Bool.false_ne_true])
  · intro n s recovers timed
    exact exec_eq_next_of_effect rfl (Dev.recoverTick_of_short_timed recovers timed)
  · intro n t s recovers untimed deadline past
    exact exec_eq_next_of_effect rfl (Dev.recoverTick_of_deadline_past recovers (beq_eq_false_iff_ne.1 untimed) deadline past)

end Sys2Proof.Machine
end

section
/-!
PROOFS. The statement of 07_pwm.md: PWM periods, trips and dead times (R198, R205, R206, R209, R211 to R213), with the induction motor's
low-speed time (R163).
-/

namespace Sys2Proof.Machine

section
variable {d : Dev} {n : Nat}

/-! ### Periods (R198) -/

/-- A further period of the tick is to come for an axis with a carrier. -/
theorem Dev.pwmPeriod_of_more (on : (d.pw n).on = true) (carrier : d.pulseTrain n = false)
    (more : (d.pw n).period + 1 < d.pwmK n ∨ d.sys.cutTick = true) : d.pwmPeriod n = d.nextPeriod n := by
  have further : d.morePeriods n = true := by simpa [Dev.morePeriods, on, carrier] using more
  rw [Dev.pwmPeriod, if_pos further]

/-! ### Trips (R209 to R213) -/

section
variable {after clocks : Nat} {level active : Bool}

/-- The polarity of the input says which level is the active one. -/
theorem Dev.tripSample_axis (present : n < d.axes) (passes : filterPasses (d.pw n).tripCfg clocks = true)
    (polarity : (level != bit 11 (d.pw n).tripCfg) = active) :
    d.tripSample false n after clocks level active = (d.advanceTo (d.time.cnt + after)).tripInput false n level := by
  simp [Dev.tripSample, Nat.not_le.2 present, passes, polarity]

theorem Dev.tripSample_group {g : Nat} (present : (d.sys.is4016 && decide (2 ≤ g)) = false)
    (passes : filterPasses (d.pw (8 * g)).gCfg clocks = true) (polarity : (level != bit 11 (d.pw (8 * g)).gCfg) = active) :
    d.tripSample true g after clocks level active = (d.advanceTo (d.time.cnt + after)).tripInput true g level := by
  simp only [Dev.tripSample, if_true, present, passes, polarity, Bool.not_true, bne_self_eq_false, Bool.or_self, Bool.false_eq_true, if_false]
end

/-- A latch is due of the axis's own count or of its group; only the group's sets the group's flag. -/
theorem Dev.tripLatch_of_due (on : (d.pw n).on = true) (noSto : (d.pw n).sto = false)
    (due : (d.pw n).latchDue = true ∨ ((d.pw n).groupDue || d.groupLatch n) = true) : d.tripLatch n =
    (((if (d.pw n).groupDue || d.groupLatch n then d.wb (A.PWM_GTRIP_STATUS (n / 8)) 1 true else d).setPw n
      { (d.pw n).off with latched := true }).raiseAx n 8).faultAxis n 16 := by
  have latches : ((d.pw n).on && !(d.pw n).sto && ((d.pw n).latchDue || ((d.pw n).groupDue || d.groupLatch n))) = true := by
    simpa [on, noSto] using due
  rw [Dev.tripLatch, if_pos latches]

theorem Dev.tripWindowClose_of_ended (ended : (d.pw n).winLeft = 0) : d.tripWindowClose n = d.modPw n AxPwm.closeWin := if_pos ended

/-! ### Dead times (R205, R206) -/

/-- The dead time that a transition seen after `tm` units makes (R206). -/
abbrev Dev.adaptedDt (d : Dev) (n tm : Nat) : Nat :=
  clampN (field 15 0 (d.pw n).dtLim) (field 31 16 (d.pw n).dtLim) (tm + field 27 16 (d.pw n).dtCfg)

section
variable {l tm : Nat} {rising : Bool} (on : (d.pw n).on = true) (adaptive : d.adaptive n = true) (noSto : (d.pw n).sto = false)
include on adaptive noSto

theorem Dev.senseTransition_rise (polarity : (rising != bit 29 (d.pw n).dtCfg) = true)
    (inWindow : ((d.pw n).period * d.pwmT n + tm) / 16 ≤ ((d.pw n).period * d.pwmT n + (d.leg n l).riseNow) / 16)
    (unseen : (d.leg n l).riseEdge = true) : d.senseTransition n l false rising tm =
    d.setLeg n l { d.leg n l with rise := d.adaptedDt n tm, riseEdge := false, misses := 0, fallback := false } := by
  simp [Dev.senseTransition, on, adaptive, noSto, polarity, inWindow, unseen]

/-- The window of the rise lies before that of the fall: a rise still open is over and has seen nothing. -/
theorem Dev.senseTransition_fall (polarity : (rising != bit 29 (d.pw n).dtCfg) = false)
    (inWindow : ((d.pw n).period * d.pwmT n + d.cmpNow n l + tm) / 16 ≤
      ((d.pw n).period * d.pwmT n + d.cmpNow n l + (d.leg n l).fallNow) / 16)
    (unseen : (d.leg n l).fallEdge = true) : d.senseTransition n l true rising tm = (d.missRise n l).setLeg n l
    { (d.missRise n l).leg n l with fall := d.adaptedDt n tm, fallEdge := false, misses := 0, fallback := false } := by
  simp [Dev.senseTransition, on, adaptive, noSto, polarity, inWindow, unseen]
end

/-- The windows that are over make the 64th miss: the rise counts before the fall, which counts only where the rise does not suffice. -/
theorem Dev.dtFallback_of_missed {l : Nat} (adaptive : d.adaptive n = true) (measuring : (d.leg n l).fallback = false)
    (missed : 64 ≤ (d.leg n l).misses + b2n (d.leg n l).riseEdge + b2n (d.leg n l).fallEdge) : d.dtFallback n l =
    if (((d.missCheck n l).missRise n l).leg n l).fallback then (d.missCheck n l).missRise n l
    else ((d.missCheck n l).missRise n l).missFall n l := by
  simp only [Dev.dtFallback, adaptive, measuring, Nat.not_lt.2 missed, Bool.not_true, decide_false, Bool.or_self, Bool.false_eq_true, if_false]

/-! ### The low-speed time of an induction motor (R163) -/

theorem Dev.imLowExpiry_of_past {t : Nat} (since : (d.sns n).imLowSince = some t)
    (past : d.past (t + msCnt (d.fld (A.AX_IM_CFG n) 13 0)) = true) : d.imLowExpiry n =
    ((d.flagAx (A.AX_POS_STATUS n) 8 n 6).modSns n (fun q => { q with imLowSince := none })).faultAxis n 64 := by
  simp only [Dev.imLowExpiry, since, past, if_true]
end

/-- Settles O13: in each clause the state picks one branch of what its event does. That after a time step further periods may start until the
tick of the new grid, and that a latch that is due is carried out by TRIP_LATCH_OFF or at the next period or tick, are the model's choices
(log entries 54 and 163). -/
theorem pwmAndTrips : Obligations.PwmAndTrips := by
  refine ⟨?_, ?_, ?_, ?_, ?_, ?_, ?_, ?_, ?_, ?_, ?_, ?_⟩
  · intro n s on carrier more
    exact exec_eq_next_of_effect rfl (Dev.pwmPeriod_of_more on carrier more)
  · intro n after clocks level s present passes active
    exact exec_eq_next_of_effect rfl (Dev.tripSample_axis present passes active)
  · intro g after clocks level s present passes active
    exact exec_eq_next_of_effect rfl (Dev.tripSample_group present passes active)
  · intro n after clocks level s present passes inactive
    exact exec_eq_next_of_effect rfl (Dev.tripSample_axis present passes inactive)
  · intro g after clocks level s present passes inactive
    exact exec_eq_next_of_effect rfl (Dev.tripSample_group present passes inactive)
  · intro n s on noSto own noGroup
    exact exec_eq_next_of_effect rfl ((Dev.tripLatch_of_due on noSto (.inl own)).trans (by rw [noGroup, if_neg Bool.false_ne_true]))
  · intro n s on noSto group
    exact exec_eq_next_of_effect rfl ((Dev.tripLatch_of_due on noSto (.inr group)).trans (by rw [if_pos group]))
  · intro n s ended
    exact exec_eq_next_of_effect rfl (Dev.tripWindowClose_of_ended ended)
  · intro n l tm rising s on adaptive noSto polarity inWindow unseen
    exact exec_eq_next_of_effect rfl (Dev.senseTransition_rise on adaptive noSto polarity inWindow unseen)
  · intro n l tm rising s on adaptive noSto polarity inWindow unseen
    exact exec_eq_next_of_effect rfl (Dev.senseTransition_fall on adaptive noSto polarity inWindow unseen)
  · intro n l s adaptive measuring missed
    exact exec_eq_next_of_effect rfl (Dev.dtFallback_of_missed adaptive measuring missed)
  · intro n t s since past
    exact exec_eq_next_of_effect rfl (Dev.imLowExpiry_of_past since past)

end Sys2Proof.Machine
end

section
/-!
PROOFS. The statements of 08_feedback.md: encoder edges, index loads, serial frames and latch events (R220, R221, R224 to R228, R234; 11 R311),
and the feedback commands with the strobe (R236, R238).
-/

namespace Sys2Proof.Machine

section
variable {d : Dev} {n t : Nat}

/-! ### Encoder edges (R220, R221) -/

section
variable {ha hb : Nat} {a b : Bool}

/-- The level of A of axis `n` after its ball has held `a` for `ha` clocks. -/
abbrev Dev.levelA (d : Dev) (n : Nat) (a : Bool) (ha : Nat) : Bool := filtered (d.filtN n) (d.fb n).a a ha

/-- The level of B of axis `n` after its ball has held `b` for `hb` clocks. -/
abbrev Dev.levelB (d : Dev) (n : Nat) (b : Bool) (hb : Nat) : Bool := filtered (d.filtN n) (d.fb n).b b hb

/-- The device has moved on to an edge at `t`, and axis `n` has taken over the levels of A and B that pass the filter. -/
abbrev Dev.edgeAccepted (d : Dev) (n : Nat) (a b : Bool) (ha hb t : Nat) : Dev :=
  ((d.seenAt t).clockTo n t).modFb n (fun f => { f with a := d.levelA n a ha, b := d.levelB n b hb })

/-- An illegal transition of axis `n`: its flag, its count and the error of the tick (R221). -/
abbrev Dev.illegalEdge (d : Dev) (n : Nat) : Dev :=
  ((d.fbFlag n 4).incSat (A.FB_ERR_COUNT n) 15 0).modFb n (fun f => { f with illNow := true })

theorem Dev.encoderEdge_of_not_run (idle : (!sdMode d.sys.mode || decide (d.axes ≤ n)) = true) : d.encoderEdge n a b ha hb t = d :=
  if_pos idle

section
variable (runs : sdMode d.sys.mode = true) (present : n < d.axes)
include runs present

theorem Dev.not_idle : ¬ (!sdMode d.sys.mode || decide (d.axes ≤ n)) = true := by simp [runs, present]

theorem Dev.encoderEdge_quadrature (src : (d.edgeAccepted n a b ha hb t).fbSrc n = 0) : d.encoderEdge n a b ha hb t =
    if (d.fb n).a = d.levelA n a ha ∧ (d.fb n).b = d.levelB n b hb then d.edgeAccepted n a b ha hb t
    else if (d.fb n).a ≠ d.levelA n a ha ∧ (d.fb n).b ≠ d.levelB n b hb then
      (d.edgeAccepted n a b ha hb t).illegalEdge n
    else (d.edgeAccepted n a b ha hb t).countEdge n
      ((quadPlace (d.fb n).a (d.fb n).b + 1) % 4 == quadPlace (d.levelA n a ha) (d.levelB n b hb)) (((d.seenAt t).clockTo n t).edgeStamp n t) :=
  (if_neg (Dev.not_idle runs present)).trans (if_pos src)

theorem Dev.encoderEdge_pulse (src : (d.edgeAccepted n a b ha hb t).fbSrc n = 1) : d.encoderEdge n a b ha hb t =
    if d.levelA n a ha && !(d.fb n).a then
      (d.edgeAccepted n a b ha hb t).countEdge n (d.fb n).b (((d.seenAt t).clockTo n t).edgeStamp n t)
    else d.edgeAccepted n a b ha hb t :=
  (if_neg (Dev.not_idle runs present)).trans ((if_neg (src ▸ Nat.one_ne_zero)).trans (if_pos src))

theorem Dev.encoderEdge_other (src : 2 ≤ (d.edgeAccepted n a b ha hb t).fbSrc n) :
    d.encoderEdge n a b ha hb t = d.edgeAccepted n a b ha hb t := by
  have noQuad : (d.edgeAccepted n a b ha hb t).fbSrc n ≠ 0 := by omega
  have noPulse : (d.edgeAccepted n a b ha hb t).fbSrc n ≠ 1 := by omega
  exact (if_neg (Dev.not_idle runs present)).trans ((if_neg noQuad).trans (if_neg noPulse))

/-! ### Edges of Z (R224, R234) -/

/-- The event of the latch source comes before the index load. -/
theorem Dev.zEdge_of_accepted {held : Nat} {z : Bool} (long : d.filtN n ≤ held) (new : ((d.fb n).z == z) = false) : d.zEdge n z held t =
    (let e := (((d.seenAt t).clockTo n t).modFb n (fun f => { f with z })).source n z (d.edgeStamp n t)
     if z then e.zLoad n (d.edgeStamp n t) else e) := by
  have accepted : ¬ (!sdMode d.sys.mode || decide (d.axes ≤ n) || decide (held < d.filtN n) || (d.fb n).z == z) = true := by
    simp [runs, present, long, new]
  exact if_neg accepted
end
end

/-! ### Serial frames (R225 to R228) -/

section
variable {c : Nat} {busy : Bool}

theorem Dev.serialStart_of_due (due : d.serDue c (d.sys.tick + 1) = true) (idle : (d.serPort c).latch = none)
    (unserved : (d.serPort c).served ≠ d.sys.tick + 1) : d.serialStart c busy =
    (let t := (d.sys.tick + 1) * d.loopPeriod - d.serLead c
     let d := (d.seenAt t).serClip c
     let d := if busy && field 1 0 (d.serCfg c) == 1 then d.serFlag c 12 else d
     d.modFbd (fun f => { f with ports := AList.put f.ports c { d.serPort c with latch := some t, busy } })) := by
  have starts : ¬ (!d.serDue c (d.sys.tick + 1) || (d.serPort c).latch.isSome || (d.serPort c).served == d.sys.tick + 1) = true := by
    simp [due, idle, unserved]
  exact if_neg starts

/-- The frame that port `c` decodes from its data line. -/
abbrev Dev.serDecoded (d : Dev) (c : Nat) (line : List (Nat × Bool)) : SerFrame :=
  if field 1 0 (d.serCfg c) = 1 then bissFrame (d.serCfg c) (d.serTiming c) line else ssiFrame (d.serCfg c) (d.serTiming c) line

/-- The axis that port `c` feeds, where it feeds one, has moved on to `t`. -/
def Dev.fedClockTo (d : Dev) (c t : Nat) : Dev := match d.serAxis c with | some n => d.clockTo n t | none => d

theorem Dev.serialFrame_of_latched {line : List (Nat × Bool)} (latched : (d.serPort c).latch = some t) : d.serialFrame c line =
    if (d.sys.tick + 1) * d.loopPeriod < t + (d.serDecoded c line).time then d
    else
      (let f := d.serDecoded c line
       (((d.seenAt (t + f.time)).serEnd c (d.sys.tick + 1)).fedClockTo c (t + f.time)).serialJudge c t (d.serPort c).busy f) := by
  rw [Dev.serialFrame, latched]
  rfl

/-- Port `c` after the line delay that BiSS-C measures and the raw data of a frame. -/
abbrev Dev.frameNoted (d : Dev) (c : Nat) (f : SerFrame) : Dev :=
  (if field 1 0 (d.serCfg c) == 1 then d.setFld (A.FB_SER_STATUS c) 11 0 f.ld else d).wr64 (A.FB_SER_RAW_LO c) f.data

/-- A status bit of an SSI frame has the level that its port takes for an error. -/
abbrev Dev.statusError (d : Dev) (c : Nat) (f : SerFrame) : Bool :=
  !(field 1 0 (d.serCfg c) == 1) && (List.range (field 18 16 (d.serCfg c))).any (fun i =>
    bit (20 + i) (d.serCfg c) && (nbit i f.status == bit (24 + i) (d.serCfg c)))

/-- A frame without an error leaves the error flags of its port as they are. -/
theorem Dev.serialJudge_of_good {f : SerFrame} (start : f.start = true) (crc : f.crcOk = true) (noError : f.nE = false)
    (noWarning : f.nW = false) (notBusy : (field 1 0 (d.serCfg c) == 1 && busy) = false) (noStatus : d.statusError c f = false)
    (feeds : (d.frameNoted c f).serAxis c = some n) : d.serialJudge c t busy f =
    (d.frameNoted c f).serialGood n c (if bit 3 (d.serCfg c) then grayToBin (field 13 8 (d.serCfg c)) f.data else f.data) t := by
  simp only [Dev.serialJudge, start, crc, noError, noWarning, notBusy, noStatus, feeds, Bool.not_true, Bool.or_self, Bool.false_eq_true,
    if_false, if_true]
end

/-! ### Latch events (R234) -/

/-- An event of a field channel, or of an LTCH input that has passed its filter. -/
theorem Dev.latchEvent_of_accepted {src held : Nat} {rising : Bool} (runs : sdMode d.sys.mode = true) (low : 32 ≤ src) (high : src < 56)
    (long : 48 ≤ src → field 5 0 (d.fbReg (A.FB_LTCH_CFG (src - 48))) ≤ held) : d.latchEvent src rising held t =
    (let e := (d.seenAt t).each d.axisList (fun d m => d.clockTo m t)
     if src < 48 then e.source src rising ((t - Config.drumDelay) / 16 * 16)
     else e.source src (rising != bit 6 (d.fbReg (A.FB_LTCH_CFG (src - 48))))
       ((t - (field 5 0 (d.fbReg (A.FB_LTCH_CFG (src - 48))) + 1) * 5) / 5 * 5)) := by
  have notIdle : ¬ (!sdMode d.sys.mode || decide (56 ≤ src)) = true := by simp [runs, high]
  have passes : ¬ (48 ≤ src ∧ held < field 5 0 (d.fbReg (A.FB_LTCH_CFG (src - 48)))) := fun short => short.2.not_ge (long short.1)
  exact (if_neg (Nat.not_lt.2 low)).trans ((if_neg notIdle).trans (if_neg passes))
end

/-- Settles O14: each clause is the branch of its event that its hypotheses pick, and every edge goes on to the safety channels. That a
frame which would end after its tick changes nothing before it is late there, and that an edge of a source without feedback counts nothing
(log entry 129), that the capture of a Z edge comes before its index load (158), and what the safety channels make of an edge (171), are the
model's choices. -/
theorem encoderEdgesAndSerialFrames : Obligations.EncoderEdgesAndSerialFrames := by
  refine ⟨?_, ?_, ?_, ?_, ?_, ?_, ?_, ?_, ?_, ?_, ?_, ?_, ?_, ?_, ?_⟩
  · intro n ha hb t a b s runs present src moved single
    exact exec_eq_next_of_effect rfl (congrArg (Dev.safetyEdge · n a b ha hb)
      ((Dev.encoderEdge_quadrature runs present src).trans ((if_neg moved).trans (if_neg single))))
  · intro n ha hb t a b s runs present src movedA movedB
    exact exec_eq_next_of_effect rfl (congrArg (Dev.safetyEdge · n a b ha hb) ((Dev.encoderEdge_quadrature runs present src).trans
      ((if_neg (fun still => movedA still.1)).trans (if_pos ⟨movedA, movedB⟩))))
  · intro n ha hb t a b s runs present src stillA stillB
    exact exec_eq_next_of_effect rfl (congrArg (Dev.safetyEdge · n a b ha hb)
      ((Dev.encoderEdge_quadrature runs present src).trans (if_pos ⟨stillA, stillB⟩)))
  · intro n ha hb t a b s runs present src rises
    exact exec_eq_next_of_effect rfl (congrArg (Dev.safetyEdge · n a b ha hb)
      ((Dev.encoderEdge_pulse runs present src).trans (if_pos rises)))
  · intro n ha hb t a b s runs present src other
    exact exec_eq_next_of_effect rfl (congrArg (Dev.safetyEdge · n a b ha hb)
      ((Dev.encoderEdge_pulse runs present src).trans (if_neg (ne_true_of_eq_false other))))
  · intro n ha hb t a b s runs present src
    exact exec_eq_next_of_effect rfl (congrArg (Dev.safetyEdge · n a b ha hb) (Dev.encoderEdge_other runs present src))
  · intro n ha hb t a b s idle
    exact exec_eq_next_of_effect rfl (congrArg (Dev.safetyEdge · n a b ha hb) (Dev.encoderEdge_of_not_run idle))
  · intro n held t s runs present long low
    exact exec_eq_next_of_effect rfl ((Dev.zEdge_of_accepted runs present long (by rw [low]; rfl)).trans (if_pos rfl))
  · intro c busy s due idle unserved
    exact exec_eq_next_of_effect rfl (Dev.serialStart_of_due due idle unserved)
  · intro c t line s latched inTime
    exact exec_eq_next_of_effect rfl ((Dev.serialFrame_of_latched latched).trans (if_neg (Nat.not_lt.2 inTime)))
  · intro c t line s latched late
    exact exec_eq_next_of_effect rfl ((Dev.serialFrame_of_latched latched).trans (if_pos late))
  · intro d c n t busy f start crc noError noWarning notBusy noStatus feeds
    exact Dev.serialJudge_of_good start crc noError noWarning notBusy noStatus feeds
  · intro n held t up s runs present source long new
    exact exec_eq_next_of_effect rfl ((if_pos source).trans (Dev.zEdge_of_accepted runs present long new))
  · intro src held t up s runs low high
    exact exec_eq_next_of_effect rfl ((Dev.latchEvent_of_accepted runs low (by omega) (fun ltch => absurd high (Nat.not_lt.2 ltch))).trans
      (if_pos high))
  · intro src held t up s runs low high long
    exact exec_eq_next_of_effect rfl ((Dev.latchEvent_of_accepted runs (by omega) high (fun _ => long)).trans (if_neg (Nat.not_lt.2 low)))

/-! ### The feedback commands (R224, R236, R238) -/

section
variable {d : Dev} {h : Hdr}

theorem Dev.fbSet_of_checked {add : Bool} {v : Int} (checked : d.fbSetCheck h = none) (axis : h.mask ≠ 0) : d.fbSet h add v =
    (let e := d.each (maskList 32 h.mask) (fun d n =>
       (d.clockTo n d.sys.lastFrame).reref n (if add then (d.fb n).count + v else v) d.sys.lastFrame)
     e.doneAt h Code.done [(16, 6, ofSigned 48 (e.rd48 (A.FB_REF_DELTA_LO (lowest h.mask)))),
       (24, 6, ofSigned 48 (e.fb (lowest h.mask)).count)]) := by
  simp only [Dev.fbSet, checked, axis, if_false]

/-- The compare unit that `p` names of axis `n`, programmed by `p` and armed, with no check window open. -/
abbrev Dev.cmpArmed (d : Dev) (n : Nat) (p : CmpArm) : Dev :=
  let d := (d.modFb n (fun f => f.setWins p.unit [])).wr48 (A.FB_CMP_BASE_LO n p.unit) p.base
  let d := (d.wr (A.FB_CMP_STEP n p.unit) p.step).wr (A.FB_CMP_WIN n p.unit) (BitVec.ofNat 32 (p.pre + 65536 * p.post))
  d.wr (A.FB_CMP_CTRL n p.unit) (BitVec.ofNat 32 (1 + 2 * b2n p.check + 4 * p.src + 256 * b2n p.fall + 65536 * p.hits))

/-- The compare unit that `p` names of axis `n`, disarmed, with no check window open. -/
abbrev Dev.cmpDisarmed (d : Dev) (n : Nat) (p : CmpArm) : Dev :=
  (d.modFb n (fun f => f.setWins p.unit [])).wb (A.FB_CMP_CTRL n p.unit) 0 false

theorem Dev.cmpArm_of_not_reserved {b : List Byte} (allowed : cmpArmReserved b = false) : d.cmpArm h b =
    (d.each (maskList 32 h.mask) (fun d n => if (cmpArmOf b).disarm then d.cmpDisarmed n (cmpArmOf b) else d.cmpArmed n (cmpArmOf b))).doneAt
      h Code.done [(16, 2, d.fld (A.FB_CMP_STATUS (lowest h.mask) (cmpArmOf b).unit) 15 0)] := by
  have checked : d.cmpArmCheck b = none := if_neg (ne_true_of_eq_false allowed)
  rw [Dev.cmpArm, checked]

theorem Dev.latchArm_of_checked {unit src bits : Nat} (checked : d.latchArmCheck unit src bits = none) : d.latchArm h unit src bits =
    (d.each (maskList 32 h.mask) (fun d n => d.armLatch n unit src (bits % 2) (bits / 2))).doneAt h Code.done
      [(16, 2, d.fld (A.FB_LAT_GEN (lowest h.mask) unit) 31 16)] := by
  rw [Dev.latchArm, checked]

section
variable {t units : Nat}

theorem Dev.syncLatch_of_free (free : d.fbd.strobe = none) : d.syncLatch h t units =
    if t ≤ d.now then d.doneAt h Code.timePast
    else
      (let e := d.each (maskList 32 h.mask) (fun d n => d.each (maskList 4 units) (fun d u => d.armLatch n u 56 0 0))
       ((e.wr64 A.FB_SYNC_T_LO t).wr A.FB_SYNC_STATUS 1).modFbd (fun f => { f with strobe := some { t, cmd := h } })) := by
  have checked : d.syncLatchCheck = none := by rw [Dev.syncLatchCheck, free]; rfl
  rw [Dev.syncLatch, checked]

theorem Dev.syncLatch_of_strobe (pending : d.fbd.strobe.isSome = true) : d.syncLatch h t units = d.doneAt h Code.wrongMode := by
  have refused : d.syncLatchCheck = some (Code.wrongMode, []) := if_pos pending
  rw [Dev.syncLatch, refused]
end

@[simp] theorem Dev.seenAt_fbd (d : Dev) (t : Nat) : (d.seenAt t).fbd = d.fbd := rfl

theorem Dev.strobeFire_of_set {x : Strobe} (stepped : Bool) (pending : d.fbd.strobe = some x) : d.strobeFire stepped =
    (let e := d.modFbd (fun f => { f with strobe := none })
     let e := ((e.wb A.FB_SYNC_STATUS 0 false).wb A.FB_SYNC_STATUS 1 true).wb A.FB_SYNC_STATUS 2 stepped
     (e.source 56 true d.now stepped).complete x.cmd Code.done d.now (resultOf [(16, 8, d.now)])) := by
  rw [Dev.strobeFire, pending]

theorem Dev.syncStrobe_of_reached {x : Strobe} (pending : d.fbd.strobe = some x) (reached : x.t ≤ (d.seenAt x.t).now) :
    d.syncStrobe = (d.seenAt x.t).strobeFire false := by
  rw [Dev.syncStrobe, pending]
  exact if_pos reached

theorem Dev.fbQuery_of_axis (axis : h.mask ≠ 0) : d.fbQuery h = d.doneNow h Code.done
    [(16, 6, ofSigned 48 (d.fb (lowest h.mask)).count), (24, 4, (d.rd (A.FB_SPEED (lowest h.mask))).toNat),
      (28, 4, (d.rd (A.FB_STATUS (lowest h.mask))).toNat)] := by
  rw [Dev.fbQuery, if_neg axis]
end

/-- Settles O15: each clause is its command with the conditions true, or the strobe at its time. That FB_CMP_ARM and FB_LATCH_ARM on no axis
report what axis 0 holds (`lowest`), not the zeros that log entry 60 gives other commands, and that the strobe's event moves the counter no
further than the next tick (log entry 17), are the model's choices. -/
theorem feedbackCommands : Obligations.FeedbackCommands := by
  refine ⟨?_, ?_, ?_, ?_, ?_, ?_, ?_, ?_, ?_⟩
  · intro h add v s passed checked axis
    exact exec_eq_next_of_passed rfl passed (Dev.fbSet_of_checked checked axis)
  · intro h b s passed allowed arm
    exact exec_eq_next_of_passed rfl passed ((Dev.cmpArm_of_not_reserved allowed).trans (by rw [arm]; rfl))
  · intro h b s passed allowed disarm
    exact exec_eq_next_of_passed rfl passed ((Dev.cmpArm_of_not_reserved allowed).trans (by rw [disarm]; rfl))
  · intro h unit src bits s passed checked
    exact exec_eq_next_of_passed rfl passed (Dev.latchArm_of_checked checked)
  · intro h t units s passed free ahead
    exact exec_eq_next_of_passed rfl passed ((Dev.syncLatch_of_free free).trans (if_neg (Nat.not_le.2 ahead)))
  · intro h t units s passed free past
    exact exec_eq_next_of_passed rfl passed ((Dev.syncLatch_of_free free).trans (if_pos past))
  · intro h t units s passed pending
    exact exec_eq_next_of_passed rfl passed (Dev.syncLatch_of_strobe pending)
  · intro x s pending reached
    exact exec_eq_next_of_effect rfl ((Dev.syncStrobe_of_reached pending reached).trans
      (Dev.strobeFire_of_set false (by rw [Dev.seenAt_fbd, pending])))
  · intro h s passed axis
    exact exec_eq_next_of_passed rfl passed (Dev.fbQuery_of_axis axis)

end Sys2Proof.Machine
end

section
/-!
PROOFS. The statements of 09_motion_gearing.md: the gear law (R260), orders and takeovers (R254), profiles, gears and records of masters
(R244, R250, R262, R266 to R268, R274), and load share (R272, R273).
-/

namespace Sys2Proof.Machine

/-! ### Rounding to nearest with ties away from zero (R260) -/

section
variable {x : Rat}

theorem ratRound_of_nonneg (hx : 0 ≤ x) : ratRound x = round x := by
  rw [ratRound, if_neg hx.not_gt, round_eq, Rat.mkRat_eq_div]
  rfl

theorem ratRound_of_neg (hx : x < 0) : ratRound x = -round (-x) := by
  rw [ratRound, if_pos hx, round_eq, Rat.mkRat_eq_div]
  rfl

/-- Halfway between two integers the larger one is taken, so that the error below is strict. -/
theorem round_sub_mem_Ioc (x : Rat) : (round x : Rat) - x ∈ Set.Ioc (-1 / 2) (1 / 2) := by
  have below := Int.floor_le (x + 1 / 2)
  have above := Int.lt_floor_add_one (x + 1 / 2)
  rw [round_eq]
  constructor <;> linarith

theorem abs_ratRound_sub_le (x : Rat) : |(ratRound x : Rat) - x| ≤ 1 / 2 := by
  rcases lt_or_ge x 0 with neg | nonneg
  · obtain ⟨low, high⟩ := round_sub_mem_Ioc (-x)
    rw [ratRound_of_neg neg, abs_le]
    push_cast
    constructor <;> linarith
  · obtain ⟨low, high⟩ := round_sub_mem_Ioc x
    rw [ratRound_of_nonneg nonneg, abs_le]
    constructor <;> linarith

theorem abs_lt_abs_ratRound_of_tie (tie : |(ratRound x : Rat) - x| = 1 / 2) : |x| < |(ratRound x : Rat)| := by
  rcases lt_or_ge x 0 with neg | nonneg
  · obtain ⟨low, -⟩ := round_sub_mem_Ioc (-x)
    rw [ratRound_of_neg neg] at tie ⊢
    push_cast at tie ⊢
    have up : (round (-x) : Rat) = -x + 1 / 2 := by rcases eq_or_eq_neg_of_abs_eq tie with h | h <;> linarith
    rw [up, abs_neg, abs_of_neg neg, abs_of_pos] <;> linarith
  · obtain ⟨low, -⟩ := round_sub_mem_Ioc x
    rw [ratRound_of_nonneg nonneg] at tie ⊢
    have up : (round x : Rat) = x + 1 / 2 := by rcases eq_or_eq_neg_of_abs_eq tie with h | h <;> linarith
    rw [up, abs_of_nonneg nonneg, abs_of_pos] <;> linarith
end

/-! ### The gear law (R260) -/

/-- The error of a rounded quotient in units of the divisor. -/
theorem abs_ratRound_mul_sub (a : Int) {b : Nat} (hb : 0 < b) :
    ((|ratRound (a / b) * b - a| : Int) : Rat) = |(ratRound (a / b) : Rat) - a / b| * b := by
  have divisor : (0 : Rat) < b := Nat.cast_pos.2 hb
  have error : (ratRound (a / b) : Rat) * b - a = ((ratRound (a / b) : Rat) - a / b) * b := by field_simp
  push_cast
  rw [error, abs_mul, abs_of_pos divisor]

theorem two_mul_abs_ratRound_mul_sub_le (a : Int) {b : Nat} (hb : 0 < b) : 2 * |ratRound (a / b) * b - a| ≤ b := by
  have divisor : (0 : Rat) < b := Nat.cast_pos.2 hb
  have near := mul_le_mul_of_nonneg_right (abs_ratRound_sub_le (a / b)) divisor.le
  rw [← abs_ratRound_mul_sub a hb] at near
  have doubled : 2 * ((|ratRound (a / b) * b - a| : Int) : Rat) ≤ b := by linarith
  exact_mod_cast doubled

theorem abs_lt_abs_ratRound_mul_of_tie {a : Int} {b : Nat} (hb : 0 < b) (tie : 2 * |ratRound (a / b) * b - a| = b) :
    |a| < |ratRound (a / b) * b| := by
  have divisor : (0 : Rat) < b := Nat.cast_pos.2 hb
  have error : 2 * (|(ratRound (a / b) : Rat) - a / b| * b) = b := by
    rw [← abs_ratRound_mul_sub a hb]
    exact_mod_cast tie
  have half : |(ratRound (a / b) : Rat) - a / b| = 1 / 2 := mul_right_cancel₀ divisor.ne' (by linarith)
  have farther := abs_lt_abs_ratRound_of_tie half
  rw [abs_div, abs_of_pos divisor, div_lt_iff₀ divisor] at farther
  rw [abs_mul, Nat.abs_cast]
  exact_mod_cast farther

theorem ratDiv_of_pos (a : Rat) {b : Nat} (hb : 0 < b) : ratDiv a b = a / b := if_neg (Nat.cast_ne_zero.2 hb.ne')

/-- The gear law without a cam is R260's, the quotient rounded once. -/
theorem Dev.lawAt_of_ratio {d : Dev} {n : Nat} {g : GearLaw} {m : Ref} (noCam : g.cam = false) (hd : 0 < g.d) : d.lawAt n g m =
    (⟨g.s0 + ratRound ((g.n * (m.p - g.m0) : Int) / g.d) + g.phi, g.n / g.d * m.v, g.n / g.d * m.a⟩, false) := by
  simp only [Dev.lawAt, noCam, ratDiv_of_pos _ hd, Bool.false_eq_true, if_false]

/-- Settles O49: the integer is the quotient as the law rounds it. -/
theorem gearLawIsExactAndRoundedOnce : Obligations.GearLawIsExactAndRoundedOnce := by
  intro d n g m noCam hd
  have divisor : (g.d : Rat) ≠ 0 := Nat.cast_ne_zero.2 hd.ne'
  rw [Dev.lawAt_of_ratio noCam hd]
  refine ⟨ratRound ((g.n * (m.p - g.m0) : Int) / g.d), rfl, two_mul_abs_ratRound_mul_sub_le _ hd, abs_lt_abs_ratRound_mul_of_tie hd,
    ?_, ?_⟩
  · field_simp
  · field_simp

/-! ### Orders and their takeover (R254) -/

section
variable {d : Dev} {v : Verdict} {op : Nat} {h : Hdr} {b : List Byte}

theorem Dev.orderIf_of_none (passed : v = none) : d.orderIf v op h b = d.order op h b := by
  subst passed; rfl

theorem Dev.orderTurn_of_none (passed : v = none) : d.orderTurn v op h b = d.order op h b := by
  subst passed; rfl
end

/-- Settles O16: each command with its conditions true is an order (`Dev.order`), and MOTION_TAKEOVER carries out what is due. That VM_STOP,
of class Stop, takes over at the next frame tick as the others do is the model's choice (log entry 132). -/
theorem motionOrdersTakeOverAtTheNextFrameTick : Obligations.MotionOrdersTakeOverAtTheNextFrameTick :=
  ⟨fun _ _ _ passed checked => exec_eq_next_of_passed rfl passed (Dev.orderIf_of_none checked),
    fun _ _ _ passed checked => exec_eq_next_of_passed rfl passed (Dev.orderIf_of_none checked),
    fun _ _ _ passed checked => exec_eq_next_of_passed rfl passed (Dev.orderIf_of_none checked),
    fun _ _ _ passed checked => exec_eq_next_of_passed rfl passed (Dev.orderTurn_of_none checked),
    fun _ _ _ passed checked => exec_eq_next_of_passed rfl passed (Dev.orderTurn_of_none checked),
    fun _ _ _ passed checked => exec_eq_next_of_passed rfl passed (Dev.orderIf_of_none checked),
    fun _ _ _ passed checked => exec_eq_next_of_passed rfl passed (Dev.orderIf_of_none checked),
    fun _ _ _ passed checked => exec_eq_next_of_passed rfl passed (Dev.orderTurn_of_none checked),
    fun _ _ _ passed checked => exec_eq_next_of_passed rfl passed (Dev.orderTurn_of_none checked),
    fun _ _ _ passed checked => exec_eq_next_of_passed rfl passed (Dev.orderIf_of_none checked),
    fun _ _ _ passed checked => exec_eq_next_of_passed rfl passed (Dev.orderIf_of_none checked),
    fun _ => rfl⟩

/-! ### Profiles, gears and records of masters (R244, R250, R262, R266 to R268) -/

section
variable {d : Dev} {h : Hdr} {n : Nat}

/-- A range that passes joins the validated ranges of axis `n`, once. -/
abbrev Dev.rangeValidated (d : Dev) (n : Nat) (range : Nat × Nat × Bool) : Dev :=
  d.modMo n (fun m => { m with valid := range :: m.valid.filter (· != range) })

theorem Dev.profLoad_of_valid {b : List Byte} (checked : d.profLoadCheck h b = none) : d.profLoad h b =
    (let e := d.each (maskList 32 h.mask) (fun d n => d.rangeValidated n (leAt b 16 2, leAt b 18 2, nbit 0 (byteAt b 20)))
     e.doneAt h Code.done [(20, 8, e.knotT (lowest h.mask) (leAt b 16 2 + leAt b 18 2 - 1))]) := by
  rw [Dev.profLoad, checked]

theorem Dev.profLoad_of_refused {b : List Byte} {status : Nat} {res : List (Nat × Nat × Nat)}
    (checked : d.profLoadCheck h b = some (status, res)) : d.profLoad h b = d.doneAt h status res := by
  rw [Dev.profLoad, checked]

theorem Dev.profStop_of_checked (checked : d.profStopCheck h = none) (axes : h.mask ≠ 0) : d.profStop h =
    (let e := d.each (maskList 32 h.mask) (fun d n => d.startRamp n d.sys.lastFrame 0)
     let r := e.restOf (lowest h.mask) e.sys.lastFrame
     e.doneAt h Code.done [(16, 8, r.1), (24, 8, ofSigned 64 r.2)]) := by
  rw [Dev.profStop, checked]
  simp only [axes, if_false]

theorem Dev.profQuery_of_axis (axis : h.mask ≠ 0) : d.profQuery h = d.doneNow h Code.done
    [(16, 8, ofSigned 64 (d.mo (lowest h.mask)).p), (24, 4, (f32Of (d.mo (lowest h.mask)).v).toNat),
      (28, 4, (d.profStatusWord (lowest h.mask)).toNat)] := by
  rw [Dev.profQuery, if_neg axis]

theorem Dev.gearQuery_of_axis (axis : h.mask ≠ 0) : d.gearQuery h = d.doneNow h Code.done
    [(16, 4, (d.gearStatusWord (lowest h.mask)).toNat), (20, 4, (d.gearMasterWord (lowest h.mask)).toNat),
      (24, 4, (d.lsMemberWord (lowest h.mask)).toNat), (28, 4, (d.mo (lowest h.mask)).gear.age)] := by
  rw [Dev.gearQuery, if_neg axis]

/-- The layers of axis `n` whose blend has run its length. -/
abbrev Dev.layersDue (d : Dev) (n : Nat) : List GearLayer :=
  (d.mo n).gear.layers.filter (fun y => !y.pure && y.ended (d.mo n).at_)

/-- The commands that end with the layers of axis `n`, from the newest that is due down, each with the end of its blend. -/
abbrev Dev.blendCmds (d : Dev) (n : Nat) : List (Hdr × Nat) :=
  let old := (d.mo n).gear.layers
  (old.drop ((old.findIdx? (fun y => !y.pure && y.ended (d.mo n).at_)).getD 0)).filterMap (fun y =>
    y.cmd.map (fun c => (c, y.t0 + 1000000 * y.te)))

theorem Dev.blendEnd_of_due (due : (d.layersDue n).isEmpty = false) : d.blendEnd n =
    (let new := d.settleLayers n (d.mo n).at_ (d.mo n).gear.layers
     let e := d.modMo n (fun m => { m with gear := { m.gear with layers := new } })
     let e := if new.all (fun y => y.pure) then (e.gearTo n 2).modMo n (fun m => { m with hold := m.p, src := .hold }) else e
     (d.blendCmds n).foldl (fun e c =>
       e.complete c.1 Code.done (d.mo n).at_ (resultOf [(16, 8, c.2), (24, 1, (e.mo n).gear.state)])) e) := by
  simp only [Dev.blendEnd, due, Bool.false_eq_true, if_false]

theorem Dev.syncLoss_of_lost (lost : d.time.state = 3) (running : d.mot.syncHold = false) : d.syncLoss =
    (d.modMot (fun q => { q with syncHold := true, syncAxes := maskOf d.remoteAxes })).each d.remoteAxes (fun d n =>
      if (d.mo n).gear.layers.any (fun y => y.ms.m.remote.isSome) then
        (d.startRamp n d.sys.lastFrame 2 Code.superseded).modMo n (fun m => { m with gear := { m.gear with suspend := true } })
      else d.lsLeaving n d.sys.lastFrame false) := by
  have acts : ¬ (d.time.state ≠ 3 ∨ d.mot.syncHold = true) := by simp [lost, running]
  exact if_neg acts
end

/-- Settles O17: each clause is the branch of its command or event that its hypotheses pick. That GEAR_BLEND_END completes with DONE also the
commands of layers that a newer one replaces, and that a loss of time ends the commands of gears with SUPERSEDED, are the model's choices
(log entry 130). -/
theorem profilesAndGearEnds : Obligations.ProfilesAndGearEnds := by
  refine ⟨?_, ?_, ?_, ?_, ?_, ?_, ?_, ?_⟩
  · intro h b s passed checked
    exact exec_eq_next_of_passed rfl passed (Dev.profLoad_of_valid checked)
  · intro h b status res s passed checked
    exact exec_eq_next_of_passed rfl passed (Dev.profLoad_of_refused checked)
  · intro h s passed checked axes
    exact exec_eq_next_of_passed rfl passed (Dev.profStop_of_checked checked axes)
  · intro h h2 s prof gear axis axis2
    exact ⟨exec_eq_next_of_passed rfl prof (Dev.profQuery_of_axis axis), exec_eq_next_of_passed rfl gear (Dev.gearQuery_of_axis axis2)⟩
  · intro n s due
    exact exec_eq_next_of_effect rfl (Dev.blendEnd_of_due due)
  · intro node b s
    rfl
  · intro n s lost
    exact exec_eq_next_of_effect rfl (if_pos lost)
  · intro s lost running
    exact exec_eq_next_of_effect rfl (Dev.syncLoss_of_lost lost running)

/-! ### Load share (R272, R273) -/

section
variable {d : Dev} {g i n : Nat}

theorem Dev.lsLeave_of_checked {h : Hdr} (checked : d.lsLeaveCheck h = none) : d.lsLeave h =
    (d.each (maskList 32 h.mask) (fun d n => d.lsLeaving n d.sys.lastFrame false)).doneAt h Code.done
      [(16, 4, (d.shareNow (lowest h.mask)).toNat)] := by
  rw [Dev.lsLeave, checked]

/-- When the fade that began at `st` is over in group `g`. -/
abbrev Dev.fadeDue (d : Dev) (st g : Nat) : Nat := st + 1000000 * d.fld (A.LS_GRP_CFG g) 15 8

theorem Dev.lsFadeEnd_of_due {st : Nat} {w : Rat} {l : LsMember} (member : (d.mo n).ls = some l) (fades : l.fade = some (st, w))
    (past : d.past (d.time.edge (d.fadeDue st l.group)) = true) (due : d.fadeDue st l.group ≤ d.now) : d.lsFadeEnd n =
    ((d.modMo n (fun m => { m with ls := none, hold := m.p, src := .hold })).setState n .hold 2).startDeflux n [] := by
  simp only [Dev.lsFadeEnd, member, fades, past, due, if_true]

theorem Dev.lsMemberLost_home {r : LsRemote} (entry : AList.find d.mot.remotes (8 * g + i) = some r) (active : r.active = true)
    (missed : 9 ≤ r.misses) : d.lsMemberLost true g i n =
    ((d.modMot (fun q => { q with remotes := AList.put q.remotes (8 * g + i) { r with active := false } })).wb (A.LS_GRP_STATUS g) i
      false).wb (A.LS_GRP_STATUS g) (8 + i) true := by
  simp only [Dev.lsMemberLost, entry, active, missed, decide_true, Bool.and_self, if_true]

theorem Dev.lsMemberLost_member {l : LsMember} (member : (d.mo n).ls = some l) (remote : l.localHome = false) (missed : 9 ≤ l.misses) :
    d.lsMemberLost false g i n = d.lsLeaving n d.sys.lastFrame true := by
  simp only [Dev.lsMemberLost, member, remote, missed, decide_true, Bool.not_false, Bool.and_self, Bool.false_eq_true, if_true, if_false]

section
variable {node : Nat} {b : List Byte}

theorem Dev.lsRecord_home (newer : (AList.get {} d.mot.remotes (8 * g + i)).ts < leAt b 0 8) : d.lsRecord true node g i n b =
    d.modMot (fun q => { q with remotes := AList.put q.remotes (8 * g + i) { AList.get {} d.mot.remotes (8 * g + i) with
      next := some (leAt b 0 8, f32At b 8, toSigned 16 (leAt b 12 2)) } }) :=
  (if_pos rfl).trans (if_pos newer)

/-- The home of a group that has sent axis `n` a record is remembered. -/
abbrev Dev.lsHeard (d : Dev) (node g n : Nat) : Dev :=
  d.modMot (fun q => { q with lsSeen := if q.lsSeen.contains (node, g, n) then q.lsSeen else (node, g, n) :: q.lsSeen })

theorem Dev.lsRecord_member {l : LsMember} (member : (d.mo n).ls = some l) (remote : l.localHome = false) (home : l.home = node)
    (group : l.group = g) (newer : l.recTs < leAt b 0 8) : d.lsRecord false node g i n b =
    (d.lsHeard node g n).modMo n (fun m => { m with ls := some { l with nextRec := some (leAt b 0 8, f32At b 8, f32At b 12) } }) := by
  have heard : ((d.lsHeard node g n).mo n).ls = some l := member
  have takes : (!l.localHome && l.home == node && l.group == g && decide (l.recTs < leAt b 0 8)) = true := by
    simp [remote, home, group, newer]
  simp only [Dev.lsRecord, heard, takes, Bool.false_eq_true, if_false, if_true]
end
end

/-- Settles O18: each clause is the branch of its command or event that its hypotheses pick. That a member knows the group of another home by
the records that have come from it is the model's choice (log entry 131). -/
theorem loadShare : Obligations.LoadShare := by
  refine ⟨?_, ?_, ?_, ?_, ?_, ?_⟩
  · intro h s passed checked
    exact exec_eq_next_of_passed rfl passed (Dev.lsLeave_of_checked checked)
  · intro n st w l s member fades past due
    exact exec_eq_next_of_effect rfl (Dev.lsFadeEnd_of_due member fades past due)
  · intro g i n r s entry active missed
    exact exec_eq_next_of_effect rfl (Dev.lsMemberLost_home entry active missed)
  · intro g i n l s member remote missed
    exact exec_eq_next_of_effect rfl (Dev.lsMemberLost_member member remote missed)
  · intro node g i n b s newer
    exact exec_eq_next_of_effect rfl (Dev.lsRecord_home newer)
  · intro node g i n b l s member remote home group newer
    exact exec_eq_next_of_effect rfl (Dev.lsRecord_member member remote home group newer)

end Sys2Proof.Machine
end

section
/-!
PROOFS. The statements of 10_oculus_tuning.md: the capture engine's commands and events (R276, R282, R283, R286, R290, R293, R294, R301), and
Lantern's generators (R297, R299, R301).
-/

namespace Sys2Proof.Machine

/- The declarations below are elaborated one after the other: the joined text compiles close to its memory limit, and proofs that wait in
parallel for the kernel each hold a thread's stack. -/
set_option Elab.async false

/-! ### The capture engine (R276, R282, R283, R286, R290, R293, R294, R301) -/

section
variable {d : Dev} {h : Hdr}

section
variable {named : Nat}

/-- The engine is in the hands of `holder`, or free. -/
abbrev Dev.ocuHeldBy (d : Dev) (holder : Option Nat) : Dev := { d with ocu := { d.ocu with holder } }

theorem Dev.capClaim_of_claimed (checked : d.capClaimCheck h 1 named = none) :
    d.capClaim h 1 named = (d.ocuHeldBy (some h.cc)).doneAt h Code.done [(16, 2, h.cc)] := by
  rw [Dev.capClaim, checked]
  rfl

theorem Dev.capClaim_of_released (checked : d.capClaimCheck h 0 named = none) :
    d.capClaim h 0 named = ((d.ocuStop 6).ocuHeldBy none).doneAt h Code.done [(16, 2, 0)] := by
  rw [Dev.capClaim, checked]
  rfl
end

/-- The engine armed by CAP_ARM `h`, before its first record begins. -/
abbrev Dev.ocuArmed (d : Dev) (h : Hdr) : Dev :=
  { d with ocu := { d.ocu with slot := 0, ended := 0, armCmd := some h, forceCmd := none, skip := none, deadFrom := none } }

theorem Dev.capArm_of_checked {clear : Bool} (checked : d.capArmCheck h = none) : d.capArm h clear =
    (let e := Dev.ocuPublishAll d.ocu.done.length d
     let e := if clear then e.wr A.OCU_IGNORED 0 else e
     let e := ((e.wb A.OCU_REC_GEN 0 false).wrAll [(A.OCU_RING_WP, 0), (A.OCU_RING_RP, 0)]).ocuArmed h
     e.ocuBegin e.ocuCfgRate) := by
  rw [Dev.capArm, checked]

theorem Dev.capForce_of_checked (checked : d.capForceCheck h = none) : d.capForce h =
    Dev.doneWait { d with ocu := { d.ocu with force := if d.ocu.force = 0 then 1 else d.ocu.force, forceCmd := some h } } d.ocu.forceCmd
      Code.superseded := by
  rw [Dev.capForce, checked]

theorem Dev.capStop_of_checked (checked : d.capStopCheck h = none) : d.capStop h =
    (d.ocuStop 2).doneAt h Code.done [(16, 4, if d.ocu.state = 4 then 0 else d.ocuLen)] := by
  rw [Dev.capStop, checked]

theorem Dev.ocuTimeout_of_due (waits : d.ocu.state = 1 ∨ d.ocu.state = 2) (forced : d.ocu.force ≠ 2) (sequenced : d.rb A.OCU_CFG 6 = false)
    (timed : d.fld (A.OCU_SEQ_TMO d.ocu.seqState) 23 0 ≠ 0) (due : d.fld (A.OCU_SEQ_TMO d.ocu.seqState) 23 0 ≤ d.ocu.age) :
    d.ocuTimeout = d.ocuEnter (d.fld (A.OCU_SEQ_COND d.ocu.seqState) 18 16) :=
  if_pos ⟨waits, forced, by rw [sequenced]; rfl, timed, due⟩
end

/-- Settles O19: each clause is its command with the conditions true, or the branch of its event that the state picks. That CAP_ARM resets
the read pointer of the stream ring with the write index is the model's choice (log entry 127). -/
theorem oculusCaptures : Obligations.OculusCaptures := by
  refine ⟨?_, ?_, ?_, ?_, ?_, ?_, ?_, ?_, ?_⟩
  · intro h named s passed checked
    exact exec_eq_next_of_passed rfl passed (Dev.capClaim_of_claimed checked)
  · intro h named s passed checked
    exact exec_eq_next_of_passed rfl passed (Dev.capClaim_of_released checked)
  · intro h clear s passed checked
    exact exec_eq_next_of_passed rfl passed (Dev.capArm_of_checked checked)
  · intro h s passed checked
    exact exec_eq_next_of_passed rfl passed (Dev.capForce_of_checked checked)
  · intro h s passed checked
    exact exec_eq_next_of_passed rfl passed (Dev.capStop_of_checked checked)
  · intro h s passed noAxis
    exact exec_eq_next_of_passed rfl passed (if_neg (not_not_intro noAxis))
  · intro s waits
    exact exec_eq_next_of_effect rfl (if_pos waits)
  · intro s waits forced sequenced timed due
    exact exec_eq_next_of_effect rfl (Dev.ocuTimeout_of_due waits forced sequenced timed due)
  · intro r rest s awaits
    exact exec_eq_next_of_effect rfl (by simp only [Dev.ocuPublish, awaits])

/-! ### Lantern's generators (R297, R299, R301) -/

section
variable {d : Dev} {h : Hdr} {g : Nat}

theorem Dev.lanStart_of_checked (checked : d.lanStartCheck h g = none) : d.lanStart h g =
    (let e := (d.setFld (A.LAN_STATUS g) 1 0 1).setFld (A.LAN_STATUS g) 16 8 h.cc
     e.setLan g { e.lan g with cmd := some h, at_ := e.sys.lastFrame, next := 0, fade := none }) := by
  rw [Dev.lanStart, checked]

/-- LAN_STOP ends generator `g` without a fade: where it asks for that, before the generator has begun, and where it has no fade. -/
abbrev Dev.lanCuts (d : Dev) (g : Nat) (immediate : Bool) : Prop :=
  immediate = true ∨ d.lanState g = 1 ∨ d.fld (A.LAN_FADE g) 15 0 = 0

/-- The fade of generator `g` begins from its present envelope. -/
abbrev Dev.lanFades (d : Dev) (g : Nat) : Dev :=
  (d.setFld (A.LAN_STATUS g) 1 0 3).setLan g { d.lan g with fade := some ((d.lan g).env, 0) }

theorem Dev.lanStop_of_checked {immediate : Bool} (checked : d.lanStopCheck h g = none) : d.lanStop h g immediate =
    (if d.lanCuts g immediate then d.lanEnd g Code.done else if d.lanState g = 3 then d else d.lanFades g).doneAt h Code.done
      [(16, 4, (d.rd (A.LAN_N g)).toNat)] := by
  simp only [Dev.lanStop, checked, Dev.lanCuts, Bool.or_eq_true, decide_eq_true_eq, or_assoc]

theorem Dev.lanStop_of_cut {immediate : Bool} (checked : d.lanStopCheck h g = none) (cuts : d.lanCuts g immediate) :
    d.lanStop h g immediate = (d.lanEnd g Code.done).doneAt h Code.done [(16, 4, (d.rd (A.LAN_N g)).toNat)] := by
  rw [Dev.lanStop_of_checked checked, if_pos cuts]

theorem Dev.lanStop_of_running (checked : d.lanStopCheck h g = none) (runs : d.lanState g = 2) (fade : d.fld (A.LAN_FADE g) 15 0 ≠ 0) :
    d.lanStop h g false = (d.lanFades g).doneAt h Code.done [(16, 4, (d.rd (A.LAN_N g)).toNat)] := by
  have keeps : ¬ d.lanCuts g false := by simp [runs, fade]
  have begins : d.lanState g ≠ 3 := by simp [runs]
  rw [Dev.lanStop_of_checked checked, if_neg keeps, if_neg begins]

theorem Dev.lanStop_of_fading (checked : d.lanStopCheck h g = none) (fades : d.lanState g = 3) (fade : d.fld (A.LAN_FADE g) 15 0 ≠ 0) :
    d.lanStop h g false = d.doneAt h Code.done [(16, 4, (d.rd (A.LAN_N g)).toNat)] := by
  have keeps : ¬ d.lanCuts g false := by simp [fades, fade]
  rw [Dev.lanStop_of_checked checked, if_neg keeps, if_pos fades]

theorem Dev.lanFinish_of_past_last (runs : d.lanState g = 2) (finite : 0 < (d.rd (A.LAN_LEN g)).toNat)
    (past : (d.rd (A.LAN_LEN g)).toNat ≤ (d.lan g).next) : d.lanFinish g = d.lanEnd g Code.done :=
  if_pos ⟨runs, finite, past⟩

theorem Dev.lanFinish_of_faded {e : Rat} {k : Nat} (fades : d.lanState g = 3) (fade : (d.lan g).fade = some (e, k))
    (ended : d.fld (A.LAN_FADE g) 15 0 ≤ k) : d.lanFinish g = d.lanEnd g Code.done := by
  simp [Dev.lanFinish, fades, fade, ended]
end

/-- Settles O20: each clause is its command with the conditions true, or the branch of its event that the state picks; what LAN_STOP does
turns on `Dev.lanCuts`. -/
theorem lanternGenerators : Obligations.LanternGenerators := by
  refine ⟨?_, ?_, ?_, ?_, ?_, ?_, ?_, ?_, ?_⟩
  · intro h g s passed checked
    exact exec_eq_next_of_passed rfl passed (Dev.lanStart_of_checked checked)
  · intro h g s passed checked
    exact exec_eq_next_of_passed rfl passed (Dev.lanStop_of_cut checked (.inl rfl))
  · intro h g s passed checked runs fade
    exact exec_eq_next_of_passed rfl passed (Dev.lanStop_of_running checked runs fade)
  · intro h g s passed inRange
    exact exec_eq_next_of_passed rfl passed (if_neg (Nat.not_le.2 inRange))
  · intro g s waits due
    exact exec_eq_next_of_effect rfl (if_pos ⟨waits, due⟩)
  · intro h g s passed checked cuts
    exact exec_eq_next_of_passed rfl passed (Dev.lanStop_of_cut checked (.inr cuts))
  · intro h g s passed checked fades fade
    exact exec_eq_next_of_passed rfl passed (Dev.lanStop_of_fading checked fades fade)
  · intro g k e s fades fade ended
    exact exec_eq_next_of_effect rfl (Dev.lanFinish_of_faded fades fade ended)
  · intro g s runs finite past
    exact exec_eq_next_of_effect rfl (Dev.lanFinish_of_past_last runs finite past)

end Sys2Proof.Machine
end

section
/-!
PROOFS. The statements of 11_safety.md: the outputs (R304, R308, R314), the timers and functions (R303 to R321), pairs and output feedback (R307, R314),
and the safety commands (R311 to R331).
-/

namespace Sys2Proof.Machine

/- As above: one declaration after the other, for the joined text's memory. -/
set_option Elab.async false

/-- What each step of a fold keeps, the fold keeps. -/
theorem Dev.foldl_keeps {α β : Type} (g : Dev → α) {f : Dev → β → Dev} (keeps : ∀ d b, g (f d b) = g d) (l : List β) (d : Dev) :
    g (l.foldl f d) = g d := by
  induction l generalizing d with
  | nil => rfl
  | cons b l ih => rw [List.foldl_cons, ih, keeps]

/-! ### The outputs follow the reactions (R304, R308, R314) -/

section
variable (d : Dev) (j k : Nat) (o : OutSt)

theorem Dev.outp_setOutp : (d.setOutp j o).outp k = if k = j then o else d.outp k := AList.get_put _ _ _ _ _

theorem Dev.stoDemanded_setOutp : (d.setOutp j o).stoDemanded = d.stoDemanded := rfl

theorem Dev.outAllowed_setOutp : (d.setOutp j o).outAllowed k = d.outAllowed k := rfl

/-- Output pair `j` is to be energised: it has a kind, it is wished or of a kind that follows the reactions alone, and they allow it. -/
def Dev.outDue (d : Dev) (j : Nat) : Bool :=
  ((d.outp j).wish || decide (2 ≤ d.fld (A.SAF_OUT_CFG j) 1 0)) && d.fld (A.SAF_OUT_CFG j) 1 0 != 0 && d.outAllowed j

/-- Output pair `j` follows the reactions. -/
def Dev.outFollow (d : Dev) (j : Nat) : Dev :=
  if d.outDue j = (d.outp j).on then d
  else d.setOutp j { d.outp j with
    on := d.outDue j, since := d.time.cnt, timing := if d.rb (A.SAF_OUT_CFG j) 13 then some d.time.cnt else none }

theorem Dev.refreshOuts_eq_foldl : d.refreshOuts = (List.range 8).foldl Dev.outFollow d := rfl

/-- An output pair that follows changes nothing but itself, and keeps what is wished of it. -/
theorem Dev.outFollow_cases : d.outFollow j = d ∧ (d.outp j).on = d.outDue j ∨
    ∃ o, d.outFollow j = d.setOutp j o ∧ o.on = d.outDue j ∧ o.wish = (d.outp j).wish := by
  by_cases same : d.outDue j = (d.outp j).on
  · exact .inl ⟨if_pos same, same.symm⟩
  · exact .inr ⟨_, if_neg same, rfl, rfl⟩

theorem Dev.on_outFollow_self : ((d.outFollow j).outp j).on = d.outDue j := by
  obtain ⟨h, on⟩ | ⟨o, h, on, -⟩ := d.outFollow_cases j
  · rw [h, on]
  · rw [h, Dev.outp_setOutp, if_pos rfl, on]

theorem Dev.on_outFollow_ne (other : k ≠ j) : ((d.outFollow j).outp k).on = (d.outp k).on := by
  obtain ⟨h, -⟩ | ⟨o, h, -⟩ := d.outFollow_cases j
  · rw [h]
  · rw [h, Dev.outp_setOutp, if_neg other]

theorem Dev.wish_outFollow : ((d.outFollow j).outp k).wish = (d.outp k).wish := by
  obtain ⟨h, -⟩ | ⟨o, h, -, wish⟩ := d.outFollow_cases j
  · rw [h]
  · rw [h, Dev.outp_setOutp]
    split
    next same => rw [wish, same]
    next => rfl

theorem Dev.outDue_outFollow : (d.outFollow j).outDue k = d.outDue k := by
  unfold Dev.outDue
  rw [Dev.wish_outFollow]
  obtain ⟨h, -⟩ | ⟨o, h, -⟩ := d.outFollow_cases j
  · rw [h]
  · rw [h]; rfl

theorem Dev.stoDemanded_outFollow : (d.outFollow j).stoDemanded = d.stoDemanded := by
  obtain ⟨h, -⟩ | ⟨o, h, -⟩ := d.outFollow_cases j
  · rw [h]
  · rw [h, Dev.stoDemanded_setOutp]

theorem Dev.deviceSto_outFollow : (d.outFollow j).saf.deviceSto = d.saf.deviceSto := by
  obtain ⟨h, -⟩ | ⟨o, h, -⟩ := d.outFollow_cases j
  · rw [h]
  · rw [h]; rfl

/-- Of the pairs that have followed each is as the reactions have it, and the others are as they were. -/
theorem Dev.on_foldl_outFollow (l : List Nat) :
    ((l.foldl Dev.outFollow d).outp k).on = if k ∈ l then d.outDue k else (d.outp k).on := by
  induction l generalizing d with
  | nil => rfl
  | cons j l ih =>
    rw [List.foldl_cons, ih, Dev.outDue_outFollow]
    by_cases later : k ∈ l
    · simp [later]
    · by_cases now : k = j
      · subst now
        simp [later, Dev.on_outFollow_self]
      · simp [later, now, Dev.on_outFollow_ne d j k now]

theorem Dev.on_refreshOuts (hj : j < 8) : (d.refreshOuts.outp j).on = d.outDue j := by
  rw [Dev.refreshOuts_eq_foldl, Dev.on_foldl_outFollow, if_pos (List.mem_range.2 hj)]

theorem Dev.stoDemanded_refreshOuts : d.refreshOuts.stoDemanded = d.stoDemanded := by
  rw [Dev.refreshOuts_eq_foldl]
  exact Dev.foldl_keeps Dev.stoDemanded Dev.stoDemanded_outFollow _ d

theorem Dev.deviceSto_refreshOuts : d.refreshOuts.saf.deviceSto = d.saf.deviceSto := by
  rw [Dev.refreshOuts_eq_foldl]
  exact Dev.foldl_keeps (fun e => e.saf.deviceSto) Dev.deviceSto_outFollow _ d
end

/-- A device reaction allows no output. -/
theorem Dev.outDue_of_deviceSto {d : Dev} (sto : d.saf.deviceSto = true) (j : Nat) : d.outDue j = false := by
  simp [Dev.outDue, Dev.outAllowed, sto]

/-- Settles O59: each pair follows once, and what it follows depends on no other pair (`Dev.outDue_outFollow`). That contactors and general
outputs follow the reactions alone is the model's choice (log entry 19). -/
theorem outputsFollowTheReactions : Obligations.OutputsFollowTheReactions := by
  refine ⟨fun d j hj => d.on_refreshOuts j hj, fun d sto => ⟨?_, ?_⟩, fun d g => by rw [Dev.stoDemanded_refreshOuts]⟩
  · have off : ∀ j ∈ List.range 8, ¬ (d.refreshOuts.outp j).on = true := fun j hj => by
      rw [d.on_refreshOuts j (List.mem_range.1 hj), Dev.outDue_of_deviceSto sto]
      exact Bool.false_ne_true
    change maskOf ((List.range 8).filter (fun j => (d.refreshOuts.outp j).on)) = 0
    rw [List.filter_eq_nil_iff.2 off]
    rfl
  · exact Dev.stoMask_of_deviceSto (by rw [Dev.deviceSto_refreshOuts, sto])

/-! ### Timers that run out (R317) -/

section
variable (d : Dev) (c g k i j : Nat)

/-- A deadline that the counter has been moved to is past. -/
@[simp] theorem Dev.past_advanceTo_self : (d.advanceTo c).past c = true := decide_eq_true (Nat.le_max_right _ _)

@[simp] theorem Dev.sbcEnd_advanceTo : (d.advanceTo c).sbcEnd g = d.sbcEnd g := rfl
@[simp] theorem Dev.ss1End_advanceTo : (d.advanceTo c).ss1End g = d.ss1End g := rfl
@[simp] theorem Dev.sg_advanceTo : (d.advanceTo c).sg g = d.sg g := rfl
@[simp] theorem Dev.hrEnd_advanceTo : (d.advanceTo c).hrEnd g k = d.hrEnd g k := rfl
@[simp] theorem Dev.discEnd_advanceTo : (d.advanceTo c).discEnd i = d.discEnd i := rfl
@[simp] theorem Dev.timingEnd_advanceTo : (d.advanceTo c).timingEnd j = d.timingEnd j := rfl
end

section
variable {d : Dev} {e g k i j : Nat}

theorem Dev.sbcTick_of_past (ends : d.sbcEnd g = some e) (past : d.past e = true) : d.sbcTick g = d.ss1Sto g false true true := by
  simp only [Dev.sbcTick, ends, past, if_true]

theorem Dev.hrTick_of_past (ends : d.hrEnd g k = some e) (past : d.past e = true) :
    d.hrTick g k = (d.modSg g (fun x => { x with hr := x.hr.set k none })).violate g 0x09 true false true := by
  simp only [Dev.hrTick, ends, past, if_true]

theorem Dev.discTick_of_past (ends : d.discEnd i = some e) (past : d.past e = true) : d.discTick i = d.pairFault i := by
  simp only [Dev.discTick, ends, past, if_true]

theorem Dev.timingTick_of_past (ends : d.timingEnd j = some e) (past : d.past e = true) : d.timingTick j = d.brakeFault j := by
  simp only [Dev.timingTick, ends, past, if_true]

/-- Without an end of the brakes' lead running. -/
theorem Dev.sbcEnd_of_no_brake {y : Ss1St} (running : (d.sg g).ss1 = some y) (noBrake : y.brakeAt = none) : d.sbcEnd g = none := by
  simp only [Dev.sbcEnd, running, noBrake, Option.map_none]

/-- ss1_max runs from the earlier of Turret's and Keep's starts. -/
theorem Dev.ss1End_of_running {y : Ss1St} (running : (d.sg g).ss1 = some y) :
    d.ss1End g = some (min (y.keepAt.getD y.start) y.start + msCnt (50 * d.fld (A.SAF_GRP_CFG g) 23 16)) := by
  rw [Dev.ss1End, running, Option.map_some]
  cases y.keepAt <;> simp

theorem Dev.ss1Tick_of_past {y : Ss1St} (running : (d.sg g).ss1 = some y) (noBrake : y.brakeAt = none) (ends : d.ss1End g = some e)
    (past : d.past e = true) : d.ss1Tick g =
    d.ss1Sto g true (!decide (y.keepAt.getD y.start < y.start)) (decide (y.keepAt.getD y.start < y.start)) := by
  simp only [Dev.ss1Tick, ends, running, noBrake, past, Option.isNone_none, Bool.and_self, if_true]
  cases y.keepAt with
  | none => simp
  | some k => rfl

/-- The age of a channel's self-test just past T_ST. -/
theorem Dev.testWithin_advanceTo_succ (d : Dev) (t limit : Nat) : (d.advanceTo (t + limit + 1)).testWithin (some t) limit = false := by
  have late := Nat.le_max_right d.time.cnt (t + limit + 1)
  exact decide_eq_false (show ¬ max d.time.cnt (t + limit + 1) ≤ t + limit by omega)

theorem Dev.ageTick_turret_of_old (notHalted : d.saf.turretHalted = false) (old : d.testWithin d.saf.turretTest d.tSt = false) :
    d.ageTick 1 = d.channelFault 1 := by
  simp [Dev.ageTick, notHalted, old]

theorem Dev.channelFault_turret (healthy : d.saf.turretOk = true) : d.channelFault 1 =
    (let e := Dev.raise { d with saf := { d.saf with turretOk := false } } Ev.safChannelFault 1
     if (e.sys.mode == .ready || e.sys.mode == .run || e.sys.mode == .inspection) && e.rb A.SAF_CFG_GEN 26 && d.saf.keepOk &&
         e.testWithin d.saf.keepTest (e.tSt + 2 * usCnt 250) then e.enterDegraded 1
     else e.deviceReaction 0x10 false true) :=
  if_neg (by simp [healthy])

theorem Dev.channelFault_keep (healthy : d.saf.keepOk = true) : d.channelFault 2 =
    (let e := Dev.raise { d with saf := { d.saf with keepOk := false } } Ev.safChannelFault 2
     if (e.sys.mode == .ready || e.sys.mode == .run || e.sys.mode == .inspection) && e.rb A.SAF_CFG_GEN 26 && d.saf.turretOk &&
         e.testWithin d.saf.turretTest (e.tSt + 2 * usCnt 250) then e.enterDegraded 2
     else e.deviceReaction 0x10 true false) :=
  if_neg (by simp [healthy])

/-- When DEGRADED has lasted DEG_MAX. -/
abbrev Dev.degStop (d : Dev) : Nat := d.saf.degStart + msCnt (1000 * d.fld A.SAF_CFG_GEN 24 16)

theorem Dev.degTick_of_warning (degraded : d.sys.mode = .degraded) (notWarned : d.saf.degWarned = false)
    (near : d.degStop ≤ d.time.cnt + msCnt 10000) : d.degTick =
    (let e := Dev.raise { d with saf := { d.saf with degWarned := true } } Ev.safDegWarn
     if e.past d.degStop then e.deviceReaction 0x11 true true else e) := by
  simp [Dev.degTick, degraded, notWarned, near]
  rfl

theorem Dev.degTick_of_past (degraded : d.sys.mode = .degraded) (warned : d.saf.degWarned = true) (past : d.past d.degStop = true) :
    d.degTick = d.deviceReaction 0x11 true true := by
  simp [Dev.degTick, degraded, warned, past]

/-- Keep's limit does not turn on the edges it has counted. -/
theorem Dev.keepLimit_modSg {f : GrpSt → GrpSt} (same : (f (d.sg g)).degStill = (d.sg g).degStill) :
    (d.modSg g f).keepLimit g = d.keepLimit g := by
  have still : ((d.modSg g f).sg g).degStill = (d.sg g).degStill := by rw [Dev.modSg, Dev.sg_setSg_self, same]
  unfold Dev.keepLimit
  rw [still]
  rfl

theorem Dev.pairFault_of_good (good : (AList.get ({} : PairSt) d.saf.pairs i).faulted = false) : d.pairFault i =
    (let e := d.modSaf (fun q => { q with pairs := AList.put q.pairs i { AList.get {} q.pairs i with faulted := true, disc := none } })
     let e := e.raise Ev.safInputFault i
     let e := e.each (e.pairGroups i) (fun d g => d.groupReaction g 0x0D true true)
     e.each [0, 1, 2, 3] Dev.demandPairs) :=
  if_neg (by simp [good])
end

/-- Settles O21: each clause is the branch of its event that the state picks, with the counter moved to the deadline where a timer runs out.
How Turret and Keep time ss1_max, and what a breach of Keep's limits reacts as, are the model's choices (log entries 100 and 102). -/
theorem safetyFunctions : Obligations.SafetyFunctions := by
  refine ⟨?_, ?_, fun s => rfl, ?_, ?_, ?_, ?_, ?_, ?_, ?_, ?_, ?_, ?_, ?_, ?_⟩
  · intro i s notBypass notBackup notVigil
    have evaluates : ¬ (s.dev.sys.mode = .bypass ∨ s.dev.sys.mode = .backup ∨ s.dev.sys.mode = .vigil) := by
      simp [notBypass, notBackup, notVigil]
    exact exec_eq_next_of_effect rfl (if_neg evaluates)
  · intro i s idle
    exact exec_eq_next_of_effect rfl (if_pos idle)
  · intro s healthy notHalted
    exact exec_eq_next_of_effect rfl ((if_neg (by simp [notHalted])).trans (Dev.channelFault_turret healthy))
  · intro s healthy
    exact exec_eq_next_of_effect rfl (Dev.channelFault_turret healthy)
  · intro s healthy
    exact ⟨exec_eq_next_of_effect rfl (Dev.channelFault_keep healthy), rfl⟩
  · intro t s runs test notHalted
    have old : (s.dev.advanceTo (t + s.dev.tSt + 1)).testWithin s.dev.saf.turretTest s.dev.tSt = false := by
      rw [test, Dev.testWithin_advanceTo_succ]
    refine exec_eq_next_of_effect rfl ((if_neg (by simp [runs])).trans ?_)
    rw [if_pos rfl, test]
    exact Dev.ageTick_turret_of_old notHalted old
  · intro g e s ends
    refine exec_eq_next_of_effect rfl ?_
    simp only [ends]
    exact Dev.sbcTick_of_past (by simpa using ends) (by simp)
  · intro g y s running noBrake
    have ends := Dev.ss1End_of_running running
    refine exec_eq_next_of_effect rfl ?_
    simp only [ends, Dev.sbcEnd_of_no_brake running noBrake]
    exact Dev.ss1Tick_of_past (by simpa using running) noBrake (by simpa using ends) (by simp)
  · intro s degraded notWarned _ _ _
    refine exec_eq_next_of_effect rfl ((if_pos (by simp [degraded, notWarned])).trans ?_)
    have near : s.dev.degStop ≤ max s.dev.time.cnt (s.dev.degStop - msCnt 10000) + msCnt 10000 := by omega
    exact Dev.degTick_of_warning degraded notWarned near
  · intro s degraded warned
    exact exec_eq_next_of_effect rfl ((if_pos degraded).trans (Dev.degTick_of_past degraded warned (Dev.past_advanceTo_self _ _)))
  · intro s degraded
    exact exec_eq_next_of_effect rfl (if_pos degraded)
  · intro g k e s ends runs
    refine exec_eq_next_of_effect rfl ?_
    simp only [ends]
    exact (if_pos runs).trans (Dev.hrTick_of_past (by simpa using ends) (by simp))
  · intro g t s runs healthy gated
    have judges : ¬ (!s.dev.safetyRuns || !s.dev.saf.keepOk || !s.dev.rb (A.SAF_KEEP_OS g) 5) = true := by simp [runs, healthy, gated]
    refine exec_eq_next_of_effect rfl ((if_neg judges).trans ?_)
    dsimp only
    rw [Dev.keepLimit_modSg rfl]
    rfl
  · intro g t s idle
    exact exec_eq_next_of_effect rfl (if_pos idle)

/-- Settles O22: each clause is the branch of its event that the state picks. Faults of feedback pairs and of brake timings, and test pulses
and pair levels, are read as the model's choices say (notes/assumptions/101.md, 103.md). -/
theorem safetyPairsAndOutputs : Obligations.SafetyPairsAndOutputs := by
  refine ⟨?_, ?_, ?_, ?_, ?_, fun k s => rfl, ?_, ?_⟩
  · intro i us t chB level s present notPulsing passes
    exact exec_eq_next_of_effect rfl ((if_neg (Nat.not_le.2 present)).trans
      ((if_neg (by simp [notPulsing])).trans (if_neg (by simp [passes]))))
  · intro i us t chB level s present notPulsing short
    exact exec_eq_next_of_effect rfl ((if_neg (Nat.not_le.2 present)).trans
      ((if_neg (by simp [notPulsing])).trans (if_pos (by simp [short]))))
  · intro i us t chB level s present pulsing
    exact exec_eq_next_of_effect rfl ((if_neg (Nat.not_le.2 present)).trans (if_pos pulsing))
  · intro i e s ends good
    refine exec_eq_next_of_effect rfl ?_
    simp only [ends]
    exact (Dev.discTick_of_past (by simpa using ends) (by simp)).trans (Dev.pairFault_of_good good)
  · intro j e s ends
    refine exec_eq_next_of_effect rfl ?_
    simp only [ends]
    exact Dev.timingTick_of_past (by simpa using ends) (by simp)
  · intro i chB s awaited
    exact exec_eq_next_of_effect rfl (if_pos awaited)
  · intro j s dark on
    exact ⟨exec_eq_next_of_effect rfl (if_pos (by simp [dark, on])), exec_eq_next_of_effect rfl (if_neg (by simp))⟩

/-! ### The safety commands (R311, R313, R314, R325, R328 to R331) -/

section
variable {d : Dev} {h : Hdr}

theorem Dev.safCfgLoad_of_accepted {img : List Byte} {keepSame : Bool} (checked : d.safCfgCheck h = none)
    (accepted : (d.safJudge (some img) keepSame).1 = none) : d.safCfgLoad h (some img) keepSame =
    (d.windowClose.safSwitch img).doneAt h Code.done [(16, 4, (d.safJudge (some img) keepSame).2)] := by
  simp only [Dev.safCfgLoad, checked, accepted]

theorem Dev.safCfgLoad_of_refused {image : Option (List Byte)} {keepSame : Bool} {why off : Nat} (checked : d.safCfgCheck h = none)
    (refused : (d.safJudge image keepSame).1 = some (why, off)) : d.safCfgLoad h image keepSame =
    d.windowClose.doneAt h Code.cfgRejected [(16, 4, (d.safJudge image keepSame).2), (20, 2, off), (22, 1, why)] := by
  simp only [Dev.safCfgLoad, checked, refused]

theorem Dev.fullReset_of_holding (holds : d.holding = true) (ready : d.resetReady = true) (clear : d.holdClear = true) :
    d.fullReset = some (d.resetActs d.resettable true) := by
  simp [Dev.fullReset, holds, ready, clear]

theorem Dev.safReset_of_holding (noAxis : h.mask = 0) (holds : d.holding = true) (allowed : d.rb A.SAF_CFG_GEN 25 = true)
    (ready : d.resetReady = true) (clear : d.holdClear = true) : d.safReset h =
    (let e := d.resetActs d.resettable true
     e.doneAt h Code.done [(16, 4, e.safStatusWord.toNat)]) := by
  simp [Dev.safReset, noAxis, holds, allowed, Dev.fullReset_of_holding holds ready clear]

/-- The test that SAF_INSP_TEST begins: Oculus is configured for axis `byteAt b 2`, and the test runs. -/
abbrev Dev.inspBegun (d : Dev) (h : Hdr) (b : List Byte) (dest : Nat) : Dev :=
  let sel (k : Nat) : Word := BitVec.ofNat 32 (k + 2 ^ 8 * byteAt b 2)
  let d := (d.wrAll [(A.OCU_CH 0, sel 0x1A), (A.OCU_CH 1, sel 0x1B), (A.OCU_CH 2, sel 0x05),
    (A.OCU_CH 3, BitVec.ofNat 32 (0x40 + 2 ^ 16))]).setFld A.OCU_CFG 31 16 0xF
  d.modSaf (fun q => { q with
    insp := some { cmd := h, block := bytesAt b 0 128, dest, start := d.time.cnt, startTime := d.sys.lastFrame } })

section
variable {b : List Byte} {dest : Nat} (checked : d.inspCheck h (some b) = none)
include checked

theorem Dev.safInspTest_of_speed (type : byteAt b 0 = 2 ∨ byteAt b 0 = 3) : d.safInspTest h (some b) dest = d.inspBegun h b dest := by
  rcases type with type | type <;> simp only [Dev.safInspTest, checked, type]

theorem Dev.safInspTest_of_brake (type : byteAt b 0 = 1) : d.safInspTest h (some b) dest =
    (let e := d.inspBegun h b dest
     (e.setOutp (byteAt b 8) { e.outp (byteAt b 8) with wish := false }).refreshOuts) := by
  simp only [Dev.safInspTest, checked, type]

theorem Dev.safInspTest_of_stop (type : byteAt b 0 = 4) : d.safInspTest h (some b) dest =
    (let e := d.inspBegun h b dest
     if byteAt b 8 = 0 then e.groupReaction (byteAt b 1) 0x12 true true else e.startSs1 (byteAt b 1) 0x02 true false true true) := by
  simp only [Dev.safInspTest, checked, type]
end

theorem Dev.inspEnd_of_no_test (metrics : List F32) (finished commitOk : Bool) (noTest : d.saf.insp = none) :
    d.inspEnd metrics finished commitOk = d := by
  simp only [Dev.inspEnd, noTest]

/-- A test is over that finished without being aborted, or that was aborted or is past its time limit. -/
theorem inspEnded {f aborted : Bool} {limit now : Nat}
    (ended : f = true ∧ aborted = false ∨ f = false ∧ (aborted = true ∨ limit ≤ now)) :
    ¬ ((f && aborted) || (!f && !aborted && !decide (limit ≤ now))) = true := by
  rcases ended with ⟨rfl, rfl⟩ | ⟨rfl, rfl | late⟩ <;> simp [*]

/-! ### The unlock window and the halt of Turret (R329, R330) -/

theorem regAt_safUnlock : RegAt A.SAF_UNLOCK A.SAF_UNLOCK 0 0 := by decide +kernel

theorem Dev.commandReg_safUnlock {r : Req} {row : RegRow} {a : Nat} {v : Word} {within : Bool} (hb : row.base = A.SAF_UNLOCK) :
    d.commandReg r row a v { within := some within } = some (d.safUnlock v within) := by
  rw [Dev.commandReg, hb]; rfl

theorem exec_safUnlock_of_accepts {s : State} {r : Req} {v : Word} {within : Bool} (accepted : s.dev.accepts r A.SAF_UNLOCK v = true) :
    exec (.safUnlock r v within) s = .next { s with dev := (s.dev.accessed.safUnlock v within).settle } :=
  exec_eq_next_of_command rfl accepted regAt_safUnlock fun _ hb _ _ => Dev.commandReg_safUnlock hb

section
variable {v : Word} {within : Bool} (unlocked : d.rb A.SAF_UNLOCK_STATUS 1 = false)
include unlocked

theorem Dev.safUnlock_of_first_key (first : d.saf.keyAt = none) (key : field 15 0 v = 0xC35A) :
    d.safUnlock v within = d.modSaf (fun q => { q with keyAt := some d.time.cnt }) := by
  simp only [Dev.safUnlock, unlocked, first, key, Bool.false_eq_true, if_false, if_true]

theorem Dev.safUnlock_of_second_key {t : Nat} (second : d.saf.keyAt = some t) (key : field 15 0 v = 0x5AC3) : d.safUnlock v true =
    (d.modSaf (fun q => { q with keyAt := none, windowEnd := some (d.time.cnt + msCnt 10000) })).wb A.SAF_UNLOCK_STATUS 0 true := by
  simp only [Dev.safUnlock, unlocked, second, key, Bool.false_eq_true, and_self, if_false, if_true]
end

/-- A window whose end the counter has been moved to is over. -/
theorem Dev.safWindowTick_advanceTo {e : Nat} (window : d.saf.windowEnd = some e) :
    (d.advanceTo e).safWindowTick = (d.advanceTo e).windowClose := by
  have window' : (d.advanceTo e).saf.windowEnd = some e := window
  have ended : (d.advanceTo e).windowOpen = false := by
    simp only [Dev.windowOpen, window', decide_eq_false_iff_not, Nat.not_lt]
    exact Nat.le_max_right _ _
  exact if_pos (by simp [window', ended])

theorem Dev.turretHalt_of_energised (running : d.saf.turretHalted = false) (energised : d.anyEnergised = true) : d.turretHalt =
    (let e := ((d.deviceReaction 0x14 true true).unlockVoid).modSaf (fun q => { q with turretHalted := true })
     (e.each e.axisList Dev.stoAxis).refreshOuts.raise Ev.safTurretHalted 1) := by
  simp only [Dev.turretHalt, running, energised, Bool.false_eq_true, if_false, if_true]

theorem Dev.turretHalt_of_not_energised (running : d.saf.turretHalted = false) (off : d.anyEnergised = false) : d.turretHalt =
    (let e := d.unlockVoid.modSaf (fun q => { q with turretHalted := true })
     (e.each e.axisList Dev.stoAxis).refreshOuts.raise Ev.safTurretHalted 1) := by
  simp only [Dev.turretHalt, running, off, Bool.false_eq_true, if_false]
end

/-- Settles O23: each clause is its command with the conditions true, or the branch of its event that the state picks. That SAF_CFG_LOAD
closes the window whatever its verdict is, that SAF_RESET resets latched groups too, and the verdict of an aborted test are the model's
choices (log entries 104 to 106); the Oculus part of the record is free (log entry 24). -/
theorem safetyCommands : Obligations.SafetyCommands := by
  refine ⟨?_, ?_, ?_, ?_, ?_, ?_, ?_, ?_, ?_, ?_, ?_, ?_, ?_, ?_, ?_, ?_, ?_, ?_, ?_, ?_, ?_, ?_⟩
  · intro h img keepSame s passed checked accepted
    exact exec_eq_next_of_passed rfl passed (Dev.safCfgLoad_of_accepted checked accepted)
  · intro h image keepSame off why s passed checked refused
    exact exec_eq_next_of_passed rfl passed (Dev.safCfgLoad_of_refused checked refused)
  · intro h s passed noAxis holds allowed ready clear
    exact exec_eq_next_of_passed rfl passed (Dev.safReset_of_holding noAxis holds allowed ready clear)
  · intro h m s passed noAxis valid allowed ready clear latched
    exact exec_eq_next_of_passed rfl passed ((if_neg (by simp [noAxis, valid])).trans
      ((if_neg (by rw [allowed, ready, clear]; decide)).trans (if_neg (by simp [latched]))))
  · intro h m on s passed noAxis valid mode
    exact exec_eq_next_of_passed rfl passed (if_neg (by simp [noAxis, valid, mode]))
  · intro h g dir s passed noAxis group valid enabled
    exact exec_eq_next_of_passed rfl passed ((if_neg (by simp [noAxis, group, valid])).trans (if_neg (by simp [enabled])))
  · intro h s passed noAxis degraded
    exact exec_eq_next_of_passed rfl passed ((if_neg (not_not_intro noAxis)).trans (if_neg (not_not_intro degraded)))
  · intro h b dest s passed checked type
    exact exec_eq_next_of_passed rfl passed (Dev.safInspTest_of_speed checked type)
  · intro h b dest s passed checked type
    exact exec_eq_next_of_passed rfl passed (Dev.safInspTest_of_brake checked type)
  · intro h b dest s passed checked type
    exact exec_eq_next_of_passed rfl passed (Dev.safInspTest_of_stop checked type)
  · intro metrics f c s noTest
    exact exec_eq_next_of_effect rfl (Dev.inspEnd_of_no_test metrics f c noTest)
  · intro metrics f i s test ended
    refine exec_eq_next_of_effect rfl ?_
    simp only [Dev.inspEnd, test]
    rw [if_neg (inspEnded ended)]
    cases f <;> rfl
  · intro metrics f i s test ended
    refine exec_eq_next_of_effect rfl ?_
    simp only [Dev.inspEnd, test]
    rw [if_neg (inspEnded ended)]
    cases f <;> rfl
  · intro h challenge dest s passed noAxis key
    exact exec_eq_next_of_passed rfl passed ((if_neg (not_not_intro noAxis)).trans (if_neg (by simp [key])))
  · intro h s passed noAxis
    exact exec_eq_next_of_passed rfl passed (if_neg (not_not_intro noAxis))
  · intro r v within s accepted unlocked first key
    exact exec_eq_next_of_effect (exec_safUnlock_of_accepts accepted) (Dev.safUnlock_of_first_key unlocked first key)
  · intro r v t s accepted unlocked second key
    exact exec_eq_next_of_effect (exec_safUnlock_of_accepts accepted) (Dev.safUnlock_of_second_key unlocked second key)
  · intro e s window
    refine exec_eq_next_of_effect rfl ?_
    simp only [window]
    exact Dev.safWindowTick_advanceTo window
  · intro e s window
    refine exec_eq_next_of_effect rfl ?_
    simp only [window]
    rfl
  · intro s opened running energised
    exact exec_eq_next_of_effect rfl ((if_pos opened).trans (congrArg Dev.unlocksVoid (Dev.turretHalt_of_energised running energised)))
  · intro s opened running off
    exact exec_eq_next_of_effect rfl ((if_pos opened).trans (congrArg Dev.unlocksVoid (Dev.turretHalt_of_not_energised running off)))
  · intro pass s halted
    exact exec_eq_next_of_effect rfl (if_neg (by simp [halted]))

end Sys2Proof.Machine
end

section
/-!
PROOFS. The statements of 95_what_each_step_holds.md and of 12_host_commands.md on every command: the step and the queue, commands turned away and
queries (R351, R357), and completion rings (R344, R346).
-/

namespace Sys2Proof.Machine

/- As above: one declaration after the other, for the joined text's memory. -/
set_option Elab.async false

/-! ### Steps and commands (95; R349, R351) -/

/-- Settles O38: it is what a step is. -/
theorem stepTakesTheFront : Obligations.StepTakesTheFront := fun _ _ _ => rfl

/-- Settles O39: it is what a step is. That an empty queue idles is the model's choice (log entry 40). -/
theorem stepIdlesOnAnEmptyQueue : Obligations.StepIdlesOnAnEmptyQueue := fun _ => rfl

/-- Settles O41: every command is one update of the device (`exec_eq_perform`), whose maps are then put in canonical form (log entry 42). -/
theorem everyCommandAnswers : Obligations.EveryCommandAnswers := by
  intro c s
  obtain ⟨f, perform⟩ := exec_eq_perform c s
  have answers : exec c s = .next { s with dev := (f s.dev).settle } := perform.trans (s.perform_eq_next f)
  exact ⟨_, answers, rfl, inv_of_exec_eq_next answers⟩

/-- A step with a command waiting goes on from what the command leaves of the rest of the queue. -/
theorem steps_succ_of_exec {n : Nat} {c : Instr} {rest : List Instr} {d : Dev} {t : State}
    (answers : exec c { dev := d, pending := rest } = .next t) : steps (n + 1) { dev := d, pending := c :: rest } = steps n t := by
  have front : step { dev := d, pending := c :: rest } = .next t := answers
  rw [steps, front]

theorem exists_steps_eq_next (queue : List Instr) (d : Dev) :
    ∃ t, steps queue.length { dev := d, pending := queue } = .next t ∧ t.pending = [] := by
  induction queue generalizing d with
  | nil => exact ⟨_, rfl, rfl⟩
  | cons c rest ih =>
    obtain ⟨t, answers, same, -⟩ := everyCommandAnswers c { dev := d, pending := rest }
    obtain ⟨e, queue⟩ := t
    obtain rfl : queue = rest := same
    rw [List.length_cons, steps_succ_of_exec answers]
    exact ih e

/-- Settles O42, by induction on the queue: every command answers, and leaves the rest of the queue as it was. -/
theorem queueDrains : Obligations.QueueDrains :=
  ⟨fun s => exists_steps_eq_next s.pending s.dev, fun _ _ _ _ answers => steps_succ_of_exec answers⟩

/-! ### Commands turned away, and queries -/

/-- A completion does no more than a completion may, and putting the maps in canonical form changes no reading. -/
theorem Dev.still_doneNow_settle (d : Dev) (h : Hdr) (status : Nat) (res : List (Nat × Nat × Nat)) :
    d.still (d.doneNow h status res).settle :=
  Dev.still_trans (d.still_doneNow h status res) (Dev.still_settle _)

/-- Every command with an opcode is judged as that opcode at its target first. -/
theorem exec_eq_next_command {c : Instr} {op : Nat} {h : Hdr} (s : State) (order : orderOf c = some (op, h)) :
    ∃ f : Dev → Dev, exec c s = .next { s with dev := (s.dev.command op h f).settle } := by
  cases c <;> cases order <;> exact ⟨_, rfl⟩

/-- Settles O43: a command with an opcode goes on only where its target's checks let it pass. -/
theorem commandsTurnedAwayChangeNothingElse : Obligations.CommandsTurnedAwayChangeNothingElse := by
  intro c op r h s order away
  obtain ⟨f, answers⟩ := exec_eq_next_command s order
  have completes : s.dev.command op h f = s.dev.doneNow h r := by rw [Dev.command, away]
  exact ⟨by rw [answers, completes], s.dev.still_doneNow_settle h r []⟩

/-- `e` is `d` after one completion at once of command `h`. -/
abbrev Dev.Reports (d : Dev) (h : Hdr) (e : Dev) : Prop := ∃ status res, e = d.doneNow h status res

section
variable {d : Dev} {h : Hdr}

theorem Dev.reports_doneNow (status : Nat) (res : List (Nat × Nat × Nat)) : d.Reports h (d.doneNow h status res) := ⟨_, _, rfl⟩

theorem Dev.reports_ite {p : Prop} [Decidable p] {x y : Dev} (hx : d.Reports h x) (hy : d.Reports h y) :
    d.Reports h (if p then x else y) := by
  split
  · exact hx
  · exact hy

/-- A query refuses where a condition fails, and otherwise reports. -/
theorem Dev.reports_refused_or_done {p : Prop} [Decidable p] (status : Nat) (res : List (Nat × Nat × Nat)) :
    d.Reports h (if p then d.doneNow h status else d.doneNow h Code.done res) :=
  Dev.reports_ite (Dev.reports_doneNow _ _) (Dev.reports_doneNow _ _)

theorem exec_reports {c : Instr} {s : State} {op : Nat} {f : Dev → Dev}
    (meaning : exec c s = .next { s with dev := (s.dev.command op h f).settle }) (reports : s.dev.Reports h (f s.dev)) :
    ∃ e, exec c s = .next { s with dev := e.settle } ∧ s.dev.Reports h e := by
  refine ⟨_, meaning, ?_⟩
  rw [Dev.command]
  split
  · exact Dev.reports_doneNow _ _
  · exact reports
end

/-- Whatever a query answers, it is one completion at once. -/
theorem exec_reports_of_isQuery {c : Instr} (s : State) (query : isQuery c = true) :
    ∃ h e, exec c s = .next { s with dev := e.settle } ∧ s.dev.Reports h e := by
  unfold isQuery at query
  split at query
  case h_1 h => exact ⟨h, exec_reports rfl (Dev.reports_refused_or_done _ _)⟩
  case h_2 h => exact ⟨h, exec_reports rfl (Dev.reports_doneNow _ _)⟩
  case h_3 h => exact ⟨h, exec_reports rfl (Dev.reports_doneNow _ _)⟩
  case h_4 h => exact ⟨h, exec_reports rfl (Dev.reports_doneNow _ _)⟩
  case h_5 h => exact ⟨h, exec_reports rfl (Dev.reports_doneNow _ _)⟩
  case h_6 h => exact ⟨h, exec_reports rfl (Dev.reports_refused_or_done _ _)⟩
  case h_7 h _ => exact ⟨h, exec_reports rfl (Dev.reports_refused_or_done _ _)⟩
  case h_8 h => exact ⟨h, exec_reports rfl (Dev.reports_refused_or_done _ _)⟩
  case h_9 h => exact ⟨h, exec_reports rfl (Dev.reports_doneNow _ _)⟩
  case h_10 h => exact ⟨h, exec_reports rfl (Dev.reports_refused_or_done _ _)⟩
  case h_11 h => exact ⟨h, exec_reports rfl (Dev.reports_refused_or_done _ _)⟩
  case h_12 h => exact ⟨h, exec_reports rfl (Dev.reports_refused_or_done _ _)⟩
  case h_13 h _ => exact ⟨h, exec_reports rfl (Dev.reports_refused_or_done _ _)⟩
  case h_14 h => exact ⟨h, exec_reports rfl (Dev.reports_refused_or_done _ _)⟩
  case h_15 => exact absurd query Bool.false_ne_true

/-- Settles O44: every query is one completion at once, whatever its header (`exec_reports_of_isQuery`). -/
theorem queriesChangeNothingElse : Obligations.QueriesChangeNothingElse := by
  intro c s t query answers
  obtain ⟨h, e, answers', status, res, rfl⟩ := exec_reports_of_isQuery s query
  injection answers.symm.trans answers' with state
  exact state ▸ s.dev.still_doneNow_settle h status res

/-! ### Completion rings (R344, R346) -/

/-- The completion rings. -/
abbrev Dev.cqs (d : Dev) : AList Cq := d.host.cqs

section
variable (d : Dev)

@[simp] theorem Dev.cqs_setMbs (a : Nat) (bs : List Byte) : (d.setMbs a bs).cqs = d.cqs := by
  induction bs generalizing d a with
  | nil => rfl
  | cons b bs ih => exact ih (d.setMb a b) (a + 1)

@[simp] theorem Dev.cqs_toHost (b o : Nat) (bs : List Byte) (x : Out) : (d.toHost b o bs x).cqs = d.cqs := by
  rw [Dev.toHost]
  split
  · exact d.cqs_setMbs _ _
  · rfl

@[simp] theorem Dev.cqs_signal (cc v : Nat) : (d.signal cc v).cqs = d.cqs := by
  unfold Dev.signal
  dsimp only
  split
  · rfl
  · split <;> rfl

@[simp] theorem Dev.cqs_cause (cc v : Nat) (c : Cause) : (d.cause cc v c).cqs = d.cqs := by
  unfold Dev.cause
  dsimp only
  split
  · exact d.cqs_signal cc v
  · rfl

theorem Dev.cqs_deliver {f : Dev → Nat → Dev} (keeps : ∀ d cc, (f d cc).cqs = d.cqs) (cc v src node count subj time : Nat) :
    (d.deliver f cc v src node count subj time).cqs = d.cqs := by
  unfold Dev.deliver
  dsimp only
  split
  · split
    · exact keeps _ _
    · rfl
  · rw [Dev.cqs_cause, Dev.cqs_toHost]
    rfl

@[simp] theorem Dev.cqs_credit (src : Nat) (again : Bool) : (d.credit src again).cqs = d.cqs := by
  refine Dev.foldl_keeps Dev.cqs (fun d c => ?_) _ d
  dsimp only
  split
  · split <;> rfl
  · rfl

@[simp] theorem Dev.cqs_packetOn (p kind node : Nat) (bs : List Byte) (reserved : Bool) :
    (d.packetOn p kind node bs reserved).cqs = d.cqs := by
  change (d.spoil 0 p).2.cqs = d.cqs
  unfold Dev.spoil
  dsimp only
  split <;> rfl

@[simp] theorem Dev.cqs_sendOut (kind node : Nat) (bs : List Byte) (cmd : Option Hdr) (reserved : Bool) :
    (d.sendOut kind node bs cmd reserved).cqs = d.cqs := by
  unfold Dev.sendOut
  dsimp only
  split
  · exact d.cqs_packetOn _ _ _ _ _
  · split
    · exact d.cqs_packetOn _ _ _ _ _
    · split
      · rfl
      · split <;> rfl

@[simp] theorem Dev.cqs_mergeRaise (src subj c : Nat) : (d.mergeRaise src subj c).cqs = d.cqs := by
  unfold Dev.mergeRaise
  dsimp only
  simp only [Dev.cqs, Dev.modRing_host]
  split
  · rfl
  · refine Dev.foldl_keeps Dev.cqs (fun d o => ?_) _ d
    split
    · split
      · rfl
      · exact d.cqs_setMbs _ _
    · rfl

theorem Dev.cqs_raiseN (fuel src subj : Nat) : (d.raiseN fuel src subj).cqs = d.cqs := by
  induction fuel generalizing d src subj with
  | zero => rfl
  | succ fuel ih =>
    have noted : ((d.credit src (d.raisedNow.any (fun x => x.1 == src))).noteRaise src subj).cqs = d.cqs := d.cqs_credit src _
    unfold Dev.raiseN
    dsimp only
    split
    · exact noted
    · split
      · rw [Dev.cqs_mergeRaise, noted]
      · split
        · exact (Dev.foldl_keeps Dev.cqs (fun d cc => d.cqs_sendOut _ _ _ _ _) _ _).trans noted
        · exact (Dev.foldl_keeps Dev.cqs (fun d cc => d.cqs_deliver (fun d b => ih d _ b) _ _ _ _ _ _ _) _ _).trans noted

/-- An event leaves the completion rings alone. -/
@[simp] theorem Dev.cqs_raise (src subj : Nat) : (d.raise src subj).cqs = d.cqs := d.cqs_raiseN 4 src subj

@[simp] theorem Dev.cqs_landed (sq tag status : Nat) : (d.landed sq tag status).cqs = d.cqs := by
  rw [Dev.landed]
  split <;> rfl

/-- A completion is written: its ring's write index advances. -/
theorem Dev.find_cqs_cqWrite (q : Nat) (c : Cq) (x : Held) :
    ∃ full, AList.find (d.cqWrite q c x).cqs q = some { c with wr := c.wr + 1, full } := by
  refine ⟨{ c with wr := c.wr + 1 : Cq }.isFull, ?_⟩
  have written : (d.cqWrite q c x).cqs = (d.setCq q { c with wr := c.wr + 1, full := { c with wr := c.wr + 1 : Cq }.isFull }).cqs := by
    unfold Dev.cqWrite
    dsimp only
    split <;> split <;> simp
  rw [written]
  exact AList.find_put_self _ _ _

/-- What a release of held completions keeps of a ring: it takes them from the front, and each one taken advances the write index. -/
structure Cq.Releases (c c' : Cq) : Prop where
  suffix : c'.held <:+ c.held
  count : c'.wr + c'.held.length = c.wr + c.held.length
  head : c'.rd = c.rd

theorem Cq.releases_refl (c : Cq) : c.Releases c := ⟨List.suffix_refl _, rfl, rfl⟩

theorem Cq.Releases.trans {a b c : Cq} (hab : a.Releases b) (hbc : b.Releases c) : a.Releases c :=
  ⟨hbc.suffix.trans hab.suffix, hbc.count.trans hab.count, hbc.head.trans hab.head⟩

/-- One held completion is written. -/
theorem Cq.releases_write {c : Cq} {x : Held} {rest : List Held} (held : c.held = x :: rest) (full : Bool) :
    c.Releases { c with held := rest, wr := c.wr + 1, full } :=
  ⟨held ▸ List.suffix_cons x rest, by simp only [held, List.length_cons]; omega, rfl⟩

theorem Dev.cqRelease_releases {q : Nat} {c : Cq} (fuel : Nat) (ring : AList.find d.cqs q = some c) :
    ∃ c', AList.find (d.cqRelease fuel q).cqs q = some c' ∧ c.Releases c' := by
  induction fuel generalizing d c with
  | zero => exact ⟨c, ring, c.releases_refl⟩
  | succ fuel ih =>
    rw [Dev.cqRelease]
    simp only [ring]
    split
    next => exact ⟨c, ring, c.releases_refl⟩
    next x rest held =>
      split
      · exact ⟨c, ring, c.releases_refl⟩
      · split
        · refine ⟨{ c with stopped := true }, ?_, List.suffix_refl _, rfl, rfl⟩
          rw [Dev.cqStop, Dev.cqs_raise]
          exact AList.find_put_self _ _ _
        · obtain ⟨full, written⟩ := d.find_cqs_cqWrite q { c with held := rest } x
          obtain ⟨c', found, releases⟩ := ih _ written
          exact ⟨c', found, (Cq.releases_write held full).trans releases⟩
end

/-- Settles O56: a ring that cannot take an entry holds it (`Dev.cqPut`), and a release keeps the sum of the write index and the number held,
by induction on the number it may take. -/
theorem completionsAreNeverDropped : Obligations.CompletionsAreNeverDropped := by
  refine ⟨fun d q c x holds => if_pos holds, fun d q c x takes fails => ?_, fun q c s t ring release => ?_⟩
  · rw [Dev.cqPut, if_neg (by rw [takes]; exact Bool.false_ne_true), if_pos fails, Dev.cqStop]
  · injection release with state
    obtain ⟨c', found, suffix, count, head⟩ := s.dev.cqRelease_releases
      (match AList.find s.dev.host.cqs q with | some c => c.held.length | none => 0) ring
    exact ⟨c', state ▸ found, suffix, count, head⟩

end Sys2Proof.Machine
end

section
/-!
PROOFS. The statements of 12_host_commands.md: queries and register access (R342, R357), rings, owners and routes (R362 to R369), submission
(R343 to R353), and packets, slots, the fabric window and the SPI port (R336 to R340).
-/

namespace Sys2Proof.Machine

/- As above: one declaration after the other, for the joined text's memory. -/
set_option Elab.async false

/-! ### Queries of the system, register access, rings, owners and routes (R342, R357, R362 to R369) -/

/-- RING_CREATE that finds a free ID and index adds its ring. -/
theorem Dev.ringCreate_of_free {d : Dev} {h : Hdr} {b : List Byte} {q i : Nat} (noAxis : h.mask = 0) (reserved : ringReserved b = false)
    (port : d.atPort h = true) (id : (d.freeRing (byteAt b 16)).1 = some q)
    (index : d.freeLocal (byteAt b 16) (leAt b 17 2) (byteAt b 33) = some i) (good : d.ringBad b = false)
    (share : (byteAt b 16 == 0 && byteAt b 20 == 0 && d.fld (A.HOST_CLIENT (leAt b 17 2)) 17 8 == 0) = false) :
    d.ringCreate h b = (if byteAt b 16 = 0 then (d.freeRing (byteAt b 16)).2.setSq q
        { client := leAt b 17 2, loc := i, cls := byteAt b 20, cq := leAt b 22 2, base := leAt b 24 8, k := byteAt b 19 }
      else (d.freeRing (byteAt b 16)).2.newCq q
        { client := leAt b 17 2, loc := i, base := leAt b 24 8, k := byteAt b 19, vector := byteAt b 32 }).doneNow h Code.done
          [(16, 2, q), (18, 1, i)] := by
  refine (if_neg (by simp [noAxis, reserved, port])).trans ?_
  simp only [id, index]
  rw [if_neg (by simp [good]), if_neg (by simp [share])]

/-- Settles O1: each command is at acceptance what its own definition says, past the one test of its mask and parameters. The kind that
stands in result byte [16] is that of the first word that faults, the model's choice (notes/assumptions/89.md). -/
theorem systemQueriesAndRegisterCommands : Obligations.SystemQueriesAndRegisterCommands := by
  refine ⟨?_, ?_, ?_, ?_, ?_, ?_, ?_⟩
  · intro h s passed noAxis
    exact exec_eq_next_of_passed rfl passed (if_neg (not_not_intro noAxis))
  · intro h s passed noAxis running
    exact exec_eq_next_of_passed rfl passed (by simp only [Dev.identify, noAxis, running, ne_eq, not_true_eq_false, Bool.false_eq_true, if_false])
  · intro h s passed noAxis finial
    exact exec_eq_next_of_passed rfl passed (by simp only [Dev.identify, noAxis, finial, ne_eq, not_true_eq_false, if_false, if_true])
  · intro h offset words s passed noAxis valid clean
    exact exec_eq_next_of_passed rfl passed ((if_neg (by simp [noAxis, valid])).trans (if_pos clean))
  · intro h offset words s passed noAxis valid fault
    exact exec_eq_next_of_passed rfl passed ((if_neg (by simp [noAxis, valid])).trans (if_neg fault))
  · intro h offset words data s passed noAxis valid clean
    refine exec_eq_next_of_passed rfl passed ((if_neg (by simp [noAxis, valid])).trans ?_)
    simp only [clean, if_true]
  · intro h offset words data s passed noAxis valid fault
    refine exec_eq_next_of_passed rfl passed ((if_neg (by simp [noAxis, valid])).trans ?_)
    simp only [fault, if_false]

/-- Settles O2: each command passes the tests of its own definition one by one. An empty mask, which AX_OWN and AX_OBSERVE answer with
DONE and zeros, the masks CLIENT_CFG and EVENT_ROUTE take, and which ring ID is free are the model's choices (notes/assumptions/60.md,
95.md, 34.md). -/
theorem ringsOwnersAndRoutes : Obligations.RingsOwnersAndRoutes := by
  refine ⟨?_, ?_, ?_, ?_, ?_, ?_, ?_, ?_⟩
  · intro h b q i s passed noAxis valid port completion id index good
    refine exec_eq_next_of_passed rfl passed ?_
    rw [Dev.ringCreate_of_free noAxis valid port (by rw [completion, id]) (by rw [completion, index]) good (by simp [completion]), completion]
    rfl
  · intro h kind id s passed noAxis port completion nonzero there unused
    subst completion
    exact exec_eq_next_of_passed rfl passed ((if_neg (by simp [noAxis, port])).trans
      ((if_neg (by simp [nonzero]; simpa using unused)).trans (if_neg (by simp [there]))))
  · intro h kind id s passed noAxis port submission nonzero there unused
    subst submission
    exact exec_eq_next_of_passed rfl passed ((if_neg (by simp [noAxis, port])).trans
      ((if_neg (by simp [nonzero]; simpa using unused)).trans (if_neg (by simp [there]))))
  · intro h b q i s passed noAxis valid port submission id index good share
    refine exec_eq_next_of_passed rfl passed ?_
    rw [Dev.ringCreate_of_free noAxis valid port (by rw [submission, id]) (by rw [submission, index]) good
      (by rw [submission]; exact share), submission]
    rfl
  · intro h cc weight tcRate rate s passed client range port there isRate within
    subst isRate
    exact exec_eq_next_of_passed rfl passed ((if_neg (by simp [port, there]; omega)).trans (if_neg (Nat.not_lt.mpr within)))
  · intro h first count route s passed good
    refine exec_eq_next_of_passed rfl passed ?_
    simp only [Dev.eventRoute, Dev.eventRouteCheck, good, Bool.false_eq_true, if_false]
  · intro h owner orphan s passed client valid there free whole
    exact exec_eq_next_of_passed rfl passed ((if_neg (by simp [there]; omega)).trans
      ((if_neg (by simp [free])).trans (if_neg (by simp [whole]))))
  · intro h cc add s passed client valid there owned room whole
    exact exec_eq_next_of_passed rfl passed ((if_neg (by simp [there]; omega)).trans
      ((if_neg (by rw [owned]; decide)).trans ((if_neg (by rw [room]; decide)).trans (if_neg (by simp [whole])))))

/-! ### Submission, held completions, vectors, datagrams and frames (R343 to R353, R366, R367, R374, R426, R466) -/

/-- The entry a fetch reads: on SPI from ring memory, otherwise what the host answered (R343). -/
def Dev.entryAt (d : Dev) (x : Sq) (entry : List Byte) : List Byte :=
  if d.host.spi then d.mbs (0xE0000 + (x.base + 64 * (x.head % 2 ^ x.k)) % ringMemory) 64 else bytesAt entry 0 64

/-- The device once the entry at the head of ring `q` is taken (R343, R347, R366, R367): outside reserved capacity the lower classes that
wait are passed over, within it a token goes; the completion ring's writes succeed or fail from now on, and the head advances. -/
def Dev.fetched (d : Dev) (q : Nat) (x : Sq) (cqOk : Bool) : Dev :=
  (((if d.reserved x then d else d.passOver x.client x.cls).takeToken x).cqTakes x.cq cqOk).setSq q
    { x with head := x.head + 1, marks := x.marks.filter (fun m => decide (x.head + 1 < m.1)) }

/-- SUBMISSION_FETCH of a ring whose turn it is: whether the read succeeds, and whether a fence waits, decides. -/
theorem Dev.fetch_of_turn {d : Dev} {q : Nat} {x : Sq} {entry : List Byte} {readOk cqOk same : Bool} {data : Option (List Byte)}
    (ring : AList.find d.host.sqs q = some x) (ready : d.fetchable x = true)
    (turn : d.host.sqs.any (fun o => o.1 != q && d.goesBefore o.1 o.2 x) = false) :
    d.fetch q entry readOk cqOk data same =
      if (!readOk && !d.host.spi) = true then d.sqFail q x
      else if (nbit 0 (byteAt (d.entryAt x entry) 2) && d.host.inflight.any (fun f => f.sq == q)) = true then d
      else (d.fetched q x cqOk).submit (hdrOf (d.entryAt x entry) x.client (d.fetched q x cqOk).entryPort q) (d.entryAt x entry)
        (2 ^ 32 * x.mark + x.head) ((d.fetched q x cqOk).paramData (d.entryAt x entry) data) same (d.reserved x) := by
  simp only [Dev.fetch, ring]
  exact if_neg (by rw [ready, turn]; decide)

/-- A frame whose body is good is submitted as CC0's. -/
theorem Dev.finialSubmit_of_body {d : Dev} {rest body : List Byte} {type len : Nat} (finial : d.upd.finial = true)
    (running : d.running = true) (booted : d.sys.mode ≠ .booting) (good : d.finialBody (d.finialFrame rest).1 type len = some body) :
    d.finialSubmit rest type len =
      ((d.finialFrame rest).2.modHost (fun q => { q with nextOrd := q.nextOrd + 1 })).submit (hdrOf (body.take 64) 0 .pcie finialSq)
        (body.take 64) (2 ^ 32 * d.host.nextOrd) (if len = 64 then none else some (body.drop 64)) true := by
  refine (if_neg (by simp [finial, running, booted])).trans ?_
  simp only [good]

/-- A frame that is not good leaves none in reception. -/
theorem Dev.finialSubmit_of_no_body {d : Dev} {rest : List Byte} {type len : Nat} (finial : d.upd.finial = true)
    (running : d.running = true) (booted : d.sys.mode ≠ .booting) (bad : d.finialBody (d.finialFrame rest).1 type len = none) :
    d.finialSubmit rest type len = d.modUpd (fun u => { u with frame := [] }) := by
  refine (if_neg (by simp [finial, running, booted])).trans ?_
  simp only [bad]
  rfl

section
variable {d : Dev} {p src sp : Nat} {data : List Byte} {reads : List (Option (List Byte) × Bool)}

/-- A datagram for the port in use that no binding takes is dropped and counted. -/
theorem Dev.udpDatagram_of_unbound (served : d.ringsServed = true) (on : d.rb A.HOST_UDP_CFG 16 = true)
    (port : d.fld A.HOST_UDP_CFG 17 17 = p) (unbound : d.udpMatch src (leAt data 4 2) = none) :
    d.udpDatagram p src sp data reads =
      (d.wr A.HOST_UDP_DROPS (BitVec.ofNat 32 (sat 0xFFFFFFFF ((d.rd A.HOST_UDP_DROPS).toNat + 1)))).raise Ev.udpDrop := by
  have on : bit 16 (d.rd A.HOST_UDP_CFG) = true := on
  have port : field 17 17 (d.rd A.HOST_UDP_CFG) = p := port
  simp only [Dev.udpDatagram, served, on, port, unbound, bne_self_eq_false, Bool.not_true, Bool.or_false, Bool.false_eq_true, if_false]

/-- A good one that a binding takes queues its entries. -/
theorem Dev.udpDatagram_of_bound {b : Nat} (served : d.ringsServed = true) (on : d.rb A.HOST_UDP_CFG 16 = true)
    (port : d.fld A.HOST_UDP_CFG 17 17 = p) (bound : d.udpMatch src (leAt data 4 2) = some b)
    (good : ¬ (leAt data 0 2 ≠ 0x4253 ∨ byteAt data 2 ≠ 1 ∨ byteAt data 3 < 1 ∨ 16 < byteAt data 3 ∨
      data.length ≠ 8 + 64 * byteAt data 3)) :
    d.udpDatagram p src sp data reads = (d.modHost (fun q => { q with
        nextOrd := q.nextOrd + 1
        udpPeer := AList.put q.udpPeer b (sp, leAt data 6 2)
        udpQueue := q.udpQueue ++ (List.range (byteAt data 3)).map (fun i =>
          { binding := b, bytes := bytesAt data (8 + 64 * i) 64, ord := 2 ^ 32 * d.host.nextOrd + i,
            data := (reads.getD i (none, true)).1, keepSame := (reads.getD i (none, true)).2 }) })).udpPump := by
  have on : bit 16 (d.rd A.HOST_UDP_CFG) = true := on
  have port : field 17 17 (d.rd A.HOST_UDP_CFG) = p := port
  simp only [Dev.udpDatagram, served, on, port, bound, good, bne_self_eq_false, Bool.not_true, Bool.or_false, Bool.false_eq_true, if_false]
end

/-- TICK_CFG_APPLIED with a change pending: time moves to the earliest, and what is due takes effect. -/
theorem Dev.tickCfgApplied_of_pending {d : Dev} {t : Nat} (root : Option Nat)
    (first : (d.sys.pending.toList.map (·.at_) ++ d.sys.rootPending.toList.map (·.2)).min? = some t) :
    d.tickCfgApplied root = (let d := d.advanceTo (d.time.edge t)
      (if d.sys.tick * d.loopPeriod < t then d.closeTick else d).tickChanges t) := by
  cases here : d.sys.pending with
  | none =>
    cases there : d.sys.rootPending with
    | none => simp [here, there] at first
    | some r =>
      rw [here, there] at first
      simp only [Dev.tickCfgApplied, here, there]
      rw [show ([] ++ [r.2] : List Nat).min? = some t from first]
  | some p =>
    cases there : d.sys.rootPending with
    | none =>
      rw [here, there] at first
      simp only [Dev.tickCfgApplied, here, there]
      rw [show ([p.at_] ++ [] : List Nat).min? = some t from first]
    | some r =>
      rw [here, there] at first
      simp only [Dev.tickCfgApplied, here, there]
      rw [show ([p.at_] ++ [r.2] : List Nat).min? = some t from first]

/-- Settles O26: each event is its own definition at the branch its conditions name. That a fenced entry waits for those before it, that
Finial answers one command at a time, host memory failures as operands, and what a fetch counts in which order are the model's choices
(notes/assumptions/63.md, 68.md, 92.md, 172.md). -/
theorem submissionAndCompletion : Obligations.SubmissionAndCompletion := by
  refine ⟨?_, ?_, ?_, ?_, ?_, ?_, ?_, ?_, ?_, ?_, ?_, ?_, ?_, ?_, ?_⟩
  · intro q x entry readOk cqOk data same s ring ready turn read fence
    exact exec_eq_next_of_effect rfl ((Dev.fetch_of_turn ring ready turn).trans
      ((if_neg (by rw [read]; decide)).trans (if_neg (by rw [Dev.entryAt, fence]; decide))))
  · intro q x entry readOk cqOk data same s ring ready turn read fence
    exact exec_eq_next_of_effect rfl ((Dev.fetch_of_turn ring ready turn).trans
      ((if_neg (by rw [read]; decide)).trans (if_pos fence)))
  · intro q x entry readOk cqOk data same s ring ready turn failed
    exact exec_eq_next_of_effect rfl ((Dev.fetch_of_turn ring ready turn).trans (if_pos failed))
  · intro q c s ring
    refine exec_eq_next_of_effect rfl ?_
    simp only [ring]
  · intro s
    exact exec_eq_next_of_effect rfl rfl
  · intro cc v s causes
    exact exec_eq_next_of_effect rfl (if_neg (by rw [causes]; decide))
  · intro cc v s waits
    exact exec_eq_next_of_effect rfl (if_pos waits)
  · intro p src sp data reads s served on port unbound
    exact exec_eq_next_of_effect rfl (Dev.udpDatagram_of_unbound served on port unbound)
  · intro p src sp b data reads s served on port bound magic version least most length
    exact exec_eq_next_of_effect rfl (Dev.udpDatagram_of_bound served on port bound (by simp [magic, version, length]; omega))
  · intro rest body s finial running booted good
    exact exec_eq_next_of_effect rfl (Dev.finialSubmit_of_body finial running booted good)
  · intro rest s finial running booted noEntry noBlock
    exact ⟨exec_eq_next_of_effect rfl (Dev.finialSubmit_of_no_body finial running booted noEntry),
      exec_eq_next_of_effect rfl (Dev.finialSubmit_of_no_body finial running booted noBlock)⟩
  · intro rest body s finial running booted good
    exact exec_eq_next_of_effect rfl (Dev.finialSubmit_of_body finial running booted good)
  · intro s finial frame
    exact exec_eq_next_of_effect rfl (if_neg (by rw [finial, frame]; decide))
  · intro t root s first
    exact exec_eq_next_of_effect rfl (Dev.tickCfgApplied_of_pending root first)
  · intro ft s none_ noRoot leaf range
    refine exec_eq_next_of_effect rfl ?_
    simp only [Dev.tickCfgApplied, none_, noRoot]
    exact if_neg (by simp [leaf, range])

/-! ### Packets, slots, the fabric window and the SPI port (R336 to R340, R371, R398, R400) -/

/-- A slot that is not used changes nothing, whether the device runs or not. -/
theorem Dev.cyclicSlot_of_unused {d : Dev} {c : SlotIn} (unused : d.cyclicSlot c = d) :
    (if d.running then d.cyclicSlot c else d) = d := by
  rw [unused, ite_self]

section
variable {d : Dev} {f : List Byte} {token : Bool}

/-- An SPI frame whose CRC or header is bad: the CRC is judged first. -/
theorem Dev.spiWrite_of_bad (runs : d.spiRuns = true) (whole : 7 + 4 * spiWords f ≤ f.length)
    (bad : (!crcFollows f (5 + 4 * spiWords f) || spiHeaderBad f 1) = true) :
    d.spiWrite f = if crcFollows f (5 + 4 * spiWords f) then (d.spiErr 1).emit (.spi [0xE2]) else (d.spiErr 0).emit (.spi [0xE1]) := by
  refine (if_neg (by simp [runs, whole])).trans ?_
  cases crc : crcFollows f (5 + 4 * spiWords f) with
  | false => rfl
  | true => exact if_pos (by simpa [crc] using bad)

theorem Dev.spiRead_of_bad (runs : d.spiRuns = true) (whole : 7 ≤ f.length) (bad : (!crcFollows f 5 || spiHeaderBad f 2) = true) :
    d.spiRead f token = if crcFollows f 5 then (d.spiErr 1).emit (.spi [0xFF]) else (d.spiErr 0).emit (.spi [0xFF]) := by
  refine (if_neg (by simp [runs, whole])).trans ?_
  cases crc : crcFollows f 5 with
  | false => rfl
  | true => exact if_pos (by simpa [crc] using bad)

/-- A read frame with a good CRC and header: what is left is whether its token came. -/
theorem Dev.spiRead_of_good (runs : d.spiRuns = true) (whole : 7 ≤ f.length) (crc : crcFollows f 5 = true)
    (header : spiHeaderBad f 2 = false) :
    d.spiRead f token = if !token then d.spiErr 2 else
      let x := d.readWords spiReq (spiWords f) (leAt f 1 3)
      let bytes := (0xA5 : Byte) :: wordsLe x.1
      x.2.2.emit (.spi (bytes ++ leBytes 2 (crc16 bytes))) :=
  (if_neg (by simp [runs, whole])).trans ((if_neg (by simp [crc])).trans (if_neg (by simp [header])))
end

/-- Settles O28: each arrival is its own definition at the branch its conditions name. That the CRC is judged before the header, the
answer 0xFF to a bad read header, and the lengths of the payloads are the model's choices (notes/assumptions/69.md, 35.md). -/
theorem ringPackets : Obligations.RingPackets := by
  refine ⟨?_, ?_, ?_, ?_, ?_, ?_, ?_, ?_, ?_, ?_, ?_, ?_, ?_, ?_, ?_, ?_, ?_, ?_⟩
  · intro src b data same s onRing booted length here range other
    exact exec_eq_next_of_effect rfl (if_neg (by simp [onRing, booted, length, here, range, other]))
  · intro node b f s asked onRing length
    refine exec_eq_next_of_effect rfl ?_
    simp only [Dev.completionPacket, asked]
    exact if_neg (by simp [onRing, length])
  · intro node b s onRing attached length present client
    exact exec_eq_next_of_effect rfl (if_neg (by simp [onRing, attached, length, present, client]))
  · intro src addr width v s onRing space
    refine ⟨exec_eq_next_of_effect rfl ?_, exec_eq_next_of_effect rfl (if_neg (by simp [onRing, space]))⟩
    simp only [onRing, Dev.spaceRead, if_neg (Nat.not_le.mpr space)]
    rfl
  · intro node addr v s onRing waits
    exact exec_eq_next_of_effect rfl (if_neg (by rw [onRing, waits]; decide))
  · intro node b s running crc first
    exact exec_eq_next_of_effect rfl ((if_pos running).trans (if_neg (by simp only [crc, first]; simp)))
  · intro home node g i n b s running crc first
    exact exec_eq_next_of_effect rfl ((if_pos running).trans (if_neg (by simp only [crc, first]; simp)))
  · intro node b s crc
    exact exec_eq_next_of_effect rfl (Dev.cyclicSlot_of_unused (if_pos (.inl crc)))
  · intro home node g i n b s crc
    exact exec_eq_next_of_effect rfl (Dev.cyclicSlot_of_unused (if_pos (.inl crc)))
  · intro node b s crc
    exact exec_eq_next_of_effect rfl (if_neg (not_not_intro crc))
  · intro addr v s pcie here range
    have entry : ¬ (!s.dev.pcie || decide (63 < addr / 2 ^ 24)) = true := by simp [pcie]; omega
    exact ⟨exec_eq_next_of_effect rfl ((if_neg entry).trans (if_pos here)), exec_eq_next_of_effect rfl ((if_neg entry).trans (if_pos here))⟩
  · intro addr v s pcie other range gone
    have entry : ¬ (!s.dev.pcie || decide (63 < addr / 2 ^ 24)) = true := by simp [pcie]; omega
    exact ⟨exec_eq_next_of_effect rfl ((if_neg entry).trans ((if_neg other).trans (if_pos gone))),
      exec_eq_next_of_effect rfl ((if_neg entry).trans ((if_neg other).trans (if_pos gone)))⟩
  · intro addr v s pcie other range present path
    have entry : ¬ (!s.dev.pcie || decide (63 < addr / 2 ^ 24)) = true := by simp [pcie]; omega
    have carried : ¬ (!s.dev.present (addr / 2 ^ 24) || s.dev.noPath) = true := by rw [present, path]; decide
    exact ⟨exec_eq_next_of_effect rfl ((if_neg entry).trans ((if_neg other).trans (if_neg carried))),
      exec_eq_next_of_effect rfl ((if_neg entry).trans ((if_neg other).trans (if_neg carried)))⟩
  · intro f s runs whole crc header
    exact exec_eq_next_of_effect rfl ((if_neg (by simp [runs, whole])).trans ((if_neg (by simp [crc])).trans (if_neg (by simp [header]))))
  · intro f s runs whole bad
    exact exec_eq_next_of_effect rfl (Dev.spiWrite_of_bad runs whole bad)
  · intro f token s runs whole bad
    exact exec_eq_next_of_effect rfl (Dev.spiRead_of_bad runs whole bad)
  · intro f s runs whole crc header
    exact ⟨exec_eq_next_of_effect rfl (Dev.spiRead_of_good runs whole crc header),
      exec_eq_next_of_effect rfl (Dev.spiRead_of_good runs whole crc header)⟩
  · intro s runs
    exact exec_eq_next_of_effect rfl (if_pos runs)

end Sys2Proof.Machine
end

section
/-!
PROOFS. The statements of 13_clients_events_dma.md: client resets and PCIe (R375 to R378), and the DMA engine (R380 to R390).
-/

namespace Sys2Proof.Machine

/- As above: one declaration after the other, for the joined text's memory. -/
set_option Elab.async false

/-! ### Client resets and PCIe (R337, R360, R375 to R378) -/

section
variable {d : Dev} {speed width : Nat}

/-- A link that comes up, at a speed and width there are. -/
theorem Dev.linkChange_up (pcie : d.pcie = true) (isSpeed : speed ∈ [1, 2, 3]) (isWidth : width ∈ [1, 2, 4]) (down : d.host.linkUp = false) :
    d.linkChange true speed width = ((d.modHost (fun q =>
      { q with linkUp := true, speed := speed, width := width, downSince := none })).raise Ev.hostLinkChange).becomeRoot := by
  have valid : ((speed == 1 || speed == 2 || speed == 3) && (width == 1 || width == 2 || width == 4)) = true := by
    simpa [or_assoc] using And.intro isSpeed isWidth
  exact if_neg (by simp only [pcie, valid, down, if_true]; simp)

/-- A link that goes down, with the time it did. -/
theorem Dev.linkChange_down (pcie : d.pcie = true) (up : d.host.linkUp = true) :
    d.linkChange false speed width = (d.modHost (fun q =>
      { q with linkUp := false, speed := 0, width := 0, downSince := some d.time.cnt })).raise Ev.hostLinkChange := by
  refine (if_neg (by simp [pcie, up])).trans ?_
  simp only [Dev.modHost, up, Bool.false_eq_true, if_false, if_true]
end

/-- Settles O7: each event is its own definition at the branch its conditions name. That a cut reaches a node without a host port by no
packet, and that a reset acts at its cut in the frame tick, are the model's choices (notes/assumptions/93.md, 94.md). -/
theorem clientResetsAndPcie : Obligations.ClientResetsAndPcie := by
  refine ⟨?_, ?_, ?_, ?_, ?_, ?_, ?_, ?_, ?_, ?_, ?_, ?_, ?_, ?_⟩
  · intro h cc s passed checked
    refine exec_eq_next_of_passed rfl passed ?_
    simp only [Dev.clientReset, checked]
  · intro r s running reset uncut due
    refine exec_eq_next_of_effect rfl ((if_neg (by simp [running])).trans ?_)
    simp only [reset]
    exact if_neg (by simp [uncut, due])
  · intro cc s running noReset unattached
    refine exec_eq_next_of_effect rfl ((if_neg (by simp [running])).trans ?_)
    simp only [noReset]
    exact if_neg (by simp [unattached])
  · intro cc r s running reset
    refine exec_eq_next_of_effect rfl ((if_pos running).trans ?_)
    cases command : r.cmd with
    | none => simp only [Dev.clientResetEnd, reset, command]
    | some h => simp only [Dev.clientResetEnd, reset, command]
  · intro cc s pcie client virtual
    exact exec_eq_next_of_effect rfl ((if_neg (by simp [pcie, client])).trans (if_neg virtual))
  · intro s pcie client
    exact exec_eq_next_of_effect rfl ((if_neg (by simp [pcie, client])).trans (if_pos rfl))
  · intro s pcie
    exact exec_eq_next_of_effect rfl (if_pos pcie)
  · intro t s pcie down
    refine exec_eq_next_of_effect rfl ?_
    simp only [down]
    exact if_pos pcie
  · intro speed width s pcie isSpeed isWidth down
    exact exec_eq_next_of_effect rfl (Dev.linkChange_up pcie isSpeed isWidth down)
  · intro speed width s pcie up
    exact exec_eq_next_of_effect rfl (Dev.linkChange_down pcie up)
  · intro n s noSpi running noFinial range more
    exact exec_eq_next_of_effect rfl (if_neg (by rw [noSpi, running, noFinial, more]; simp [range]))
  · intro enable n s noSpi running some_
    exact exec_eq_next_of_effect rfl (if_neg (by simp [noSpi, running, some_]))
  · intro r a s
    exact exec_eq_next_of_effect rfl rfl
  · intro r a s
    exact exec_eq_next_of_effect rfl rfl

/-! ### The DMA engine (R380 to R390) -/

/-- A descriptor with no flag but that of the event: between host addresses, without write-back. -/
theorem Desc.has_of_event_only {x : Desc} (flags : x.flags = 32) (i : Nat) : x.has i = decide (i = 5) := by
  rw [Desc.has, nbit, flags, show (32 : Nat) = 2 ^ 5 from rfl, Nat.testBit_two_pow]
  exact decide_eq_decide.mpr eq_comm

/-- Such a descriptor breaks neither R382 nor R380's rule for a local source. -/
theorem Desc.fits_of_event_only {x : Desc} (flags : x.flags = 32) : (x.skew || !x.sourceOk) = false := by
  simp [Desc.skew, Desc.sourceOk, Desc.has_of_event_only flags]

section
variable {d : Dev} {c : Nat} {desc data : List Byte}

theorem Dev.dmaRun_of_bad (bad : (descReserved desc || (descOf desc).skew || !(descOf desc).sourceOk) = true) :
    d.dmaRun c desc data = (d.dmaPace c 0).dmaFault c 0 := by
  simp only [Dev.dmaRun, bad, if_true]

/-- A descriptor between host addresses moves its bytes at its end. -/
theorem Dev.dmaRun_of_event_only (reserved : descReserved desc = false) (pcie : d.host.spi = false) (flags : (descOf desc).flags = 32) :
    d.dmaRun c desc data =
      (let d := (d.dmaPace c (descOf desc).len).hostPut (descOf desc).dst (bytesAt data 0 (descOf desc).len)
      ((d.modCh c (fun y => { y with head := (y.head + 1) % 2 ^ d.fld (A.DMA_CH_CFG c) 7 4, pos := 0 })).incSat (A.DMA_CH_STATUS c) 31
        16).raise Ev.dmaDescIrq c) := by
  have good : (descReserved desc || (descOf desc).skew || !(descOf desc).sourceOk) = false := by
    rw [Bool.or_assoc, reserved, Desc.fits_of_event_only flags]; rfl
  have pcie (n : Nat) : (d.dmaPace c n).host.spi = false := pcie
  simp only [Dev.dmaRun, good, Dev.dmaFetch, Dev.dmaPlace, Desc.has_of_event_only flags, pcie, Nat.reduceEqDiff, decide_false, decide_true,
    Bool.false_eq_true, Bool.or_self, Bool.false_and, Bool.not_false, if_false, if_true, OfNat.zero_ne_ofNat, OfNat.one_ne_ofNat]
end

/-- A ready channel that needs no trigger runs the descriptor at its head. -/
theorem exec_dmaDescriptorEnd_untriggered {c : Nat} {desc data : List Byte} {s : State} {e : Dev} (running : s.dev.running = true)
    (ready : s.dev.dmaReady c = true) (plain : s.dev.rb (A.DMA_CH_TRIG c) 15 = false) (runs : s.dev.dmaRun c desc data = e) :
    exec (.dmaDescriptorEnd c desc data) s = .next { s with dev := e.settle } := by
  refine exec_eq_next_of_effect rfl ((if_neg (by rw [running, ready]; decide)).trans ?_)
  simp only [plain, Bool.false_eq_true, if_false]
  exact runs

/-- Settles O32: a descriptor is `Dev.dmaRun` of a ready channel, and the engine's own events are their definitions at the branch their
conditions name. That a descriptor is moved whole at its end, and its pace, are the model's choices (notes/assumptions/126.md). -/
theorem dmaEngine : Obligations.DmaEngine := by
  refine ⟨?_, ?_, ?_, ?_, ?_, ?_, ?_⟩
  · intro c desc data s running ready plain
    exact exec_dmaDescriptorEnd_untriggered running ready plain rfl
  · intro c desc data s running ready triggered
    refine exec_eq_next_of_effect rfl ((if_neg (by rw [running, ready]; decide)).trans ?_)
    simp only [triggered, if_true]
  · intro c desc data s running ready plain bad
    exact exec_dmaDescriptorEnd_untriggered running ready plain (Dev.dmaRun_of_bad bad)
  · intro c desc data s running ready plain reserved pcie flags
    exact exec_dmaDescriptorEnd_untriggered running ready plain (Dev.dmaRun_of_event_only reserved pcie flags)
  · intro k o s least most outstanding
    exact exec_eq_next_of_effect rfl (if_neg (by rw [outstanding]; simp; omega))
  · intro c k s probing
    constructor
    · refine exec_eq_next_of_effect rfl ?_
      simp only [Dev.dmaProbeEnd, probing, if_true]
    · refine exec_eq_next_of_effect rfl ?_
      simp only [Dev.dmaProbeEnd, probing, Bool.false_eq_true, if_false]
  · intro t s hold
    refine exec_eq_next_of_effect rfl ?_
    simp only [hold]

end Sys2Proof.Machine
end

section
/-!
PROOFS. The statements of 14_spire_ring_time.md: the ring's links, map, roles and commands (R399 to R415), and fabric time (R417 to R428).
-/

namespace Sys2Proof.Machine

/- As above: one declaration after the other, for the joined text's memory. -/
set_option Elab.async false

/-! ### Links of the ring (R406, R407, R410, R419) -/

/-- Settles O27: each event of a link is its own definition in the link state its condition names. -/
theorem ringLinks : Obligations.RingLinks := by
  refine ⟨?_, ?_, ?_, ?_, ?_, ?_, ?_, ?_, ?_⟩
  · intro p s live
    exact exec_eq_next_of_effect rfl (if_neg (by simp [live]))
  · intro p s down
    exact exec_eq_next_of_effect rfl (if_pos down)
  · intro p s training
    exact exec_eq_next_of_effect rfl (if_pos training)
  · intro p s calibrating
    exact exec_eq_next_of_effect rfl (if_neg (by omega))
  · intro p s up
    exact exec_eq_next_of_effect rfl (if_pos up)
  · intro p s coming
    exact exec_eq_next_of_effect rfl (if_pos coming)
  · intro p t1 t2 t3 t4 s
    exact exec_eq_next_of_effect rfl rfl
  · intro fi s frame monitor0 monitor1
    refine exec_eq_next_of_effect rfl ?_
    simp only [frame]
    exact if_neg (by simp [monitor0, monitor1])
  · intro fi s frame down
    refine exec_eq_next_of_effect rfl ?_
    simp only [frame]
    exact if_pos down

/-! ### The map, joining, bypass and loss (R402, R405, R409 to R414) -/

/-- Settles O29: each event is its own definition at the branch its conditions name. The contents of a discover packet
and the roles in the ring are the model's choices (notes/assumptions/27.md, 115.md). -/
theorem ringMapAndRoles : Obligations.RingMapAndRoles := by
  refine ⟨?_, ?_, ?_, ?_, ?_, ?_, ?_, ?_, ?_, ?_, ?_, ?_, ?_⟩
  · intro b s root discovering
    exact exec_eq_next_of_effect rfl ((if_pos root).trans (if_pos discovering))
  · intro b s leaf running
    exact exec_eq_next_of_effect rfl ((if_neg (by simp [leaf])).trans (if_pos running))
  · intro id s leaf running
    exact exec_eq_next_of_effect rfl (if_pos (by simp [leaf, running]))
  · intro m delay s leaf
    exact exec_eq_next_of_effect rfl (if_neg (by simp [leaf]))
  · intro uid hops id s root isId fresh_ inactive
    subst isId
    refine exec_eq_next_of_effect rfl ((if_neg (by simp [root])).trans ?_)
    cases known : s.dev.idOf uid with
    | none =>
      rw [known] at fresh_ inactive
      exact if_neg (by simpa using ⟨fresh_, inactive⟩)
    | some i =>
      rw [known] at fresh_ inactive
      exact if_neg (by simpa using ⟨fresh_, inactive⟩)
  · intro s sent unanswered
    exact exec_eq_next_of_effect rfl (if_pos (by simp [sent, unanswered]))
  · intro id fi s ready outside
    exact exec_eq_next_of_effect rfl (if_pos (by simp [ready, outside]))
  · intro node s root ok other standby
    exact exec_eq_next_of_effect rfl ((if_pos rfl).trans ((if_neg (by simp [root])).trans (if_pos (by simp [ok, other, standby]))))
  · intro node s root refused
    refine exec_eq_next_of_effect rfl ((if_pos rfl).trans ((if_neg (by simp [root])).trans (if_neg ?_)))
    rcases refused with h | h | h <;> simp [h]
  · intro node answer s given asked
    exact exec_eq_next_of_effect rfl ((if_neg given).trans (if_pos asked))
  · intro node s root active missed other
    exact exec_eq_next_of_effect rfl (if_neg (by simp [root, active, other, missed]))
  · intro s leaf standby missed
    exact exec_eq_next_of_effect rfl (if_neg (by simp [leaf, standby, missed]))
  · intro s leaf inside connected missed
    exact exec_eq_next_of_effect rfl (if_neg (by simp [leaf, inside, connected, missed]))

/-! ### The commands of the ring (R399, R402, R410, R411, R415, R428) -/

/-- FAB_INSERT with some node to insert. -/
theorem Dev.fabInsert_of_some {d : Dev} {h : Hdr} {id : Nat} {ids : List Nat} (root : d.fabCheck h = false)
    (range : id < 64 ∨ id = 0xFF) (named : (if id = 0xFF then d.nodesIn 4 else if (d.nodeSt id).state = 4 then [id] else []) = ids)
    (some_ : ids.isEmpty = false) :
    d.fabInsert h id = (d.joinStart h ids.length).each ids (fun d i => d.orderInsert i (some h)) := by
  subst named
  exact (if_neg (by simp [root]; omega)).trans (if_neg (by rw [some_]; decide))

/-- FAB_STANDBY that names a node with a host, or none without a handover. -/
theorem Dev.fabStandby_of_node {d : Dev} {h : Hdr} {id handover : Nat} (root : d.fabCheck h = false) (range : id < 64)
    (host : (d.nodeSt id).host = true) (other : id ≠ d.node) (valid : handover < 2) :
    d.fabStandby h id handover = if handover = 1 then d.modRing (fun r => { r with standby := some id, handover := some h })
      else (d.modRing (fun r => { r with standby := some id })).doneAt h Code.done [(16, 1, id), (17, 1, d.node)] := by
  have named : ¬ id = 0xFF := by omega
  refine (if_neg (by simp [root, valid]; omega)).trans ((if_neg (by simp [host, other])).trans ((if_neg (by simp [named])).trans ?_))
  simp only [named, if_false]
  rfl

/-- Settles O30: each command passes the tests of its own definition one by one. The mode FAB_REMOVE judges is the one the target's status
slot reports, the model's choice (notes/assumptions/28.md). -/
theorem fabricCommands : Obligations.FabricCommands := by
  refine ⟨?_, ?_, ?_, ?_, ?_, ?_, ?_, ?_, ?_, ?_, ?_⟩
  · intro h r s passed root renumber
    refine exec_eq_next_of_passed rfl passed ((if_neg (by simp [root]; omega)).trans (if_neg ?_))
    rcases renumber with none_ | ⟨-, configure⟩
    · simp [none_]
    · simp [configure]
  · intro h id s passed root range joining
    exact exec_eq_next_of_passed rfl passed (Dev.fabInsert_of_some (ids := [id]) root (.inl range)
      (by rw [if_neg (by omega), if_pos joining]) rfl)
  · intro h s passed root joining
    exact exec_eq_next_of_passed rfl passed (Dev.fabInsert_of_some root (.inr rfl) (if_pos rfl) joining)
  · intro h id s passed root range present known other standby run inspection degraded ok
    exact exec_eq_next_of_passed rfl passed ((if_neg (by simp [root, range])).trans ((if_neg (by simp [present, known])).trans
      ((if_neg (by simp [other, standby, run, inspection, degraded])).trans (if_neg (by simp [ok])))))
  · intro h s passed root
    exact exec_eq_next_of_passed rfl passed (if_neg (by simp [root]))
  · intro h id s passed root range host other
    exact exec_eq_next_of_passed rfl passed (Dev.fabStandby_of_node root range host other (by decide))
  · intro h id s passed root range host other
    exact exec_eq_next_of_passed rfl passed (Dev.fabStandby_of_node root range host other (by decide))
  · intro h s passed root
    exact exec_eq_next_of_passed rfl passed (if_neg (by simp [root]))
  · intro h s passed root
    exact exec_eq_next_of_passed rfl passed (if_neg (by simp [root]))
  · intro h s passed root configure
    exact exec_eq_next_of_passed rfl passed ((if_neg (by simp [root])).trans (if_neg (by simp [configure])))
  · intro h s passed noAxis
    exact exec_eq_next_of_passed rfl passed (if_neg (not_not_intro noAxis))

/-! ### Fabric time, PTP and the time commands (R397, R420 to R425, R428) -/

/-- Where a start marker has moved time to: its arrival, or the next loop tick if that comes first. -/
def Dev.atMarker (d : Dev) (m : MarkerIn) : Dev :=
  d.advanceTo (min (m.stamp / 512) (d.time.edge ((d.sys.tick + 1) * d.loopPeriod)))

/-- What a valid marker that polls has a joiner do (R409): it sends its request, or lets the poll pass. -/
def Dev.joinPoll (d : Dev) : Dev :=
  if d.ring.joinSkip = 0 then (d.modRing (fun r => { r with joinSent := true })).sendOut 0x12 0xFF (d.uid ++ List.replicate 28 0)
  else d.modRing (fun r => { r with joinSkip := r.joinSkip - 1 })

section
variable {d : Dev} {m : MarkerIn}

theorem Dev.startMarker_of_leaf {ok : Bool} (running : d.running = true) (leaf : d.isRoot = false)
    (isOk : (!m.codeErr && leAt m.bytes 28 4 == crc32c (bytesAt m.bytes 1 27)) = ok) :
    d.startMarker m =
      (let d := d.atMarker m
      let d := if ok && !d.time.markerSeen then (d.markerFlags m).markerTime (d.markerErr m) else d
      let d := if d.rb A.FAB_STATUS 11 then d.passOn m ok else d
      if ok && nbit 0 (byteAt m.bytes 3) && !nbit 0 (byteAt m.bytes 1) && d.ring.ready && !d.rb A.FAB_STATUS 11 && d.ring.insertAt.isNone then
        d.joinPoll
      else d) := by
  subst isOk
  exact (if_neg (by simp [running])).trans (if_neg (by simp [leaf]))

/-- The first valid marker of a frame is used for flags and time. -/
theorem Dev.startMarker_of_first (running : d.running = true) (leaf : d.isRoot = false) (first : d.time.markerSeen = false)
    (clean : m.codeErr = false) (crc : leAt m.bytes 28 4 = crc32c (bytesAt m.bytes 1 27)) :
    d.startMarker m =
      (let d := d.atMarker m
      let d := (d.markerFlags m).markerTime (d.markerErr m)
      let d := if d.rb A.FAB_STATUS 11 then d.passOn m true else d
      if nbit 0 (byteAt m.bytes 3) && !nbit 0 (byteAt m.bytes 1) && d.ring.ready && !d.rb A.FAB_STATUS 11 && d.ring.insertAt.isNone then
        d.joinPoll
      else d) := by
  have first : (d.atMarker m).time.markerSeen = false := first
  rw [Dev.startMarker_of_leaf running leaf (by simp [clean, crc] : _ = true)]
  simp only [first, Bool.not_false, Bool.and_true, Bool.true_and, if_true]

/-- A marker inside the ring that is not used is passed on. -/
theorem Dev.startMarker_of_unused (running : d.running = true) (leaf : d.isRoot = false)
    (unused : d.time.markerSeen = true ∨ m.codeErr = true ∨ leAt m.bytes 28 4 ≠ crc32c (bytesAt m.bytes 1 27))
    (inside : d.rb A.FAB_STATUS 11 = true) :
    d.startMarker m = (d.atMarker m).passOn m (!m.codeErr && leAt m.bytes 28 4 == crc32c (bytesAt m.bytes 1 27)) := by
  rw [Dev.startMarker_of_leaf running leaf rfl]
  have skipped : ¬ ((!m.codeErr && leAt m.bytes 28 4 == crc32c (bytesAt m.bytes 1 27)) && !(d.atMarker m).time.markerSeen) = true := by
    rcases unused with seen | broken | crc
    · have seen : (d.atMarker m).time.markerSeen = true := seen
      simp [seen]
    · simp [broken]
    · simp [crc]
  have inside : (d.atMarker m).rb A.FAB_STATUS 11 = true := inside
  have passed (ok : Bool) : ((d.atMarker m).passOn m ok).rb A.FAB_STATUS 11 = true := inside
  simp only [skipped, inside, passed, if_true, Bool.not_true, Bool.and_false, Bool.false_and, Bool.false_eq_true, if_false]

/-- A joiner outside the ring answers a valid marker that polls. -/
theorem Dev.startMarker_of_poll (running : d.running = true) (leaf : d.isRoot = false) (seen : d.time.markerSeen = true)
    (clean : m.codeErr = false) (crc : leAt m.bytes 28 4 = crc32c (bytesAt m.bytes 1 27)) (polls : nbit 0 (byteAt m.bytes 3) = true)
    (ringA : nbit 0 (byteAt m.bytes 1) = false) (ready : d.ring.ready = true) (outside : d.rb A.FAB_STATUS 11 = false)
    (free : d.ring.insertAt = none) : d.startMarker m = (d.atMarker m).joinPoll := by
  have seen : (d.atMarker m).time.markerSeen = true := seen
  have outside : (d.atMarker m).rb A.FAB_STATUS 11 = false := outside
  have ready : (d.atMarker m).ring.ready = true := ready
  have free : (d.atMarker m).ring.insertAt = none := free
  rw [Dev.startMarker_of_leaf running leaf (by simp [clean, crc] : _ = true)]
  simp only [seen, outside, ready, free, polls, ringA, Option.isNone_none, Bool.not_true, Bool.not_false, Bool.and_false, Bool.and_true,
    Bool.false_eq_true, if_false, if_true]
end

/-- Settles O31: each event and command is its own definition at the branch its conditions name; a start marker is the one with several
steps (`Dev.startMarker_of_leaf`). How a turned marker is marked and the roles in the ring are the model's choices
(notes/assumptions/170.md, 115.md). -/
theorem fabricTime : Obligations.FabricTime := by
  refine ⟨?_, ?_, ?_, ?_, ?_, ?_, ?_, ?_, ?_, ?_, ?_, ?_, ?_, ?_, ?_, ?_, ?_, ?_, ?_, ?_, ?_⟩
  · intro m s running leaf first clean crc
    exact exec_eq_next_of_effect rfl (Dev.startMarker_of_first running leaf first clean crc)
  · intro m s running leaf unused inside
    exact exec_eq_next_of_effect rfl (Dev.startMarker_of_unused running leaf unused inside)
  · intro m s running leaf seen clean crc polls ringA ready outside free
    exact exec_eq_next_of_effect rfl (Dev.startMarker_of_poll running leaf seen clean crc polls ringA ready outside free)
  · intro m s running root
    exact exec_eq_next_of_effect rfl ((if_neg (by simp [running])).trans (if_pos root))
  · intro s running leaf missing
    exact exec_eq_next_of_effect rfl (if_neg (by simp [running, leaf, missing]))
  · intro s state limit
    exact exec_eq_next_of_effect rfl (if_pos ⟨state, limit⟩)
  · intro e s waits state markers
    refine exec_eq_next_of_effect rfl ?_
    simp only [Dev.reacquire, waits]
    exact (if_neg (by omega)).trans (if_neg (by omega))
  · intro e s waits lost within markers
    refine exec_eq_next_of_effect rfl ?_
    simp only [Dev.reacquire, waits]
    exact (if_neg (by omega)).trans (if_pos ⟨lost, within⟩)
  · intro t e s announced
    refine exec_eq_next_of_effect rfl ?_
    simp only [Dev.fabricStep, announced]
  · intro e s unannounced waits state stands
    refine exec_eq_next_of_effect rfl ?_
    simp only [Dev.fabricStep, unannounced, waits]
    exact if_pos (by simp [state, stands])
  · intro p rank s slave better
    exact exec_eq_next_of_effect rfl (if_pos ⟨slave, by simpa using better⟩)
  · intro p origin stamp s slave
    exact exec_eq_next_of_effect rfl (if_neg (not_not_intro slave))
  · intro p origin s slave
    exact exec_eq_next_of_effect rfl (if_neg (not_not_intro slave))
  · intro p stamp s slave
    exact exec_eq_next_of_effect rfl (if_neg (not_not_intro slave))
  · intro p t1 t2 t3 t4 s slave first second third
    refine exec_eq_next_of_effect rfl ?_
    simp only [Dev.ptpMessage, first, second, third]
    exact if_neg (not_not_intro slave)
  · intro p stamp who s master
    exact exec_eq_next_of_effect rfl (if_neg (not_not_intro master))
  · intro p s slave
    exact exec_eq_next_of_effect rfl (if_neg (not_not_intro slave))
  · intro p target sender s own address
    exact exec_eq_next_of_effect rfl (if_pos ⟨own, address⟩)
  · intro h s passed noAxis
    exact exec_eq_next_of_passed rfl passed (if_neg (not_not_intro noAxis))
  · intro h src s passed noAxis range root configured
    refine exec_eq_next_of_passed rfl passed ((if_neg (by simp [noAxis, range, root])).trans (if_neg ?_))
    rcases configured with none_ | slave
    · simp [none_]
    · simp [slave]
  · intro h b s passed noAxis port role domain flags root address
    refine exec_eq_next_of_passed rfl passed ((if_neg (by simp [noAxis]; omega)).trans (if_neg ?_))
    rintro (⟨slave, leaf⟩ | ⟨on, transport, ip⟩)
    · simp [root slave] at leaf
    · rcases address with off | raw | known
      · exact on off
      · simp [raw] at transport
      · exact known ip

end Sys2Proof.Machine
end

section
/-!
PROOFS. The statements of 15_field_io_can.md: acceptance filters (R446), the CAN controllers (R442 to R449) and the UARTs (R450 to R454).
-/

namespace Sys2Proof.Machine

/- As above: one declaration after the other, for the joined text's memory. -/
set_option Elab.async false

/-! ### Acceptance filters (R446) -/

section
variable {d : Dev} {k id i j : Nat} {ide : Bool}

/-- Filter `i` of controller `k` is enabled. -/
abbrev Dev.fltOn (d : Dev) (k i : Nat) : Bool := d.rb (A.CAN_FLT_ID k i) 31

/-- Filter `i` of controller `k` matches a frame. -/
abbrev Dev.fltMatches (d : Dev) (k id : Nat) (ide : Bool) (i : Nat) : Prop :=
  (id ^^^ field 28 0 (d.rd (A.CAN_FLT_ID k i))) &&& field 28 0 (d.rd (A.CAN_FLT_MASK k i)) = 0 ∧
    (bit 29 (d.rd (A.CAN_FLT_MASK k i)) = true → ide = bit 29 (d.rd (A.CAN_FLT_ID k i)))

theorem Dev.canFilter_of_none_on (off : ∀ i, i < 16 → d.fltOn k i = false) : d.canFilter k id ide = some 0xFF := by
  have none : (List.range 16).filter (fun i => d.rb (A.CAN_FLT_ID k i) 31) = [] :=
    List.filter_eq_nil_iff.2 fun i hi => by simp [off i (List.mem_range.1 hi)]
  simp [Dev.canFilter, none]

/-- With a filter enabled the first of the 16 is searched that is enabled and matches. -/
theorem Dev.canFilter_of_on (hj : j < 16) (on : d.fltOn k j = true) :
    d.canFilter k id ide = (List.range 16).find? (fun i => decide (d.fltOn k i = true ∧ d.fltMatches k id ide i)) := by
  have notNone : ¬ ((List.range 16).filter (fun i => d.rb (A.CAN_FLT_ID k i) 31)).isEmpty = true := by
    rw [List.isEmpty_iff]
    exact List.ne_nil_of_mem (List.mem_filter.2 ⟨List.mem_range.2 hj, on⟩)
  refine (if_neg notNone).trans (List.find?_filter.trans ?_)
  simp only [Bool.and_eq_true, Bool.or_eq_true, beq_iff_eq, Bool.not_eq_true', Dev.fltMatches, imp_iff_not_or, Bool.not_eq_true]

theorem Dev.canFilter_eq_some_iff (hj : j < 16) (on : d.fltOn k j = true) : d.canFilter k id ide = some i ↔
    i < 16 ∧ d.fltOn k i = true ∧ d.fltMatches k id ide i ∧ ∀ l < i, d.fltOn k l = true → ¬ d.fltMatches k id ide l := by
  rw [Dev.canFilter_of_on hj on, List.find?_range_eq_some]
  simp only [decide_eq_true_eq, List.mem_range, Bool.not_eq_true', decide_eq_false_iff_not, not_and]
  tauto

theorem Dev.canFilter_eq_none (hj : j < 16) (on : d.fltOn k j = true)
    (noMatch : ∀ l < 16, d.fltOn k l = true → ¬ d.fltMatches k id ide l) : d.canFilter k id ide = none := by
  rw [Dev.canFilter_of_on hj on, List.find?_range_eq_none]
  intro l hl
  simpa only [Bool.not_eq_true', decide_eq_false_iff_not, not_and] using noMatch l hl

theorem Dev.canStore_of_no_filter {f : CanFrame} (noFilter : d.canFilter k f.id f.ide = none) : d.canStore k f = d := by
  rw [Dev.canStore, noFilter]
end

theorem exec_canRx_of_receiving {k : Nat} {f : CanFrame} {s : State} {e : Dev} (runs : s.dev.canRuns k = true)
    (onBus : s.dev.fld (A.CAN_STATUS k) 1 0 < 2) (receives : s.dev.fld (A.CAN_CTRL k) 2 1 ≠ 2) (classic : nbit 0 f.flags = false)
    (stored : ((s.dev.seenAt f.sof).canRxGood k).canStore k f = e) : exec (.canRx k f) s = .next { s with dev := e.settle } :=
  exec_eq_next_of_effect rfl ((if_neg (by simp [runs, onBus, receives, classic])).trans stored)

/-- Settles O50: with a filter enabled, acceptance is the search for the first of the 16 that is enabled and matches. -/
theorem lowestMatchingFilter : Obligations.LowestMatchingFilter :=
  ⟨fun _ _ _ _ => Dev.canFilter_of_none_on, fun _ _ _ _ _ _ => Dev.canFilter_eq_some_iff, fun _ _ _ _ _ => Dev.canFilter_eq_none,
    fun _ _ _ runs onBus receives classic noFilter =>
      exec_canRx_of_receiving runs onBus receives classic (Dev.canStore_of_no_filter noFilter)⟩

/-! ### The CAN controllers (R442 to R449, R472) -/

theorem Dev.can_modCan_self (d : Dev) (k : Nat) (f : CanSt → CanSt) : (d.modCan k f).can k = f (d.can k) :=
  (Dev.can_modCan d k k f).trans (if_pos rfl)

/-- What a reference that is due does, time having come to it (R447). -/
theorem Dev.canReference_of_due {d : Dev} {k : Nat} (master : d.rb (A.CAN_TM_CFG k) 10 = true) (runs : d.canRuns k = true)
    (due : (d.can k).refNext ≤ (d.seenAt (d.can k).refNext).now) :
    d.canReference k =
      (let t := (d.can k).refNext
      let e := (d.seenAt t).modCan k (fun x => { x with refNext := t + 1000000 * (d.seenAt t).fld (A.CAN_TM_CFG k) 9 0 })
      if ((d.seenAt t).can k).refPending || ((d.seenAt t).can k).bus == some .reference then
        (e.modCan k (fun x => { x with skips := sat 0xFFFF (x.skips + 1), fresh := true })).raise (Ev.canRefSkip k)
      else Dev.canStart 65 (e.modCan k (fun x => { x with refPending := true })) k) := by
  refine (if_neg (by simp [master, runs])).trans ((if_neg (Nat.not_lt.mpr due)).trans ?_)
  simp only [Dev.can_modCan_self]

/-- Bus off with no abort waiting (R445). -/
theorem exec_canBusOff_of_no_abort {k : Nat} {s : State} (runs : s.dev.canRuns k = true) (errors : 255 < s.dev.fld (A.CAN_STATUS k) 24 16)
    (onBus : s.dev.fld (A.CAN_STATUS k) 1 0 < 2) (noAbort : (s.dev.can k).abortTo = none) :
    exec (.canBusOff k) s = .next { s with dev := (((s.dev.modCan k (fun x =>
      { x with bus := none, refPending := x.refPending || x.bus == some .reference, recessive := 0 })).incSat (A.CAN_COUNT k) 31
        16).canState k 2).settle } := by
  refine exec_eq_next_of_effect rfl ((if_pos (by simp [runs, errors, onBus])).trans ?_)
  simp only [Dev.can_modCan_self, noAbort]

/-- Settles O34: each event and command is its own definition at the branch its conditions name. The steps of the error counters,
of ISO 11898-1, and entries, times and delays are the model's choices (notes/assumptions/30.md, 117.md). -/
theorem canControllers : Obligations.CanControllers := by
  refine ⟨?_, ?_, ?_, ?_, ?_, ?_, ?_, ?_, ?_, ?_, ?_, ?_, ?_⟩
  · intro k f s runs onBus receives classic
    exact exec_canRx_of_receiving runs onBus receives classic rfl
  · intro k sof s runs entry
    refine exec_eq_next_of_effect rfl ((if_pos runs).trans ?_)
    simp only [Dev.canTxDone, entry]
  · intro k sof s runs entry noAbort
    refine exec_eq_next_of_effect rfl ((if_pos runs).trans ?_)
    simp only [Dev.canTxDone, entry, noAbort, Option.isSome_none, Bool.false_eq_true, if_false]
  · intro k sof s runs reference
    refine exec_eq_next_of_effect rfl ((if_pos runs).trans ?_)
    simp only [Dev.canTxDone, reference]
  · intro k lec tx s runs onBus least most
    exact exec_eq_next_of_effect rfl (if_neg (by simp [runs, onBus]; omega))
  · intro k s runs errors onBus noAbort
    exact exec_canBusOff_of_no_abort runs errors onBus noAbort
  · intro k n s runs off some_ early
    exact exec_eq_next_of_effect rfl ((if_neg (by simp [runs]; omega)).trans (if_pos early))
  · intro k n s runs off some_ over_
    exact exec_eq_next_of_effect rfl ((if_neg (by simp [runs]; omega)).trans (if_neg (Nat.not_lt.mpr over_)))
  · intro k s master runs due unsent free
    exact exec_eq_next_of_effect rfl ((Dev.canReference_of_due master runs due).trans (if_neg (by simp [unsent, free])))
  · intro k s master runs due unsent
    exact exec_eq_next_of_effect rfl ((Dev.canReference_of_due master runs due).trans (if_pos (by simp [unsent])))
  · intro h b s passed noAxis controller flags least most id on fd
    exact exec_eq_next_of_passed rfl passed ((if_neg (by simp [noAxis]; omega)).trans (if_neg (by rw [on, fd]; decide)))
  · intro h k s passed noAxis controller
    exact exec_eq_next_of_passed rfl passed (if_neg (by simp [noAxis, controller]))
  · intro k x rest s delayed
    refine exec_eq_next_of_effect rfl ?_
    simp only [delayed]

/-! ### The UARTs (R450 to R454) -/

section
variable {d : Dev} {n : Nat} {b c : Byte} {rest : List Byte}

theorem Dev.uart_modUart_self (d : Dev) (n : Nat) (f : UartSt → UartSt) : (d.modUart n f).uart n = f (d.uart n) :=
  (Dev.uart_modUart d n n f).trans (if_pos rfl)

/-- A free transmitter with nothing queued. -/
theorem Dev.uartLoad_of_empty (empty : (d.uart n).tx = []) : d.uartLoad n = d := by
  simp only [Dev.uartLoad, empty, ite_self]

/-- A free transmitter takes the next byte. -/
theorem Dev.uartLoad_of_cons (free : (d.uart n).shift = none) (runs : d.uartRuns n = true) (queued : (d.uart n).tx = c :: rest) :
    d.uartLoad n = d.modUart n (fun u => { u with
      shift := some c, tx := rest, de := bit 5 (d.rd (A.UART_CFG n))
      endAt := max u.endAt (8 * d.time.cnt) + ((if bit 5 (d.rd (A.UART_CFG n)) && !d.deOn n then field 11 8 (d.rd (A.UART_CFG n)) else 0) +
        (uartFrame (d.rd (A.UART_CFG n)) c).length) * d.uartBit n }) := by
  simp only [Dev.uartLoad, queued]
  exact if_neg (by simp [free, runs])

/-- UART `n` when the byte it sends has gone, before it takes the next. -/
def Dev.uartGone (d : Dev) (n : Nat) (b : Byte) : Dev :=
  ((d.advanceTo (((d.uart n).endAt + 7) / 8)).modUart n (fun u =>
    { u with shift := none, deEnd := u.endAt + field 15 12 (d.rd (A.UART_CFG n)) * d.uartBit n })).emit
      (.uart n (uartFrame (d.rd (A.UART_CFG n)) b))

/-- Its transmitter is free, its queue as before. -/
theorem Dev.uart_uartGone (d : Dev) (n : Nat) (b : Byte) : (d.uartGone n b).uart n =
    { d.uart n with shift := none, deEnd := (d.uart n).endAt + field 15 12 (d.rd (A.UART_CFG n)) * d.uartBit n } :=
  Dev.uart_modUart_self (d.advanceTo (((d.uart n).endAt + 7) / 8)) n (fun u =>
    { u with shift := none, deEnd := u.endAt + field 15 12 (d.rd (A.UART_CFG n)) * d.uartBit n })

theorem Dev.uartSent_of_last (sending : (d.uart n).shift = some b) (empty : (d.uart n).tx = []) :
    d.uartSent n = (d.uartGone n b).raise (Ev.uartTxIdle n) n := by
  have load : (d.uartGone n b).uartLoad n = d.uartGone n b := Dev.uartLoad_of_empty (by rw [Dev.uart_uartGone]; exact empty)
  have idle : ((d.uartGone n b).uart n).shift.isSome = false := by rw [Dev.uart_uartGone]; rfl
  simp only [Dev.uartSent, sending]
  change (if (((d.uartGone n b).uartLoad n).uart n).shift.isSome then (d.uartGone n b).uartLoad n
    else ((d.uartGone n b).uartLoad n).raise (Ev.uartTxIdle n) n) = _
  rw [load, idle]
  rfl

theorem Dev.uartSent_of_next (runs : d.uartRuns n = true) (sending : (d.uart n).shift = some b) (queued : (d.uart n).tx = c :: rest) :
    d.uartSent n = (d.uartGone n b).modUart n (fun u => { u with
      shift := some c, tx := rest, de := bit 5 ((d.uartGone n b).rd (A.UART_CFG n))
      endAt := max u.endAt (8 * (d.uartGone n b).time.cnt) +
        ((if bit 5 ((d.uartGone n b).rd (A.UART_CFG n)) && !(d.uartGone n b).deOn n then field 11 8 ((d.uartGone n b).rd (A.UART_CFG n)) else 0) +
          (uartFrame ((d.uartGone n b).rd (A.UART_CFG n)) c).length) * (d.uartGone n b).uartBit n }) := by
  have load := Dev.uartLoad_of_cons (d := d.uartGone n b) (c := c) (rest := rest) (by rw [Dev.uart_uartGone]) runs
    (by rw [Dev.uart_uartGone]; exact queued)
  have busy : (((d.uartGone n b).uartLoad n).uart n).shift.isSome = true := by rw [load, Dev.uart_modUart_self]; rfl
  simp only [Dev.uartSent, sending]
  exact (if_pos busy).trans load
end

/-- Settles O35: a received frame is `Dev.uartRx` of a UART that runs; a sent byte leaves `Dev.uartGone`, from which the transmitter takes
the next byte or falls idle. -/
theorem uartBytes : Obligations.UartBytes := by
  refine ⟨?_, ?_, ?_, ?_, ?_⟩
  · intro n bits parity stop s range runs heard noFinial
    exact exec_eq_next_of_effect rfl ((if_neg noFinial).trans ((if_pos (by simp [range, runs])).trans (if_neg (Bool.not_eq_true _ ▸ heard))))
  · intro n bits parity stop s mutes sends noFinial
    have muted : s.dev.uartRx n bits parity stop = s.dev := if_pos (Bool.and_eq_true_iff.mpr ⟨mutes, sends⟩)
    refine exec_eq_next_of_effect rfl ((if_neg noFinial).trans ?_)
    rw [muted, ite_self]
  · intro bits parity stop s finial
    exact exec_eq_next_of_effect rfl (if_pos ⟨rfl, finial⟩)
  · intro n b s runs sending empty
    exact exec_eq_next_of_effect rfl ((if_pos runs).trans (Dev.uartSent_of_last sending empty))
  · intro n b c rest s runs sending queued
    exact exec_eq_next_of_effect rfl ((if_pos runs).trans (Dev.uartSent_of_next runs sending queued))

end Sys2Proof.Machine
end

section
/-!
PROOFS. The statements of 16_update_test_debug.md: update sessions (R456 to R464), boundary scan and the debug port (R468 to R477).
-/

namespace Sys2Proof.Machine

/- As above: one declaration after the other, for the joined text's memory. -/
set_option Elab.async false

/-! ### Update sessions (R456 to R464, R467) -/

section
variable {d : Dev} {h : Hdr} {x : UpdSess}

/-- A refusal for any reason but the rollback's is its reason alone. -/
theorem Dev.refuse_of_ne {reason : Nat} (sv : Nat) (other : reason ≠ 0x0B) :
    d.refuse reason sv = d.modUpd (fun u => { u with reason }) :=
  if_neg (fun both => other both.1)

/-- The modes in which UPD_BEGIN is taken. -/
theorem updMode_of_mem {m : Mode} (mode : m ∈ [Mode.configure, .ready, .run, .safeHold, .recovery, .prodTest]) :
    (m == .configure || m == .ready || m == .run || m == .safeHold || m == .recovery || m == .prodTest) = true := by
  simpa [or_assoc] using mode

/-- UPD_BEGIN in a mode of its own, with neither session nor trial: what is left is the length. -/
theorem Dev.updBegin_of_free {length : Nat} (noAxis : h.mask = 0) (noSession : d.upd.session = none) (noTrial : d.upd.trial = false)
    (mode : d.sys.mode ∈ [Mode.configure, .ready, .run, .safeHold, .recovery, .prodTest]) :
    d.updBegin h length =
      if length < 8192 ∨ 8388608 < length ∨ length % 4096 ≠ 0 then
        (d.refuse 4 0).doneAt h Code.imageRejected [(16, 1, 1 - d.bootRec.active), (18, 2, length / 4096)]
      else ((if d.bootRec.pending = some (1 - d.bootRec.active) then d.putBoot (fun r => { r with pending := none }) else d).setSlot
          (1 - d.bootRec.active) {}).modUpd (fun u => { u with
            session := some { slot := 1 - d.bootRec.active, length, blocks := length / 4096, phase := 1, cmd := some h } }) :=
  (if_neg (not_not_intro noAxis)).trans (if_neg (by rw [noSession, noTrial, updMode_of_mem mode]; decide))

/-- UPD_BLOCK of a session that loads, with a block that was read and that a check refuses. -/
theorem Dev.updBlock_of_refused {index crc r : Nat} {b : List Byte} (noAxis : h.mask = 0) (session : d.upd.session = some x)
    (loading : x.phase = 2) (refused : d.blockReason x index crc (bytesAt b 0 4096) = some r) :
    d.updBlock h index crc (some b) = (d.refuse r (leAt (bytesAt b 0 4096) 36 2)).doneAt h (refusedCode r)
      [(16, 2, d.updReceived x), (18, 1, r)] := by
  simp only [Dev.updBlock, noAxis, session, loading, refused, ne_eq, not_true_eq_false, if_false]

/-- UPD_BLOCK with a block that no check refuses: one that is not there yet waits for programming. -/
theorem Dev.updBlock_of_accepted {index crc : Nat} {b : List Byte} (noAxis : h.mask = 0) (session : d.upd.session = some x)
    (loading : x.phase = 2) (accepted : d.blockReason x index crc (bytesAt b 0 4096) = none) :
    d.updBlock h index crc (some b) =
      if x.prog.any (fun p => p.index == index) || AList.has (d.slotOf x.slot).blocks index then
        d.doneAt h Code.done [(16, 2, d.updReceived x)]
      else d.modUpd (fun u => { u with session := some { x with prog := x.prog ++ [{ index, bytes := bytesAt b 0 4096, cmd := h }] } }) := by
  simp only [Dev.updBlock, noAxis, session, loading, accepted, ne_eq, not_true_eq_false, if_false]

/-- UPD_ACTIVATE of a session that loads: whether every block is there decides. -/
theorem Dev.updActivate_of_loading (noAxis : h.mask = 0) (session : d.upd.session = some x) (loading : x.phase = 2) :
    d.updActivate h = if d.updReceived x ≠ x.blocks then (d.refuse 7 0).doneAt h Code.imageRejected (d.actRes x.slot 7)
      else d.modUpd (fun u => { u with session := some { x with phase := 3, cmd := some h } }) := by
  simp only [Dev.updActivate, noAxis, session, loading, ne_eq, not_true_eq_false, if_false]

/-- The session has no part in a slot's checks. -/
theorem Dev.slotReason_modUpd_session (s : Nat) (length : Option Nat) :
    (d.modUpd (fun u => { u with session := none })).slotReason s length = d.slotReason s length := rfl
end

/-- Settles O36: each command and each end of a flash operation is its own definition at the branch its conditions name. The order
of the checks and what a failure leaves are the model's choices (notes/assumptions/119.md). -/
theorem updateSessions : Obligations.UpdateSessions := by
  refine ⟨?_, ?_, ?_, ?_, ?_, ?_, ?_, ?_, ?_, ?_, ?_, ?_, ?_, ?_, ?_, ?_, ?_⟩
  · intro h length s passed noAxis noSession noTrial mode least most aligned
    exact exec_eq_next_of_passed rfl passed ((Dev.updBegin_of_free noAxis noSession noTrial mode).trans (if_neg (by omega)))
  · intro h length s passed noAxis noSession noTrial mode bad
    refine exec_eq_next_of_passed rfl passed ((Dev.updBegin_of_free noAxis noSession noTrial (by simp [mode])).trans ((if_pos bad).trans ?_))
    rw [Dev.refuse_of_ne 0 (by decide)]
  · intro x s session erasing runs
    refine exec_eq_next_of_effect rfl ?_
    simp only [session]
    exact if_pos (by simp [erasing, runs])
  · intro h index crc b x s passed noAxis session loading accepted missing
    exact exec_eq_next_of_passed rfl passed ((Dev.updBlock_of_accepted noAxis session loading accepted).trans
      (if_neg (by rw [missing]; decide)))
  · intro h index crc r b x s passed noAxis session loading refused
    exact exec_eq_next_of_passed rfl passed (Dev.updBlock_of_refused noAxis session loading refused)
  · intro h index crc b s passed noAxis noSession
    refine exec_eq_next_of_passed rfl passed ((if_neg (not_not_intro noAxis)).trans ?_)
    simp only [noSession]
  · intro index x p s runs session waits
    refine exec_eq_next_of_effect rfl ((if_pos runs).trans ?_)
    simp only [Dev.blockWritten, session, waits]
  · intro h x s passed noAxis session loading whole
    exact exec_eq_next_of_passed rfl passed ((Dev.updActivate_of_loading noAxis session loading).trans (if_neg (not_not_intro whole)))
  · intro h x s passed noAxis session loading missing
    refine exec_eq_next_of_passed rfl passed ((Dev.updActivate_of_loading noAxis session loading).trans ((if_pos missing).trans ?_))
    rw [Dev.refuse_of_ne 0 (by decide)]
  · intro x s runs session verifying good
    refine exec_eq_next_of_effect rfl ((if_pos runs).trans ?_)
    simp only [Dev.updVerified, session, verifying, Dev.slotReason_modUpd_session, good, ne_eq, not_true_eq_false, if_false]
  · intro x r s runs session verifying refused
    refine exec_eq_next_of_effect rfl ((if_pos runs).trans ?_)
    simp only [Dev.updVerified, session, verifying, Dev.slotReason_modUpd_session, refused, ne_eq, not_true_eq_false, if_false]
  · intro h s passed noAxis trial idle
    exact exec_eq_next_of_passed rfl passed ((if_neg (not_not_intro noAxis)).trans (if_neg (by rw [trial, idle]; decide)))
  · intro h s runs commits
    refine exec_eq_next_of_effect rfl ((if_pos runs).trans ?_)
    simp only [Dev.updCommitted, commits]
  · intro h p s passed noAxis pending
    refine exec_eq_next_of_passed rfl passed ((if_neg (not_not_intro noAxis)).trans ?_)
    simp only [pending]
  · intro h s passed noAxis
    exact exec_eq_next_of_passed rfl passed (if_neg (not_not_intro noAxis))
  · intro index x s runs session erasing
    refine exec_eq_next_of_effect rfl ((if_pos runs).trans ?_)
    simp only [Dev.flashFail, session, erasing, ne_eq, not_true_eq_false, if_false, if_true]
  · intro index x p s runs session waits
    refine exec_eq_next_of_effect rfl ((if_pos runs).trans ?_)
    simp only [Dev.flashFail, session, waits, Bool.false_eq_true, if_false]

/-! ### Boundary scan and the debug port (R468 to R470, R475 to R477) -/

/-- Settles O53: the table's opcodes are those of scan control with SAMPLE/PRELOAD and IDCODE. -/
theorem tapOpcodes : Obligations.TapOpcodes := by
  intro d drum op _
  have listed : ((scanControl op || op == 0x01 || op == 0x02) = true) = (op ∈ [0x00, 0x01, 0x02, 0x03, 0x04, 0x05, 0x06]) := by
    simp [scanControl]; omega
  have auth : (op = 0x11 ∧ (!drum) = true) = (op = 0x11 ∧ drum = false) := by simp
  have open_ : ((op = 0x10 && !drum && (d.upd.dbg == 0 || (d.upd.dbg == 1 && d.upd.tokenOk))) = true) =
      (op = 0x10 ∧ drum = false ∧ (d.upd.dbg = 0 ∨ (d.upd.dbg = 1 ∧ d.upd.tokenOk = true))) := by simp [and_assoc]
  simp only [Dev.tapActs, listed, auth, open_]

/-- The device with the instruction a TAP loads. -/
def Dev.tapHolds (d : Dev) (drum : Bool) (op : Nat) : Dev :=
  d.modUpd (fun u => if drum then { u with tapDrum := d.tapActs drum (op % 256) } else { u with tapLogic := d.tapActs drum (op % 256) })

section
variable {d : Dev} {drum : Bool} {op : Nat}

/-- A load by which scan control neither begins nor ends. -/
theorem Dev.tapLoad_of_same (same : (d.tapHolds drum op).upd.scans = d.upd.scans) : d.tapLoad drum op = d.tapHolds drum op := by
  refine (if_neg ?_).trans (if_neg ?_)
  · change ¬ ((d.tapHolds drum op).upd.scans && !d.upd.scans) = true
    simp [same]
  · change ¬ (d.upd.scans && !(d.tapHolds drum op).upd.scans) = true
    simp [same]

/-- The load by which scan control begins. -/
theorem Dev.tapLoad_of_first (before : d.upd.scans = false) (after : (d.tapHolds drum op).upd.scans = true) :
    d.tapLoad drum op =
      (let x := (d.tapHolds drum op).fresh
      let d := (x.2.deviceReaction (x.1 % 256) false true).modSaf (fun q => { q with scan := true })
      (d.each d.axisList Dev.stoAxis).refreshOuts) := by
  refine if_pos ?_
  change ((d.tapHolds drum op).upd.scans && !d.upd.scans) = true
  simp [before, after]

/-- The load by which scan control ends. -/
theorem Dev.tapLoad_of_last (before : d.upd.scans = true) (after : (d.tapHolds drum op).upd.scans = false) :
    d.tapLoad drum op = (((d.tapHolds drum op).modSaf (fun q => { q with scan := false })).reboot (2 ^ 7)).refreshOuts := by
  refine (if_neg ?_).trans (if_pos ?_)
  · change ¬ ((d.tapHolds drum op).upd.scans && !d.upd.scans) = true
    simp [before]
  · change (d.upd.scans && !(d.tapHolds drum op).upd.scans) = true
    simp [before, after]
end

/-- Settles O37: what a load does is decided by whether a TAP holds a scan-control instruction before it and after it; the debug port's
events are their own definitions. -/
theorem scanAndDebug : Obligations.ScanAndDebug := by
  refine ⟨?_, ?_, ?_, ?_, ?_, ?_⟩
  · intro drum op s same
    exact exec_eq_next_of_effect rfl (Dev.tapLoad_of_same same)
  · intro drum op s before after
    exact exec_eq_next_of_effect rfl (Dev.tapLoad_of_first before after)
  · intro drum op s before after
    exact ⟨exec_eq_next_of_effect rfl (Dev.tapLoad_of_last before after),
      exec_eq_next_of_effect rfl ((if_pos before).trans (Dev.tapLoad_of_last before after))⟩
  · intro token s auth locked
    refine exec_eq_next_of_effect rfl ?_
    simp only [Dev.dbgAuth, auth, locked, decide_true, Bool.true_and]
  · intro cp s range opened running
    exact exec_eq_next_of_effect rfl (if_neg (by rw [opened, running]; simp [range]))
  · intro cp s range opened halted
    exact exec_eq_next_of_effect rfl (if_neg (by rw [opened, halted]; simp [range]))

end Sys2Proof.Machine
end
